-- ==== Sys2Proof/Word.lean ====
section
/-! DEFINITION. The words of the module: 32-bit registers and packet words, bytes, and the names of its units
(spec/00_scope.md R9 to R16, spec/01_architecture.md R22, R31 to R33). -/

namespace Sys2Proof

/-- A register or packet word (R13: every register is 32 bits wide). -/
abbrev Word := BitVec 32

/-- A byte of a memory image or packet (R16). -/
abbrev Byte := BitVec 8

/-- A command or reply status (Table CMD-7). -/
abbrev Status := BitVec 16

/-- A pin mask: bit `i` is linear pin index `i` (R77). -/
abbrev PinMask := BitVec 1024

/-- A region, A to H as 0 to 7 (R9). -/
abbrev Region := Fin 8

/-- A block `r.b` as `8 r + b` (R9, and the block masks of R436 and R462). -/
abbrev Block := Fin 64

/-- A pin by its linear pin index (R10). -/
abbrev Pin := Fin 1024

/-- A pin or spare cell by its cell event source number `136 r + 17 b + c`, the spare being `c = 16` (Table CMD-12). -/
abbrev Cell := Fin 1088

/-- A host queue pair (R325). -/
abbrev QueueNo := Fin 16

end Sys2Proof
end

