-- ==== Sys2Proof/Config.lean ====
section
/-! DEFINITION. What an implementation fixes and what the spec leaves open: the free values, as constants without a
body (log entries 1, 9, 10). Nothing in Lean can evaluate one, so a statement that mentions one holds for every value. -/

namespace Sys2Proof

/-- The order codes of Table SCOPE-1 (R1). -/
inductive OrderCode where
  | a128 | a064 | a000
deriving DecidableEq, Repr

/-- A 32-bit value the spec does not state, by the number of the draw (log entry 1). -/
opaque Config.freeWord : Nat → Word

/-- A byte the spec does not state, by the number of the draw (log entry 1). -/
opaque Config.freeByte : Nat → Byte

/-- A truth value the spec does not state, by the number of the draw (log entry 1). -/
opaque Config.freeBool : Nat → Bool

/-- Steward time a command uses, in units of 10 ns, by opcode and draw (R312 charges it "as it is used"; its amount is
timing that the spec does not state, log entry 9). -/
opaque Config.stewardTime : Nat → Nat → Nat

/-- SHA-384 of a byte string (R491, R496, R498): a function of its input that the model does not compute (log entry 10). -/
opaque Config.sha384 : List Byte → List Byte

/-- Does an ECDSA P-384 signature over a byte string verify under a fused key? Keys 0 to 3 are the image keys and key 4 is
the debug key of Table SEC-1 (R491, R501; log entry 10). -/
opaque Config.verify : Nat → List Byte → List Byte → Bool

/-- The module's own signature with its identity key (R495, R498; log entry 10). -/
opaque Config.sign : List Byte → List Byte

/-- What an image bank holds at reset, by bank (R490; log entry 8). -/
opaque Config.factoryImage : Nat → List Byte

/-- The key index of a Steward image (R491), whose layout the spec does not give (log entry 10). -/
opaque Config.imageKey : List Byte → Nat

/-- The security version of a Steward image (R491; log entry 10). -/
opaque Config.imageVersion : List Byte → Nat

/-- The signature of a Steward image (R491; log entry 10). -/
opaque Config.imageSignature : List Byte → List Byte

/-- The signed bytes of a Steward image (R491; log entry 10). -/
opaque Config.imageBody : List Byte → List Byte

/-- The certificate chain of slot 0 (R487, Table SEC-2; log entry 10). -/
opaque Config.certChain : List Byte

/-- The boot ROM (Table SEC-3; log entry 10). -/
opaque Config.bootRom : List Byte

/-- The bits of IDCODE that the spec does not state (R500; log entry 10). -/
opaque Config.idcodeRest : Word

end Sys2Proof
end

