-- ==== Sys2Proof/Syntax.lean ====
section
/-! DEFINITION. The commands of the block: `Instr`, one constructor per row of spec/opcode_table.json, and the data they
carry. A host command carries a whole command packet (R331); an event carries what arrives from outside the module with it. -/

namespace Sys2Proof

/-- Where a command comes from (R322): a host queue pair, or the chain, with its originating module, session and
incarnation (R339). -/
inductive Source where
  | host (q : QueueNo)
  | chain (module : BitVec 12) (session : BitVec 8) (incarnation : Word)
deriving DecidableEq, Repr

/-- A command packet that has passed check 1 of Table CMD-5, less its opcode (Table CMD-4): its parameters are whole words. -/
structure Cmd where
  src : Source
  tag : BitVec 16
  flags : Byte
  target : Word
  folio : Word
  params : List Word
deriving DecidableEq, Repr

/-- A command packet as it lies in a submission ring, before check 1 (Table CMD-4). -/
structure RawPacket where
  opcode : BitVec 16
  tag : BitVec 16
  target : Word
  folio : Word
  plen : BitVec 16
  flags : Byte
  hchk : Byte
  params : List Word
deriving DecidableEq, Repr

/-- The registers of a host queue pair that no other row writes (R356). -/
inductive QueueReg where
  | sqBaseLo | sqBaseHi | rqBaseLo | rqBaseHi | shadowLo | shadowHi | qdest | sqHead | rqTail | qstatus
deriving DecidableEq, Repr

/-- The instructions of the test access port (R500, R501). -/
inductive TapOp where
  | bypass
  | idcode
  | samplePreload
  | readPower (offset : Nat)
  | readOrder
  | extest (pins commons : List Bool)
  | debug (code : Nat)
  | challenge
  | unlock (signature : List Byte)
deriving DecidableEq, Repr

/-- How ticketed work ends (R347, Table MEM-2): with data the work took in from outside the module, or with a fault status
after a number of bytes or words that stand. -/
inductive WorkEnd where
  | ok (data : List Word)
  | failed (status : Status) (stands : Nat)
deriving DecidableEq, Repr

/-- A Caravan port (R9 of the port letters: E, W, T, S in the order of Table ARCH-7). -/
inductive Port where
  | e | w | t | s
deriving DecidableEq, Repr

/-- What one end of a training step reports (Table FOL-8): signal at DETECT, lanes adapted, frames aligned, the measured
one-way delay in ps, or the partner's IDENTIFY. -/
structure Partner where
  number : BitVec 12
  incarnation : Word
  serial : BitVec 64
  order : OrderCode
  port : Port
  role : BitVec 2
  recordedInc : Word
  certSerial : BitVec 64
  chainOk : Bool
  signatureOk : Bool
  inTime : Bool
deriving DecidableEq, Repr

/-- The success of one step of link training (Table FOL-8, steps 1 to 5). -/
inductive TrainInfo where
  | detect (signal : Bool)
  | equalised
  | aligned
  | delay (picoseconds : Nat)
  | identified (p : Partner)
deriving DecidableEq, Repr

/-- The training step that failed (Table FOL-8, R381). -/
inductive TrainStep where
  | detect | equalise | align | delay | identify | dupNumber | admission
deriving DecidableEq, Repr

/-- Why a port leaves ACTIVE (R382, R385, R386, R387). -/
inductive LeaveCause where
  | crc | silent | abuse | signalLost | retrain | disabled
deriving DecidableEq, Repr

/-- A Caravan frame as received (Table FOL-6): `intact` is the result of its CRC-32C, `classes` the classes of its flits in
slot order, `credits` those returned for TA to TH. -/
structure Frame where
  fseq : BitVec 16
  fack : BitVec 16
  nak : Bool
  train : Bool
  intact : Bool
  classes : List (Fin 8)
  credits : List Nat
deriving DecidableEq, Repr

/-- A Caravan packet (R379): the four envelope words of Table FOL-7, the words that follow them, the flits that came, the
serial of a global packet (R363), whether it is flooded rather than routed to the root, and whether every flit had a
credit. -/
structure Packet where
  w0 : Word
  w1 : Word
  w2 : Word
  w3 : Word
  body : List Word
  flits : Nat
  serial : Word
  flooded : Bool
  credited : Bool
deriving DecidableEq, Repr

/-- A folio prepare (R361, R368): the folio ID, A, the root's HOP, SIZE, DEPTH and TOPO, and the participants. -/
structure Prepare where
  id : Word
  acc : Nat
  hop : Nat
  size : Nat
  depth : Nat
  tree : Bool
  members : List (BitVec 12)
deriving DecidableEq, Repr

/-- What the comparators of a pin of a region held at one of its strobes (R55). -/
structure PinSample where
  pin : Fin 128
  strobe : Fin 2
  ch : Bool
  cl : Bool
deriving DecidableEq, Repr

/-- What a scrub read found (R294, R298). -/
inductive ScrubResult where
  | clean | corrected | uncorrectable
deriving DecidableEq, Repr

/-- A shared resource that arbitrates requesters (Table MEM-3). -/
inductive ArbiterId where
  | levelDac (cell : Cell) | converter (b : Block) (conv : Fin 2) | outBuffer (b : Block)
  | qdr (r : Region) | regionLink (r : Region) | archive | caravan (p : Port) | steward | catalogue
deriving DecidableEq, Repr
/-- A tenancy flit (Table PAIR-2): its origin and SRC_INC from the envelope, the region mask, TICK, the incarnation of each
region, and of a FORM the CRC-32C of PAIR_TEN and the witness it names. -/
structure TenFlit where
  src : BitVec 12
  srcInc : Word
  regions : BitVec 8
  tick : Nat
  incs : List Word
  crc : Word
  witness : BitVec 12
deriving DecidableEq, Repr

/-- What raises a wake-class request (R439, R443, PWR_WAKE_LAST). -/
inductive WakeSource where
  | monitors (b : Block)
  | hostCommand | caravanCommand | powerState | moduleReset
deriving DecidableEq, Repr

/-- What a step of start-up finds: the pages whose Strongroom or backing record fails (R446), and the stacks that failed their
training (R299). -/
structure StartupInputs where
  failedPages : List Word
  failedStacks : List (Fin 4)
deriving DecidableEq, Repr

/-- A calibrated quantity of a block (Table CAL-1). -/
inductive CalQuantity where
  | level (cell : Fin 17) (t : Fin 17)
  | drive (cell : Fin 17)
  | deskew (cell : Fin 17)
  | spareDeskew (position : Fin 16)
  | meas (cell : Fin 17) (range : Fin 6)
  | conv (conv : Fin 2)
  | wtrim (i : Fin 4)
  | atrim
  | mtrim (i : Fin 4)
deriving DecidableEq, Repr

/-- A value that a calibration measured: its register word, and GAIN beside OFFSET where the quantity has both. -/
structure CalValue where
  block : Block
  quantity : CalQuantity
  word : Word
  gain : Word
deriving DecidableEq, Repr
/-- A temperature sensor by the level of the fault that it raises (Table ELEC-12), or a unit whose containment missed its bound
(R511). -/
inductive TempSensor where
  | cell (c : Cell)
  | block (b : Block)
  | region (r : Region)
  | chip
deriving DecidableEq, Repr

/-- The commands and events of the block, one for each row of the opcode table. -/
inductive Instr where
  /-- NOP, R335: command that does nothing and replies DONE. -/
  | nop (c : Cmd)
  /-- MODULE_INFO, R335: command that returns MODULE_ORDER, serial, Steward status, incarnation, module number and Chronicle. -/
  | moduleInfo (c : Cmd)
  /-- SESSION_OPEN, R339: command that opens a host session on its queue and assigns it the next session incarnation, closing any session already bound to the queue. -/
  | sessionOpen (c : Cmd)
  /-- SESSION_CLOSE, R340: command that releases the session's reservations with withdrawal, discards its tickets and unbinds the queue. -/
  | sessionClose (c : Cmd)
  /-- REG_READ, R336: command that reads consecutive registers from TARGET upwards. -/
  | regRead (c : Cmd)
  /-- REG_WRITE, R336: command that writes, immediately or staged, consecutive registers that have no row of their own, after checking every word. -/
  | regWrite (c : Cmd)
  /-- REG_MODIFY, R338: command that atomically read-modify-writes one register under a mask, immediately or staged. -/
  | regModify (c : Cmd)
  /-- RESERVE, R341: command that creates or renews a leased reservation of a cell, block, region or hub page scope. -/
  | reserve (c : Cmd)
  /-- RELEASE, R344: command that releases a reservation, optionally withdrawing the folios bound to it. -/
  | release (c : Cmd)
  /-- RESERVATION_READ, R335: command that lists every reservation with its scope, target, session and expiry. -/
  | reservationRead (c : Cmd)
  /-- RESULT_READ, R349: command that returns a ticket's final status and result, or NOT_READY or REPEAT. -/
  | resultRead (c : Cmd)
  /-- TICKET_RELEASE, R348: command that releases a ticket and discards its result while leaving the work running. -/
  | ticketRelease (c : Cmd)
  /-- EVT_ROUTE_SET, R359: command that writes EVT_ROUTE words for a range of event sources. -/
  | evtRouteSet (c : Cmd)
  /-- EVT_PENDING_READ, R359: command that returns EVT_SUMMARY and all EVT_PENDING words. -/
  | evtPendingRead (c : Cmd)
  /-- EVT_SOURCE_READ, R359: command that returns the event register word of a range of sources. -/
  | evtSourceRead (c : Cmd)
  /-- EVT_CLEAR, R354: command that clears event sources by source number and count. -/
  | evtClear (c : Cmd)
  /-- SQC_CLEAR_WRITE, R353: A direct write of an event register's count that clears FLAG, the CAUSE bits and the companion fields when the count matches. -/
  | sqcClearWrite (c : Cmd)
  /-- PIN_LEVELS_SET, R47: group command that writes or stages one level DAC word on the masked pins. -/
  | pinLevelsSet (c : Cmd)
  /-- PIN_SWITCH_SET, R77: group command that stages a PIN_SWITCH word on the masked pins. -/
  | pinSwitchSet (c : Cmd)
  /-- PIN_CONTACT_CHECK, R64: group command that starts an open-wire contact check of the masked pins. -/
  | pinContactCheck (c : Cmd)
  /-- CONTACT_CHECK_ACCESSION, R545: at T0 the check settings are applied to all masked pins at one internal accession. -/
  | contactCheckAccession (ticket : Word)
  /-- CONTACT_CHECK_SAMPLE, R64: after the thresholds settle and SETTLE_US passes, CH and CL of every masked pin are sampled and the saved values restored. -/
  | contactCheckSample (ticket : Word) (ch cl : PinMask)
  /-- PIN_STATUS_READ, R77: group command that returns CELL_STATUS of each masked pin. -/
  | pinStatusRead (c : Cmd)
  /-- SPARE_SUBSTITUTE, R71: command that requests a hand-off of a pin to the block's spare, or a fault substitution for a pin parked without a spare. -/
  | spareSubstitute (c : Cmd)
  /-- SPARE_RETURN, R75: command that self-tests the owner cell and requests the hand-back of its pin from the spare. -/
  | spareReturn (c : Cmd)
  /-- WM_CONFIG_SET, R259: group command that stages WM_CTRL and WM_CAPT_CTRL on the masked pins. -/
  | wmConfigSet (c : Cmd)
  /-- WM_WAKE_SET, R259: group command that writes WM_WAKE on the masked pins. -/
  | wmWakeSet (c : Cmd)
  /-- WM_CAPTURE_READ, R259: command that returns CAPT_WPOS, WM_STATUS and the 8 capture entries of a monitor. -/
  | wmCaptureRead (c : Cmd)
  /-- WM_CHECK, R254: group command that starts a four-phase check of the comparators of the masked pins. -/
  | wmCheck (c : Cmd)
  /-- WM_CHECK_PHASE, R254: one phase of a comparator check applies its inputs and samples CH and CL 1 µs later. -/
  | wmCheckPhase (ticket : Word) (phase : Fin 4) (ch cl : PinMask)
  /-- CWM_SET, R259: command that stages the control, capture and threshold words of a commons monitor. -/
  | cwmSet (c : Cmd)
  /-- CHRONICLE_READ, R111: command that returns the Chronicle value and CHR_STATUS. -/
  | chronicleRead (c : Cmd)
  /-- CHRONICLE_SET, R105: command that sets the Chronicle on a SOLO or MASTER module. -/
  | chronicleSet (c : Cmd)
  /-- CHRONICLE_ROLE_SET, R99: command that writes CHR_CTRL, setting the role, upstream port and forward ports. -/
  | chronicleRoleSet (c : Cmd)
  /-- TIMING_SET_WRITE, R89: group command that stages the six edge words of a timing set on the masked pins. -/
  | timingSetWrite (c : Cmd)
  /-- BEAT_PERIOD_SET, R85: command that stages the period of a region timing set. -/
  | beatPeriodSet (c : Cmd)
  /-- SLEEP_ACCOUNT_READ, R111: command that returns SLEEP_TICKS, SLEEP_UNCERT, CHR_CORRECTION and TREF_RATIO_CHANGE. -/
  | sleepAccountRead (c : Cmd)
  /-- ITIN_LOAD, R150: command that copies and checks itinerary code into the QDR SRAM of the masked regions. -/
  | itinLoad (c : Cmd)
  /-- ITIN_RUN_SET, R150: command that stages an ITIN_RUN word (START, RESUME or STOP). -/
  | itinRunSet (c : Cmd)
  /-- ITIN_STOP_NOW, R142: command that stops every running masked engine at the first beat beginning more than 1 µs later. -/
  | itinStopNow (c : Cmd)
  /-- ITIN_STATUS_READ, R150: command that returns the status, PC, beat count and FIFO of the masked engines. -/
  | itinStatusRead (c : Cmd)
  /-- WAYPOINT_READ, R150: command that returns a 256-byte waypoint record from a staging slot. -/
  | waypointRead (c : Cmd)
  /-- VSTREAM_SET, R150: command that stages VS_BASE and VS_LEN of the masked regions. -/
  | vstreamSet (c : Cmd)
  /-- ITIN_GEN_WRITE, R136: command that stages generator registers of the masked engines. -/
  | itinGenWrite (c : Cmd)
  /-- FAIL_CTRL_SET, R178: command that stages FP_CTRL in the masked regions. -/
  | failCtrlSet (c : Cmd)
  /-- CATCH_WINDOW_SET, R163: command that stages the words of a catch window. -/
  | catchWindowSet (c : Cmd)
  /-- CATCH_CLEAR, R164: command that zeroes the named catch windows and clears their CATCH_INCOMPLETE bits. -/
  | catchClear (c : Cmd)
  /-- CATCH_DUMP, R164: command that copies a catch window to the archive under tariff TB. -/
  | catchDump (c : Cmd)
  /-- LEDGER_SET, R161: command that sets LEDGER_BASE and LEDGER_LEN and zeroes both Ledger positions. -/
  | ledgerSet (c : Cmd)
  /-- LEDGER_ADVANCE, R161: command, or a write of LEDGER_RD, that moves the host's Ledger read position forward. -/
  | ledgerAdvance (c : Cmd)
  /-- CAT_CLEAR, R170: command that purges the named sites' Catalogue entries and returns their repair regions to CLEAN. -/
  | catClear (c : Cmd)
  /-- REPAIR_REGION_WRITE, R172: command that writes repair region descriptors. -/
  | repairRegionWrite (c : Cmd)
  /-- REPAIR_SOLVE, R175: command that starts a repair solve for the named sites. -/
  | repairSolve (c : Cmd)
  /-- REPAIR_RESULT_READ, R177: command that returns repair result records. -/
  | repairResultRead (c : Cmd)
  /-- FAIL_SITE_SUMMARY, R178: command that returns a summary word per masked site. -/
  | failSiteSummary (c : Cmd)
  /-- CAT_READ, R178: command that returns Catalogue entries. -/
  | catRead (c : Cmd)
  /-- MEAS_CONFIG_SET, R206: group command that stages PPMU_CTRL, MEAS_FILTER and the shift words. -/
  | measConfigSet (c : Cmd)
  /-- MEAS_DET_SET, R206: group command that stages MEAS_DET and MEAS_LIMIT. -/
  | measDetSet (c : Cmd)
  /-- MEAS_READ, R199: command that returns sample words of a channel from a given ring position. -/
  | measRead (c : Cmd)
  /-- MEAS_LAST_READ, R206: group command that returns MEAS_LAST of each masked pin. -/
  | measLastRead (c : Cmd)
  /-- MEAS_DET_READ, R207: group command that returns the detector words of at most 170 masked pins. -/
  | measDetRead (c : Cmd)
  /-- MEAS_RING_SET, R198: command that sets the base and depth of a block's measurement rings. -/
  | measRingSet (c : Cmd)
  /-- COMM_ROUTE_SET, R214: command that stages a block's amplifier, filter and commons pin routing. -/
  | commRouteSet (c : Cmd)
  /-- WDAC_SET, R219: command that stages the control, levels, step, slew and seed of a waveform DAC cell. -/
  | wdacSet (c : Cmd)
  /-- MON_SCHEDULE_SET, R227: command that replaces a converter's schedule and restarts it at entry 0. -/
  | monScheduleSet (c : Cmd)
  /-- MON_CONVERT, R226: command that requests one urgent conversion on a monitor converter. -/
  | monConvert (c : Cmd)
  /-- MON_READ, R237: command that returns schedule result words of a converter. -/
  | monRead (c : Cmd)
  /-- DAC_READBACK, R232: command that queues a read-back of one DAC of a cell on each good converter. -/
  | dacReadback (c : Cmd)
  /-- FAB_LOAD, R279: command that starts loading a configuration image into the shadow plane of the masked regions under a folio. -/
  | fabLoad (c : Cmd)
  /-- FAB_UNLOAD, R282: command that stages the removal of the masked regions' configuration. -/
  | fabUnload (c : Cmd)
  /-- FAB_STATUS_READ, R290: command that returns FAB_STATUS and build ID of the masked regions. -/
  | fabStatusRead (c : Cmd)
  /-- ARC_READ, R296: command that reads archive blocks. -/
  | arcRead (c : Cmd)
  /-- ARC_WRITE, R296: command that writes archive blocks. -/
  | arcWrite (c : Cmd)
  /-- ARC_DMA, R317: command that copies between the archive and QDR SRAM or host memory under a ticket. -/
  | arcDma (c : Cmd)
  /-- QDR_READ, R295: command that reads whole words of a region's QDR SRAM. -/
  | qdrRead (c : Cmd)
  /-- QDR_WRITE, R295: command that writes whole words of a region's QDR SRAM. -/
  | qdrWrite (c : Cmd)
  /-- TARIFF_SET, R316: command that writes every budget of a resource instance, effective at the next refill. -/
  | tariffSet (c : Cmd)
  /-- TARIFF_READ, R317: command that returns capacity, budgets and statistics of a resource instance. -/
  | tariffRead (c : Cmd)
  /-- ARB_SET, R307: command that writes an arbiter slot's PRIO and WLIM. -/
  | arbSet (c : Cmd)
  /-- MEM_ERRORS_READ, R317: command that returns QDR, link and archive error registers. -/
  | memErrorsRead (c : Cmd)
  /-- FOLIO_OPEN, R365: command that opens a local or chain folio, flooding an announcement for a chain folio. -/
  | folioOpen (c : Cmd)
  /-- FOLIO_STAGE, R366: command that stages address and word pairs into an open folio. -/
  | folioStage (c : Cmd)
  /-- FOLIO_ACCEDE, R368: command that prepares a folio with its accession tick and participant bitmap. -/
  | folioAccede (c : Cmd)
  /-- FOLIO_WITHDRAW, R374: command that withdraws a folio before its vote. -/
  | folioWithdraw (c : Cmd)
  /-- FOLIO_STATUS_READ, R398: command that returns the state of every folio slot in use. -/
  | folioStatusRead (c : Cmd)
  /-- GLOBAL_BARRIER, R394: command that arrives at a numbered barrier and sends an arrival to the root. -/
  | globalBarrier (c : Cmd)
  /-- GLOBAL_BROADCAST, R395: command that sends an inner command to the root for flooding to the whole domain. -/
  | globalBroadcast (c : Cmd)
  /-- GLOBAL_SNAPSHOT, R396: command at the root that schedules a domain-wide snapshot at tick S. -/
  | globalSnapshot (c : Cmd)
  /-- SNAPSHOT_READ, R396: command that returns a kept snapshot record. -/
  | snapshotRead (c : Cmd)
  /-- GLOBAL_RESET, R397: command at the root that schedules a module reset of the named modules at tick R. -/
  | globalReset (c : Cmd)
  /-- CARAVAN_PORT_SET, R398: command that writes PORT_CTRL of a port. -/
  | caravanPortSet (c : Cmd)
  /-- CARAVAN_PORT_READ, R398: command that returns a port's status, partner, delay and counters. -/
  | caravanPortRead (c : Cmd)
  /-- CARAVAN_ROUTE_SET, R391: command that writes ROUTE words, declaring lost the modules routed to none. -/
  | caravanRouteSet (c : Cmd)
  /-- PORT_RETRAIN, R401: A write of PORT_CTRL.RETRAIN that takes the port out of ACTIVE and trains it. -/
  | portRetrain (c : Cmd)
  /-- UNBAR, R382: A write of PORT_CTRL.UNBAR that ends a bar and starts training at once. -/
  | unbar (c : Cmd)
  /-- PORT_DISABLE, R382: A write of 0 to PORT_CTRL.EN that makes the port DISABLED with no training. -/
  | portDisable (c : Cmd)
  /-- MODULE_NUM_WRITE, R383: A write that changes CARAVAN_ID.MODULE_NUM, after which every ACTIVE port retrains. -/
  | moduleNumWrite (c : Cmd)
  /-- PAIR_FORM, R403: command that sends a FORM flit on T to form a pair with the partner. -/
  | pairForm (c : Cmd)
  /-- PAIR_DISSOLVE, R426: command that ends the pair on both members and frees the witness entries. -/
  | pairDissolve (c : Cmd)
  /-- PAIR_HANDOVER, R414: command at the holder that schedules handover of the named regions' tenancy at tick H. -/
  | pairHandover (c : Cmd)
  /-- PAIR_STATUS_READ, R427: command that returns pair status, roles, phase, incarnations and expiries. -/
  | pairStatusRead (c : Cmd)
  /-- PAIR_RESTORE, R424: command that copies a foreign mirror into the replacement partner over T. -/
  | pairRestore (c : Cmd)
  /-- POWER_STATE, R436: command that requests a power target with held blocks and regions. -/
  | powerState (c : Cmd)
  /-- POWER_STATUS_READ, R458: command that returns power state, held masks, domain states, rail status and Strongroom status. -/
  | powerStatusRead (c : Cmd)
  /-- MODULE_RESET, R457: command that performs a module reset as a wake event. -/
  | moduleReset (c : Cmd)
  /-- POWER_RAIL_MAP_SET, R458: command that writes the seven RAIL_MAP words to the nonvolatile store for the next start-up. -/
  | powerRailMapSet (c : Cmd)
  /-- SELFCAL, R462: command that starts a full calibration of the named blocks. -/
  | selfcal (c : Cmd)
  /-- CAL_STATUS_READ, R482: command that returns calibration status, slot states and per-block stale and default masks. -/
  | calStatusRead (c : Cmd)
  /-- CAL_BG_SET, R482: command that writes CAL_BG_CTRL, governing from each block's next turn. -/
  | calBgSet (c : Cmd)
  /-- CAL_RECORD_READ, R482: command that returns bytes of a calibration slot's record. -/
  | calRecordRead (c : Cmd)
  /-- CAL_STORE, R475: command that writes the calibrated values in effect to the lowest free slot. -/
  | calStore (c : Cmd)
  /-- CAL_REVERT, R481: command that loads a committed slot's valid quantities into the registers. -/
  | calRevert (c : Cmd)
  /-- SEC_IMAGE_WRITE, R492: command that writes a chunk of a Steward image to the bank that did not boot. -/
  | secImageWrite (c : Cmd)
  /-- SEC_IMAGE_COMMIT, R492: command that checks the written bank and makes it preferred or erases its first word. -/
  | secImageCommit (c : Cmd)
  /-- SEC_ROLLBACK_ADVANCE, R493: command that blows rollback counter cells up to a value. -/
  | secRollbackAdvance (c : Cmd)
  /-- SEC_KEY_REVOKE, R494: command that blows the revoke cell of an image key. -/
  | secKeyRevoke (c : Cmd)
  /-- SEC_DEBUG_CHALLENGE, R501: command, or TAP register access, that returns a debug-unlock nonce and the serial. -/
  | secDebugChallenge (c : Cmd)
  /-- SEC_DEBUG_UNLOCK, R501: command that verifies a debug-key signature and sets DEBUG_UNLOCKED. -/
  | secDebugUnlock (c : Cmd)
  /-- SEC_ALLOWLIST_SET, R503: command that stores the admission allow-list of serials. -/
  | secAllowlistSet (c : Cmd)
  /-- DEBUG_NONCE_LAPSE, R501: A debug nonce lapses 60 s after it is issued. -/
  | debugNonceLapse
  /-- FAULT_LOG_READ, R519: command that returns fault records from the log. -/
  | faultLogRead (c : Cmd)
  /-- BLOCK_RESTORE, R516: command that re-powers, resets, recalibrates and self-tests a parked block. -/
  | blockRestore (c : Cmd)
  /-- REGION_RESTORE, R517: command that re-powers, retrains and self-tests a fenced region. -/
  | regionRestore (c : Cmd)
  /-- SQ_TAIL_WRITE, R325: host write of SQ_TAIL that submits commands on a queue. -/
  | sqTailWrite (q : QueueNo) (value : Word) (packets : List RawPacket)
  /-- RQ_HEAD_WRITE, R326: host write of RQ_HEAD that frees reply ring room so a passed-over queue may start again. -/
  | rqHeadWrite (q : QueueNo) (value : Word)
  /-- QCFG_WRITE, R327: host write of QCFG, where clearing and setting EN resets both rings and returns the queue to RUNNING. -/
  | qcfgWrite (q : QueueNo) (value : Word)
  /-- QUEUE_REGISTER_WRITE, R356: host write of a queue base, shadow or destination register, ignored while EN is 1. -/
  | queueRegisterWrite (q : QueueNo) (reg : QueueReg) (value : Word)
  /-- HOST_DMA_FAULT, R327: A read of the SQ or write of the RQ or shadow ends in an error, putting the queue in ERROR and faulting its session. -/
  | hostDmaFault (q : QueueNo)
  /-- D3HOT_ENTRY, R328: the host port enters D3hot, stopping fetches, replies and MSI-X messages. -/
  | d3hotEntry
  /-- D0_RETURN, R328: the host port returns to D0 and queues resume, writing held notices. -/
  | d0Return
  /-- PCIE_LINK_DOWN, R329: the PCIe link goes down, faulting every host session and disabling the queues. -/
  | pcieLinkDown
  /-- FUNCTION_LEVEL_RESET, R330: A Function Level Reset resets the queues and MSI-X, faults host sessions and ends host DMAs. -/
  | functionLevelReset
  /-- PCIE_PERST, R534: PCIE_PERST_N falls, holding the host port in reset as for link down and a Function Level Reset; the link trains when it rises. -/
  | pciePerst (level : Bool)
  /-- SPDM_REQUEST, R495: an SPDM 1.2 request on the DOE mailbox is answered by the responder. -/
  | spdmRequest (request : List Byte)
  /-- TAP_INSTRUCTION, R500: an IEEE 1149.1 instruction is loaded, locked ones selecting BYPASS. -/
  | tapInstruction (i : TapOp)
  /-- TICKET_COMPLETE, R347: work under a ticket completes, storing its status and result and sending a notice when NOTIFY was set. -/
  | ticketComplete (ticket : Word) (outcome : WorkEnd)
  /-- LEASE_EXPIRED, R343: A reservation's lease expires and the reservation is released. -/
  | leaseExpired (slot : Fin 128)
  /-- HOLDOFF_END, R355: A vector's holdoff ends and a message raised during it is sent. -/
  | holdoffEnd (vector : Fin 64)
  /-- CHAIN_COMMAND_RECEIVE, R339: A command packet arrives from the chain and is run under its chain session, or discarded as stale. -/
  | chainCommandReceive (port : Port) (opcode : BitVec 16) (c : Cmd)
  /-- CHAIN_REPLY_RECEIVE, R390: A reply packet for a forwarded host command arrives and is written to its queue. -/
  | chainReplyReceive (port : Port) (tag opcode : BitVec 16) (status : Status) (queue : QueueNo) (data : List Word)
  /-- COMMAND_TIMEOUT, R390: no reply arrives within CMD_TIMEOUT and a FAULT reply is written to the queue. -/
  | commandTimeout (queue : QueueNo) (tag : BitVec 16)
  /-- TREF_LOST, R82: the missing-edge detector declares TREF lost and timing stops in every region. -/
  | trefLost
  /-- TREF_ACCEPTED, R82: TREF is accepted after 64 consecutive rising edges. -/
  | trefAccepted
  /-- KEEPER_RATIO_MEASURED, R108: the keeper ratio re-measurement completes and is compared with the ratio at entry. -/
  | keeperRatioMeasured (ratio : Word)
  /-- CHRONICLE_HANDBACK, R107: the Chronicle passes back to TREF at C0 plus the estimated elapsed ticks. -/
  | chronicleHandback (periods : Nat) (temperature : Int)
  /-- TREF_ACCEPT_TIMEOUT, R108: TREF is not accepted 100 ms after a wake and TREF_LOST is recorded. -/
  | trefAcceptTimeout
  /-- TREF_CHANGED, R84: the TREF to keeper ratio moves by more than 100 ppm within 10 ms, setting ACCURACY_LOST. -/
  | trefChanged
  /-- MULTIPLIER_LOCKED, R80: A region's reference multiplier locks to TREF and TIMING_READY is set. -/
  | multiplierLocked (r : Region)
  /-- LOCK_LOST, R81: A region's reference multiplier loses lock with TREF present, causing a region fault. -/
  | lockLost (r : Region)
  /-- KEEPER_CAL_VALID, R106: A full averaging window of 2^24 ticks is counted and KEEPER_CAL_VALID is set. -/
  | keeperCalValid (ratio : Word)
  /-- BEACON_SEND, R99: A master sends a beacon at each tick where the Chronicle mod 2,048 is 0. -/
  | beaconSend
  /-- BEACON_RECEIVE, R100: A follower receives a beacon, aligns or steps its Chronicle and forwards it. -/
  | beaconReceive (port : Port) (value : Nat) (hops : Nat) (reSet : Bool) (root : BitVec 12)
  /-- BEACON_LOST, R103: A follower receives no beacon for 16,384 ticks. -/
  | beaconLost
  /-- TARIFF_REFILL, R311: at each refill every class's REMAIN is reset to BUDGET less debt and SPENT_LAST written. -/
  | tariffRefill
  /-- TREE_SWITCH_RELEASE, R94: after a strobe tree change the old output is released at its first falling edge or forced after 1 µs. -/
  | treeSwitchRelease (r : Region) (k : Fin 4) (forced : Bool)
  /-- TREE_SWITCH_CONNECT, R94: the new tree output is connected at its first qualifying rising edge. -/
  | treeSwitchConnect (r : Region) (k : Fin 4)
  /-- LEVEL_SLEW_INTERVAL, R49: each 40 ns update interval moves a level DAC output towards its target. -/
  | levelSlewInterval (cell : Cell) (dac : Fin 11)
  /-- SPAN_SAFE_REACHED, R50: during a span change the output reaches SAFE_MV and the dwell begins. -/
  | spanSafeReached (cell : Cell) (dac : Fin 6)
  /-- SPAN_DWELL_END, R50: the 2.00 µs dwell ends and the DAC switches span. -/
  | spanDwellEnd (cell : Cell) (dac : Fin 6)
  /-- SPAN_DONE, R50: the output reaches the target in the new span and the sequence ends. -/
  | spanDone (cell : Cell) (dac : Fin 6)
  /-- DRV_OC, R54: driver current exceeds ±60 mA for 5 µs and the driver is taken to high impedance. -/
  | drvOc (cell : Cell)
  /-- CLAMP, R57: clamp current exceeds 40 mA for 1 µs and cause CLAMP is recorded. -/
  | clamp (cell : Cell)
  /-- HANDOFF, R70: at a quiet beat the receiving cell's switch closes and the releasing cell's opens. -/
  | handoff (b : Block)
  /-- HANDOFF_TIMEOUT, R71: no quiet beat occurs within QUIET_LIMIT and the hand-off is deferred or not made. -/
  | handoffTimeout (b : Block)
  /-- CELL_FAULT, R72: A cell fault is detected, the pin is parked and a substitution begins. -/
  | cellFault (pin : Pin) (code : Fin 6)
  /-- SPARE_FORCED_RETURN, R72: A pin carried for another reason is forced back to its owner 10 µs after a fault. -/
  | spareForcedReturn (b : Block)
  /-- FAULT_SUBSTITUTION_CONNECT, R72: the spare's switch closes on the faulted pin at a beat boundary within 20 µs. -/
  | faultSubstitutionConnect (b : Block)
  /-- SPARE_FAULT, R73: the spare cell faults, parking any pin it carries. -/
  | spareFault (b : Block) (code : Fin 6)
  /-- STALE_SWITCH_REQUEST, R74: A cell issues a switch request with an older incarnation and is put in standby. -/
  | staleSwitchRequest (cell : Cell) (incarnation : Word)
  /-- BEAT_START, R86: A beat leaves the FIFO and its edges fire and strobes sample. -/
  | beatStart (r : Region) (samples : List PinSample)
  /-- ITIN_PRIMED, R137: the FIFO holds 8,192 beats or every beat up to a HALT, and the engine is PRIMED. -/
  | itinPrimed (r : Region)
  /-- STEP, R131: instruction that emits its frames and goes to the next instruction. -/
  | itinStep (r : Region)
  /-- JUMP, R131: instruction that emits its frames and goes to a target. -/
  | itinJump (r : Region)
  /-- CALL, R131: instruction that emits its frames, pushes the return index and goes to a target. -/
  | itinCall (r : Region)
  /-- RET, R131: instruction that emits its frames and pops the return index. -/
  | itinRet (r : Region)
  /-- LDREG, R131: instruction that emits its frames and loads a generator register. -/
  | itinLdreg (r : Region)
  /-- LOOP, R131: instruction that emits its frames, decrements a loop counter and branches while non-zero. -/
  | itinLoop (r : Region)
  /-- BRC, R131: instruction that emits its frames and branches on a generator, counter or fabric flag condition. -/
  | itinBrc (r : Region)
  /-- BRF, R133: instruction that emits its frames and branches on site fail flags once its compares resolve. -/
  | itinBrf (r : Region)
  /-- BRF_RESOLVE, R133: every compare up to a BRF's frames resolves and the pin side switches from pad frames to the chosen path. -/
  | brfResolve (r : Region)
  /-- MATCH, R134: instruction that repeats an iteration until its match condition is met or its counter times out. -/
  | itinMatch (r : Region)
  /-- MATCH_ITERATION_END, R134: A MATCH iteration boundary continues, completes on a met condition, or times out. -/
  | matchIterationEnd (r : Region)
  /-- WAYPOINT, R146: instruction that snapshots the engine state into the shadow bank. -/
  | itinWaypoint (r : Region)
  /-- WAYPOINT_STAGE_WRITE, R146: the shadow bank is written to a QDR staging slot under TC. -/
  | waypointStageWrite (r : Region) (stored : Bool)
  /-- VSTREAM, R143: instruction that emits frames from the stored-vector stream. -/
  | itinVstream (r : Region)
  /-- HALT, R135: instruction that emits its frames and begins the tail frames ending the run. -/
  | itinHalt (r : Region)
  /-- ITIN_DONE, R135: the last tail frame after HALT leaves and the engine enters HALTED. -/
  | itinDone (r : Region)
  /-- ILLEGAL_INSTRUCTION, R124: an illegal instruction is decoded, emits nothing and causes a fault stop. -/
  | illegalInstruction (r : Region)
  /-- ITINERARY_STARVED, R141: the pin side needs a beat not in the FIFO and the run ends with a fault stop. -/
  | itineraryStarved (r : Region)
  /-- STREAM_FAULT, R145: A stream or code transfer faults after its re-sends and the run ends with a fault stop. -/
  | streamFault (r : Region) (code : Bool)
  /-- STOP_BEAT, R142: the stop beat arrives and the engine stops with earlier results standing. -/
  | stopBeat (r : Region)
  /-- LEDGER_BLOCK_WRITE, R158: the Ledger writer drains a 256-byte block to the ring and advances LEDGER_WR. -/
  | ledgerBlockWrite (r : Region) (written : Bool)
  /-- LEDGER_BLOCK_PAD, R158: A block partly filled 20 µs after its first record is completed with PAD records. -/
  | ledgerBlockPad (r : Region)
  /-- CATCH_UPDATE, R162: A catch update leaves the catch queue and sets its bit in QDR SRAM. -/
  | catchUpdate (r : Region)
  /-- CATALOGUE_UPDATE, R167: A Catalogue update leaves its queue and merges into or inserts an entry. -/
  | catalogueUpdate (r : Region)
  /-- PURGE_DONE, R168: the background purge sweep of a site's entries ends. -/
  | purgeDone
  /-- MUST_REPAIR_EVAL, R174: the allocator re-evaluates must-repair for the repair regions a Catalogue change touches. -/
  | mustRepairEval (d : Fin 4096)
  /-- AUTO_SOLVE, R175: A site's engines have stopped and its queues drained, and a solve starts. -/
  | autoSolve (site : Fin 128)
  /-- SOLVE_DONE, R175: A repair solve ends and each region's result record is written. -/
  | solveDone
  /-- RANGE_CHANGE_COMPLETE, R184: A range or function change completes its second step. -/
  | rangeChangeComplete (cell : Cell)
  /-- MEAS_OUTPUT, R187: A channel's filter completes an output, which is corrected, tagged and written to the ring. -/
  | measOutput (b : Block) (ch : Fin 17) (raw : Int) (lost : Bool)
  /-- COARSE_VALUE, R191: A 16-sample fast window completes, feeding the limit monitor and, after a change, the ring. -/
  | coarseValue (b : Block) (ch : Fin 17) (raw : Int)
  /-- OVR_START, R192: A channel's over-range detector asserts. -/
  | ovrStart (b : Block) (ch : Fin 17) (positive : Bool)
  /-- OVR_RELEASE, R193: the over-range detector releases and recovery begins. -/
  | ovrRelease (b : Block) (ch : Fin 17)
  /-- OVR_RECOVERY_END, R193: four µs after release the front end has recovered and the channel restarts. -/
  | ovrRecoveryEnd (b : Block) (ch : Fin 17)
  /-- CONTENTION, R215: contention on a commons wire lasts 500 ns and the two strongest opposing connections are opened. -/
  | contention (b : Block) (inward outward : Fin 26)
  /-- WDAC_UPDATE, R219: at a tree edge a waveform generator computes its next target code. -/
  | wdacUpdate (b : Block) (k : Fin 2)
  /-- WDAC_SLEW_STEP, R220: A waveform DAC's slew limiter moves its output towards the target. -/
  | wdacSlewStep (b : Block) (k : Fin 2)
  /-- MON_SCHED_TRIGGER, R227: A tree edge makes a schedule entry pending, skipping any still pending. -/
  | monSchedTrigger (b : Block) (conv : Fin 2)
  /-- MON_CONVERSION_START, R225: an idle converter starts its highest waiting request. -/
  | monConversionStart (b : Block) (conv : Fin 2)
  /-- MON_CONVERSION_DONE, R230: A conversion ends and its corrected, tagged result word is written. -/
  | monConversionDone (b : Block) (conv : Fin 2) (raw : BitVec 16)
  /-- PLAUS_CHECK, R233: A plausibility check falls due and both converters convert the check reference. -/
  | plausCheck (b : Block)
  /-- PLAUS_RESULT, R233: the plausibility conversions end and the outcome of Table COMM-4 is applied. -/
  | plausResult (b : Block) (rawA rawB : BitVec 16)
  /-- MON_RECAL, R235: A good converter's 2 s recalibration completes its 64 conversions and its coefficients are checked. -/
  | monRecal (b : Block) (conv : Fin 2)
  /-- WM_EDGE, R247: A comparator edge is reported to events and capture. -/
  | wmEdge (b : Block) (mon : Fin 18) (kind : Fin 4) (fine : Fin 20000)
  /-- BLANK_END, R249: A blanking interval ends and any net change is reported once. -/
  | blankEnd (b : Block) (mon : Fin 18)
  /-- UNDECIDED_EXIT, R243: an undecided comparator's input first leaves its band. -/
  | undecidedExit (b : Block) (mon : Fin 18) (isHigh above : Bool)
  /-- WAKE_QUALIFIED, R256: the block wake condition holds for QUAL keeper periods and a wake request is raised. -/
  | wakeQualified (b : Block)
  /-- WAKE_CONDITION_BREAK, R256: the block wake condition breaks and the qualification count returns to 0. -/
  | wakeConditionBreak (b : Block)
  /-- FAB_CONVERT_REQUEST, R276: A rising edge on fabric output 52 or 53 requests an urgent conversion. -/
  | fabConvertRequest (b : Block) (conv : Fin 2)
  /-- USER, R277: A rising edge of a fabric user-event output records cause USER. -/
  | user (b : Block) (event : Fin 8)
  /-- LOAD_DONE, R282: every load check passes and the shadow becomes LOADED. -/
  | loadDone (ticket : Word)
  /-- LOAD_REJECT, R280: A load check fails, the shadows are discarded and the folio is withdrawn. -/
  | loadReject (ticket : Word) (code : Fin 10)
  /-- FAB_FAULT, R286: the scrub finds a wrong word in an active plane and the block's fabric is held. -/
  | fabFault (b : Block)
  /-- QDR_SCRUB, R294: the QDR scrub reads the next word under TH. -/
  | qdrScrub (r : Region) (check : ScrubResult)
  /-- ARC_SCRUB, R298: the archive patrol scrub reads the next block under TH. -/
  | arcScrub (check : ScrubResult)
  /-- TRANSFER_BLOCK_RECEIVE, R300: A transfer block arrives, is checked and acknowledged. -/
  | transferBlockReceive (ticket : Word) (intact : Bool) (hostData : List Word)
  /-- TRANSFER_ACK_TIMEOUT, R300: A transfer block attempt fails and is re-sent, faulting the transfer after four attempts. -/
  | transferAckTimeout (ticket : Word)
  /-- LINK_FAULT, R302: A region link is declared faulted and the region is treated as faulted. -/
  | linkFault (r : Region)
  /-- STACK_FAILED, R299: an archive stack is taken out of service. -/
  | stackFailed (stack : Fin 4)
  /-- ARBITER_DECISION, R305: A free resource with an eligible slot grants one grant unit to the chosen slot. -/
  | arbiterDecision (a : ArbiterId) (isWrite : Bool) (requests : List (Fin 17 × Nat)) (taRegions : List Region)
  /-- PREPARE_RECEIVE, R369: A folio prepare arrives and distribution and unit preparation begin. -/
  | prepareReceive (p : Prepare)
  /-- FOLIO_ANNOUNCE_RECEIVE, R365: A chain folio announcement arrives and a member entry is taken. -/
  | folioAnnounceReceive (id : Word) (deadline : Nat)
  /-- FOLIO_OPEN_DEADLINE, R367: an unprepared folio's open deadline passes and it is withdrawn. -/
  | folioOpenDeadline (slot : Fin 64)
  /-- FOLIO_VOTE, R371: at the vote tick a participant floods its vote. -/
  | folioVote (slot : Nat)
  /-- VOTE_RECEIVE, R372: A vote flit arrives and is held for the decision. -/
  | voteReceive (id : Word) (module : BitVec 12) (accede : Bool) (reason : BitVec 8)
  /-- FOLIO_DECIDE, R372: at the decision tick a participant accedes or withdraws. -/
  | folioDecide (slot : Nat)
  /-- FOLIO_ACCESSION, R373: at the accession tick every staged word takes effect. -/
  | folioAccession (slot : Nat)
  /-- FOLIO_WITHDRAWAL_RECEIVE, R374: A flooded withdrawal arrives and the member entry is discarded. -/
  | folioWithdrawalReceive (id : Word)
  /-- OUTCOME_RECEIVE, R376: A participant's outcome flit reaches the root. -/
  | outcomeReceive (id : Word) (module : BitVec 12) (acceded : Bool) (reason : BitVec 8)
  /-- FOLIO_TICKET_TIMEOUT, R377: at A + 100 µs missing outcomes count as UNKNOWN and the ticket completes. -/
  | folioTicketTimeout (id : Word)
  /-- FRAME_RECEIVE, R385: A Caravan frame arrives and its flits and credits are taken or a NAK sent. -/
  | frameReceive (port : Port) (f : Frame)
  /-- FRAME_RESEND_TIMEOUT, R385: an unacknowledged frame is resent after 2 µs, faulting the port on the fourth failure. -/
  | frameResendTimeout (port : Port)
  /-- PORT_SILENT, R385: A port receives no intact frame for 10 µs and becomes FAULTED. -/
  | portSilent (port : Port)
  /-- LINK_TRAINING, R380: A port starts training through its steps. -/
  | linkTraining (port : Port) (info : TrainInfo)
  /-- TRAINING_ATTEMPT_FAIL, R381: A training step fails and the attempt restarts or the port faults or is barred. -/
  | trainingAttemptFail (port : Port) (failed : TrainStep)
  /-- PORT_ADMIT, R498: mutual authentication completes and the port becomes ACTIVE or BARRED. -/
  | portAdmit (port : Port) (partner : Partner)
  /-- TRAINING_RETRY, R382: A VACANT, FAULTED or BARRED port's backoff expires and training starts again. -/
  | trainingRetry (port : Port)
  /-- PORT_LEAVE_ACTIVE, R386: A port leaves ACTIVE, its held flits are discarded and modules are declared lost. -/
  | portLeaveActive (port : Port) (cause : LeaveCause)
  /-- PACKET_RECEIVE, R389: A packet arrives whole and is delivered locally, forwarded, or dropped. -/
  | packetReceive (port : Port) (p : Packet)
  /-- STALL_DROP, R389: A packet held 100 µs in a forwarding buffer is discarded. -/
  | stallDrop (index : Nat)
  /-- BARRIER_ARRIVAL_RECEIVE, R394: the root receives a barrier arrival and releases the barrier when all have arrived. -/
  | barrierArrivalReceive (n : Fin 16) (module : BitVec 12) (incarnation : Word) (timeout : Nat)
  /-- BARRIER_RELEASE_RECEIVE, R394: A barrier release or abandon arrives and the waiting ticket completes. -/
  | barrierReleaseReceive (n : Fin 16) (released : Bool) (tick : Nat)
  /-- BARRIER_TIMEOUT, R394: A barrier's timeout passes at the root and an abandon is flooded. -/
  | barrierTimeout (n : Fin 16)
  /-- BROADCAST_RECEIVE, R395: A flooded broadcast arrives and its inner command is executed. -/
  | broadcastReceive (origin : BitVec 12) (serial : Word) (opcode : BitVec 16) (c : Cmd)
  /-- SNAPSHOT_CAPTURE, R396: at tick S every module captures its snapshot record and sends a completion. -/
  | snapshotCapture (serial : BitVec 16) (tick : Nat)
  /-- SNAPSHOT_COMPLETION_RECEIVE, R396: A snapshot completion reaches the root, or S + 100 µs passes, completing the ticket. -/
  | snapshotCompletionReceive (serial : BitVec 16) (module : BitVec 12)
  /-- GLOBAL_RESET_TICK, R397: at tick R each named module begins a module reset. -/
  | globalResetTick (tick : Nat)
  /-- FORM_RECEIVE, R403: A member receives its partner's FORM flit and applies the formation checks. -/
  | formReceive (f : TenFlit) (roles : BitVec 16) (order : OrderCode) (witness : Option Nat) (aligned : Bool)
  /-- FORM_TIMEOUT, R403: no FORM arrives within 100 ms and formation fails with TIMEOUT. -/
  | formTimeout
  /-- PAIR_FORMATION, R404: at formation tick F both members take roles, incarnations and expiries. -/
  | pairFormation
  /-- RENEW_SEND, R409: at each tick where the Chronicle mod 10,000 is 0 the holder sends RENEW. -/
  | renewSend
  /-- RENEW_RECEIVE, R409: A partner or witness grants or refuses a RENEW. -/
  | renewReceive (f : TenFlit) (asWitness : Bool)
  /-- GRANT_RECEIVE, R409: the holder receives GRANT and extends its expiry. -/
  | grantReceive (f : TenFlit)
  /-- REFUSE_RECEIVE, R412: A TAKING region receives REFUSE and returns to SHADOW. -/
  | refuseReceive (f : TenFlit)
  /-- TENANCY_EXPIRY, R410: A holder's expiry tick passes and its tenanted drivers go to high impedance. -/
  | tenancyExpiry (r : Region)
  /-- RELINQUISH_RECEIVE, R412: A SHADOW or TAKING region receives RELINQUISH and takes the tenancy. -/
  | relinquishReceive (f : TenFlit)
  /-- TAKEOVER_TIMER, R412: at E_rec + 10,000 a shadow requests takeover or, without a witness, takes. -/
  | takeoverTimer (r : Region)
  /-- TAKEOVER_REQ_RECEIVE, R413: A witness receives TAKEOVER_REQ and grants or refuses it. -/
  | takeoverReqReceive (f : TenFlit)
  /-- TAKEOVER_GRANT_RECEIVE, R412: A TAKING region receives TAKEOVER_GRANT and takes the tenancy. -/
  | takeoverGrantReceive (f : TenFlit)
  /-- TAKEN_RECEIVE, R413: A partner or witness receives TAKEN and records the new holder. -/
  | takenReceive (f : TenFlit) (asWitness : Bool)
  /-- REGISTER_RECEIVE, R413: A witness receives REGISTER and creates its entry. -/
  | registerReceive (f : TenFlit) (other : BitVec 12)
  /-- HANDOVER_BOUNDARY, R414: at the first beat boundary at or after H the holder stops driving and sends HANDOVER. -/
  | handoverBoundary (r : Region)
  /-- HANDOVER_RECEIVE, R414: the partner receives HANDOVER and enables its drivers at the next beat. -/
  | handoverReceive (f : TenFlit)
  /-- RESYNCHRONISATION, R416: A STANDBY region's waypoint records match the partner's and it returns to SHADOW. -/
  | resynchronisation (r : Region) (tag : Word) (beat tick : Nat) (diverged : Bool)
  /-- CHECKPOINT_COPY, R418: the hub copies a staged waypoint record into the region's archive checkpoint ring. -/
  | checkpointCopy (r : Region) (stored : Bool)
  /-- MIRROR_RECEIVE, R420: A mirror packet from the partner is written into the mirror area. -/
  | mirrorReceive (srcInc : Word) (offset : Nat) (data : List Byte)
  /-- MIRROR_SEND, R420: A Catalogue, descriptor, waypoint or header change is sent to the partner's mirror. -/
  | mirrorSend
  /-- MIRROR_RESYNC, R421: the mirror queue overflows and a full resend follows. -/
  | mirrorResync (isReceiver : Bool)
  /-- RESTORE_DONE, R424: A pair restore completes and mirroring starts with a full resend. -/
  | restoreDone
  /-- DOZE_ENTRY_STEP, R440: A step of a Doze entry ends at an abort point. -/
  | dozeEntryStep
  /-- DOZE_EXIT, R440: the domains return to AWAKE and pins reconnect. -/
  | dozeExit
  /-- SLUMBER_ENTRY_STEP, R441: A step of a Slumber entry ends at its abort point or moves to the next step. -/
  | slumberEntryStep
  /-- OFF_ENTRY_BACKING_COPY, R442: the Strongroom is copied to the nonvolatile store and the rails are requested off. -/
  | offEntryBackingCopy
  /-- WAKE_EVENT, R443: A wake-class request arrives during an entry or in Slumber. -/
  | wakeEvent (source : WakeSource)
  /-- ENTRY_ABORT, R439: at an abort point a wake-class request undoes the entry and restores the previous target. -/
  | entryAbort
  /-- WAKE_STEP, R444: A step of the wake from Slumber completes, with Awake reached at the last. -/
  | wakeStep (failed : List Word)
  /-- RAIL_ACK, R450: A regulator request is acknowledged by its status poll. -/
  | railAck (rail : Fin 7)
  /-- RAIL_TIMEOUT, R451: A regulator request is not acknowledged after RAIL_TIMEOUT twice. -/
  | railTimeout (rail : Fin 7)
  /-- PMB_ALERT, R452: PMB_ALERT_N is asserted and responding regulators are read and cleared. -/
  | pmbAlert (faulted : BitVec 7)
  /-- VCORE_ADJUST, R453: the module changes the VCORE target by at most 10 mV once per ms. -/
  | vcoreAdjust (millivolts : Nat)
  /-- PORST_RISE, R454: PORST_N rises and start-up begins. -/
  | porstRise
  /-- STARTUP_STEP, R454: A step of start-up completes and the next begins. -/
  | startupStep (inputs : StartupInputs)
  /-- STARTUP_CARAVAN_WAIT_END, R454: at G + 314 ms start-up stops waiting for Caravan ports. -/
  | startupCaravanWaitEnd
  /-- READY, R454: the module becomes ready for configuration. -/
  | ready
  /-- STARTUP_RETRY, R455: after a failed start-up rail the module waits 1 s and starts again. -/
  | startupRetry
  /-- PORST_FALL, R456: PORST_N falls and the module parks pins and powers every rail off. -/
  | porstFall
  /-- VAON_DROP, R531: VAON stays below 0.84 V for 2 µs and the module acts as on PORST_N falling. -/
  | vaonDrop
  /-- MODULE_RESET_STEP, R457: A module reset returns registers, ends sessions and records RESET_DONE. -/
  | moduleResetStep
  /-- SELFCAL_STEP, R463: A step of SELFCAL in the named blocks completes. -/
  | selfcalStep (results : List CalValue) (readbackFails : List Cell) (convBad : List (Block × Fin 2))
  /-- SELFCAL_DONE, R463: SELFCAL restores pins and commons and completes its ticket. -/
  | selfcalDone
  /-- BG_TURN, R467: A background calibration turn starts for the next cell of a block. -/
  | bgTurn (b : Block)
  /-- BG_CALIBRATION_DONE, R469: the owner's calibration ends, results are checked and accepted values written. -/
  | bgCalibrationDone (b : Block) (results : List CalValue) (readbackFails : Bool)
  /-- BG_STALE, R472: A cell has had no value accepted for 10 s in Awake and becomes stale. -/
  | bgStale (cell : Cell)
  /-- STORE_WORD_PROGRAMMED, R475: A calibration record word is programmed during CAL_STORE. -/
  | storeWordProgrammed
  /-- STORE_DONE, R475: CAL_STORE's read-back passes, the commit row is blown and the slot is COMMITTED. -/
  | storeDone
  /-- STORE_FAIL, R475: CAL_STORE's read-back finds a mismatch and the slot stays CONSUMED. -/
  | storeFail
  /-- STORE_INTERRUPTED, R476: A store is stopped by a reset or power entry before its commit. -/
  | storeInterrupted
  /-- BLOCK_FAULT_DETECT, R505: A block fault is detected and the block is contained. -/
  | blockFaultDetect (b : Block) (code : BitVec 8)
  /-- REGION_FAULT_DETECT, R505: A region fault is detected and the region is fenced. -/
  | regionFaultDetect (r : Region) (code : BitVec 8)
  /-- REGION_LINK_KEEPALIVE, R508: the hub sends a keep-alive on a region link idle for 2 µs. -/
  | regionLinkKeepalive (r : Region)
  /-- REGION_LINK_SILENT, R508: A region die receives nothing for 15 µs and fences itself. -/
  | regionLinkSilent (r : Region)
  /-- STEWARD_RESTART, R509: steward overruns or misses its watchdog and restarts, faulting every session. -/
  | stewardRestart
  /-- HUB_MEMORY, R509: an uncorrectable Catalogue word invalidates its entry and uncatalogues the site. -/
  | hubMemory (entry : Fin 524288)
  /-- STRONGROOM_ERROR, R509: an uncorrectable Strongroom word is found outside a restore and VALID clears. -/
  | strongroomError (page : Word)
  /-- OVER_TEMP, R540: A junction sensor crosses its threshold and the fault of its level is raised. -/
  | overTemp (sensor : TempSensor)
  /-- MODULE_HALT, R510: A module halt parks every pin, stops every engine and limits commands. -/
  | moduleHalt (code : BitVec 8)
  /-- CONTAINMENT_ESCALATE, R511: A containment misses its bound and the fault is contained at the next level up. -/
  | containmentEscalate (unit : TempSensor)
  /-- BLANK_START, R248: the output of a monitor's blanking tree reaches BLANK_LEVEL, the monitor becomes blanked and the blanking memory stores each comparator's output. -/
  | blankStart (b : Block) (mon : Fin 18)
  /-- FABRIC_CLOCK_EDGE, R262: at a rising edge of a fabric tap of tree 1 to 3, flops, wire registers and input-tap flops load, and fabric-driven pins and waveform cells take new values. -/
  | fabricClockEdge (r : Region) (tree : Fin 4)
  /-- MON_RECAL_DUE, R235: every 2.0 s a good converter's in-service recalibration falls due and queues 32 ground and 32 check-reference conversions. -/
  | monRecalDue (b : Block) (conv : Fin 2)
  /-- MON_RECAL_TIMEOUT, R235: A recalibration's 64 conversions are not complete within 1 ms, so the old coefficients are kept and CAL_REJECT is recorded. -/
  | monRecalTimeout (b : Block) (conv : Fin 2)
  /-- BACKOFF_COUNT_RESET, R382: A port has been ACTIVE for 1 s and its consecutive fault and bar counts return to 0. -/
  | backoffCountReset (port : Port)
  /-- BUS_MASTERING_ENABLED, R330: the host enables bus mastering again after a Function Level Reset, and on SY-UQ1024-A000 the Ledger writer resumes at LEDGER_WR. -/
  | busMasteringEnabled
  /-- STEWARD_RESTART_DONE, R509: steward completes its restart from the nonvolatile store within 60 ms and serves commands again. -/
  | stewardRestartDone
deriving DecidableEq, Repr

end Sys2Proof
end

