-- ==== Sys2Proof/WellFormed.lean ====
section
/-! DEFINITION. Which commands and events are well formed: what the operand types alone do not say. -/

namespace Sys2Proof

/-- A session number of the chain (R339): 1 to 64. -/
def sourceOk (s : Source) : Bool :=
  match s with
  | .host _ => true
  | .chain m n _ => m != 0 && decide (1 ≤ n.toNat) && decide (n.toNat ≤ 64)

/-- A command carries at most 4,096 bytes of parameters (R325, Table CMD-4), and a chain source names its session. -/
def cmdOk (c : Cmd) : Bool := decide (c.params.length ≤ 1024) && sourceOk c.src

/-- A command that arrives from the chain (R339). -/
def chainOk (c : Cmd) : Bool :=
  cmdOk c && (match c.src with
    | .host _ => false
    | .chain _ _ _ => true)

/-- A packet of a submission ring comes with the parameter words that its PLEN gives (Table CMD-4). -/
def rawOk (p : RawPacket) : Bool := decide (4096 < p.plen.toNat) || decide (p.plen.toNat / 4 ≤ p.params.length)

/-- No pin's strobe is sampled twice in one beat (R55). -/
def samplesOk (l : List PinSample) : Bool := decide ((l.map (fun x => (x.pin, x.strobe))).Nodup)

/-- A frame has eight flit slots and returns credits for the eight classes, one byte each (Table FOL-6). -/
def frameOk (f : Frame) : Bool := decide (f.classes.length ≤ 8) && decide (f.credits.length = 8) && f.credits.all (fun n => decide (n < 256))

/-- A packet's words fit its flits (R379). -/
def packetOk (p : Packet) : Bool := decide (p.body.length + 4 ≤ 16 * p.flits)

/-- No slot of an arbiter is named twice in one decision (R305). -/
def slotsOk (l : List (Fin 17 × Nat)) : Bool := decide ((l.map Prod.fst).Nodup)

/-- A Chronicle tick is a 64-bit number (R96). -/
def tickOk (t : Nat) : Bool := decide (t < 2 ^ 64)

/-- A prepare's values (R361, R368): HOP of 1 to 255, SIZE of 1 to 4,095, and participants that are numbered. -/
def prepareOk (p : Prepare) : Bool :=
  tickOk p.acc && decide (1 ≤ p.hop) && decide (p.hop ≤ 255) && decide (1 ≤ p.size) && decide (p.size ≤ 4095)
    && decide (p.depth ≤ 63) && !p.members.contains 0

/-- A tenancy flit gives an incarnation for each region (Table PAIR-2). -/
def flitOk (f : TenFlit) : Bool := decide (f.incs.length = 8) && tickOk f.tick

/-- Is a command or event well formed? -/
def Instr.wf (i : Instr) : Bool :=
  match i with
  | .nop c | .moduleInfo c | .sessionOpen c | .sessionClose c | .regRead c | .regWrite c | .regModify c | .reserve c
  | .release c | .reservationRead c | .resultRead c | .ticketRelease c | .evtRouteSet c | .evtPendingRead c
  | .evtSourceRead c | .evtClear c | .sqcClearWrite c | .pinLevelsSet c | .pinSwitchSet c | .pinContactCheck c
  | .pinStatusRead c | .spareSubstitute c | .spareReturn c | .wmConfigSet c | .wmWakeSet c | .wmCaptureRead c
  | .wmCheck c | .cwmSet c | .chronicleRead c | .chronicleSet c | .chronicleRoleSet c | .timingSetWrite c
  | .beatPeriodSet c | .sleepAccountRead c | .itinLoad c | .itinRunSet c | .itinStopNow c | .itinStatusRead c
  | .waypointRead c | .vstreamSet c | .itinGenWrite c | .failCtrlSet c | .catchWindowSet c | .catchClear c
  | .catchDump c | .ledgerSet c | .ledgerAdvance c | .catClear c | .repairRegionWrite c | .repairSolve c
  | .repairResultRead c | .failSiteSummary c | .catRead c | .measConfigSet c | .measDetSet c | .measRead c
  | .measLastRead c | .measDetRead c | .measRingSet c | .commRouteSet c | .wdacSet c | .monScheduleSet c | .monConvert c
  | .monRead c | .dacReadback c | .fabLoad c | .fabUnload c | .fabStatusRead c | .arcRead c | .arcWrite c | .arcDma c
  | .qdrRead c | .qdrWrite c | .tariffSet c | .tariffRead c | .arbSet c | .memErrorsRead c | .folioOpen c
  | .folioStage c | .folioAccede c | .folioWithdraw c | .folioStatusRead c | .globalBarrier c | .globalBroadcast c
  | .globalSnapshot c | .snapshotRead c | .globalReset c | .caravanPortSet c | .caravanPortRead c | .caravanRouteSet c
  | .portRetrain c | .unbar c | .portDisable c | .moduleNumWrite c | .pairForm c | .pairDissolve c | .pairHandover c
  | .pairStatusRead c | .pairRestore c | .powerState c | .powerStatusRead c | .moduleReset c | .powerRailMapSet c
  | .selfcal c | .calStatusRead c | .calBgSet c | .calRecordRead c | .calStore c | .calRevert c | .secImageWrite c
  | .secImageCommit c | .secRollbackAdvance c | .secKeyRevoke c | .secDebugChallenge c | .secDebugUnlock c
  | .secAllowlistSet c | .faultLogRead c | .blockRestore c | .regionRestore c => cmdOk c
  | .sqTailWrite _ _ packets => packets.all rawOk
  | .chainCommandReceive _ _ c => chainOk c
  | .chainReplyReceive _ _ _ _ _ data => decide (data.length ≤ 1024)
  | .beaconReceive _ value hops _ _ => tickOk value && decide (hops ≤ 63)
  | .beatStart _ samples => samplesOk samples
  | .arbiterDecision _ _ requests _ => slotsOk requests
  | .prepareReceive p => prepareOk p
  | .folioAnnounceReceive _ deadline => tickOk deadline
  | .frameReceive _ f => frameOk f
  | .packetReceive _ p => packetOk p
  | .barrierArrivalReceive _ _ _ timeout => decide (10 ≤ timeout) && decide (timeout ≤ 60000000)
  | .barrierReleaseReceive _ _ tick => tickOk tick
  | .broadcastReceive _ _ _ c => chainOk c
  | .snapshotCapture _ tick => tickOk tick
  | .globalResetTick tick => tickOk tick
  | .formReceive f _ _ _ _ => flitOk f
  | .renewReceive f _ => flitOk f
  | .grantReceive f => flitOk f
  | .refuseReceive f => flitOk f
  | .relinquishReceive f => flitOk f
  | .takeoverReqReceive f => flitOk f
  | .takeoverGrantReceive f => flitOk f
  | .takenReceive f _ => flitOk f
  | .registerReceive f _ => flitOk f
  | .handoverReceive f => flitOk f
  | .resynchronisation _ _ beat tick _ => tickOk beat && tickOk tick
  | .mirrorReceive _ _ data => decide (data.length ≤ 4096)
  | .contactCheckAccession _ | .contactCheckSample _ _ _ | .wmCheckPhase _ _ _ _ | .debugNonceLapse | .rqHeadWrite _ _
  | .qcfgWrite _ _ | .queueRegisterWrite _ _ _ | .hostDmaFault _ | .d3hotEntry | .d0Return | .pcieLinkDown
  | .functionLevelReset | .pciePerst _ | .spdmRequest _ | .tapInstruction _ | .ticketComplete _ _ | .leaseExpired _
  | .holdoffEnd _ | .commandTimeout _ _ | .trefLost | .trefAccepted | .keeperRatioMeasured _ | .chronicleHandback _ _
  | .trefAcceptTimeout | .trefChanged | .multiplierLocked _ | .lockLost _ | .keeperCalValid _ | .beaconSend
  | .beaconLost | .tariffRefill | .treeSwitchRelease _ _ _ | .treeSwitchConnect _ _ | .levelSlewInterval _ _
  | .spanSafeReached _ _ | .spanDwellEnd _ _ | .spanDone _ _ | .drvOc _ | .clamp _ | .handoff _ | .handoffTimeout _
  | .cellFault _ _ | .spareForcedReturn _ | .faultSubstitutionConnect _ | .spareFault _ _ | .staleSwitchRequest _ _
  | .itinPrimed _ | .itinStep _ | .itinJump _ | .itinCall _ | .itinRet _ | .itinLdreg _ | .itinLoop _ | .itinBrc _
  | .itinBrf _ | .brfResolve _ | .itinMatch _ | .matchIterationEnd _ | .itinWaypoint _ | .waypointStageWrite _ _
  | .itinVstream _ | .itinHalt _ | .itinDone _ | .illegalInstruction _ | .itineraryStarved _ | .streamFault _ _
  | .stopBeat _ | .ledgerBlockWrite _ _ | .ledgerBlockPad _ | .catchUpdate _ | .catalogueUpdate _ | .purgeDone
  | .mustRepairEval _ | .autoSolve _ | .solveDone | .rangeChangeComplete _ | .measOutput _ _ _ _ | .coarseValue _ _ _
  | .ovrStart _ _ _ | .ovrRelease _ _ | .ovrRecoveryEnd _ _ | .contention _ _ _ | .wdacUpdate _ _ | .wdacSlewStep _ _
  | .monSchedTrigger _ _ | .monConversionStart _ _ | .monConversionDone _ _ _ | .plausCheck _ | .plausResult _ _ _
  | .monRecal _ _ | .wmEdge _ _ _ _ | .blankEnd _ _ | .undecidedExit _ _ _ _ | .wakeQualified _ | .wakeConditionBreak _
  | .fabConvertRequest _ _ | .user _ _ | .loadDone _ | .loadReject _ _ | .fabFault _ | .qdrScrub _ _ | .arcScrub _
  | .transferBlockReceive _ _ _ | .transferAckTimeout _ | .linkFault _ | .stackFailed _ | .folioOpenDeadline _
  | .folioVote _ | .voteReceive _ _ _ _ | .folioDecide _ | .folioAccession _ | .folioWithdrawalReceive _
  | .outcomeReceive _ _ _ _ | .folioTicketTimeout _ | .frameResendTimeout _ | .portSilent _ | .linkTraining _ _
  | .trainingAttemptFail _ _ | .portAdmit _ _ | .trainingRetry _ | .portLeaveActive _ _ | .stallDrop _
  | .barrierTimeout _ | .snapshotCompletionReceive _ _ | .formTimeout | .pairFormation | .renewSend | .tenancyExpiry _
  | .takeoverTimer _ | .handoverBoundary _ | .checkpointCopy _ _ | .mirrorSend | .mirrorResync _ | .restoreDone
  | .dozeEntryStep | .dozeExit | .slumberEntryStep | .offEntryBackingCopy | .wakeEvent _ | .entryAbort | .wakeStep _
  | .railAck _ | .railTimeout _ | .pmbAlert _ | .vcoreAdjust _ | .porstRise | .startupStep _ | .startupCaravanWaitEnd
  | .ready | .startupRetry | .porstFall | .vaonDrop | .moduleResetStep | .selfcalStep _ _ _ | .selfcalDone | .bgTurn _
  | .bgCalibrationDone _ _ _ | .bgStale _ | .storeWordProgrammed | .storeDone | .storeFail | .storeInterrupted
  | .blockFaultDetect _ _ | .regionFaultDetect _ _ | .regionLinkKeepalive _ | .regionLinkSilent _ | .stewardRestart
  | .hubMemory _ | .strongroomError _ | .overTemp _ | .moduleHalt _ | .containmentEscalate _ | .blankStart _ _
  | .fabricClockEdge _ _ | .monRecalDue _ _ | .monRecalTimeout _ _ | .backoffCountReset _ | .busMasteringEnabled
  | .stewardRestartDone => true

end Sys2Proof
end

