-- ==== Sys2Proof/Decode.lean ====
section
/-! DEFINITION. The command that a word of the opcode table spells. The table gives no row any bits (its rows are the commands and
events of a block, and their operands are structures, not fields of a word), so no word spells a command. -/

namespace Sys2Proof

/-- The command that a word spells: none, since the table gives bits to no row. -/
def decodeTableWord (_nbits _w : Nat) : Option Instr := none

end Sys2Proof
end

