-- ==== Sys2Proof/Machine/Regs.lean ====
section
/-! DEFINITION. The register map: which page an address lies in (R13, R31 to R33) and, for each page, its registers with
offset, count, stride, reset value and access masks (R17, R18, and the rule each row names). -/

namespace Sys2Proof.Machine

/-- A page of the register address space (Tables ARCH-5 to ARCH-7). Cells are numbered as in Table CMD-12, blocks as `8 r + b`. -/
inductive Page where
  | cell (c : Nat) | block (b : Nat)
  | engine (r : Nat) | fp (r : Nat) | qdrPort (r : Nat) | tree (r : Nat) | arb (r : Nat) | rfault (r : Nat)
  | hub | port (p : Nat) | car | cat | evt | pwr | sec | cal | chr
  | stack (n : Nat) | arccom
deriving DecidableEq, Repr

/-- One register, or an array of registers, of a page: `n` by `n2` registers from byte offset `off` with strides `stride`
and `stride2`. `rw`, `fs` and `ro` are the bits of access codes RW, FS and RO; `sc` those of SC; `event` marks an event
register, whose bits [8:0] are SQC. -/
structure RegRow where
  off : Nat
  n : Nat
  stride : Nat
  n2 : Nat
  stride2 : Nat
  reset : Word
  rw : Word
  fs : Word
  ro : Word
  sc : Word
  event : Bool
deriving DecidableEq, Repr

/-- The page of a region-level unit (Table ARCH-6). -/
def regionPage (r unit : Nat) : Option Page :=
  match unit with
  | 0 => some (.engine r)
  | 1 => some (.fp r)
  | 2 => some (.qdrPort r)
  | 3 => some (.tree r)
  | 4 => some (.arb r)
  | 5 => some (.rfault r)
  | _ => none

/-- The page of unit class 0x8 with cell field 31 (Table ARCH-7). -/
def hubPage (unit : Nat) : Option Page :=
  match unit with
  | 0 => some .hub
  | 1 => some .car
  | 2 => some .cat
  | 3 => some .evt
  | 4 => some .pwr
  | 5 => some .sec
  | 6 => some .cal
  | 7 => some .chr
  | _ => none

/-- The page an address selects, none where it is reserved (R31 to R34). -/
def pageOf (a : Nat) : Option Page :=
  let cls := a / 2 ^ 28
  let blk := a / 2 ^ 25 % 8
  let cel := a / 2 ^ 20 % 32
  if cls < 8 then
    if cel ≤ 16 then some (.cell (136 * cls + 17 * blk + cel))
    else if cel = 31 then some (.block (8 * cls + blk))
    else if cel = 30 then regionPage cls blk
    else none
  else if cls = 8 then
    if cel = 31 then hubPage blk
    else if blk = 1 ∧ cel < 4 then some (.port cel)
    else none
  else if cls = 9 ∧ cel = 31 then
    if blk < 4 then some (.stack blk)
    else if blk = 4 then some .arccom
    else none
  else none

/-- The byte offset of an address in its page (R13). -/
def pageOff (a : Nat) : Nat := a % 2 ^ 20

/-- The base address of a page (R13, R31 to R33). -/
def pageBase (p : Page) : Nat :=
  match p with
  | .cell c => c / 136 * 2 ^ 28 + c % 136 / 17 * 2 ^ 25 + c % 17 * 2 ^ 20
  | .block b => b / 8 * 2 ^ 28 + b % 8 * 2 ^ 25 + 0x1F00000
  | .engine r => r * 2 ^ 28 + 0x1E00000
  | .fp r => r * 2 ^ 28 + 0x3E00000
  | .qdrPort r => r * 2 ^ 28 + 0x5E00000
  | .tree r => r * 2 ^ 28 + 0x7E00000
  | .arb r => r * 2 ^ 28 + 0x9E00000
  | .rfault r => r * 2 ^ 28 + 0xBE00000
  | .hub => 0x81F00000
  | .port p => 0x82000000 + p * 2 ^ 20
  | .car => 0x83F00000
  | .cat => 0x85F00000
  | .evt => 0x87F00000
  | .pwr => 0x89F00000
  | .sec => 0x8BF00000
  | .cal => 0x8DF00000
  | .chr => 0x8FF00000
  | .stack n => 0x91F00000 + n * 2 ^ 25
  | .arccom => 0x99F00000

/-- Registers of the cell pages, spare cells included, part 1. -/
def rowsCellA : List RegRow :=
  [ ⟨0, 1, 4, 1, 4, 0, 0, 0x73, 0, 0, false⟩  -- CELL_MODE, R78
  , ⟨4, 1, 4, 1, 4, 0, 0, 0x37, 0, 0, false⟩  -- PIN_SWITCH, R78
  , ⟨8, 1, 4, 1, 4, 0, 3, 0x30, 0, 0, false⟩  -- DRIVE_CTRL, R78
  , ⟨0xC, 1, 4, 1, 4, 0, 0, 1, 0, 0, false⟩  -- LOAD_CTRL, R78
  , ⟨0x10, 1, 4, 1, 4, 0, 7, 0, 0, 0, false⟩  -- OPEN_WIRE, R78
  , ⟨0x14, 1, 4, 1, 4, 0x32, 0xFFF, 0, 0, 0, false⟩  -- LEVEL_SLEW, R78
  , ⟨0x20, 6, 4, 1, 4, 0x80004000, 0x8FFFFFFF, 0, 0, 0, false⟩  -- LEVEL_V, R78
  , ⟨0x38, 2, 4, 1, 4, 0, 0xFFFF, 0, 0, 0, false⟩  -- LEVEL_I, R78
  , ⟨0x40, 1, 4, 1, 4, 0xB6DB, 0xFFFF, 0, 0, 0, false⟩  -- VCLH_LEVEL, R78
  , ⟨0x44, 1, 4, 1, 4, 0x199A, 0xFFFF, 0, 0, 0, false⟩  -- VCLL_LEVEL, R78
  , ⟨0x48, 1, 4, 1, 4, 0x38E4, 0xFFFF, 0, 0, 0, false⟩  -- PPMU_SETPOINT, R208
  , ⟨0x50, 1, 4, 1, 4, 0, 0, 0, 0xFFFF703F, 0, false⟩  -- CELL_STATUS, R78
  , ⟨0x54, 1, 4, 1, 4, 0, 0, 0, 0x3F01FF, 0, true⟩  -- CELL_EVENT, R78
  , ⟨0x58, 1, 4, 1, 4, 0x2F, 0x3F, 0, 0, 0, false⟩  -- CELL_EVENT_EN, R78
  , ⟨0x60, 1, 4, 1, 4, 0, 0, 0, 0x1FFFF, 0, false⟩  -- DESKEW_CAL, R112
  , ⟨0x64, 1, 4, 1, 4, 0, 0, 0x1FFFF, 0, 0, false⟩  -- PIN_DELAY, R112
  , ⟨0x70, 1, 4, 1, 4, 0x80000000, 0, 0xFF0F003F, 0, 0, false⟩  -- PIN_SRC, R151
  , ⟨0x74, 1, 4, 1, 4, 0, 0, 0x3CFF0, 0, 0, false⟩  -- PIN_FORMAT, R151
  , ⟨0x78, 1, 4, 1, 4, 0x100, 0, 0x13F, 0, 0, false⟩  -- PIN_CAT, R179
  , ⟨0x80, 1, 4, 1, 4, 0x400, 0, 0x707, 0, 0, false⟩  -- PPMU_CTRL, R208
  , ⟨0x84, 1, 4, 1, 4, 0x1080100, 0, 0x830F0300, 0, 0, false⟩  -- MEAS_FILTER, R208
  , ⟨0x88, 1, 4, 1, 4, 0, 0, 0x1FFFFFF, 0, 0, false⟩  -- MEAS_ISHIFT, R208
  , ⟨0x8C, 1, 4, 1, 4, 2, 0, 0x1FFFFFF, 0, 0, false⟩  -- MEAS_CSHIFT, R208
  , ⟨0x90, 1, 4, 1, 4, 0x10010, 0, 0x800FFFFF, 0, 0, false⟩  -- MEAS_DET, R208
  , ⟨0x94, 1, 4, 1, 4, 0x7FFF8000, 0, 0xFFFFFFFF, 0, 0, false⟩  -- MEAS_LIMIT, R208
  , ⟨0x98, 1, 4, 1, 4, 4, 0, 0, 0xE0FF0007, 0, false⟩  -- MEAS_STATUS, R208
  , ⟨0xA0, 6, 8, 1, 4, 0, 0, 0, 0xFFFFFF, 0, false⟩  -- MEAS_OFFSET, R208
  , ⟨0xA4, 6, 8, 1, 4, 0x400000, 0, 0, 0xFFFFFF, 0, false⟩  -- MEAS_GAIN, R208
  , ⟨0xD0, 2, 4, 1, 4, 0, 0, 0, 0xFFFFFFFF, 0, false⟩  -- MEAS_WPOS, R208
  , ⟨0xD8, 1, 4, 1, 4, 0, 0, 0, 0xFFFFFFFF, 0, false⟩  -- MEAS_LAST, R208
  , ⟨0xE0, 6, 4, 1, 4, 0, 0, 0, 0xFFFFFFFF, 0, false⟩  -- DET, R208
  , ⟨0xF8, 2, 4, 1, 4, 0, 0, 0, 0xFFFFFFFF, 0, false⟩  -- MEAS_P0, R208
  , ⟨0x200, 1, 4, 1, 4, 0x10800, 0xF, 0x3333800, 0, 0, false⟩  -- WM_CTRL, R260
  , ⟨0x204, 1, 4, 1, 4, 0, 0, 0x8000010F, 0, 0, false⟩  -- WM_CAPT_CTRL, R260
  , ⟨0x208, 1, 4, 1, 4, 0, 0x80000007, 0, 0, 0, false⟩  -- WM_WAKE, R260
  , ⟨0x20C, 1, 4, 1, 4, 0, 0, 0, 0xFF, 0, false⟩  -- WM_STATUS, R260
  , ⟨0x210, 1, 4, 1, 4, 0, 0, 0, 0xFFFFFFFF, 0, false⟩  -- CAPT_WPOS, R260
  , ⟨0x240, 32, 4, 1, 4, 0, 0, 0, 0xFFFFFFFF, 0, false⟩  -- CAPT_ENTRY, R260
  , ⟨0x400, 17, 4, 1, 4, 0, 0, 0, 0xFFF0FFFF, 0, false⟩  -- LEVEL_TRIM, R484
  , ⟨0x444, 1, 4, 1, 4, 0x20, 0, 0, 0x3F, 0, false⟩  -- DRV_TRIM, R484
  ]

/-- Registers of the cell pages, spare cells included, part 2. -/
def rowsCellB : List RegRow :=
  [ ⟨0x448, 2, 4, 1, 4, 0, 0, 0, 0xFFFFFFFF, 0, false⟩  -- CAL_LAST, R484
  , ⟨0x1000, 16, 32, 6, 4, 0, 0, 0x9FFFFFFF, 0, 0, false⟩  -- TSET_EDGE, R112
  ]

/-- Registers of the cell pages, spare cells included. -/
def rowsCell : List RegRow := rowsCellA ++ rowsCellB

/-- Registers of the block pages, part 1. -/
def rowsBlockA : List RegRow :=
  [ ⟨0, 1, 4, 1, 4, 0x6401, 0xFF01, 0, 0, 0, false⟩  -- SPARE_CTRL, R78
  , ⟨4, 1, 4, 1, 4, 0x1F, 0, 0, 0xFFFF01FF, 0, false⟩  -- SPARE_STATUS, R78
  , ⟨8, 1, 4, 1, 4, 0, 0, 0, 0xFFFFFFFF, 0, false⟩  -- SUB_INCARNATION, R78
  , ⟨0x200, 1, 4, 1, 4, 0, 0x3FFFFFF, 0, 0, 0, false⟩  -- MEAS_RING_BASE, R208
  , ⟨0x204, 1, 4, 1, 4, 0x40, 0x3FFFFFF, 0, 0, 0, false⟩  -- MEAS_RING_DEPTH, R208
  , ⟨0x208, 1, 4, 1, 4, 0, 0, 0, 0x7F7F, 0, false⟩  -- DEC_STATUS, R208
  , ⟨0x20C, 1, 4, 1, 4, 0, 0, 0, 0xFFFFFFFF, 0, false⟩  -- MEAS_OVERRUN_COUNT, R208
  , ⟨0x210, 1, 4, 1, 4, 0, 0, 0, 0xF01FF, 0, true⟩  -- MEAS_EVENT, R208
  , ⟨0x214, 1, 4, 1, 4, 7, 0xF, 0, 0, 0, false⟩  -- MEAS_EVENT_EN, R208
  , ⟨0x218, 2, 4, 1, 4, 0, 0, 0, 0x1FFFF, 0, false⟩  -- MEAS_CH, R208
  , ⟨0x300, 4, 4, 1, 4, 0, 0, 0xFF373, 0, 0, false⟩  -- AMP_CTRL, R238
  , ⟨0x310, 2, 4, 1, 4, 0x100000, 0, 0xF33303FF, 0, 0, false⟩  -- FILT_CTRL, R238
  , ⟨0x320, 2, 32, 1, 4, 0x80000010, 0, 0x8FFF0337, 0, 0, false⟩  -- WDAC_CTRL, R238
  , ⟨0x324, 2, 32, 1, 4, 0x40004000, 0, 0xFFFFFFFF, 0, 0, false⟩  -- WDAC_LEVELS, R238
  , ⟨0x328, 2, 32, 1, 4, 1, 0, 0xFFFF, 0, 0, false⟩  -- WDAC_STEP, R238
  , ⟨0x32C, 2, 32, 1, 4, 0x70254, 0, 0xFFFFFFF, 0, 0, false⟩  -- WDAC_SLEW, R238
  , ⟨0x330, 2, 32, 1, 4, 1, 0, 0x7FFFFFFF, 0, 0, false⟩  -- WDAC_SEED, R238
  , ⟨0x334, 2, 32, 1, 4, 0x80004000, 0, 0, 0x8001FFFF, 0, false⟩  -- WDAC_OUT, R238
  , ⟨0x360, 1, 4, 1, 4, 0, 0, 0x303, 0, 0, false⟩  -- CM_CTRL, R238
  , ⟨0x364, 1, 4, 1, 4, 0x3FF, 0, 0, 0x3FF, 0, false⟩  -- COMM_STATUS, R238
  , ⟨0x368, 1, 4, 1, 4, 0, 0, 0, 0x3FFFFFF, 0, false⟩  -- COMM_OPENED, R238
  , ⟨0x36C, 1, 4, 1, 4, 0, 0, 0, 0x701FF, 0, true⟩  -- COMM_EVENT, R238
  , ⟨0x370, 1, 4, 1, 4, 7, 7, 0, 0, 0, false⟩  -- COMM_EVENT_EN, R238
  , ⟨0x400, 1, 4, 1, 4, 0, 3, 0, 0, 0, false⟩  -- MON_CTRL, R238
  , ⟨0x404, 1, 4, 1, 4, 0x623410, 0xFFFFFFFF, 0, 0, 0, false⟩  -- MON_PLAUS, R238
  , ⟨0x408, 1, 4, 1, 4, 0, 0, 0, 0xFE, 0, false⟩  -- MON_STATUS, R238
  , ⟨0x40C, 1, 4, 1, 4, 0, 0xFFFFFFFF, 0, 0, 0, false⟩  -- MON_URGENT_DROP, R238
  , ⟨0x410, 1, 4, 1, 4, 0, 0xFFFFFFFF, 0, 0, 0, false⟩  -- MON_SKIP, R238
  , ⟨0x414, 2, 4, 1, 4, 0x11000, 0x803F3000, 0, 0, 0, false⟩  -- MON_SCHED, R238
  , ⟨0x41C, 2, 4, 1, 4, 0, 0, 0, 0xFFFFFFFF, 0, false⟩  -- MON_URGENT_RESULT, R238
  , ⟨0x424, 1, 4, 1, 4, 0, 0, 0, 0xFFFFFFFF, 0, false⟩  -- PLAUS_RESULT, R238
  , ⟨0x428, 2, 8, 1, 4, 0, 0, 0, 0xFFFFFF, 0, false⟩  -- MON_OFFSET, R238
  , ⟨0x42C, 2, 8, 1, 4, 0x400000, 0, 0, 0xFFFFFF, 0, false⟩  -- MON_GAIN, R238
  , ⟨0x438, 1, 4, 1, 4, 0, 0, 0, 0xF01FF, 0, true⟩  -- MON_EVENT, R238
  , ⟨0x43C, 1, 4, 1, 4, 0xF, 0xF, 0, 0, 0, false⟩  -- MON_EVENT_EN, R238
  , ⟨0x500, 64, 4, 1, 4, 0x11B, 0xE00001FF, 0, 0, 0, false⟩  -- MON_ENTRY, R238
  , ⟨0x600, 64, 4, 1, 4, 0, 0, 0, 0xFFFFFFFF, 0, false⟩  -- MON_RESULT, R238
  , ⟨0x700, 1, 4, 1, 4, 1, 0x1FFFF, 0, 0, 0, false⟩  -- WAKE_CTRL, R260
  , ⟨0x704, 1, 4, 1, 4, 0, 0, 0, 0xF01FF, 0, true⟩  -- WM_EVENT, R260
  , ⟨0x708, 1, 4, 1, 4, 0xF, 0xF, 0, 0, 0, false⟩  -- WM_EVENT_EN, R260
  ]

/-- Registers of the block pages, part 2. -/
def rowsBlockB : List RegRow :=
  [ ⟨0x70C, 1, 4, 1, 4, 0, 0, 0, 0x3FFFF, 0, false⟩  -- WM_HIT, R260
  , ⟨0x800, 2, 256, 1, 4, 0x10800, 0xF, 0x33800, 0, 0, false⟩  -- CWM_CTRL, R260
  , ⟨0x804, 2, 256, 1, 4, 0, 0, 0x8000010F, 0, 0, false⟩  -- CWM_CAPT_CTRL, R260
  , ⟨0x808, 2, 256, 1, 4, 0, 0x80000007, 0, 0, 0, false⟩  -- CWM_WAKE, R260
  , ⟨0x80C, 2, 256, 1, 4, 0, 0, 0, 0xFF, 0, false⟩  -- CWM_STATUS, R260
  , ⟨0x810, 2, 256, 1, 4, 0, 0, 0, 0xFFFFFFFF, 0, false⟩  -- CWM_CAPT_WPOS, R260
  , ⟨0x840, 2, 256, 32, 4, 0, 0, 0, 0xFFFFFFFF, 0, false⟩  -- CWM_CAPT_ENTRY, R260
  , ⟨0x8C0, 2, 256, 2, 4, 0x4000, 0xFFFF, 0, 0, 0, false⟩  -- CWM_LEVEL, R260
  , ⟨0xA00, 1, 4, 1, 4, 0, 0xFF, 0, 0, 0, false⟩  -- FAB_HOST_IN, R291
  , ⟨0xA04, 1, 4, 1, 4, 0x11B011B, 0x1FF01FF, 0, 0, 0, false⟩  -- FAB_MONREQ, R291
  , ⟨0xA08, 2, 4, 1, 4, 0, 0, 0, 0xFFFFFFFF, 0, false⟩  -- FAB_OUT, R291
  , ⟨0xB00, 1, 4, 1, 4, 0x1F0000, 0, 0, 0x1F0103, 0, false⟩  -- CAL_BLK_STATE, R485
  , ⟨0xB04, 1, 4, 1, 4, 0x1FFFF, 0, 0, 0x1FFFF, 0, false⟩  -- CAL_BLK_STALE, R485
  , ⟨0xB08, 1, 4, 1, 4, 0, 0xFFFFFFFF, 0, 0, 0, false⟩  -- CAL_BLK_COUNTS, R485
  , ⟨0xB0C, 1, 4, 1, 4, 0, 0, 0, 0x1FFFFFFF, 0, false⟩  -- CAL_BLK_DEFAULT, R485
  , ⟨0xB10, 4, 4, 1, 4, 0, 0, 0, 0xFFF0FFFF, 0, false⟩  -- CAL_WTRIM, R485
  , ⟨0xB20, 1, 4, 1, 4, 0, 0, 0, 0xFFFFFFFF, 0, false⟩  -- CAL_ATRIM, R485
  , ⟨0xB24, 4, 4, 1, 4, 0, 0, 0, 0xFFF0FFFF, 0, false⟩  -- CAL_MTRIM, R485
  , ⟨0xB34, 1, 4, 1, 4, 0x4000, 0, 0, 0xFFFFFF, 0, false⟩  -- CAL_REF_E, R485
  , ⟨0xC00, 1, 4, 1, 4, 0, 0, 0, 0x80FF0000, 0, false⟩  -- BLOCK_FAULT, R520
  , ⟨0x440, 1, 4, 1, 4, 0, 0xFFFF, 0, 0, 0, false⟩  -- BUDGET_0, R318
  , ⟨0x444, 1, 4, 1, 4, 0, 0xFFFF, 0, 0, 0, false⟩  -- BUDGET_1, R318
  , ⟨0x448, 1, 4, 1, 4, 0, 0xFFFF, 0, 0, 0, false⟩  -- BUDGET_2, R318
  , ⟨0x44C, 1, 4, 1, 4, 0x10, 0xFFFF, 0, 0, 0, false⟩  -- BUDGET_3, R318
  , ⟨0x450, 1, 4, 1, 4, 0x10, 0xFFFF, 0, 0, 0, false⟩  -- BUDGET_4, R318
  , ⟨0x454, 1, 4, 1, 4, 0, 0xFFFF, 0, 0, 0, false⟩  -- BUDGET_5, R318
  , ⟨0x458, 1, 4, 1, 4, 0x20, 0xFFFF, 0, 0, 0, false⟩  -- BUDGET_6, R318
  , ⟨0x45C, 1, 4, 1, 4, 0x10, 0xFFFF, 0, 0, 0, false⟩  -- BUDGET_7, R318
  , ⟨0x464, 1, 4, 1, 4, 0x50, 0, 0, 0xFFFF, 0, false⟩  -- CAPACITY, R318
  , ⟨0x480, 1, 4, 1, 4, 0, 0, 0, 0x1FFFF, 0, false⟩  -- TSTAT_0, R318
  , ⟨0x484, 1, 4, 1, 4, 0, 0, 0, 0x1FFFF, 0, false⟩  -- TSTAT_1, R318
  , ⟨0x488, 1, 4, 1, 4, 0, 0, 0, 0x1FFFF, 0, false⟩  -- TSTAT_2, R318
  , ⟨0x48C, 1, 4, 1, 4, 0x10, 0, 0, 0x1FFFF, 0, false⟩  -- TSTAT_3, R318
  , ⟨0x490, 1, 4, 1, 4, 0x10, 0, 0, 0x1FFFF, 0, false⟩  -- TSTAT_4, R318
  , ⟨0x494, 1, 4, 1, 4, 0, 0, 0, 0x1FFFF, 0, false⟩  -- TSTAT_5, R318
  , ⟨0x498, 1, 4, 1, 4, 0x20, 0, 0, 0x1FFFF, 0, false⟩  -- TSTAT_6, R318
  , ⟨0x49C, 1, 4, 1, 4, 0x10, 0, 0, 0x1FFFF, 0, false⟩  -- TSTAT_7, R318
  , ⟨0x4A0, 8, 4, 1, 4, 0, 0xFFFFFFFF, 0, 0, 0, false⟩  -- DENIED, R318
  , ⟨0x4E0, 8, 4, 1, 4, 0, 0, 0, 0xFFFF, 0, false⟩  -- SPENT, R318
  ]

/-- Registers of the block pages. -/
def rowsBlock : List RegRow := rowsBlockA ++ rowsBlockB

/-- Registers of the itinerary engine pages. -/
def rowsEngine : List RegRow :=
  [ ⟨0, 1, 4, 1, 4, 0, 0, 0x3F3F0003, 0, 0, false⟩  -- ITIN_CTRL, R151
  , ⟨4, 1, 4, 1, 4, 0, 0, 0xC03FFFFF, 0, 0, false⟩  -- ITIN_RUN, R151
  , ⟨8, 2, 4, 1, 4, 0, 0, 0x3FFFFFF, 0, 0, false⟩  -- CODE_BASE_LEN, R151
  , ⟨0x10, 1, 4, 1, 4, 0, 0, 0, 0xFF071F03, 0, false⟩  -- ITIN_STATUS, R151
  , ⟨0x14, 1, 4, 1, 4, 0, 0, 0, 0x3FFFFF, 0, false⟩  -- ITIN_PC, R151
  , ⟨0x18, 2, 4, 1, 4, 0, 0, 0, 0xFFFFFFFF, 0, false⟩  -- BEAT, R151
  , ⟨0x20, 1, 4, 1, 4, 0, 0, 0, 0x3FFF3FFF, 0, false⟩  -- FIFO, R151
  , ⟨0x24, 2, 4, 1, 4, 0, 0, 0, 0xFFFFFFFF, 0, false⟩  -- FAULT_BEAT, R151
  , ⟨0x2C, 1, 4, 1, 4, 0, 0, 0, 0xFFFFFFFF, 0, false⟩  -- PAD_COUNT, R151
  , ⟨0x30, 1, 4, 1, 4, 0, 0, 0, 0xFFF01FF, 0, true⟩  -- ITIN_EVENT, R151
  , ⟨0x34, 1, 4, 1, 4, 0xFFF, 0xFFF, 0, 0, 0, false⟩  -- ITIN_EVENT_EN, R151
  , ⟨0x38, 1, 4, 1, 4, 0, 0, 0, 0xFFFFFFFF, 0, false⟩  -- WP_COUNT, R151
  , ⟨0x40, 1, 4, 1, 4, 0, 0, 0xFFFFFFFF, 0, 0, false⟩  -- VS_BASE_LO, R151
  , ⟨0x44, 1, 4, 1, 4, 0, 0, 0x3FFFFFF, 0, 0, false⟩  -- WP_STAGE, R151
  , ⟨0x48, 3, 4, 1, 4, 0, 0, 0xFFFFFFFF, 0, 0, false⟩  -- VS_REST, R151
  , ⟨0x60, 4, 4, 1, 4, 0xFFFFFFFF, 0, 0xFFFFFFFF, 0, 0, false⟩  -- SITE_EN, R151
  , ⟨0x100, 4, 4, 1, 4, 0, 0, 0xFFFFFF, 0, 0, false⟩  -- GEN_X, R151
  , ⟨0x110, 1, 4, 1, 4, 0xFFFFFF, 0, 0xFFFFFF, 0, 0, false⟩  -- GEN_XMAX, R151
  , ⟨0x114, 5, 4, 1, 4, 0, 0, 0xFFFFFF, 0, 0, false⟩  -- GEN_XXOR_Y, R151
  , ⟨0x128, 1, 4, 1, 4, 0xFFFFFF, 0, 0xFFFFFF, 0, 0, false⟩  -- GEN_YMAX, R151
  , ⟨0x12C, 1, 4, 1, 4, 0, 0, 0xFFFFFF, 0, 0, false⟩  -- GEN_YXOR, R151
  , ⟨0x130, 8, 4, 1, 4, 0, 0, 0xFFFFFFFF, 0, 0, false⟩  -- GEN_D, R151
  , ⟨0x150, 1, 4, 1, 4, 1, 0, 0x1F, 0, 0, false⟩  -- DG_CTRL, R151
  , ⟨0x154, 2, 4, 1, 4, 0, 0, 0xFFFFF, 0, 0, false⟩  -- TSEL, R151
  , ⟨0x160, 8, 4, 1, 4, 0, 0, 0xFFFFFFFF, 0, 0, false⟩  -- TOPO_MAP, R151
  , ⟨0x180, 1, 4, 1, 4, 0xA418820, 0, 0x3FFFFFFF, 0, 0, false⟩  -- XMAP0, R151
  , ⟨0x184, 1, 4, 1, 4, 0x16A4A0E6, 0, 0x3FFFFFFF, 0, 0, false⟩  -- XMAP1, R151
  , ⟨0x188, 1, 4, 1, 4, 0x2307B9AC, 0, 0x3FFFFFFF, 0, 0, false⟩  -- XMAP2, R151
  , ⟨0x18C, 1, 4, 1, 4, 0x2F6AD272, 0, 0x3FFFFFFF, 0, 0, false⟩  -- XMAP3, R151
  , ⟨0x190, 1, 4, 1, 4, 0xA418820, 0, 0x3FFFFFFF, 0, 0, false⟩  -- YMAP0, R151
  , ⟨0x194, 1, 4, 1, 4, 0x16A4A0E6, 0, 0x3FFFFFFF, 0, 0, false⟩  -- YMAP1, R151
  , ⟨0x198, 1, 4, 1, 4, 0x2307B9AC, 0, 0x3FFFFFFF, 0, 0, false⟩  -- YMAP2, R151
  , ⟨0x19C, 1, 4, 1, 4, 0x2F6AD272, 0, 0x3FFFFFFF, 0, 0, false⟩  -- YMAP3, R151
  , ⟨0x1A0, 8, 4, 1, 4, 0, 0, 0xFFFFFFFF, 0, 0, false⟩  -- LC, R151
  ]

/-- Registers of the fail processor pages. -/
def rowsFp : List RegRow :=
  [ ⟨0, 1, 4, 1, 4, 7, 0, 7, 0, 0, false⟩  -- FP_CTRL, R179
  , ⟨4, 1, 4, 1, 4, 0, 0, 0, 0xFFFF7FFF, 0, false⟩  -- FP_STATUS, R179
  , ⟨8, 3, 4, 1, 4, 0, 0, 0, 0xFFFFFFFF, 0, false⟩  -- FP_DROPS, R179
  , ⟨0x14, 1, 4, 1, 4, 0, 0, 0, 0x3F01FF, 0, true⟩  -- FP_EVENT, R179
  , ⟨0x18, 1, 4, 1, 4, 0x3F, 0x3F, 0, 0, 0, false⟩  -- FP_EVENT_EN, R179
  , ⟨0x100, 128, 4, 1, 4, 0, 0, 0, 0xFFFFFFFF, 0, false⟩  -- SITE_FAILS, R179
  , ⟨0x400, 16, 16, 1, 4, 0, 0, 0xFF1F1F07, 0, 0, false⟩  -- CATCH_WIN, R179
  , ⟨0x404, 16, 16, 1, 4, 0, 0, 0x3FFFFFF, 0, 0, false⟩  -- CATCH_BASE, R179
  , ⟨0x408, 16, 16, 1, 4, 0, 0, 0xFFFFFF, 0, 0, false⟩  -- CATCH_XORG, R179
  , ⟨0x40C, 16, 16, 1, 4, 0, 0, 0xFFFFFF, 0, 0, false⟩  -- CATCH_YORG, R179
  ]

/-- Registers of the strobe tree pages. -/
def rowsTree : List RegRow :=
  [ ⟨0, 1, 4, 1, 4, 0x700, 0, 0xFFFF07, 0, 0, false⟩  -- TREE_CTRL0, R112
  , ⟨0x10, 3, 16, 1, 4, 4, 0, 0xFFFF07, 0, 0, false⟩  -- TREE_CTRL, R112
  , ⟨4, 4, 16, 1, 4, 0, 0, 0, 7, 0, false⟩  -- TREE_STATUS, R112
  , ⟨0x40, 1, 4, 1, 4, 0, 0, 0, 7, 0, false⟩  -- REGION_TIMING, R112
  , ⟨0x100, 16, 4, 1, 4, 0x9C40, 0, 0xFFFFFFF, 0, 0, false⟩  -- BEAT_PERIOD, R112
  , ⟨0x200, 1, 4, 1, 4, 0, 0, 0, 0xFFFF00FF, 0, false⟩  -- FAB_STATUS, R291
  , ⟨0x204, 5, 4, 1, 4, 0, 0, 0, 0xFFFFFFFF, 0, false⟩  -- FAB_BUILD_TREE, R291
  , ⟨0x218, 1, 4, 1, 4, 0, 0, 0, 0xF01FF, 0, true⟩  -- FAB_EVENT, R291
  , ⟨0x21C, 1, 4, 1, 4, 0xF, 0xF, 0, 0, 0, false⟩  -- FAB_EVENT_EN, R291
  , ⟨0x220, 2, 4, 1, 4, 0, 0, 0, 0xFFFFFFFF, 0, false⟩  -- FAB_USER_HIT, R291
  ]

/-- Registers of the region arbiters pages, part 1. -/
def rowsArbA : List RegRow :=
  [ ⟨0, 1, 4, 1, 4, 0x3E80, 0xFFFF, 0, 0, 0, false⟩  -- BUDGET_0, R318
  , ⟨4, 1, 4, 1, 4, 0x2800, 0xFFFF, 0, 0, 0, false⟩  -- BUDGET_1, R318
  , ⟨8, 1, 4, 1, 4, 0x400, 0xFFFF, 0, 0, 0, false⟩  -- BUDGET_2, R318
  , ⟨0xC, 1, 4, 1, 4, 0x1000, 0xFFFF, 0, 0, 0, false⟩  -- BUDGET_3, R318
  , ⟨0x10, 1, 4, 1, 4, 0, 0xFFFF, 0, 0, 0, false⟩  -- BUDGET_4, R318
  , ⟨0x14, 1, 4, 1, 4, 0, 0xFFFF, 0, 0, 0, false⟩  -- BUDGET_5, R318
  , ⟨0x18, 1, 4, 1, 4, 0x2000, 0xFFFF, 0, 0, 0, false⟩  -- BUDGET_6, R318
  , ⟨0x1C, 1, 4, 1, 4, 0x580, 0xFFFF, 0, 0, 0, false⟩  -- BUDGET_7, R318
  , ⟨0x20, 1, 4, 1, 4, 0, 0xFF, 0, 0, 0, false⟩  -- LEND, R318
  , ⟨0x24, 1, 4, 1, 4, 0xA000, 0, 0, 0xFFFF, 0, false⟩  -- CAPACITY, R318
  , ⟨0x40, 1, 4, 1, 4, 0x3E80, 0, 0, 0x1FFFF, 0, false⟩  -- TSTAT_0, R318
  , ⟨0x44, 1, 4, 1, 4, 0x2800, 0, 0, 0x1FFFF, 0, false⟩  -- TSTAT_1, R318
  , ⟨0x48, 1, 4, 1, 4, 0x400, 0, 0, 0x1FFFF, 0, false⟩  -- TSTAT_2, R318
  , ⟨0x4C, 1, 4, 1, 4, 0x1000, 0, 0, 0x1FFFF, 0, false⟩  -- TSTAT_3, R318
  , ⟨0x50, 1, 4, 1, 4, 0, 0, 0, 0x1FFFF, 0, false⟩  -- TSTAT_4, R318
  , ⟨0x54, 1, 4, 1, 4, 0, 0, 0, 0x1FFFF, 0, false⟩  -- TSTAT_5, R318
  , ⟨0x58, 1, 4, 1, 4, 0x2000, 0, 0, 0x1FFFF, 0, false⟩  -- TSTAT_6, R318
  , ⟨0x5C, 1, 4, 1, 4, 0x580, 0, 0, 0x1FFFF, 0, false⟩  -- TSTAT_7, R318
  , ⟨0x60, 8, 4, 1, 4, 0, 0xFFFFFFFF, 0, 0, 0, false⟩  -- DENIED, R318
  , ⟨0x80, 1, 4, 1, 4, 0x70000, 0x7FF00, 0, 0xFF, 0, false⟩  -- ARB_0, R318
  , ⟨0x84, 1, 4, 1, 4, 0x60000, 0x7FF00, 0, 0xFF, 0, false⟩  -- ARB_1, R318
  , ⟨0x88, 1, 4, 1, 4, 0x41000, 0x7FF00, 0, 0xFF, 0, false⟩  -- ARB_2, R318
  , ⟨0x8C, 1, 4, 1, 4, 0x32000, 0x7FF00, 0, 0xFF, 0, false⟩  -- ARB_3, R318
  , ⟨0x90, 1, 4, 1, 4, 0, 0x7FF00, 0, 0xFF, 0, false⟩  -- ARB_4, R318
  , ⟨0x94, 1, 4, 1, 4, 0, 0x7FF00, 0, 0xFF, 0, false⟩  -- ARB_5, R318
  , ⟨0x98, 1, 4, 1, 4, 0x51000, 0x7FF00, 0, 0xFF, 0, false⟩  -- ARB_6, R318
  , ⟨0x9C, 1, 4, 1, 4, 0x14000, 0x7FF00, 0, 0xFF, 0, false⟩  -- ARB_7, R318
  , ⟨0xA0, 8, 4, 1, 4, 0, 0, 0, 0xFFFF, 0, false⟩  -- SPENT, R318
  , ⟨0x100, 1, 4, 1, 4, 0x70000, 0x7FF00, 0, 0xFF, 0, false⟩  -- LINK_ARB_0, R318
  , ⟨0x104, 1, 4, 1, 4, 0x60000, 0x7FF00, 0, 0xFF, 0, false⟩  -- LINK_ARB_1, R318
  , ⟨0x108, 1, 4, 1, 4, 0x41000, 0x7FF00, 0, 0xFF, 0, false⟩  -- LINK_ARB_2, R318
  , ⟨0x10C, 1, 4, 1, 4, 0x32000, 0x7FF00, 0, 0xFF, 0, false⟩  -- LINK_ARB_3, R318
  , ⟨0x110, 1, 4, 1, 4, 0, 0x7FF00, 0, 0xFF, 0, false⟩  -- LINK_ARB_4, R318
  , ⟨0x114, 1, 4, 1, 4, 0, 0x7FF00, 0, 0xFF, 0, false⟩  -- LINK_ARB_5, R318
  , ⟨0x118, 1, 4, 1, 4, 0x51000, 0x7FF00, 0, 0xFF, 0, false⟩  -- LINK_ARB_6, R318
  , ⟨0x11C, 1, 4, 1, 4, 0x14000, 0x7FF00, 0, 0xFF, 0, false⟩  -- LINK_ARB_7, R318
  , ⟨0x200, 1, 4, 1, 4, 0, 0xFFFFFFFF, 0, 0, 0, false⟩  -- QDR_ECC, R319
  , ⟨0x204, 1, 4, 1, 4, 0, 0, 0, 0x3FFFFF8, 0, false⟩  -- QDR_ECC_ADDR, R319
  , ⟨0x208, 1, 4, 1, 4, 0x80000000, 0x80000000, 0, 0x3FFFFF8, 0, false⟩  -- QDR_SCRUB, R319
  , ⟨0x20C, 1, 4, 1, 4, 0, 0xFFFFFFFF, 0, 0, 0, false⟩  -- LINK_XFER, R319
  ]

/-- Registers of the region arbiters pages, part 2. -/
def rowsArbB : List RegRow :=
  [ ⟨0x210, 1, 4, 1, 4, 0, 0, 0, 0x701FF, 0, true⟩  -- MEM_EVENT, R319
  , ⟨0x214, 1, 4, 1, 4, 7, 7, 0, 0, 0, false⟩  -- MEM_EVENT_EN, R319
  ]

/-- Registers of the region arbiters pages. -/
def rowsArb : List RegRow := rowsArbA ++ rowsArbB

/-- Registers of the region faults pages. -/
def rowsRfault : List RegRow :=
  [ ⟨0, 1, 4, 1, 4, 0, 0, 0, 0x80FF00FF, 0, false⟩  -- REGION_FAULT, R520
  , ⟨4, 1, 4, 1, 4, 0, 0, 0, 0xF01FF, 0, true⟩  -- REGION_FAULT_EVENT, R520
  , ⟨8, 1, 4, 1, 4, 0xF, 0xF, 0, 0, 0, false⟩  -- REGION_FAULT_EVENT_EN, R520
  ]

/-- Registers of the hub general page. -/
def rowsHub : List RegRow :=
  [ ⟨4, 1, 4, 1, 4, 0x1010040, 0, 0, 0xFFFF00FF, 0, false⟩  -- MODULE_ORDER, R7
  , ⟨0x10, 1, 4, 1, 4, 0, 0, 0, 0xFFFF007F, 0, false⟩  -- STEWARD_STATUS, R357
  , ⟨0x14, 1, 4, 1, 4, 0, 0, 0, 0x7FF00FF, 0, false⟩  -- STEWARD_USE, R357
  , ⟨0x18, 1, 4, 1, 4, 0, 0, 0, 0xFFFFFFFF, 0, false⟩  -- SESSION_INC, R357
  , ⟨0x1C, 1, 4, 1, 4, 0, 0xFFFFFFFF, 0, 0, 0, false⟩  -- CHAIN_DISCARD, R357
  , ⟨0x20, 1, 4, 1, 4, 0, 0, 0, 0x1F01FF, 0, true⟩  -- CMD_EVENT, R357
  , ⟨0x24, 1, 4, 1, 4, 0x1F, 0x1F, 0, 0, 0, false⟩  -- CMD_EVENT_EN, R357
  , ⟨0x100, 1, 4, 1, 4, 0, 0, 0, 0x80FF0000, 0, false⟩  -- CHIP_FAULT, R520
  , ⟨0x104, 1, 4, 1, 4, 0, 0, 0, 0xF01FF, 0, true⟩  -- CHIP_FAULT_EVENT, R520
  , ⟨0x108, 1, 4, 1, 4, 0xF, 0xF, 0, 0, 0, false⟩  -- CHIP_FAULT_EVENT_EN, R520
  , ⟨0x10C, 1, 4, 1, 4, 0, 0, 0, 0xFFFFFFFF, 0, false⟩  -- FAULT_LOG_WPOS, R520
  , ⟨0xF000, 1, 4, 1, 4, 0, 0xFFFF, 0, 0, 0, false⟩  -- BUDGET_0, R318
  , ⟨0xF004, 1, 4, 1, 4, 0, 0xFFFF, 0, 0, 0, false⟩  -- BUDGET_1, R318
  , ⟨0xF008, 1, 4, 1, 4, 0x80, 0xFFFF, 0, 0, 0, false⟩  -- BUDGET_2, R318
  , ⟨0xF00C, 1, 4, 1, 4, 0x200, 0xFFFF, 0, 0, 0, false⟩  -- BUDGET_3, R318
  , ⟨0xF010, 1, 4, 1, 4, 0x80, 0xFFFF, 0, 0, 0, false⟩  -- BUDGET_4, R318
  , ⟨0xF014, 1, 4, 1, 4, 0xC0, 0xFFFF, 0, 0, 0, false⟩  -- BUDGET_5, R318
  , ⟨0xF018, 1, 4, 1, 4, 0, 0xFFFF, 0, 0, 0, false⟩  -- BUDGET_6, R318
  , ⟨0xF01C, 1, 4, 1, 4, 0x40, 0xFFFF, 0, 0, 0, false⟩  -- BUDGET_7, R318
  , ⟨0xF024, 1, 4, 1, 4, 0x400, 0, 0, 0xFFFF, 0, false⟩  -- CAPACITY, R318
  , ⟨0xF040, 1, 4, 1, 4, 0, 0, 0, 0x1FFFF, 0, false⟩  -- TSTAT_0, R318
  , ⟨0xF044, 1, 4, 1, 4, 0, 0, 0, 0x1FFFF, 0, false⟩  -- TSTAT_1, R318
  , ⟨0xF048, 1, 4, 1, 4, 0x80, 0, 0, 0x1FFFF, 0, false⟩  -- TSTAT_2, R318
  , ⟨0xF04C, 1, 4, 1, 4, 0x200, 0, 0, 0x1FFFF, 0, false⟩  -- TSTAT_3, R318
  , ⟨0xF050, 1, 4, 1, 4, 0x80, 0, 0, 0x1FFFF, 0, false⟩  -- TSTAT_4, R318
  , ⟨0xF054, 1, 4, 1, 4, 0xC0, 0, 0, 0x1FFFF, 0, false⟩  -- TSTAT_5, R318
  , ⟨0xF058, 1, 4, 1, 4, 0, 0, 0, 0x1FFFF, 0, false⟩  -- TSTAT_6, R318
  , ⟨0xF05C, 1, 4, 1, 4, 0x40, 0, 0, 0x1FFFF, 0, false⟩  -- TSTAT_7, R318
  , ⟨0xF060, 8, 4, 1, 4, 0, 0xFFFFFFFF, 0, 0, 0, false⟩  -- DENIED, R318
  , ⟨0xF080, 1, 4, 1, 4, 0, 0x7FF00, 0, 0xFF, 0, false⟩  -- ARB_0, R318
  , ⟨0xF084, 1, 4, 1, 4, 0, 0x7FF00, 0, 0xFF, 0, false⟩  -- ARB_1, R318
  , ⟨0xF088, 1, 4, 1, 4, 0x60000, 0x7FF00, 0, 0xFF, 0, false⟩  -- ARB_2, R318
  , ⟨0xF08C, 1, 4, 1, 4, 0x32000, 0x7FF00, 0, 0xFF, 0, false⟩  -- ARB_3, R318
  , ⟨0xF090, 1, 4, 1, 4, 0x41000, 0x7FF00, 0, 0xFF, 0, false⟩  -- ARB_4, R318
  , ⟨0xF094, 1, 4, 1, 4, 0x70000, 0x7FF00, 0, 0xFF, 0, false⟩  -- ARB_5, R318
  , ⟨0xF098, 1, 4, 1, 4, 0, 0x7FF00, 0, 0xFF, 0, false⟩  -- ARB_6, R318
  , ⟨0xF09C, 1, 4, 1, 4, 0x14000, 0x7FF00, 0, 0xFF, 0, false⟩  -- ARB_7, R318
  , ⟨0xF0A0, 8, 4, 1, 4, 0, 0, 0, 0xFFFF, 0, false⟩  -- SPENT, R318
  ]

/-- Registers of the Caravan port pages. -/
def rowsPort : List RegRow :=
  [ ⟨0, 1, 4, 1, 4, 0x80000000, 0x80000000, 0, 0, 3, false⟩  -- PORT_CTRL, R401
  , ⟨4, 1, 4, 1, 4, 0x21000000, 0, 0, 0xFFFFFFFF, 0, false⟩  -- PORT_STATUS, R401
  , ⟨8, 1, 4, 1, 4, 0, 0, 0, 0x30FFF, 0, false⟩  -- PARTNER, R401
  , ⟨0xC, 1, 4, 1, 4, 0, 0, 0, 0xFFFFFFFF, 0, false⟩  -- PARTNER_INC, R401
  , ⟨0x10, 1, 4, 1, 4, 0, 0, 0, 0xFFFFF, 0, false⟩  -- LINK_DELAY, R401
  , ⟨0x14, 3, 4, 1, 4, 0, 0xFFFFFFFF, 0, 0, 0, false⟩  -- PORT_COUNTS, R401
  , ⟨0x20, 1, 4, 1, 4, 0, 0, 0, 0x3F01FF, 0, true⟩  -- PORT_EVENT, R401
  , ⟨0x24, 1, 4, 1, 4, 0x3D, 0x3F, 0, 0, 0, false⟩  -- PORT_EVENT_EN, R401
  , ⟨0xF000, 1, 4, 1, 4, 0, 0xFFFF, 0, 0, 0, false⟩  -- BUDGET_0, R318
  , ⟨0xF004, 1, 4, 1, 4, 0, 0xFFFF, 0, 0, 0, false⟩  -- BUDGET_1, R318
  , ⟨0xF008, 1, 4, 1, 4, 0x640, 0xFFFF, 0, 0, 0, false⟩  -- BUDGET_2, R318
  , ⟨0xF00C, 1, 4, 1, 4, 0x320, 0xFFFF, 0, 0, 0, false⟩  -- BUDGET_3, R318
  , ⟨0xF010, 1, 4, 1, 4, 0, 0xFFFF, 0, 0, 0, false⟩  -- BUDGET_4, R318
  , ⟨0xF014, 1, 4, 1, 4, 0x320, 0xFFFF, 0, 0, 0, false⟩  -- BUDGET_5, R318
  , ⟨0xF018, 1, 4, 1, 4, 0x258, 0xFFFF, 0, 0, 0, false⟩  -- BUDGET_6, R318
  , ⟨0xF01C, 1, 4, 1, 4, 0xC8, 0xFFFF, 0, 0, 0, false⟩  -- BUDGET_7, R318
  , ⟨0xF020, 1, 4, 1, 4, 0, 0xFF, 0, 0, 0, false⟩  -- LEND, R318
  , ⟨0xF024, 1, 4, 1, 4, 0xFA0, 0, 0, 0xFFFF, 0, false⟩  -- CAPACITY, R318
  , ⟨0xF040, 1, 4, 1, 4, 0, 0, 0, 0x1FFFF, 0, false⟩  -- TSTAT_0, R318
  , ⟨0xF044, 1, 4, 1, 4, 0, 0, 0, 0x1FFFF, 0, false⟩  -- TSTAT_1, R318
  , ⟨0xF048, 1, 4, 1, 4, 0x640, 0, 0, 0x1FFFF, 0, false⟩  -- TSTAT_2, R318
  , ⟨0xF04C, 1, 4, 1, 4, 0x320, 0, 0, 0x1FFFF, 0, false⟩  -- TSTAT_3, R318
  , ⟨0xF050, 1, 4, 1, 4, 0, 0, 0, 0x1FFFF, 0, false⟩  -- TSTAT_4, R318
  , ⟨0xF054, 1, 4, 1, 4, 0x320, 0, 0, 0x1FFFF, 0, false⟩  -- TSTAT_5, R318
  , ⟨0xF058, 1, 4, 1, 4, 0x258, 0, 0, 0x1FFFF, 0, false⟩  -- TSTAT_6, R318
  , ⟨0xF05C, 1, 4, 1, 4, 0xC8, 0, 0, 0x1FFFF, 0, false⟩  -- TSTAT_7, R318
  , ⟨0xF060, 8, 4, 1, 4, 0, 0xFFFFFFFF, 0, 0, 0, false⟩  -- DENIED, R318
  , ⟨0xF080, 1, 4, 1, 4, 0, 0x7FF00, 0, 0xFF, 0, false⟩  -- ARB_0, R318
  , ⟨0xF084, 1, 4, 1, 4, 0, 0x7FF00, 0, 0xFF, 0, false⟩  -- ARB_1, R318
  , ⟨0xF088, 1, 4, 1, 4, 0x60000, 0x7FF00, 0, 0xFF, 0, false⟩  -- ARB_2, R318
  , ⟨0xF08C, 1, 4, 1, 4, 0x32000, 0x7FF00, 0, 0xFF, 0, false⟩  -- ARB_3, R318
  , ⟨0xF090, 1, 4, 1, 4, 0, 0x7FF00, 0, 0xFF, 0, false⟩  -- ARB_4, R318
  , ⟨0xF094, 1, 4, 1, 4, 0x70000, 0x7FF00, 0, 0xFF, 0, false⟩  -- ARB_5, R318
  , ⟨0xF098, 1, 4, 1, 4, 0x51000, 0x7FF00, 0, 0xFF, 0, false⟩  -- ARB_6, R318
  , ⟨0xF09C, 1, 4, 1, 4, 0x14000, 0x7FF00, 0, 0xFF, 0, false⟩  -- ARB_7, R318
  , ⟨0xF0A0, 8, 4, 1, 4, 0, 0, 0, 0xFFFF, 0, false⟩  -- SPENT, R318
  ]

/-- Registers of the T port page, beside those of every port. -/
def rowsTport : List RegRow :=
  [ ⟨0x400, 1, 4, 1, 4, 0, 0x8FFFFFFF, 0, 0, 0, false⟩  -- PAIR_CTRL, R428
  , ⟨0x404, 1, 4, 1, 4, 0, 0, 0, 0xFFF00FFF, 0, false⟩  -- PAIR_STATUS, R428
  , ⟨0x408, 1, 4, 1, 4, 0, 0, 0, 0xFFFFFF, 0, false⟩  -- PAIR_ROLES, R428
  , ⟨0x40C, 1, 4, 1, 4, 0, 0, 0, 0x1FFFF, 0, false⟩  -- PAIR_PHASE, R428
  , ⟨0x410, 2, 4, 1, 4, 0, 0, 0, 0xFFFFFFFF, 0, false⟩  -- PAIR_SERIAL, R428
  , ⟨0x418, 2, 4, 1, 4, 0, 0xFFFFFFFF, 0, 0, 0, false⟩  -- PAIR_STALE_DIVERGE, R428
  , ⟨0x420, 8, 4, 1, 4, 0, 0, 0, 0xFFFFFFFF, 0, false⟩  -- TEN_INC, R428
  , ⟨0x440, 16, 4, 1, 4, 0, 0, 0, 0xFFFFFFFF, 0, false⟩  -- TEN_EXP, R428
  , ⟨0x480, 32, 4, 1, 4, 0, 0xFFFFFFFF, 0, 0, 0, false⟩  -- PAIR_TEN, R428
  , ⟨0x500, 2, 4, 1, 4, 0, 0xFFFFFFFF, 0, 0, 0, false⟩  -- MIRROR_BASE, R428
  , ⟨0x508, 1, 4, 1, 4, 0, 7, 0, 0, 0, false⟩  -- MIRROR_CTRL, R428
  , ⟨0x50C, 1, 4, 1, 4, 0, 0, 0, 0x1FFFF, 0, false⟩  -- MIRROR_QUEUE, R428
  , ⟨0x510, 2, 4, 1, 4, 0, 0xFFFFFFFF, 0, 0, 0, false⟩  -- WP_CKPT_BASE, R428
  , ⟨0x518, 1, 4, 1, 4, 0, 0x80000000, 0, 0, 0, false⟩  -- WP_CKPT_CTRL, R428
  , ⟨0x520, 8, 4, 1, 4, 0, 0, 0, 0xFFFFFFFF, 0, false⟩  -- WP_CKPT_COUNT, R428
  , ⟨0x560, 1, 4, 1, 4, 0, 0, 0, 0x1FF01FF, 0, true⟩  -- PAIR_EVENT, R428
  , ⟨0x564, 1, 4, 1, 4, 0x1FF, 0x1FF, 0, 0, 0, false⟩  -- PAIR_EVENT_EN, R428
  , ⟨0x570, 1, 4, 1, 4, 0, 0x80000000, 0, 0x7F, 0, false⟩  -- WITNESS_CTRL, R428
  , ⟨0x574, 1, 4, 1, 4, 0, 0, 0, 0xFFFF, 0, false⟩  -- WITNESS_RTT, R428
  ]

/-- Registers of the Caravan common page. -/
def rowsCar : List RegRow :=
  [ ⟨0, 1, 4, 1, 4, 0, 0xFFF, 0, 0, 0, false⟩  -- CARAVAN_ID, R400
  , ⟨4, 1, 4, 1, 4, 0x11E, 0xFBFFFFFF, 0, 0, 0, false⟩  -- GLB_CTRL, R400
  , ⟨8, 1, 4, 1, 4, 0, 0, 0, 0x10FFF, 0, false⟩  -- GLB_STATUS, R400
  , ⟨0xC, 1, 4, 1, 4, 0x186A0, 0x7FFFFFF, 0, 0, 0, false⟩  -- CMD_TIMEOUT, R400
  , ⟨0x10, 1, 4, 1, 4, 0x40, 0xFFFF, 0, 0, 0, false⟩  -- ABUSE_LIMIT, R400
  , ⟨0x14, 1, 4, 1, 4, 0, 0xFFFFFFFF, 0, 0, 0, false⟩  -- CAR_DROP, R400
  , ⟨0x18, 1, 4, 1, 4, 0, 0, 0, 0xFFF0FFF, 0, false⟩  -- CAR_LAST, R400
  , ⟨0x1C, 1, 4, 1, 4, 0, 0, 0, 0x1F01FF, 0, true⟩  -- CAR_EVENT, R400
  , ⟨0x20, 1, 4, 1, 4, 0x1F, 0x1F, 0, 0, 0, false⟩  -- CAR_EVENT_EN, R400
  , ⟨0x1000, 512, 4, 1, 4, 0, 0xFFFFFFFF, 0, 0, 0, false⟩  -- ROUTE, R400
  ]

/-- Registers of the Catalogue page. -/
def rowsCat : List RegRow :=
  [ ⟨0, 1, 4, 1, 4, 2, 0xFF02, 0, 0, 0, false⟩  -- CAT_CTRL, R179
  , ⟨4, 1, 4, 1, 4, 0, 0, 0, 0xE00FFFFF, 0, false⟩  -- CAT_STATUS, R179
  , ⟨8, 1, 4, 1, 4, 0x80000, 0xFFFFF, 0, 0, 0, false⟩  -- CAT_SITE_LIMIT, R179
  , ⟨0xC, 1, 4, 1, 4, 0x100000, 0xFFFFFFFF, 0, 0, 0, false⟩  -- CAT_NODE_LIMIT, R179
  , ⟨0x10, 8, 4, 1, 4, 0, 0, 0, 0xFFFFFFFF, 0, false⟩  -- CAT_UNCAT_INC, R179
  , ⟨0x30, 2, 4, 1, 4, 0, 0, 0, 0xFFFFFFFF, 0, false⟩  -- CAT_DELTA, R179
  , ⟨0x40, 6, 4, 1, 4, 0, 0, 0, 0xFFFFFFFF, 0, false⟩  -- LEDGER_BLW, R179
  , ⟨0x58, 2, 4, 1, 4, 0, 0xFFFFFFFF, 0, 0, 0, false⟩  -- LEDGER_RD, R179
  , ⟨0x60, 1, 4, 1, 4, 0, 0, 0, 0x3F01FF, 0, true⟩  -- CAT_EVENT, R179
  , ⟨0x64, 1, 4, 1, 4, 0x3F, 0x3F, 0, 0, 0, false⟩  -- CAT_EVENT_EN, R179
  , ⟨0x20000, 4096, 32, 1, 4, 0, 0xFF3F3F01, 0, 0, 0, false⟩  -- REPAIR_DESC word 0, R179
  , ⟨0x20004, 4096, 32, 1, 4, 0, 0x1FFFFFFF, 0, 0, 0, false⟩  -- REPAIR_DESC word 1, R179
  , ⟨0x20008, 4096, 32, 1, 4, 0, 0xFFFFFF, 0, 0, 0, false⟩  -- REPAIR_DESC word 2, R179
  , ⟨0x2000C, 4096, 32, 1, 4, 0, 0x1FFFFFFF, 0, 0, 0, false⟩  -- REPAIR_DESC word 3, R179
  , ⟨0x20010, 4096, 32, 1, 4, 0, 0xFFFFFF, 0, 0, 0, false⟩  -- REPAIR_DESC word 4, R179
  , ⟨0x20014, 4096, 32, 1, 4, 0, 0xFFFFFFFF, 0, 0, 0, false⟩  -- REPAIR_DESC word 5, R179
  , ⟨0x20018, 4096, 32, 1, 4, 0, 0xFFFFFFFF, 0, 0, 0, false⟩  -- REPAIR_DESC word 6, R179
  , ⟨0x2001C, 4096, 32, 1, 4, 0, 0, 0, 0, 0, false⟩  -- REPAIR_DESC word 7, R179
  , ⟨0x40000, 4096, 4, 1, 4, 0x7000000, 0, 0, 0xFFFFFF00, 0, false⟩  -- REPAIR_STATUS, R179
  ]

/-- Registers of the event tree page. -/
def rowsEvt : List RegRow :=
  [ ⟨0, 2, 4, 1, 4, 0, 0, 0, 0xFFFFFFFF, 0, false⟩  -- EVT_SUMMARY, R358
  , ⟨0x100, 48, 4, 1, 4, 0, 0, 0, 0xFFFFFFFF, 0, false⟩  -- EVT_PENDING, R358
  , ⟨0x300, 48, 4, 1, 4, 0, 0xFF, 0, 0, 0, false⟩  -- EVT_HOLDOFF, R358
  , ⟨0x1000, 1536, 4, 1, 4, 0x100000, 0x803F0000, 0, 0, 0, false⟩  -- EVT_ROUTE, R358
  ]

/-- Registers of the power page. -/
def rowsPwr : List RegRow :=
  [ ⟨0, 1, 4, 1, 4, 0xF0000000, 0, 0, 0xFFFC0000, 0, false⟩  -- PWR_STATE, R459
  , ⟨4, 1, 4, 1, 4, 5, 0x10F, 0, 0, 0, false⟩  -- PWR_CTRL, R459
  , ⟨8, 2, 4, 1, 4, 0, 0, 0, 0xFFFFFFFF, 0, false⟩  -- PWR_HELD_BLOCKS, R459
  , ⟨0x10, 1, 4, 1, 4, 0, 0, 0, 0xFF, 0, false⟩  -- PWR_HELD_REGIONS, R459
  , ⟨0x14, 1, 4, 1, 4, 0, 0, 0, 0xF000003F, 0, false⟩  -- PWR_WAKE_LAST, R459
  , ⟨0x20, 9, 4, 1, 4, 0xFFFFFFFF, 0, 0, 0xFFFFFFFF, 0, false⟩  -- PWR_DOM_STATE, R459
  , ⟨0x44, 1, 4, 1, 4, 0xFFFFFF, 0, 0, 0xFFFFFF, 0, false⟩  -- PWR_DOM_STATE9, R459
  , ⟨0x50, 1, 4, 1, 4, 0x2222222, 0, 0, 0xFFFFFFF, 0, false⟩  -- PWR_RAIL_STATUS, R459
  , ⟨0x54, 1, 4, 1, 4, 0x320, 0, 0, 0x3FF, 0, false⟩  -- VCORE_TARGET, R459
  , ⟨0x58, 1, 4, 1, 4, 0x64, 0xFFFF, 0, 0, 0, false⟩  -- RAIL_TIMEOUT, R459
  , ⟨0x60, 1, 4, 1, 4, 0x80000000, 0, 0, 0x817F00FF, 0, false⟩  -- RAIL_MAP0, R459
  , ⟨0x64, 1, 4, 1, 4, 0x80400000, 0, 0, 0x817F00FF, 0, false⟩  -- RAIL_MAP1, R459
  , ⟨0x68, 1, 4, 1, 4, 0x80410000, 0, 0, 0x817F00FF, 0, false⟩  -- RAIL_MAP2, R459
  , ⟨0x6C, 1, 4, 1, 4, 0x80420000, 0, 0, 0x817F00FF, 0, false⟩  -- RAIL_MAP3, R459
  , ⟨0x70, 1, 4, 1, 4, 0x81400000, 0, 0, 0x817F00FF, 0, false⟩  -- RAIL_MAP4, R459
  , ⟨0x74, 1, 4, 1, 4, 0x81410000, 0, 0, 0x817F00FF, 0, false⟩  -- RAIL_MAP5, R459
  , ⟨0x78, 1, 4, 1, 4, 0x81420000, 0, 0, 0x817F00FF, 0, false⟩  -- RAIL_MAP6, R459
  , ⟨0x80, 1, 4, 1, 4, 0, 0, 0, 0xF03FFFFF, 0, false⟩  -- STRONG_STATUS, R459
  , ⟨0x84, 1, 4, 1, 4, 0, 0, 0, 0xFFFFFFFF, 0, false⟩  -- STRONG_FAIL_PAGE, R459
  , ⟨0x88, 1, 4, 1, 4, 0, 0, 0, 0xFF01FF, 0, true⟩  -- PWR_EVENT, R459
  , ⟨0x8C, 1, 4, 1, 4, 0xFF, 0xFF, 0, 0, 0, false⟩  -- PWR_EVENT_EN, R459
  ]

/-- Registers of the security page. -/
def rowsSec : List RegRow :=
  [ ⟨0, 1, 4, 1, 4, 0x40000000, 0, 0, 0xFCF00000, 0, false⟩  -- SEC_STATUS, R504
  , ⟨4, 1, 4, 1, 4, 1, 0, 0, 0xFFFFFFFF, 0, false⟩  -- SEC_SERIAL_LO, R504
  , ⟨8, 1, 4, 1, 4, 0, 0, 0, 0xFFFFFFFF, 0, false⟩  -- SEC_SERIAL_HI, R504
  , ⟨0xC, 1, 4, 1, 4, 1, 0, 0, 0xFFFFFFFF, 0, false⟩  -- SEC_INCARNATION, R504
  , ⟨0x10, 1, 4, 1, 4, 0, 0, 0, 0x7F007F, 0, false⟩  -- SEC_ROLLBACK, R504
  , ⟨0x14, 1, 4, 1, 4, 0x9FFE, 0xFFFE, 0, 0, 0, false⟩  -- SEC_CHAIN_ALLOW, R504
  , ⟨0x18, 1, 4, 1, 4, 0, 1, 0, 0x7F00, 0, false⟩  -- SEC_ADMIT_CTRL, R504
  , ⟨0x1C, 1, 4, 1, 4, 0, 0, 0, 0x30FFF, 0, false⟩  -- SEC_REPLACED_PORT, R504
  , ⟨0x20, 4, 4, 1, 4, 0, 0, 0, 0xFFFFFFFF, 0, false⟩  -- SEC_REPLACED, R504
  , ⟨0x30, 1, 4, 1, 4, 0, 0, 0, 0x3F01FF, 0, true⟩  -- SEC_EVENT, R504
  , ⟨0x34, 1, 4, 1, 4, 0x3F, 0x3F, 0, 0, 0, false⟩  -- SEC_EVENT_EN, R504
  ]

/-- Registers of the calibration page. -/
def rowsCal : List RegRow :=
  [ ⟨0, 1, 4, 1, 4, 0xC00, 0, 0, 0xFE0F0F00, 0, false⟩  -- CAL_STATUS, R483
  , ⟨4, 1, 4, 1, 4, 2, 0, 0, 0x3FFFFFF, 0, false⟩  -- CAL_SLOT_STATE, R483
  , ⟨8, 1, 4, 1, 4, 0x800007D0, 0x8000FFFF, 0, 0, 0, false⟩  -- CAL_BG_CTRL, R483
  , ⟨0xC, 1, 4, 1, 4, 0, 0xFFFFFFFF, 0, 0, 0, false⟩  -- CAL_REJECT_TOTAL, R483
  , ⟨0x10, 1, 4, 1, 4, 0, 0, 0, 0xFF01FF, 0, true⟩  -- CAL_EVENT, R483
  , ⟨0x14, 1, 4, 1, 4, 0xFF, 0xFF, 0, 0, 0, false⟩  -- CAL_EVENT_EN, R483
  ]

/-- Registers of the Chronicle and folio page. -/
def rowsChr : List RegRow :=
  [ ⟨0, 2, 4, 1, 4, 0, 0, 0, 0xFFFFFFFF, 0, false⟩  -- CHR_NOW, R112
  , ⟨8, 1, 4, 1, 4, 0, 0xF33, 0, 0, 0, false⟩  -- CHR_CTRL, R112
  , ⟨0xC, 1, 4, 1, 4, 0, 0xC0, 0, 0x3F, 0, false⟩  -- CHR_STATUS, R112
  , ⟨0x10, 1, 4, 1, 4, 0, 0, 0, 0xFFFF, 0, false⟩  -- CHR_PHASE, R112
  , ⟨0x14, 1, 4, 1, 4, 0x32000000, 0, 0, 0xFFFFFFFF, 0, false⟩  -- KEEPER_RATIO, R112
  , ⟨0x18, 2, 4, 1, 4, 0, 0, 0, 0xFFFFFFFF, 0, false⟩  -- SLEEP_TICKS, R112
  , ⟨0x20, 3, 4, 1, 4, 0, 0, 0, 0xFFFFFFFF, 0, false⟩  -- SLEEP_UNCERT_CORR_RATIO, R112
  , ⟨0x2C, 1, 4, 1, 4, 0, 0, 0, 0x7F01FF, 0, true⟩  -- TIME_EVENT, R112
  , ⟨0x30, 1, 4, 1, 4, 0x7F, 0x7F, 0, 0, 0, false⟩  -- TIME_EVENT_EN, R112
  , ⟨0x100, 1, 4, 1, 4, 0, 0, 0, 0x7F07FFFF, 0, false⟩  -- FOL_USE, R399
  , ⟨0x104, 2, 4, 1, 4, 0, 0, 0, 0xFFFFFFFF, 0, false⟩  -- FOL_LAST, R399
  , ⟨0x10C, 1, 4, 1, 4, 0, 0xFFFFFFFF, 0, 0, 0, false⟩  -- FOL_SPLIT, R399
  , ⟨0x110, 1, 4, 1, 4, 0, 0, 0, 0x1F01FF, 0, true⟩  -- FOL_EVENT, R399
  , ⟨0x114, 1, 4, 1, 4, 0x1C, 0x1F, 0, 0, 0, false⟩  -- FOL_EVENT_EN, R399
  ]

/-- Registers of the archive stack pages. -/
def rowsStack : List RegRow :=
  [ ⟨0, 1, 4, 1, 4, 1, 0, 0, 0xFFFF0003, 0, false⟩  -- STACK_STATUS, R320
  ]

/-- Registers of the archive common page. -/
def rowsArccom : List RegRow :=
  [ ⟨0, 1, 4, 1, 4, 0x7800, 0, 0, 0xFFFF, 0, false⟩  -- BUDGET_0, R318
  , ⟨4, 1, 4, 1, 4, 0x3E8, 0xFFFF, 0, 0, 0, false⟩  -- BUDGET_1, R318
  , ⟨8, 1, 4, 1, 4, 0x190, 0xFFFF, 0, 0, 0, false⟩  -- BUDGET_2, R318
  , ⟨0xC, 1, 4, 1, 4, 0x190, 0xFFFF, 0, 0, 0, false⟩  -- BUDGET_3, R318
  , ⟨0x10, 1, 4, 1, 4, 0, 0xFFFF, 0, 0, 0, false⟩  -- BUDGET_4, R318
  , ⟨0x14, 1, 4, 1, 4, 0, 0xFFFF, 0, 0, 0, false⟩  -- BUDGET_5, R318
  , ⟨0x18, 1, 4, 1, 4, 0xC8, 0xFFFF, 0, 0, 0, false⟩  -- BUDGET_6, R318
  , ⟨0x1C, 1, 4, 1, 4, 0x28, 0xFFFF, 0, 0, 0, false⟩  -- BUDGET_7, R318
  , ⟨0x20, 1, 4, 1, 4, 0, 0xFF, 0, 0, 0, false⟩  -- LEND, R318
  , ⟨0x24, 1, 4, 1, 4, 0x7FF8, 0, 0, 0xFFFF, 0, false⟩  -- CAPACITY, R318
  , ⟨0x40, 1, 4, 1, 4, 0x7800, 0, 0, 0x1FFFF, 0, false⟩  -- TSTAT_0, R318
  , ⟨0x44, 1, 4, 1, 4, 0x3E8, 0, 0, 0x1FFFF, 0, false⟩  -- TSTAT_1, R318
  , ⟨0x48, 1, 4, 1, 4, 0x190, 0, 0, 0x1FFFF, 0, false⟩  -- TSTAT_2, R318
  , ⟨0x4C, 1, 4, 1, 4, 0x190, 0, 0, 0x1FFFF, 0, false⟩  -- TSTAT_3, R318
  , ⟨0x50, 1, 4, 1, 4, 0, 0, 0, 0x1FFFF, 0, false⟩  -- TSTAT_4, R318
  , ⟨0x54, 1, 4, 1, 4, 0, 0, 0, 0x1FFFF, 0, false⟩  -- TSTAT_5, R318
  , ⟨0x58, 1, 4, 1, 4, 0xC8, 0, 0, 0x1FFFF, 0, false⟩  -- TSTAT_6, R318
  , ⟨0x5C, 1, 4, 1, 4, 0x28, 0, 0, 0x1FFFF, 0, false⟩  -- TSTAT_7, R318
  , ⟨0x60, 8, 4, 1, 4, 0, 0xFFFFFFFF, 0, 0, 0, false⟩  -- DENIED, R318
  , ⟨0x80, 1, 4, 1, 4, 0x70000, 0x7FF00, 0, 0xFF, 0, false⟩  -- ARB_0, R318
  , ⟨0x84, 1, 4, 1, 4, 0x60000, 0x7FF00, 0, 0xFF, 0, false⟩  -- ARB_1, R318
  , ⟨0x88, 1, 4, 1, 4, 0x41000, 0x7FF00, 0, 0xFF, 0, false⟩  -- ARB_2, R318
  , ⟨0x8C, 1, 4, 1, 4, 0x32000, 0x7FF00, 0, 0xFF, 0, false⟩  -- ARB_3, R318
  , ⟨0x90, 1, 4, 1, 4, 0, 0x7FF00, 0, 0xFF, 0, false⟩  -- ARB_4, R318
  , ⟨0x94, 1, 4, 1, 4, 0, 0x7FF00, 0, 0xFF, 0, false⟩  -- ARB_5, R318
  , ⟨0x98, 1, 4, 1, 4, 0x51000, 0x7FF00, 0, 0xFF, 0, false⟩  -- ARB_6, R318
  , ⟨0x9C, 1, 4, 1, 4, 0x14000, 0x7FF00, 0, 0xFF, 0, false⟩  -- ARB_7, R318
  , ⟨0xA0, 8, 4, 1, 4, 0, 0, 0, 0xFFFF, 0, false⟩  -- SPENT, R318
  , ⟨0xC0, 8, 4, 1, 4, 0xF00, 0xFFFF, 0, 0, 0, false⟩  -- ARC_TA_SHARE, R318
  , ⟨0x200, 1, 4, 1, 4, 0, 0xFFFFFFFF, 0, 0, 0, false⟩  -- ARC_ECC, R320
  , ⟨0x204, 2, 4, 1, 4, 0, 0, 0, 0xFFFFFFFF, 0, false⟩  -- ARC_ECC_ADDR, R320
  , ⟨0x20C, 1, 4, 1, 4, 0, 0xFFFFFFFF, 0, 0, 0, false⟩  -- ARC_XFER, R320
  , ⟨0x210, 1, 4, 1, 4, 0x80000000, 0x80000000, 0, 0x1FFFFFFF, 0, false⟩  -- ARC_SCRUB, R320
  , ⟨0x214, 1, 4, 1, 4, 0, 0, 0, 0x701FF, 0, true⟩  -- ARC_EVENT, R320
  , ⟨0x218, 1, 4, 1, 4, 7, 7, 0, 0, 0, false⟩  -- ARC_EVENT_EN, R320
  ]

/-- Registers of the spare cell pages alone. -/
def rowsSpare : List RegRow :=
  [ ⟨0x100, 16, 4, 1, 4, 0, 0, 0, 0x1FFFF, 0, false⟩  -- SPARE_DESKEW, R112
  ]
/-- The registers of a page. The spare cell page adds SPARE_DESKEW (R90); the T port page adds the pair registers (R428). -/
def pageRows (p : Page) : List RegRow :=
  match p with
  | .cell c => if c % 17 = 16 then rowsCell ++ rowsSpare else rowsCell
  | .block _ => rowsBlock
  | .engine _ => rowsEngine
  | .fp _ => rowsFp
  | .qdrPort _ => []
  | .tree _ => rowsTree
  | .arb _ => rowsArb
  | .rfault _ => rowsRfault
  | .hub => rowsHub
  | .port p => if p = 2 then rowsPort ++ rowsTport else rowsPort
  | .car => rowsCar
  | .cat => rowsCat
  | .evt => rowsEvt
  | .pwr => rowsPwr
  | .sec => rowsSec
  | .cal => rowsCal
  | .chr => rowsChr
  | .stack _ => rowsStack
  | .arccom => rowsArccom

/-- Does a row hold a register at a byte offset? -/
def rowCovers (r : RegRow) (off : Nat) : Bool :=
  decide (r.off ≤ off) && decide ((off - r.off) / r.stride < r.n) && decide ((off - r.off) % r.stride / r.stride2 < r.n2)
    && decide ((off - r.off) % r.stride % r.stride2 = 0)

/-- The row of a register address, none for a hole (R35). -/
def rowOf (a : Nat) : Option RegRow :=
  match pageOf a with
  | some p => (pageRows p).find? (fun r => rowCovers r (pageOff a))
  | none => none

/-- The bits a register implements; every other bit is reserved and reads 0 (R18). -/
def RegRow.mask (r : RegRow) : Word := r.rw ||| r.fs ||| r.ro ||| r.sc

end Sys2Proof.Machine
end

