-- ==== Sys2Proof/Machine/State.lean ====
section
/-! DEFINITION. The state of the module as plain data: every register in one sparse map (R13), and beside it the state that
the rules give the units without a register. Maps are association lists keyed by numbers, and an absent entry stands for
the unit's record at reset. -/

namespace Sys2Proof.Machine

/-- A sparse map from numbers. -/
abbrev AMap (α : Type) := List (Nat × α)

/-! ### Steward (spec/11_commands_and_events.md) -/

/-- A reply or notice packet (Table CMD-6). -/
structure Reply where
  tag : BitVec 16
  status : Status
  opcode : BitVec 16
  chron : Word
  notice : Bool
  data : List Word
deriving DecidableEq, Repr

/-- QSTATUS.STATE (R356). -/
inductive QState where
  | disabled | running | error | stopped
deriving DecidableEq, Repr

/-- A host queue pair: its BAR0 registers (R356), the commands fetched and not yet started (R326), the replies written to
the ring, oldest first, and the packets held in D3hot (R328, R347). `resume` is the state before D3hot. -/
structure Queue where
  sqBaseLo : Word := 0
  sqBaseHi : Word := 0
  rqBaseLo : Word := 0
  rqBaseHi : Word := 0
  shadowLo : Word := 0
  shadowHi : Word := 0
  qcfg : Word := 0x0C0C0000
  qdest : BitVec 12 := 0
  sqTail : Nat := 0
  sqHead : Nat := 0
  rqHead : Nat := 0
  rqTail : Nat := 0
  err : Byte := 0
  session : Nat := 0
  state : QState := .disabled
  resume : QState := .disabled
  waiting : List (BitVec 16 × Cmd) := []
  replies : List Reply := []
  held : List Reply := []
deriving DecidableEq, Repr

/-- One remembered result read (R349, R350): the command's opcode, TARGET and parameters, and the change counts its result
had when it was last read. -/
structure SameRead where
  opcode : Nat
  target : Word
  params : List Word
  stamp : List Nat
deriving DecidableEq, Repr

/-- Whose session it is (R339). -/
inductive Owner where
  | queue (q : Nat)
  | chain (module session : Nat)
deriving DecidableEq, Repr

/-- A session (R339); `reads` holds the latest same read first. -/
structure Session where
  owner : Owner
  incarnation : Word
  reads : List SameRead
deriving DecidableEq, Repr

/-- A reservation (R341 to R344): session 0 is none, `ending` marks one released while a voted folio holds it. -/
structure Reservation where
  id : Word
  scope : Word
  target : Nat
  session : Nat
  expiry : Nat
  ending : Bool
deriving DecidableEq, Repr

/-- Work that goes on under a ticket, with what its end needs (R347). The comment of each names its command. -/
inductive Work where
  | contactCheck (pins tested : List Nat) (ctl voh vol : Word) (start sample : Nat) (applied : Bool)   -- PIN_CONTACT_CHECK
  | ending (tick : Nat) (status : Status) (result : List Word)            -- work done, its result ready at the tick
  | substitute (block cell : Nat)                                         -- SPARE_SUBSTITUTE, SPARE_RETURN
  | wmCheck (pins tested : List Nat) (start : Nat) (ready : Option Nat) (next passed : Nat)   -- WM_CHECK
  | itinLoad (regions dst len : Nat) (arcAddr : Option Nat) (data : List Byte) (crc : Word)   -- ITIN_LOAD
  | itinStop (regions : Nat)                                              -- ITIN_STOP_NOW
  | catchDump (region : Nat) (src len dst : Nat) (toHost : Bool)          -- CATCH_DUMP
  | solve (sites : List Nat)                                              -- REPAIR_SOLVE
  | dacReadback (cell dac : Nat) (a b : Option Word) (left : Nat)         -- DAC_READBACK
  | fabLoad (regions kind source addr : Nat) (folio : Word)               -- FAB_LOAD
  | dma (dir : Nat) (arcAddr : Nat) (region qdrAddr : Nat) (hostAddr : Nat) (len : Nat)   -- ARC_DMA
  | folio (slot : Nat)                                                    -- FOLIO_ACCEDE
  | barrier (n : Nat)                                                     -- GLOBAL_BARRIER
  | broadcast (until_ : Nat)                                              -- GLOBAL_BROADCAST
  | snapshot (serial : Nat)                                               -- GLOBAL_SNAPSHOT
  | reset (tick : Nat)                                                    -- GLOBAL_RESET
  | pairForm | pairHandover (mask : Nat) | pairRestore                    -- PAIR_FORM, PAIR_HANDOVER, PAIR_RESTORE
  | power                                                                 -- POWER_STATE
  | selfcal                                                               -- SELFCAL
  | calStore                                                              -- CAL_STORE
  | blockRestore (b : Nat) | regionRestore (r : Nat)                      -- BLOCK_RESTORE, REGION_RESTORE
  | moduleReset                                                           -- MODULE_RESET
  | other (opcode : Nat)                                                  -- any other ticketed command
deriving DecidableEq, Repr

/-- A ticket (R347, R348): `status` is none while the work runs. -/
structure Ticket where
  id : Word
  session : Nat
  queue : Option Nat
  tag : BitVec 16
  opcode : BitVec 16
  notify : Bool
  work : Work
  earliest : Nat
  status : Option Status
  result : List Word
deriving DecidableEq, Repr

/-- A vector's holdoff (R355): the time it ends, and whether the vector was raised in it. -/
structure VecHold where
  until_ : Nat
  raised : Bool
deriving DecidableEq, Repr

/-- A queue command for another module that waits for its reply (R390). -/
structure FwdCmd where
  queue : Nat
  tag : BitVec 16
  opcode : BitVec 16
  since : Nat
deriving DecidableEq, Repr

/-- Steward's own state. `source` is the rotation pointer of R322; `msix` lists the messages sent, oldest first;
`versions` counts the changes of Table CMD-11; `orphans` is the work of tickets released early (R348). -/
structure Steward where
  queues : AMap Queue := []
  sessions : AMap Session := []
  reservations : AMap Reservation := []
  tickets : AMap Ticket := []
  ticketSerial : Nat := 1
  reservationSerial : Nat := 1
  source : Nat := 80
  chainWaiting : List (Nat × BitVec 16 × Cmd) := []
  orphans : AMap Work := []
  vecHold : AMap VecHold := []
  msix : List Nat := []
  versions : AMap Nat := []
  d3hot : Bool := false
  busMaster : Bool := true
  restarting : Bool := false
  linkUp : Bool := true
  perst : Bool := true
  forwarded : List FwdCmd := []
deriving DecidableEq, Repr

/-! ### Memory units, arbiters and tariffs (spec/10_memory_and_arbitration.md) -/

/-- A transfer in flight (R300, R301), numbered by its ticket: the blocks delivered, the blocks in all, and the failed
attempts of the block in transit. -/
structure Xfer where
  seq : Nat
  blocks : Nat
  attempts : Nat
deriving DecidableEq, Repr

/-- What an arbiter keeps beside its ARB words (R303): its rotation pointer, and WAIT of each slot where the resource has no
ARB words. -/
structure ArbState where
  pointer : Nat
  waits : AMap Nat
deriving DecidableEq, Repr

/-- Memory units. `remainShare` is REMAIN of the archive region shares (R311, R313), none at its reset value. -/
structure MemUnits where
  qdrBad : List Nat := []
  arcBad : List Nat := []
  xfers : AMap Xfer := []
  linkFaults : List (Nat × Nat) := []       -- region, time of each transfer fault (R302)
  stackFaults : List (Nat × Nat) := []      -- stack, time of each transfer fault (R299)
  stackLines : List (Nat × Nat) := []       -- stack, time of each uncorrectable line (R299)
  arbs : AMap ArbState := []
  remainShare : AMap Int := []
  spent : AMap Nat := []                    -- units charged in the running period, by TSTAT register (R311)
  taPointer : Nat := 7
  hostWrites : List (Nat × List Byte) := [] -- writes made to host memory, oldest first
deriving DecidableEq, Repr

/-! ### Folios, Caravan and global operations (spec/12_folios_caravan_global.md) -/

/-- The states of Table FOL-4. -/
inductive FolState where
  | opened | prepared | voted | refusing | decided
deriving DecidableEq, Repr

/-- A folio slot (R364): the folio this module coordinates, or a member entry. `tombstone` marks an entry withdrawn before
its prepare (R374); `coordLost` a coordinator lost before its vote (R375); `primes` lists the regions whose engines it primes; `bound` lists reservation slots (R344); `fab` is the mask of regions it loads or unloads (R279). -/
structure Folio where
  id : Word
  chain : Bool
  coord : Bool
  state : FolState
  words : AMap Word
  deadline : Nat
  prepTick : Nat := 0
  acc : Nat := 0
  hop : Nat := 0
  bSpan : Nat := 0
  wSpan : Nat := 0
  members : List Nat := []
  votes : AMap (Bool × Byte) := []
  reason : Byte := 0
  reasonFrom : Nat := 0
  ticket : Word := 0
  outcomes : AMap (Bool × Byte) := []
  bound : List Nat := []
  order : Nat := 0
  fab : Nat := 0
  tombstone : Bool := false
  decidedAccede : Bool := false
  coordLost : Bool := false
  primes : List Nat := []
  session : Nat := 0
deriving DecidableEq, Repr

/-- What the module sends to another module (Table FOL-7 and the flits of the chapters). -/
inductive Msg where
  | forward (p : Packet)
  | command (dest : Nat) (session : Nat) (opcode : BitVec 16) (c : Cmd)
  | reply (dest session : Nat) (r : Reply)
  | announce (id : Word) (deadline : Nat)
  | prepare (p : Prepare)
  | vote (id : Word) (accede : Bool) (reason : Byte)
  | withdrawal (id : Word)
  | outcome (id : Word) (acceded : Bool) (reason : Byte)
  | barrierArrival (n timeout : Nat)
  | barrierRelease (n : Nat) (released : Bool) (tick : Nat)
  | broadcast (serial : Word) (opcode : BitVec 16) (c : Cmd)
  | snapshot (serial : Nat) (tick : Nat)
  | snapshotDone (serial : Nat)
  | globalReset (tick : Nat) (modules : List Nat)
  | beacon (value hops : Nat) (reSet : Bool) (root : Nat)
  | ten (dest type : Nat) (f : TenFlit)
  | form (f : TenFlit) (roles : Nat) (order : OrderCode)
  | dissolve (dest : Nat)
  | mirror (offset : Nat) (data : List Byte)
  | restore (offset : Nat) (data : List Byte)
  | frame (fseq fack : Nat) (nak : Bool)
  | credits (cls n : Nat)
  | keepAlive (region : Nat)
deriving DecidableEq, Repr

/-- One packet sent: the port (0 to 3), or none where it is routed to no port of its own, and its content. -/
structure Sent where
  port : Option Nat
  msg : Msg
deriving DecidableEq, Repr

/-- A port's link state beside its registers (R378 to R387). `unacked` lists the unacknowledged frames, oldest first;
`credits` counts by class what the partner gave; `used` the receive buffers in use, `owed` the credits of buffers that are free again
and not yet returned, and `taken` the flits received in the running tariff period (R315, R384); `lastNumber`, `lastSerial` and `lastInc` are the partner last admitted (R499). -/
structure PortInt where
  stepStart : Nat := 0
  attempts : Nat := 0
  credits : AMap Nat := []
  used : AMap Nat := []
  owed : AMap Nat := []
  taken : AMap Nat := []
  fseq : Nat := 0
  fack : Nat := 0
  unacked : List (Nat × Nat) := []      -- FSEQ, times sent
  lastGood : Nat := 0
  lastFrame : Nat := 0                   -- time of the last intact frame (R385)
  activeSince : Nat := 0
  waitUntil : Nat := 0
  faults : Nat := 0
  bars : Nat := 0
  malformed : List Nat := []
  partnerSerial : BitVec 64 := 0
  lastNumber : Nat := 0
  lastSerial : BitVec 64 := 0
  lastInc : Word := 0
deriving DecidableEq, Repr

/-- A barrier at the root (R394): the arrivals, the root's first arrival and its timeout. -/
structure Barrier where
  arrivals : List (Nat × Word)
  first : Nat
  timeout : Nat
deriving DecidableEq, Repr

/-- A snapshot record kept (R396, Table FOL-11). -/
structure SnapRec where
  serial : Nat
  words : List Word
deriving DecidableEq, Repr

/-- A snapshot the root awaits (R396). -/
structure SnapWait where
  serial : Nat
  tick : Nat
  done : List Nat
  ticket : Word
deriving DecidableEq, Repr

/-- Folio control, the Caravan ports and the global operations. -/
structure Caravan where
  folios : AMap Folio := []
  folioSerial : Nat := 1
  prepares : Nat := 0
  floodSerial : Nat := 1
  floodSeen : List (Nat × Word) := []
  ports : AMap PortInt := []
  held : List (Nat × Nat × Nat × Packet) := []   -- forwarding buffers: port, class, since, packet (R389)
  inbox : List Packet := []
  outbox : List Sent := []
  barriers : AMap Barrier := []                  -- at the root
  barrierTickets : AMap (Word × Nat × Nat) := [] -- ticket, arrival time and timeout of this module's own arrivals
  snapSerial : Nat := 1
  snapPending : List (Nat × Nat) := []           -- serial, S: the root's own captures to come
  snapRecords : List SnapRec := []
  snapWait : List SnapWait := []
  resetPending : List Nat := []                  -- R of the resets that name this module, at the root
  resetWait : List (Word × Nat) := []            -- ticket and R of the resets issued here
  reports : List Folio := []                     -- folios resolved here whose outcomes are awaited (R377)
  lastAcceded : Word := 0                        -- the last folio acceded (Table FOL-11)
  bcast : List (BitVec 16 × Cmd) := []           -- the root's own copies of its broadcasts (R395)
  bcastSeen : List (Nat × Word) := []            -- broadcasts taken, by origin and serial
  seen : AMap Word := []                         -- incarnation last seen of a module number (R391)
  lost : List Nat := []                          -- modules declared lost and not found again (R391)
deriving DecidableEq, Repr

/-! ### Pin cells and spare cells (spec/02_pin_cells.md) -/

/-- Where a level DAC's span sequence stands (Table PIN-4); `idle` also while a plain change slews. -/
inductive DacPhase where
  | idle | toSafe | dwell | toTarget
deriving DecidableEq, Repr

/-- A level DAC: its output code and the span in use (`fine`), the change under way from code `a` to `b` in `n` intervals of
which `k` have passed (R49), and the span sequence (R50, R51) with the register word it moves to. -/
structure Dac where
  out : Nat
  fine : Bool
  a : Nat
  b : Nat
  n : Nat
  k : Nat
  phase : DacPhase
  dwellEnd : Nat
  target : Word
deriving DecidableEq, Repr

/-- A driver's state (R52). -/
inductive DriveState where
  | z | vil | vih | vtt
deriving DecidableEq, Repr

/-- A cell's state beside its registers: its driver's state; the state its itinerary or fabric source last set (R52); what holds its pin's switch open (a fault without a spare, R72,
R73; contention, R215; the fabric, R285; a park, fence, power state or halt, R506, R507, R432, R440, R510), and whether it has its Doze settings (R440); the substitution
incarnation the cell last received (R74); and the registers that a contact check, WM_CHECK or SELFCAL restores (R64, R254,
R463). -/
structure CellInt where
  drive : DriveState := .z
  source : DriveState := .z
  faultOpen : Bool := false
  contentionOpen : Bool := false
  fabricOpen : Bool := false
  blockOpen : Bool := false
  doze : Bool := false
  switchInc : Word := 0
  saved : List (Nat × Word) := []
deriving DecidableEq, Repr

/-- Why the spare takes or returns a pin (SPARE_STATUS.REASON). -/
inductive CarryReason where
  | calibration | host
deriving DecidableEq, Repr

/-- A planned hand-off waiting for its quiet beat (R70, R71). -/
structure Handoff where
  cell : Nat
  toSpare : Bool
  reason : CarryReason
  ticket : Word
  since : Nat
deriving DecidableEq, Repr

/-- A fault substitution under way (Table PIN-9A): the faulted cell and the time of the fault. -/
structure FaultSub where
  cell : Nat
  since : Nat
  ticket : Word := 0
deriving DecidableEq, Repr

/-- A fault record (Table ERR-6), less its CRC. -/
structure FaultRec where
  level : Nat
  action : Nat
  code : Nat
  unit : Nat
  tick : Nat
  seq : Nat
  incarnation : Word
  detail : Word
deriving DecidableEq, Repr

/-! ### The Chronicle (spec/03_timing_and_chronicle.md) -/

/-- What the count rests on (R96, R107, R109). -/
inductive CountBy where
  | none | tref | keeper
deriving DecidableEq, Repr

/-- The clock: the Chronicle, the 5 ns ticks of real time since reset by which times that are no Chronicle ticks are told
(log entry 2), and the state of R82 to R109: `acceptedAt` is when TREF was last accepted, `acceptLate` whether the timeout of
Table TIME-5 has been recorded, `handbackAt` when the keeper ratio has been measured for the hand-back. `lastBeacon` is
the tick of the last accepted beacon; `lastRefill` and `refillDue` are times of real time (R311). -/
structure Clock where
  chron : Nat := 0
  uptime : Nat := 0
  by_ : CountBy := .none
  c0 : Nat := 0
  ratioAtEntry : Word := 0x32000000
  calValidAtEntry : Bool := false
  tempAtEntry : Int := 0
  temperature : Int := 0
  entrySince : Nat := 0
  sleeping : Bool := false
  waking : Bool := false
  wakeAt : Nat := 0
  acceptedAt : Nat := 0
  acceptLate : Bool := false
  handbackAt : Option Nat := none
  lastBeacon : Option Nat := none
  followerSince : Nat := 0
  firstTick : Option Nat := none
  reSetMark : Bool := false
  lastRefill : Nat := 0
  refillDue : Option Nat := none
deriving DecidableEq, Repr

/-- A strobe tree's switch in transit (Table TIME-3): the setting it moves to and the time of the accession. -/
structure TreeSwitch where
  setting : Word
  since : Nat
  released : Bool
deriving DecidableEq, Repr


/-! ### The itinerary engine (spec/04_itinerary_engine.md) -/

/-- A frame in raw form (R136): its number in the run, the instruction that generated it with its opcode, whether it is that
instruction's first and last, TSET, CMD, X, Y, XE, YE, the data words and stored-vector records by lane, CMP, and the iteration of a MATCH it belongs to. -/
structure ItinFrame where
  serial : Nat
  instr : Nat
  op : Nat
  first : Bool
  last : Bool
  tset : Nat
  cmd : Nat
  x : Nat
  y : Nat
  xe : Nat
  ye : Nat
  words : List Nat
  stream : List Nat
  cmp : Nat
  iter : Nat := 0
deriving DecidableEq, Repr

/-- What a run takes from the registers, the staged ones included, at its prepare; none of it can change during the run
(R136): log2 FRAME, RDLAT, WRLAT, CODE_BASE, CODE_LEN, VS_BASE and VS_LEN. -/
structure ItinCfg where
  frame : Nat := 0
  rdLat : Nat := 0
  wrLat : Nat := 0
  codeBase : Nat := 0
  codeLen : Nat := 0
  vsBase : Nat := 0
  vsLen : Nat := 0
deriving DecidableEq, Repr

/-- The shadow bank (R146): the frame after which the snapshot stands, the tag, the next instruction, the call stack, the
generator registers and the stream position; `taken` holds the beat, its tick, the fail flags and the valid sites once the
WAYPOINT's last beat has left. -/
structure WpSnap where
  serial : Nat
  tag : Word
  next : Nat
  stack : List Nat
  gen : List Word
  streamPos : Nat
  taken : Option (Nat × Nat × Nat × Nat)
deriving DecidableEq, Repr

/-- A drive edge that fires in the following beat (R87): pin, time in units of 250 fs, edge number and the state it sets. -/
structure LateEdge where
  pin : Nat
  time : Int
  edge : Nat
  state : DriveState
deriving DecidableEq, Repr

/-- A failing compare (R154): pin, strobe, lane, and the frame that generated the expectation. -/
structure FailBit where
  pin : Nat
  strobe : Nat
  lane : Nat
  frame : ItinFrame
deriving DecidableEq, Repr

/-- What the pin side waits for (R133, R134): a BRF, and whether its flow decision has been taken; or a MATCH with the frames
of its iteration, those of it played, its number, the sites matched, the fails of iterations by site, and whether its decision
has been taken. -/
inductive Wait where
  | brf (decided : Bool)
  | match_ (frames : List ItinFrame) (pos iter matched : Nat) (fails : AMap Nat) (decided : Bool)
deriving DecidableEq, Repr

/-- An itinerary engine beside its registers. The engine: the state before PRIMING (R137), ACTION of its prepare, the code
cache, the working generator registers by LDREG index, the next instruction and the frames of it already emitted, the call
stack (top first), XW and YW, frames generated, the stream position, the FIFO (oldest first), whether it waits for a BRF or
MATCH, whether HALT has been emitted, and a pending fault code. The pin side: the accession tick, the start of the next beat
in units of 250 fs from it, the lane and number of the present frame, whether that is a pad or tail frame, the delayed
actions by landing frame, what fires late (`lateCmp`: a compare of the last beat samples in
the next one), fail flags with the frame that last cleared them, valid sites, and stops (in
units of 250 fs of the Chronicle) with their tickets; `invalidSites` holds sites and the time from which their results are
invalid here (R141). -/
structure Engine where
  prev : Nat := 0
  action : Nat := 0
  cfg : ItinCfg := {}
  cache : List Nat := []
  gen : List Word := []
  pc : Nat := 0
  emitted : Nat := 0
  stack : List Nat := []
  xw : Bool := false
  yw : Bool := false
  serial : Nat := 0
  streamPos : Nat := 0
  fifo : List ItinFrame := []
  blocked : Bool := false
  ended : Bool := false
  err : Nat := 0
  shadow : Option WpSnap := none
  beatBase : Nat := 0
  codeCrc : Word := 0
  accTick : Nat := 0
  time : Nat := 0
  lane : Nat := 0
  frameNo : Nat := 0
  cur : Option ItinFrame := none
  padding : Bool := false
  wait : Option Wait := none
  lag : List (Nat × ItinFrame) := []
  lateEdges : List LateEdge := []
  lateFails : List FailBit := []
  lateCmp : Bool := false
  flags : Nat := 0
  clrf : Nat := 0
  valid : Nat := 2 ^ 128 - 1
  stopAt : Option Nat := none
  stopTickets : List Word := []
  invalidSites : List (Nat × Nat) := []
deriving DecidableEq, Repr

/-! ### Fail capture and the Catalogue (spec/05_fail_capture_and_catalogue.md) -/

/-- A Ledger record (Table FAIL-1), less its region. -/
structure LedRec where
  type : Nat
  strobe : Nat := 0
  group : Nat := 0
  site : Nat := 0
  seq : Nat := 0
  lane : Nat := 0
  x : Nat := 0
  y : Nat := 0
  instr : Nat := 0
  beat : Nat := 0
  mask : Nat := 0
deriving DecidableEq, Repr

/-- A Catalogue update (R167). -/
structure CatUpd where
  site : Nat
  x : Nat
  y : Nat
  io : Nat
deriving DecidableEq, Repr

/-- A region's fail processor: the Ledger buffer, the next sequence number, the drops since the last record that entered with
the beat of the first (R160), the 1 ns interval last used and the records it took (R159), when the partial block's first
record came (R158), the catch queue as window, QDR byte address and bit, the Catalogue queue, and the sites and pins whose
results are invalid. -/
structure FailProc where
  buf : List LedRec := []
  seq : Nat := 0
  gapN : Nat := 0
  gapBeat : Nat := 0
  interval : Nat := 0
  intervalN : Nat := 0
  firstAt : Nat := 0
  catchQ : List (Nat × Nat × Nat) := []
  catQ : List CatUpd := []
  invSites : Nat := 0
  invPins : List Nat := []
deriving DecidableEq, Repr

/-- A Catalogue entry that is VALID (Table FAIL-3). -/
structure CatEntry where
  site : Nat
  y : Nat
  x : Nat
  count : Nat
  io : Nat
deriving DecidableEq, Repr

/-- How the last solve of a repair region ended, since its last change (R175). -/
inductive SolveOut where
  | none
  | solved (rows cols : List Nat)
  | limit
  | unrepairable
deriving DecidableEq, Repr

/-- A repair region beside its descriptor: the must-repair rows and columns found so far, whether they are in excess (R174),
the outcome and nodes of its last search, and whether its descriptor was written since (R172). -/
structure Repair where
  rows : List Nat := []
  cols : List Nat := []
  excess : Bool := false
  out : SolveOut := .none
  nodes : Nat := 0
  fresh : Bool := false
deriving DecidableEq, Repr

/-- A solve under way: its sites, the tick by which it ends (R175) and its ticket, 0 for none. -/
structure Solve where
  sites : Nat
  until_ : Nat
  ticket : Word
deriving DecidableEq, Repr

/-- The Catalogue and the repair allocator: the entries by index and those being purged, the reason by uncatalogued site, the
CAT_CLEAR tickets that wait for the sweep, the repair regions to be re-evaluated (R174) and the sites to be re-derived after
an overflow, the repair regions in use, sites with the OUTSIDE flag and with invalid results, the sites of runs begun since
their last automatic solve (R175), the solves under way, oldest first, and whether the ring has been reported full (R159). -/
structure CatHub where
  entries : AMap CatEntry := []
  purge : AMap CatEntry := []
  reasons : AMap Nat := []
  purgeTickets : List Word := []
  deltas : List Nat := []
  rescan : Nat := 0
  repairs : AMap Repair := []
  outside : Nat := 0
  invalid : Nat := 0
  due : Nat := 0
  solves : List Solve := []
  ringFull : Bool := false
deriving DecidableEq, Repr

/-! ### Measuring channels (spec/06_parametric_measurement.md) -/

/-- A measuring channel beside its registers: the outputs and fast windows completed since its last restart (R187, R191), and log2 D
of the filter since; its
latest change (R190) with its tick, whether it owes analogue settling, the outputs it tags and the outputs completed when it
fell, and the last tick that earlier changes tag; whether a COARSE word is due; the over-range detector with its sign,
recovery and its end, whether the present output's window holds an over-range sample, and whether OVR_START has been recorded
since the last clean output (R192, R193); OVERRUN owed to the next word (R197); and the detector window so far, with the
envelope (R200). -/
structure Chan where
  outputs : Nat := 0
  windows : Nat := 0
  since : Nat := 0
  analog : Bool := false
  tagged : Nat := 0
  base : Nat := 0
  until_ : Nat := 0
  coarseDue : Bool := false
  ovr : Bool := false
  logd : Nat := 8
  positive : Bool := false
  recovering : Bool := false
  recoverAt : Nat := 0
  overSeen : Bool := false
  overNoted : Bool := false
  overrun : Bool := false
  detN : Nat := 0
  detSum : Int := 0
  detMax : Int := 0
  detMin : Int := 0
  detSq : Nat := 0
  detTags : Nat := 0
  env : Nat := 0
deriving DecidableEq, Repr

/-- A range or function change under way (Table MEAS-3): when its second step falls, and whether the PPMU holds the pin's
voltage until then. -/
structure PpmuChange where
  due : Nat
  hold : Bool
deriving DecidableEq, Repr

/-! ### The commons and the monitor converters (spec/07_analog_commons.md) -/

/-- A waveform DAC cell beside its registers: its DAC, whose `target` is its WDAC_CTRL word in a span sequence (R218, R221); the
generator's target code, direction and shift register, and whether its next tree edge is update 0 (R219). -/
structure Wdac where
  dac : Dac
  target : Nat
  rising : Bool
  lfsr : Nat
  fresh : Bool
deriving DecidableEq, Repr

/-- What a conversion is for (R225, R233, R235): a schedule entry; an urgent request of the host, whose reply waits for it, or
of the fabric; a DAC read-back under a ticket; the ground and reference conversions of a recalibration; or a host request already answered
with a fault. -/
inductive ConvFor where
  | entry (e : Nat)
  | host (op : BitVec 16) (c : Cmd)
  | fabric
  | readback (ticket : Word)
  | recal (reference : Bool)
  | unclaimed
deriving DecidableEq, Repr

/-- A conversion under way: its purpose, input code, when it started, whether its input was still settling then (R230), and the
coefficients that apply to it (R235). -/
structure ConvRun where
  what : ConvFor
  input : Nat
  start : Nat
  settling : Bool
  offset : Word
  gain : Word
deriving DecidableEq, Repr

/-- A recalibration of a converter (R235): when it fell due, and the conversions of ground and reference with their sums. -/
structure Recal where
  due : Nat
  grounds : Nat
  groundSum : Int
  refs : Nat
  refSum : Int
deriving DecidableEq, Repr

/-- A monitor converter beside its registers: the conversion under way, the pending schedule entry and the next one (R227), how
often each entry has completed or been skipped and which entries owe OVERRUN (R227, R230), the queued requests, oldest first,
as purpose and input (R225), the urgent conversions so far, when the last over-range conversion ended (R231), and the
recalibration. -/
structure Conv where
  run : Option ConvRun := none
  pending : Option Nat := none
  next : Nat := 0
  counts : AMap Nat := []
  owed : List Nat := []
  queue : List (ConvFor × Nat) := []
  urgents : Nat := 0
  lastOver : Option Nat := none
  recal : Option Recal := none
deriving DecidableEq, Repr

/-- The plausibility check of a block (R233): none, due but without budget, waiting for the converters, or converting. -/
inductive Plaus where
  | none | due | waiting | running
deriving DecidableEq, Repr

/-! ### Window monitors (spec/08_comparator_network.md) -/

/-- A window monitor beside its registers: the values last reported of CH and CL (R244), the blanking memory (R249), the time
of its last enabled edge and of its last captured edge in units of 250 fs (R247, R252), and whether the next entry carries
MISSED. -/
structure Wmon where
  repH : Bool := false
  repL : Bool := false
  memH : Bool := false
  memL : Bool := false
  lastEdge : Option Nat := none
  lastCapt : Option Nat := none
  missed : Bool := false
deriving DecidableEq, Repr

/-! ### The logic fabric (spec/09_logic_fabric.md) -/

/-- A configuration plane: the bytes of the region's section of an image (Table FAB-7) that are not zero, by offset, and the
image's build ID. -/
structure Plane where
  bytes : List Host.Cell
  build : Nat
deriving DecidableEq, Repr

/-- The shadow plane (Table FAB-10): its load's folio and ticket, what it holds when LOADED (a configuration, or none for an
unload), and whether a failure code has been written to LOAD_RESULT. -/
structure Shadow where
  folio : Word
  ticket : Word
  plane : Option Plane
  failed : Bool := false
deriving DecidableEq, Repr

/-- A region's fabric: the active plane; the flops by 512 b + c, the wire registers of local segments by 2,048 b + s and of long
segments by 16,384 + L, and both stages of the input taps by 64 b + t (R262, R265, R269), as sets of bits; the toggles of taps 54 and 55 by 2 b + converter;
the outputs by block, those that have risen since their event, and the time of each user event's last rise by 8 b + u (R277); and
the shadow. -/
structure Fabric where
  active : Option Plane := none
  flops : Nat := 0
  wires : Nat := 0
  taps1 : Nat := 0
  taps2 : Nat := 0
  convToggle : Nat := 0
  outs : AMap Nat := []
  rises : AMap Nat := []
  lastUser : AMap Nat := []
  shadow : Option Shadow := none
deriving DecidableEq, Repr

/-! ### Pair operation (spec/13_pair_operation.md) -/

/-- An entry that this module holds as a witness (R413): a region of the pair of members `a` and `b`. -/
structure WitEntry where
  region : Nat
  a : Nat
  b : Nat
  holder : Nat
  inc : Word
  expiry : Nat
deriving DecidableEq, Repr

/-- A formation under way (R403, R404): its ticket, the time PAIR_FORM was issued, the tick this member proposed, and, when
every check has passed, F with the partner's incarnations. -/
structure PairForming where
  ticket : Word
  since : Nat
  proposed : Nat
  passed : Option (Nat × List Word)
deriving DecidableEq, Repr

/-- A FORM received from the partner (R403), with the time it came: its requested roles, order code, the round trip to the
witness when that answered REGISTER with a grant, and whether the partner is ALIGNED and not ESTIMATED. -/
structure FormHeard where
  f : TenFlit
  roles : Nat
  order : OrderCode
  witness : Option Nat
  aligned : Bool
  at_ : Nat
deriving DecidableEq, Repr

/-- A handover commanded here (R414): its ticket, H, the regions that have not reached their boundary, and those whose new
holder has not yet sent TAKEN. -/
structure Handover where
  ticket : Word
  tick : Nat
  left : List Nat
  waits : List Nat
deriving DecidableEq, Repr

/-- Pair operation. `replaced` bars tenancy flits to a foreign partner (R423); `asked` holds the tick of the last
TAKEOVER_REQ of each region in TAKING; `enabling` lists regions that drive from their next beat boundary (R412); `diverged`
is the refill under which DIVERGE was last recorded (R407); `mirrorQ` are the mirror packets that wait, `wpWait` the waypoint records that wait to enter them (region, offset, data) and `mirrorHeader` the
header last sent (R420, R421); `restoring` holds mirroring back until PAIR_RESTORE ends (R423); `ckpt` lists the staging slots
to be checkpointed (R418). -/
structure PairInt where
  forming : Option PairForming := none
  heard : Option FormHeard := none
  replaced : Bool := false
  asked : AMap Nat := []
  enabling : List Nat := []
  handover : Option Handover := none
  witness : List WitEntry := []
  witnessHeard : Bool := false
  diverged : Option Nat := none
  mirrorQ : List (Nat × List Byte) := []
  mirrorHeader : List Byte := []
  wpWait : List (Nat × Nat × List Byte) := []
  resync : Bool := false
  restoring : Bool := false
  ckpt : List (Nat × Nat) := []
deriving DecidableEq, Repr

/-! ### Power (spec/14_power_and_startup.md) -/

/-- A power target (R436): a power state, 0 Off to 3 Awake, and the masks of held blocks and regions. -/
structure PowerTarget where
  state : Nat := 3
  blocks : Nat := 0
  regions : Nat := 0
deriving DecidableEq, Repr

/-- A request for a power target: its ticket, and what raised it (PWR_WAKE_LAST); ticket 0 is a wake event. -/
structure PowerReq where
  target : PowerTarget
  ticket : Word
deriving DecidableEq, Repr

/-- A running transition: its target, the tickets that end with it, the target held before, when it started, and whether a
request for a rail it needs has failed; `passed` says that an entry's last abort point has passed. The steps completed stand in
PWR_STATE.STEP. -/
structure Transition where
  target : PowerTarget
  tickets : List Word
  prior : PowerTarget
  start : Nat
  failed : Bool := false
  passed : Bool := false
deriving DecidableEq, Repr

/-- A request to a regulator (R448 to R451): the rail, the state it asks for and the state before (PWR_RAIL_STATUS), and when the
first attempt began, once it is the first of the list. -/
structure RailReq where
  rail : Nat
  want : Nat
  was : Nat
  since : Nat
deriving DecidableEq, Repr

/-- Where start-up stands: the step of Table PWR-9 completed last (10 after a failed start), and when good rails were reached, or the
start failed. -/
structure Startup where
  step : Nat
  since : Nat
deriving DecidableEq, Repr

/-- Power control. `present` is the power target in effect, `before` the one held before the last entry began (R443),
`wake` the wake event that acts at the next abort point or as the entry
completes, `reset` the tickets of a module reset that waits to take effect or runs, `resetStep` the steps of it done; `parked` is how
far an entry has gone: 1 the channels stopped, 2 pins and commons at their Doze settings, 3 open; `gated` marks fabric taps
gated (Table PWR-7A); `strong` and `backing` are the registers saved, by address, in the Strongroom and the
backing copy with the serial it carries; `railEn` is the rail map in effect, as a mask; `vcoreAt` is when VCORE was last
changed, `vcoreAwake` its last target in Awake; `porst` is the level of PORST_N, `vaonLost` whether VAON has dropped since the
last start-up; `selfFenced` holds the regions that fenced themselves, with whether a run was in progress (R508),
`restoring` the units that a module reset restores, blocks and then 64 + region, with the code that contained each (R513), and
`badPages` the pages whose record has an uncorrectable word (R509). -/
structure Power where
  present : PowerTarget := {}
  before : PowerTarget := {}
  run : Option Transition := none
  queued : Option PowerReq := none
  wake : Option PowerReq := none
  reset : Option (List Word) := none
  resetStep : Nat := 0
  parked : Nat := 0
  gated : Bool := false
  rails : List RailReq := []
  strong : AMap Word := []
  backing : AMap Word := []
  backingSerial : Option (Word × Word) := none
  railEn : Nat := 0x7F
  vcoreAt : Nat := 0
  vcoreAwake : Nat := 800
  startup : Option Startup := none
  failedStarts : Nat := 0
  porst : Bool := true
  vaonLost : Bool := false
  selfFenced : AMap Bool := []
  restoring : AMap Nat := []
  badPages : List Nat := []
deriving DecidableEq, Repr

/-! ### Calibration (spec/15_calibration.md) -/

/-- A background turn of a block (Table CAL-4): its cell, when it started, and whether it hands the pin to the spare. -/
structure BgTurn where
  cell : Nat
  start : Nat
  handed : Bool
deriving DecidableEq, Repr

/-- A SELFCAL run (Table CAL-2): its ticket, the blocks named, S, the steps completed, the blocks with a rejection, the results
rejected, whether a value has been accepted, whether a cell has passed, the cells faulted at step 7, and whether it is the self-test of a restore (R516). -/
structure SelfcalRun where
  ticket : Word
  blocks : Nat
  start : Nat
  step : Nat
  bad : Nat
  rejected : Nat
  accepted : Bool
  passed : Bool
  faulted : List Nat
  restore : Bool := false
deriving DecidableEq, Repr

/-- A CAL_STORE run (Table CAL-9): its ticket, its slot, C, the snapshot's words and the words programmed. -/
structure StoreRun where
  ticket : Word
  slot : Nat
  start : Nat
  words : List Word
  done : Nat
deriving DecidableEq, Repr

/-- Calibration: the words of the store by 65,536 s + i, where they differ from what the slot held at reset (log entry 7), and its
commit rows; the quantities that hold a default (R477, R478); the turns of the blocks, the next cell of each, when its next
turn falls, and the rejections in a row of each quantity (R466); and when a value of each cell was last accepted (R472). -/
structure Calib where
  words : AMap Word := []
  commits : AMap Nat := [(0, 0xFFFFFFFF)]
  defaults : List Nat := []
  selfcal : Option SelfcalRun := none
  store : Option StoreRun := none
  turns : AMap BgTurn := []
  nextCell : AMap Nat := []
  nextTurn : AMap Nat := []
  rejects : AMap Nat := []
  acceptedAt : AMap Nat := []
deriving DecidableEq, Repr

/-! ### Identity and security (spec/16_identity_and_security.md) -/

/-- A debug nonce issued (R501): its words and when. -/
structure DebugNonce where
  words : List Word
  since : Nat
deriving DecidableEq, Repr

/-- One answer of the SPDM responder (R495, R496). -/
inductive SpdmAnswer where
  | version (v : Nat)
  | capabilities (ctExponent flags : Nat)
  | algorithms
  | digests (digest : List Byte)
  | certificate (part : List Byte) (left : Nat)
  | challengeAuth (nonce : List Word) (measurements signature : List Byte)
  | measurements (count : Nat) (blocks : List (Nat × List Byte)) (nonce : List Word) (signature : List Byte)
  | error (code : Nat)
deriving DecidableEq, Repr

/-- Identity and security. `banks` holds the bytes written to an image bank by 2^32 n + offset, over what it held at reset (log
entry 8); `erased` lists banks whose first word is erased; `preferred` is the bank committed since the last start-up;
`runKey` and `runVersion` are of the running image; `allow` is the allow-list. `spdm` is the number of steps of the SPDM
handshake done, `transcript` the requests since, and `answers` what was answered, oldest first. `tap` is the instruction the
test access port holds, `tapData` what its data register gives, and `extest` what EXTEST drives. -/
structure Sec where
  banks : AMap Byte := []
  erased : List Nat := []
  preferred : Option Nat := none
  runKey : Nat := 0
  runVersion : Nat := 0
  allow : List (BitVec 64) := []
  nonce : Option DebugNonce := none
  spdm : Nat := 0
  transcript : List Byte := []
  answers : List SpdmAnswer := []
  tap : TapOp := .idcode
  tapData : List Word := []
  extest : Option (List Bool × List Bool) := none
deriving DecidableEq, Repr
/-! ### The module -/

/-- Everything but the two memories and the queue. `elemAt` is when each commons element was last changed (R230), and
`wakeRaised` lists the blocks whose wake condition has not broken since its request (R256). -/
structure Core where
  freeCtr : Nat := 0
  order : OrderCode := .a128
  regs : AMap Word := []
  hiLatch : AMap Word := []
  clock : Clock := {}
  stw : Steward := {}
  mem : MemUnits := {}
  car : Caravan := {}
  cells : AMap CellInt := []
  dacs : AMap Dac := []
  handoffs : AMap Handoff := []
  faultSubs : AMap FaultSub := []
  trees : AMap TreeSwitch := []
  pair : PairInt := {}
  chans : AMap Chan := []
  ppmus : AMap PpmuChange := []
  wdacs : AMap Wdac := []
  convs : AMap Conv := []
  plaus : AMap Plaus := []
  elemAt : AMap Nat := []
  wmons : AMap Wmon := []
  wakeRaised : List Nat := []
  fabrics : AMap Fabric := []
  cal : Calib := {}
  pwr : Power := {}
  sec : Sec := {}
  engines : AMap Engine := []
  fps : AMap FailProc := []
  hub : CatHub := {}
  faultLog : List FaultRec := []
  faultSeq : Nat := 0
deriving DecidableEq, Repr

/-- A memory: the bytes that are not zero, at strictly rising addresses. -/
abbrev Memory := List Host.Cell

/-- The state of the block: the queue of waiting commands, QDR SRAM (byte `a` of region `r` at `2^26 r + a`, R292), the
archive (R296) and the rest of the module. -/
structure State where
  pending : List Instr
  qdr : Memory
  arc : Memory
  core : Core
deriving DecidableEq, Repr

/-- Why the machine stops with a fault. No rule of this block stops the machine, so no meaning raises one. -/
inductive Fault where
  /-- Raised by no meaning: safe, since nothing stops with it. -/
  | none
deriving DecidableEq, Repr

/-- Why a command has no meaning in the model. -/
inductive Refusal where
  /-- Raised by exec's arm of a command that has no meaning yet, with its mnemonic: safe, since nothing follows it. -/
  | notModelled (mnemonic : String)
deriving DecidableEq, Repr

/-- The module right after power-up (R19): every register at the reset value of its table, every unit at rest, both memories
zero (log entry 5) and nothing waiting. -/
def State.reset : State where
  pending := []
  qdr := []
  arc := []
  core := {}

end Sys2Proof.Machine
end

