-- ==== Sys2Proof/Machine/Ops.lean ====
section
/-! DEFINITION. The named operations over the state: sparse maps, register fields, the two memories, checksums, and the
event tree (R351 to R355). -/

namespace Sys2Proof.Machine

/-! ### Sparse maps -/

/-- The entry of a key. -/
def amGet? {α : Type} (m : AMap α) (k : Nat) : Option α :=
  match m with
  | [] => none
  | (k', v) :: t => if k' = k then some v else amGet? t k

/-- The entry of a key, or the record at reset. -/
def amGetD {α : Type} (m : AMap α) (k : Nat) (d : α) : α := (amGet? m k).getD d

/-- Set an entry, in rising order of keys. -/
def amSet {α : Type} (m : AMap α) (k : Nat) (v : α) : AMap α :=
  match m with
  | [] => [(k, v)]
  | (k', v') :: t =>
    if k' = k then (k, v) :: t
    else if k < k' then (k, v) :: (k', v') :: t
    else (k', v') :: amSet t k v

/-- Remove every entry of a key. -/
def amErase {α : Type} (m : AMap α) (k : Nat) : AMap α := m.filter (fun e => e.1 != k)

/-- The least number below a bound that is no key. -/
def amFree {α : Type} (m : AMap α) (bound : Nat) : Option Nat :=
  (List.range bound).find? (fun k => (amGet? m k).isNone)

/-! ### Bit fields -/

/-- The field `[hi:lo]` of a word. -/
def fld (w : Word) (hi lo : Nat) : Nat := w.toNat / 2 ^ lo % 2 ^ (hi + 1 - lo)

/-- A word with its field `[hi:lo]` set. -/
def setFld (w : Word) (hi lo v : Nat) : Word :=
  let m := BitVec.ofNat 32 ((2 ^ (hi + 1 - lo) - 1) * 2 ^ lo)
  (w &&& ~~~m) ||| (BitVec.ofNat 32 (v * 2 ^ lo) &&& m)

/-- A bit of a word. -/
def bit (w : Word) (i : Nat) : Bool := w.getLsbD i

/-- A word with one bit set. -/
def oneBit (i : Nat) : Word := BitVec.ofNat 32 (2 ^ i)

/-- A word with a bit set or cleared. -/
def putBit (w : Word) (i : Nat) (v : Bool) : Word := if v then w ||| oneBit i else w &&& ~~~(oneBit i)

/-- A truth value as a bit. -/
def b2n (b : Bool) : Nat := if b then 1 else 0

/-- The numbers below a bound whose bits are set. -/
def bitList (n bound : Nat) : List Nat := (List.range bound).filter (fun i => n.testBit i)

/-- The number whose bits are those listed. -/
def listBits (l : List Nat) : Nat := l.foldl (fun acc i => acc ||| 2 ^ i) 0

/-- A field read as a signed number of `w` bits. -/
def signed (v w : Nat) : Int := if v < 2 ^ (w - 1) then (v : Int) else (v : Int) - 2 ^ w

/-- The low `w` bits of a signed number. -/
def unsigned (v : Int) (w : Nat) : Nat := (v % (2 ^ w : Int)).toNat

/-- A quotient of a natural number, rounded up. -/
def ceilDiv (a b : Nat) : Nat := (a + b - 1) / b

/-- A quotient rounded to the nearest integer, a half upwards. -/
def roundDiv (a : Int) (b : Nat) : Int := (2 * a + b) / (2 * b)

/-- Is one 32-bit number older than another, unsigned with wraparound (R74, R339, R488)? -/
def olderInc (a b : Word) : Bool := (a != b) && decide ((b - a).toNat < 2 ^ 31)

/-! ### Words and bytes (R16) -/

/-- The four bytes of a word, least significant first. -/
def wordBytes (w : Word) : List Byte :=
  [w.extractLsb' 0 8, w.extractLsb' 8 8, w.extractLsb' 16 8, w.extractLsb' 24 8]

/-- The bytes of a list of words. -/
def bytesOf (l : List Word) : List Byte := l.flatMap wordBytes

/-- A word of bytes, the first the least significant; bytes that are missing are 0. -/
def wordOf (l : List Byte) : Word :=
  BitVec.ofNat 32 ((l.getD 0 0).toNat + 2 ^ 8 * (l.getD 1 0).toNat + 2 ^ 16 * (l.getD 2 0).toNat
    + 2 ^ 24 * (l.getD 3 0).toNat)

/-- The words of `n` times four bytes. -/
def wordsOf (n : Nat) (l : List Byte) : List Word :=
  match n with
  | 0 => []
  | k + 1 => wordOf l :: wordsOf k (l.drop 4)

/-- The two words of a 64-bit number, LO first. -/
def words64 (n : Nat) : List Word := [BitVec.ofNat 32 n, BitVec.ofNat 32 (n / 2 ^ 32)]

/-- The parameter word at an index; 0 where the packet is too short. -/
def pw (l : List Word) (i : Nat) : Word := l.getD i 0

/-- A parameter word as a number. -/
def pn (l : List Word) (i : Nat) : Nat := (pw l i).toNat

/-- The 64-bit number in two parameter words, LO first. -/
def pn64 (l : List Word) (i : Nat) : Nat := pn l i + 2 ^ 32 * pn l (i + 1)

/-- The mask in `n` parameter words, as a number with bit `i` for unit `i`. -/
def maskOf (l : List Word) (n : Nat) : Nat :=
  match n, l with
  | 0, _ => 0
  | _, [] => 0
  | k + 1, w :: t => w.toNat + 2 ^ 32 * maskOf t k

/-- The words of a number as a mask of `n` words. -/
def maskWords (m n : Nat) : List Word := (List.range n).map (fun i => BitVec.ofNat 32 (m / 2 ^ (32 * i)))

/-! ### Checksums -/

/-- One bit of the CRC-8 with polynomial 0x07 (R331). -/
def crc8Step (c : Nat) : Nat := if c.testBit 7 then (c * 2 % 256) ^^^ 7 else c * 2 % 256

/-- HCHK: CRC-8, polynomial 0x07, initial value 0, no reflection, no final XOR (R331). -/
def crc8 (l : List Byte) : Byte :=
  BitVec.ofNat 8 (l.foldl (fun c b => crc8Step (crc8Step (crc8Step (crc8Step (crc8Step (crc8Step (crc8Step (crc8Step
    (c ^^^ b.toNat))))))))) 0)

/-- One bit of CRC-32C, reflected polynomial 0x82F63B78. -/
def crc32cStep (c : Nat) : Nat := if c % 2 = 1 then (c / 2) ^^^ 0x82F63B78 else c / 2

/-- CRC-32C of a byte string (R23, R300, Table FOL-6): the Castagnoli CRC with initial value and final XOR all ones, bits
reflected (log entry 11). -/
def crc32c (l : List Byte) : Word :=
  BitVec.ofNat 32 ((l.foldl (fun c b => crc32cStep (crc32cStep (crc32cStep (crc32cStep (crc32cStep (crc32cStep (crc32cStep
    (crc32cStep (c ^^^ b.toNat))))))))) 0xFFFFFFFF) ^^^ 0xFFFFFFFF)

/-! ### Memory: zeros where nothing is listed (log entry 5) -/

/-- Strictly rising addresses above a bound, and no zero byte. -/
def memAbove (lo : Nat) (m : Memory) : Bool :=
  match m with
  | [] => true
  | (a, v) :: t => decide (lo ≤ a) && (v != 0) && memAbove (a + 1) t

/-- The canonical form of a memory. -/
def Memory.wf (m : Memory) : Bool := memAbove 0 m

/-- The byte at an address. -/
def readByte (m : Memory) (a : Nat) : Byte := amGetD m a 0

/-- A memory with one byte written. -/
def writeByte (m : Memory) (a : Nat) (v : Byte) : Memory := if v = 0 then amErase m a else amSet m a v

/-- `n` bytes from an address. -/
def readBytes (m : Memory) (a n : Nat) : List Byte := (List.range n).map (fun i => readByte m (a + i))

/-- A memory with a byte string written. -/
def writeBytes (m : Memory) (a : Nat) (l : List Byte) : Memory :=
  match l with
  | [] => m
  | b :: t => writeBytes (writeByte m a b) (a + 1) t

/-- A memory with the bytes from `a` to `a + n − 1` zero. -/
def zeroBytes (m : Memory) (a n : Nat) : Memory := m.filter (fun e => decide (e.1 < a) || decide (a + n ≤ e.1))

/-- The key of a byte of a region's QDR SRAM (R292). -/
def qdrKey (r a : Nat) : Nat := r * 2 ^ 26 + a

/-- The word at a byte address. -/
def readWord (m : Memory) (a : Nat) : Word := wordOf (readBytes m a 4)

/-! ### Lifts to the whole state -/

/-- A change of everything but the memories and the queue. -/
def onCore (f : Core → Core) (s : State) : State := { s with core := f s.core }

/-- A change that also reads the memories. -/
def onCoreMem (f : Memory → Memory → Core → Core) (s : State) : State := { s with core := f s.qdr s.arc s.core }

/-- Bytes written to a region's QDR SRAM. A word written is no longer uncorrectable (R293). -/
def writeQdr (r a : Nat) (l : List Byte) (s : State) : State :=
  { s with
    qdr := writeBytes s.qdr (qdrKey r a) l
    core := { s.core with mem := { s.core.mem with
      qdrBad := s.core.mem.qdrBad.filter (fun w => decide (w < qdrKey r a / 8 * 8) || decide (qdrKey r a + l.length ≤ w)) } } }

/-- Archive blocks written. A block written is re-coded whole (R298). -/
def writeArc (a : Nat) (l : List Byte) (s : State) : State :=
  { s with
    arc := writeBytes s.arc a l
    core := { s.core with mem := { s.core.mem with
      arcBad := s.core.mem.arcBad.filter (fun b => decide (b < a / 256 * 256) || decide (a + l.length ≤ b)) } } }

/-! ### Registers -/

/-- The registers whose reset value differs between order codes (R1, R7, Table MEM-4, R449). -/
def resetByOrder (o : OrderCode) (a : Nat) : Option Word :=
  match o with
  | .a128 => none
  | .a064 =>
    if a = 0x81F00004 then some 0x01010021
    else if a = 0x99F00000 ∨ a = 0x99F00040 then some 15360
    else if a = 0x99F00004 ∨ a = 0x99F00044 then some 800
    else if a = 0x99F00008 ∨ a = 0x99F00048 ∨ a = 0x99F0000C ∨ a = 0x99F0004C then some 80
    else if a = 0x99F00018 ∨ a = 0x99F00058 then some 40
    else if a = 0x99F0001C ∨ a = 0x99F0005C then some 20
    else if a = 0x99F00024 then some 16380
    else if 0x99F000C0 ≤ a ∧ a < 0x99F000E0 then some 1920
    else none
  | .a000 =>
    if a = 0x81F00004 then some 0x01010002
    else if a = 0x89F00068 then some 0x00410000
    else none

/-- A register's value at reset (R19); 0 for a hole (R35). -/
def regReset (o : OrderCode) (a : Nat) : Word :=
  match resetByOrder o a with
  | some v => v
  | none => match rowOf a with
    | some r => r.reset
    | none => 0

/-- The value a register holds. -/
def reg (k : Core) (a : Nat) : Word :=
  match amGet? k.regs a with
  | some v => v
  | none => regReset k.order a

/-- A register given a value. -/
def setReg (a : Nat) (v : Word) (k : Core) : Core := { k with regs := amSet k.regs a v }

/-- A field of a register. -/
def regFld (k : Core) (a hi lo : Nat) : Nat := fld (reg k a) hi lo

/-- A field of a register given a value. -/
def setRegFld (a hi lo v : Nat) (k : Core) : Core := setReg a (setFld (reg k a) hi lo v) k

/-- A bit of a register. -/
def regBit (k : Core) (a i : Nat) : Bool := bit (reg k a) i

/-- A bit of a register given a value. -/
def setRegBit (a i : Nat) (v : Bool) (k : Core) : Core := setReg a (putBit (reg k a) i v) k

/-- A counter field increased by `n`, saturating at all ones. -/
def countFld (a hi lo n : Nat) (k : Core) : Core :=
  setRegFld a hi lo (min (regFld k a hi lo + n) (2 ^ (hi + 1 - lo) - 1)) k

/-- The 64-bit value of a LO, HI pair of registers. -/
def reg64 (k : Core) (a : Nat) : Nat := (reg k a).toNat + 2 ^ 32 * (reg k (a + 4)).toNat

/-- A LO, HI pair of registers given a 64-bit value. -/
def setReg64 (a n : Nat) (k : Core) : Core :=
  setReg (a + 4) (BitVec.ofNat 32 (n / 2 ^ 32)) (setReg a (BitVec.ofNat 32 n) k)

/-! ### Addresses of registers by unit -/

/-- A register of a cell page. -/
def cellReg (c off : Nat) : Nat := pageBase (.cell c) + off
/-- A register of a block page. -/
def blockReg (b off : Nat) : Nat := pageBase (.block b) + off
/-- A register of an itinerary engine page. -/
def engReg (r off : Nat) : Nat := pageBase (.engine r) + off
/-- A register of a fail processor page. -/
def fpReg (r off : Nat) : Nat := pageBase (.fp r) + off
/-- A register of a strobe tree page. -/
def treeReg (r off : Nat) : Nat := pageBase (.tree r) + off
/-- A register of a region arbiters page. -/
def arbReg (r off : Nat) : Nat := pageBase (.arb r) + off
/-- A register of a port page. -/
def portReg (p off : Nat) : Nat := pageBase (.port p) + off

/-- A port's number, E, W, T, S as 0 to 3 (Table ARCH-7). -/
def portNo (p : Port) : Nat :=
  match p with
  | .e => 0
  | .w => 1
  | .t => 2
  | .s => 3

/-- The port of a number. -/
def portAt (n : Nat) : Port :=
  match n with
  | 0 => .e
  | 1 => .w
  | 2 => .t
  | _ => .s

/-- The cell number (Table CMD-12) of a linear pin index (R10). -/
def cellOfPin (i : Nat) : Nat := i / 128 * 136 + i % 128 / 16 * 17 + i % 16

/-- The block of a cell number. -/
def blockOfCell (c : Nat) : Nat := c / 136 * 8 + c % 136 / 17

/-- The region of a cell number. -/
def regionOfCell (c : Nat) : Nat := c / 136

/-- The cell number of cell `i` of a block, 16 being the spare. -/
def cellOfBlock (b i : Nat) : Nat := b / 8 * 136 + b % 8 * 17 + i

/-- The linear pin index of a pin cell (R10). -/
def pinOfCell (c : Nat) : Nat := c / 136 * 128 + c % 136 / 17 * 16 + c % 17

/-! ### Free values -/

/-- A word the spec does not state. -/
def drawWord (k : Core) : Word × Core := (Config.freeWord k.freeCtr, { k with freeCtr := k.freeCtr + 1 })

/-! ### The event tree (R351 to R355) -/

/-- The event register of a source (Tables CMD-12 to CMD-15); none for a reserved source. -/
def evtReg (n : Nat) : Option Nat :=
  if n < 1088 then some (cellReg n 0x54)
  else if n < 1344 then
    let b := (n - 1088) / 4
    match (n - 1088) % 4 with
    | 0 => some (blockReg b 0x210)
    | 1 => some (blockReg b 0x36C)
    | 2 => some (blockReg b 0x438)
    | _ => some (blockReg b 0x704)
  else if n < 1472 then
    let r := (n - 1344) / 16
    match (n - 1344) % 16 with
    | 0 => some (engReg r 0x30)
    | 1 => some (fpReg r 0x14)
    | 2 => some (treeReg r 0x218)
    | 3 => some (arbReg r 0x210)
    | 4 => some (pageBase (.rfault r) + 0x4)
    | _ => none
  else
    match n - 1472 with
    | 0 => some 0x81F00020
    | 1 => some 0x8FF0002C
    | 2 => some 0x85F00060
    | 3 => some 0x99F00214
    | 4 => some 0x8FF00110
    | 5 => some (portReg 0 0x20)
    | 6 => some (portReg 1 0x20)
    | 7 => some (portReg 2 0x20)
    | 8 => some (portReg 3 0x20)
    | 9 => some 0x83F0001C
    | 10 => some (portReg 2 0x560)
    | 11 => some 0x89F00088
    | 12 => some 0x8DF00010
    | 13 => some 0x8BF00030
    | 14 => some 0x81F00104
    | _ => none

/-- The source of an event register. -/
def evtSource (a : Nat) : Option Nat :=
  match pageOf a with
  | some (.cell c) => if pageOff a = 0x54 then some c else none
  | some (.block b) =>
    if pageOff a = 0x210 then some (1088 + 4 * b)
    else if pageOff a = 0x36C then some (1089 + 4 * b)
    else if pageOff a = 0x438 then some (1090 + 4 * b)
    else if pageOff a = 0x704 then some (1091 + 4 * b)
    else none
  | some (.engine r) => if pageOff a = 0x30 then some (1344 + 16 * r) else none
  | some (.fp r) => if pageOff a = 0x14 then some (1345 + 16 * r) else none
  | some (.tree r) => if pageOff a = 0x218 then some (1346 + 16 * r) else none
  | some (.arb r) => if pageOff a = 0x210 then some (1347 + 16 * r) else none
  | some (.rfault r) => if pageOff a = 0x4 then some (1348 + 16 * r) else none
  | some (.port p) =>
    if pageOff a = 0x20 then some (1477 + p)
    else if p = 2 ∧ pageOff a = 0x560 then some 1482
    else none
  | some .hub => if pageOff a = 0x20 then some 1472 else if pageOff a = 0x104 then some 1486 else none
  | some .chr => if pageOff a = 0x2C then some 1473 else if pageOff a = 0x110 then some 1476 else none
  | some .cat => if pageOff a = 0x60 then some 1474 else none
  | some .arccom => if pageOff a = 0x214 then some 1475 else none
  | some .car => if pageOff a = 0x1C then some 1481 else none
  | some .pwr => if pageOff a = 0x88 then some 1483 else none
  | some .cal => if pageOff a = 0x10 then some 1484 else none
  | some .sec => if pageOff a = 0x30 then some 1485 else none
  | _ => none

/-- The EVT_ROUTE register of a source. -/
def evtRoute (n : Nat) : Nat := 0x87F01000 + 4 * n

/-- EVT_HOLDOFF of a vector in ticks; the reply vectors 0 to 15 have none (R355). -/
def holdoffTicks (k : Core) (v : Nat) : Nat := if v < 16 then 0 else 200 * regFld k (0x87F00300 + 4 * (v - 16)) 7 0

/-- Send a vector's message now and start its holdoff (R355). -/
def sendVector (v : Nat) (k : Core) : Core :=
  { k with stw := { k.stw with
    msix := k.stw.msix ++ [v]
    vecHold := if holdoffTicks k v = 0 then amErase k.stw.vecHold v
      else amSet k.stw.vecHold v { until_ := k.clock.uptime + holdoffTicks k v, raised := false } } }

/-- Raise a vector: nothing in D3hot (R328), kept for the end of a holdoff, sent otherwise (R355). -/
def raiseVector (v : Nat) (k : Core) : Core :=
  if k.stw.d3hot then k
  else match amGet? k.stw.vecHold v with
    | some h =>
      if k.clock.uptime < h.until_ then
        { k with stw := { k.stw with vecHold := amSet k.stw.vecHold v { h with raised := true } } }
      else sendVector v k
    | none => sendVector v k

/-- Raise the vector of a source's route when its EN is 1 (R355). -/
def raiseRoute (n : Nat) (k : Core) : Core :=
  if regBit k (evtRoute n) 31 then raiseVector (regFld k (evtRoute n) 21 16) k else k

/-- Cause `i` of an event register occurs (R352): its CAUSE bit is set; when it is enabled, FLAG is set and COUNT steps
modulo 256, and FLAG going from 0 to 1 raises the route's vector. -/
def recordCause (a i : Nat) (k : Core) : Core :=
  let old := reg k a
  if regBit k (a + 4) i then
    let k1 := setReg a (setFld (putBit (putBit old (16 + i) true) 8 true) 7 0 (fld old 7 0 + 1)) k
    if bit old 8 then k1
    else match evtSource a with
      | some n => raiseRoute n k1
      | none => k1
  else setReg a (putBit old (16 + i) true) k

/-- The companion fields cleared with FLAG (Table CMD-16; MON_EVENT and COMM_EVENT have none). -/
def clearCompanions (a : Nat) (k : Core) : Core :=
  match pageOf a with
  | some (.block b) =>
    if pageOff a = 0x210 then setReg (blockReg b 0x21C) 0 (setReg (blockReg b 0x218) 0 k)
    else if pageOff a = 0x704 then setReg (blockReg b 0x70C) 0 k
    else k
  | some (.tree r) => if pageOff a = 0x218 then setReg (treeReg r 0x224) 0 (setReg (treeReg r 0x220) 0 k) else k
  | _ => k

/-- A clear of an event register with a count (R353): accepted when the count equals COUNT, and then FLAG, every CAUSE bit
and the companion fields clear together; ignored otherwise, which raises the route's vector while FLAG is 1 (R355). -/
def clearEvent (a count : Nat) (k : Core) : Bool × Core :=
  let old := reg k a
  if fld old 7 0 = count % 256 then (true, clearCompanions a (setReg a (old &&& 0xFF#32) k))
  else if bit old 8 then
    (false, match evtSource a with
      | some n => raiseRoute n k
      | none => k)
  else (false, k)

/-! ### Reading registers -/

/-- A word of EVT_PENDING: bit `i` mirrors FLAG of source `32 w + i` (R352). -/
def pendingWord (k : Core) (w : Nat) : Word :=
  BitVec.ofNat 32 (listBits ((List.range 32).filter (fun i =>
    match evtReg (32 * w + i) with
    | some a => regBit k a 8
    | none => false)))

/-- EVT_SUMMARY0 and EVT_SUMMARY1: the OR of each word of EVT_PENDING (R352). -/
def summaryWord (k : Core) (g : Nat) : Word :=
  BitVec.ofNat 32 (listBits ((List.range (if g = 0 then 32 else 16)).filter (fun i => pendingWord k (32 * g + i) != 0)))

/-- Staged words held, across every slot (R364). -/
def stagedWords (k : Core) : Nat := (k.car.folios.map (fun e => e.2.words.length)).sum

/-- WAIT_LEFT of a port: the time until its next training in units of 10 ms, while it waits for one (R382, R401). -/
def waitLeft (k : Core) (p : Nat) : Nat :=
  let st := regFld k (portReg p 4) 31 28
  if st = 1 ∨ st = 4 ∨ st = 5 then
    min (ceilDiv ((amGetD k.car.ports p {}).waitUntil - k.clock.uptime) 2000000) 0xFFFF
  else 0

/-- A register as it reads. The Chronicle, the pending words and the counts of Steward and folio control show the live
state; every other register shows what it holds; a hole reads 0 and so do reserved bits (R18, R19, R35). -/
def readReg (k : Core) (a : Nat) : Word :=
  if a = 0x8FF00000 then BitVec.ofNat 32 k.clock.chron
  else if a = 0x8FF00004 then BitVec.ofNat 32 (k.clock.chron / 2 ^ 32)
  else if a = 0x87F00000 then summaryWord k 0
  else if a = 0x87F00004 then summaryWord k 1
  else if 0x87F00100 ≤ a ∧ a < 0x87F001C0 ∧ a % 4 = 0 then pendingWord k ((a - 0x87F00100) / 4)
  else if a = 0x81F00010 then setFld (reg k a) 6 0 k.stw.sessions.length
  else if a = 0x81F00014 then BitVec.ofNat 32 (2 ^ 16 * k.stw.tickets.length + k.stw.reservations.length)
  else if a = 0x82000004 ∨ a = 0x82100004 ∨ a = 0x82200004 ∨ a = 0x82300004 then
    setFld (reg k a) 15 0 (waitLeft k ((a - 0x82000004) / 2 ^ 20))
  else if a = 0x8FF00100 then BitVec.ofNat 32 (2 ^ 24 * (k.car.folios.filter (fun e => decide (e.1 < 64))).length + stagedWords k)
  else match rowOf a with
    | some r => reg k a &&& r.mask
    | none => 0

/-- The LO registers whose read latches their HI register (R98, R112, R151, R179, R208, R291, R320, R428, R459, R484,
R504). -/
def latchesHi (a : Nat) : Bool :=
  match pageOf a with
  | some .chr => pageOff a == 0
  | some (.cell _) => pageOff a == 0xD0 || pageOff a == 0xF8 || pageOff a == 0x448
  | some (.engine _) => pageOff a == 0x18 || pageOff a == 0x24
  | some (.tree _) => pageOff a == 0x204
  | some .arccom => pageOff a == 0x204
  | some .sec => pageOff a == 0x4 || pageOff a == 0x20 || pageOff a == 0x28
  | some .cat => pageOff a == 0x30 || pageOff a == 0x40 || pageOff a == 0x48 || pageOff a == 0x50 || pageOff a == 0x58
  | some .pwr => pageOff a == 0x8
  | some (.port p) => p == 2 && (pageOff a == 0x410 || (decide (0x440 ≤ pageOff a) && decide (pageOff a < 0x480)
      && pageOff a % 8 == 0))
  | _ => false

/-- A register read and what the read does: a latching LO keeps the upper half of the same instant in HI, which reads as
latched from then on (R98, log entry 4). -/
def readRegEff (k : Core) (a : Nat) : Word × Core :=
  match amGet? k.hiLatch a with
  | some v => (v, k)
  | none =>
    if latchesHi a then (readReg k a, { k with hiLatch := amSet k.hiLatch (a + 4) (readReg k (a + 4)) })
    else (readReg k a, k)

/-! ### Time -/

/-- Microseconds in ticks of 5 ns. -/
def usTicks (n : Nat) : Nat := 200 * n

/-- Milliseconds in ticks of 5 ns. -/
def msTicks (n : Nat) : Nat := 200000 * n

/-- Does SELFCAL run in a block (CAL_BLK_STATE.SELFCAL; Table CAL-2)? -/
def selfcalRuns (k : Core) (b : Nat) : Bool := regBit k (blockReg b 0xB00) 8

/-! ### Domains and containment -/

/-- A domain's state: 0 OFF, 1 SLUMBER, 2 DOZE, 3 AWAKE (R459). -/
def domState (k : Core) (d : Nat) : Nat := regFld k (0x89F00020 + 4 * (d / 16)) (2 * (d % 16) + 1) (2 * (d % 16))

/-- A domain's state set. -/
def setDom (d v : Nat) (k : Core) : Core := setRegFld (0x89F00020 + 4 * (d / 16)) (2 * (d % 16) + 1) (2 * (d % 16)) v k

/-- Is a block parked by a fault (R506)? -/
def blockParked (k : Core) (b : Nat) : Bool := regBit k (blockReg b 0xC00) 31

/-- Is a region fenced (R507)? -/
def regionFenced (k : Core) (r : Nat) : Bool := regBit k (pageBase (.rfault r)) 31

/-- Is the module halted (R510)? -/
def moduleHalted (k : Core) : Bool := regBit k 0x81F00100 31

/-- Is a unit restored after a module reset (R513), a block by its number and a region as 64 + `r`? -/
def restoringUnit (k : Core) (u : Nat) : Bool := (amGet? k.pwr.restoring u).isSome

/-- Has a region stopped: fenced by the hub or by itself (R507, R508), under restore, or the module halted? -/
def regionStopped (k : Core) (r : Nat) : Bool :=
  regionFenced k r || (amGet? k.pwr.selfFenced r).isSome || restoringUnit k (64 + r) || moduleHalted k

/-- Has a block stopped by a park, a fence or a halt, or is it under restore? -/
def blockStopped (k : Core) (b : Nat) : Bool := blockParked k b || restoringUnit k b || regionStopped k (b / 8)

/-- Do the measuring channels, waveform generators and schedules of a block run: its analogue domain AWAKE, the block not stopped,
and no entry beyond its first step (R431, R440, R441, R506)? -/
def analogRuns (k : Core) (b : Nat) : Bool := !blockStopped k b && domState k (2 * b) == 3 && k.pwr.parked == 0

/-! ### Tenanted pins (R402, R407) -/

/-- A pair register of the T port page (R428). -/
def pairReg (off : Nat) : Nat := portReg 2 off

/-- PAIR_STATUS.STATE: 0 UNPAIRED, 1 FORMING, 2 PAIRED, 3 PARTNER_LOST. -/
def pairState (k : Core) : Nat := regFld k (pairReg 0x404) 31 28

/-- A region's role: 0 NONE, 1 HOLDER, 2 SHADOW, 3 TAKING, 4 STANDBY (PAIR_ROLES). -/
def tenRole (k : Core) (r : Nat) : Nat := regFld k (pairReg 0x408) (3 * r + 2) (3 * r)

/-- Is a pin index set in PAIR_TEN? -/
def tenBit (k : Core) (pin : Nat) : Bool := regBit k (pairReg (0x480 + 4 * (pin / 32))) (pin % 32)

/-- Is a pin tenanted (R402)? Formation checks that both members set the same bits (Table PAIR-1), and a region with tenanted
pins has a role from F until the pair is dissolved (R404, R426). -/
def tenanted (k : Core) (pin : Nat) : Bool := tenBit k pin && tenRole k (pin / 128) != 0

/-- Does a region hold its tenanted drivers at high impedance (R407), or not drive yet (R412, step 2)? -/
def regionSilent (k : Core) (r : Nat) : Bool := decide (2 ≤ tenRole k r) || k.pair.enabling.contains r

end Sys2Proof.Machine
end

