-- ==== Sys2Proof/Machine/Tickets.lean ====
section
/-! DEFINITION. Status codes (Table CMD-7), replies and notices (R325, R333, R347), and tickets (R347, R348). -/

namespace Sys2Proof.Machine

/-! ### Status codes (Table CMD-7) -/

/-- DONE. -/
abbrev stDone : Status := 0x0000
/-- ACCEPTED. -/
abbrev stAccepted : Status := 0x0001
/-- NOT_READY. -/
abbrev stNotReady : Status := 0x0002
/-- REPEAT. -/
abbrev stRepeat : Status := 0x0003
/-- REQUEST. -/
abbrev stRequest : Status := 0x0100
/-- OPCODE. -/
abbrev stOpcode : Status := 0x0102
/-- LENGTH. -/
abbrev stLength : Status := 0x0103
/-- FLAGS. -/
abbrev stFlags : Status := 0x0104
/-- TARGET. -/
abbrev stTarget : Status := 0x0105
/-- PARAMETER. -/
abbrev stParameter : Status := 0x0106
/-- NOT_FITTED. -/
abbrev stNotFitted : Status := 0x0107
/-- TICKET. -/
abbrev stTicket : Status := 0x0108
/-- NOT_STAGEABLE. -/
abbrev stNotStageable : Status := 0x0109
/-- STATE. -/
abbrev stState : Status := 0x0200
/-- FS_IMMEDIATE. -/
abbrev stFsImmediate : Status := 0x0201
/-- DOMAIN_ASLEEP. -/
abbrev stAsleep : Status := 0x0202
/-- FOLIO. -/
abbrev stFolio : Status := 0x0203
/-- RESERVED. -/
abbrev stReserved : Status := 0x0205
/-- NO_SESSION. -/
abbrev stNoSession : Status := 0x0206
/-- RESERVATION. -/
abbrev stReservation : Status := 0x0207
/-- FOLIO_BOUND. -/
abbrev stFolioBound : Status := 0x0208
/-- WAITING. -/
abbrev stWaiting : Status := 0x0209
/-- RESOURCE. -/
abbrev stResource : Status := 0x0300
/-- TARIFF. -/
abbrev stTariff : Status := 0x0301
/-- UNIT_BUSY. -/
abbrev stUnitBusy : Status := 0x0302
/-- QUEUE_FULL. -/
abbrev stQueueFull : Status := 0x0303
/-- TICKETS. -/
abbrev stTickets : Status := 0x0304
/-- RESERVATIONS. -/
abbrev stReservations : Status := 0x0305
/-- SESSIONS. -/
abbrev stSessions : Status := 0x0306
/-- NOT_PERMITTED. -/
abbrev stNotPermitted : Status := 0x0401
/-- SIGNATURE. -/
abbrev stSignature : Status := 0x0402
/-- ROLLBACK. -/
abbrev stRollback : Status := 0x0403
/-- LOCKED. -/
abbrev stLocked : Status := 0x0404
/-- FAULT. -/
abbrev stFault : Status := 0x0500
/-- UNIT_FAULTED. -/
abbrev stUnitFaulted : Status := 0x0501
/-- TRANSFER. -/
abbrev stTransfer : Status := 0x0502
/-- UNCORRECTABLE. -/
abbrev stUncorrectable : Status := 0x0503
/-- SELF_TEST. -/
abbrev stSelfTest : Status := 0x0504
/-- CONVERTER_BAD. -/
abbrev stConverterBad : Status := 0x0505
/-- ABORTED. -/
abbrev stAborted : Status := 0x0506

/-! ### Queues and replies -/

/-- A host queue pair's record. -/
def queueOf (k : Core) (q : Nat) : Queue := amGetD k.stw.queues q {}

/-- A host queue pair's record replaced. -/
def setQueue (q : Nat) (x : Queue) (k : Core) : Core := { k with stw := { k.stw with queues := amSet k.stw.queues q x } }

/-- The size of the submission ring in bytes (R356). -/
def sqSize (x : Queue) : Nat := 2 ^ fld x.qcfg 28 24

/-- The size of the reply ring in bytes (R356). -/
def rqSize (x : Queue) : Nat := 2 ^ fld x.qcfg 20 16

/-- The bytes a packet takes in a ring: its length padded to a multiple of 16 (R325). -/
def padded (n : Nat) : Nat := (n + 15) / 16 * 16

/-- The bytes of a reply (Table CMD-6). -/
def replyLen (r : Reply) : Nat := padded (16 + 4 * r.data.length)

/-- Write a reply or notice to a queue (R325, R347): into the ring, advancing RQ_TAIL and raising the queue's vector (R355),
while the queue runs; held in D3hot; discarded otherwise. -/
def writeReply (q : Nat) (r : Reply) (k : Core) : Core :=
  let x := queueOf k q
  match x.state with
  | .running =>
    raiseVector (fld x.qcfg 3 0)
      (setQueue q { x with replies := x.replies ++ [r], rqTail := (x.rqTail + replyLen r) % rqSize x } k)
  | .stopped => setQueue q { x with held := x.held ++ [r] } k
  | _ => k

/-- A message sent to another module, by its route (R388). -/
def sendRouted (m : Msg) (k : Core) : Core := { k with car := { k.car with outbox := k.car.outbox ++ [⟨none, m⟩] } }

/-- A port's record beside its registers. -/
def portOf (k : Core) (p : Nat) : PortInt := amGetD k.car.ports p {}

/-- A port's record replaced. -/
def setPort (p : Nat) (x : PortInt) (k : Core) : Core := { k with car := { k.car with ports := amSet k.car.ports p x } }

/-- A message sent on a port, in the next frame, which waits for its acknowledgement (R378, R385). -/
def sendPort (p : Nat) (m : Msg) (k : Core) : Core :=
  let x := portOf k p
  setPort p { x with fseq := (x.fseq + 1) % 65536, unacked := x.unacked ++ [((x.fseq + 1) % 65536, 1)] }
    { k with car := { k.car with outbox := k.car.outbox ++ [⟨some p, m⟩] } }

/-- Bits [31:0] of the Chronicle, as CHRON of a reply (Table CMD-6). -/
def chronWord (k : Core) : Word := BitVec.ofNat 32 k.clock.chron

/-! ### Tickets (R347, R348) -/

/-- The work of a ticket, also of one released while it runs. -/
def workOf (k : Core) (id : Word) : Option Work :=
  match amGet? k.stw.tickets (fld id 9 0) with
  | some t => if t.id = id ∧ t.status.isNone then some t.work else amGet? k.stw.orphans id.toNat
  | none => amGet? k.stw.orphans id.toNat

/-- The work of a running ticket replaced, as it goes on. -/
def setWork (id : Word) (w : Work) (k : Core) : Core :=
  match amGet? k.stw.tickets (fld id 9 0) with
  | some t =>
    if t.id = id then
      { k with stw := { k.stw with tickets := amSet k.stw.tickets (fld id 9 0) { t with work := w } } }
    else { k with stw := { k.stw with orphans := amSet k.stw.orphans id.toNat w } }
  | none => { k with stw := { k.stw with orphans := amSet k.stw.orphans id.toNat w } }

/-- The notice of a completed ticket (R347). -/
def noticeOf (k : Core) (t : Ticket) (st : Status) (res : List Word) : Reply :=
  { tag := t.tag, status := st, opcode := t.opcode, chron := chronWord k, notice := true, data := res }

/-- Send a ticket's notice where NOTIFY asks for it: to the queue that issued the command, or over the chain. -/
def sendNotice (t : Ticket) (st : Status) (res : List Word) (k : Core) : Core :=
  if t.notify then
    match t.queue with
    | some q => writeReply q (noticeOf k t st res) k
    | none =>
      match amGet? k.stw.sessions t.session with
      | some ss => match ss.owner with
        | .chain m s => sendRouted (.reply m s (noticeOf k t st res)) k
        | .queue _ => k
      | none => k
  else k

/-- A ticket completes (R347): it keeps its final status and result, and its notice is sent; the result of a ticket released
while its work ran is discarded (R348). -/
def completeTicket (id : Word) (st : Status) (res : List Word) (k : Core) : Core :=
  match amGet? k.stw.tickets (fld id 9 0) with
  | some t =>
    if t.id = id ∧ t.status.isNone then
      sendNotice t st res
        { k with stw := { k.stw with
          tickets := amSet k.stw.tickets (fld id 9 0) { t with status := some st, result := res } } }
    else { k with stw := { k.stw with orphans := amErase k.stw.orphans id.toNat } }
  | none => { k with stw := { k.stw with orphans := amErase k.stw.orphans id.toNat } }

/-- The next value of a serial number of 22 bits that is never 0. -/
def nextSerial (n bound : Nat) : Nat := if n + 1 < bound then n + 1 else 1

/-- The tickets a session holds. -/
def ticketsOf (k : Core) (session : Nat) : List (Nat × Ticket) :=
  k.stw.tickets.filter (fun e => e.2.session == session)

/-- Is a ticket slot free for a session (R347)? -/
def ticketFree (k : Core) (session : Nat) : Bool :=
  decide (k.stw.tickets.length < 1024) && decide ((ticketsOf k session).length < 256)

/-- The word of the next ticket: its serial and the least free slot (R347). -/
def nextTicket (k : Core) : Word :=
  BitVec.ofNat 32 (2 ^ 10 * k.stw.ticketSerial + (amFree k.stw.tickets 1024).getD 0)

/-- Open a ticket for a command; TICKETS_LOW occurs as the free slots fall below 64 (R347, R357). -/
def openTicket (c : Cmd) (op : BitVec 16) (session : Nat) (w : Work) (earliest : Nat) (k : Core) : Core :=
  let id := nextTicket k
  let t : Ticket :=
    { id := id, session := session
      queue := match c.src with
        | .host q => some q.val
        | .chain _ _ _ => none
      tag := c.tag, opcode := op, notify := c.flags.getLsbD 0, work := w, earliest := earliest, status := none, result := [] }
  let k1 := { k with stw := { k.stw with
    tickets := amSet k.stw.tickets (fld id 9 0) t
    ticketSerial := nextSerial k.stw.ticketSerial (2 ^ 22) } }
  if k1.stw.tickets.length = 961 then recordCause 0x81F00020 4 k1 else k1

/-! ### Change counts of result reads (R349) -/

/-- The change count of a read's subject. -/
def version (k : Core) (key : Nat) : Nat := amGetD k.stw.versions key 0

/-- Count a change of a read's subject. -/
def bumpVersion (key : Nat) (k : Core) : Core :=
  { k with stw := { k.stw with versions := amSet k.stw.versions key (version k key + 1) } }

/-- The change count of a repair region's record. -/
def verRepair (d : Nat) : Nat := d
/-- The change count of a site's summary. -/
def verSite (s : Nat) : Nat := 8192 + s
/-- The change count of a cell's last word. -/
def verLast (c : Nat) : Nat := 16384 + c
/-- The change count of a cell's detector words. -/
def verDet (c : Nat) : Nat := 32768 + c
/-- The change count of a waypoint slot's record. -/
def verWaypoint (r slot : Nat) : Nat := 65536 + 65536 * r + slot

/-- The tick a result read gives when the module can give none (R349). -/
def noTick : Nat := 2 ^ 64 - 1

/-! ### The fault log (R515) -/

/-- Write a fault record: the last 256 are kept, and FAULT_LOG_WPOS counts them. Levels are 0 cell, 1 block, 2 region and
3 chip; actions and codes are those of Table ERR-6. -/
def logFault (level action code unit : Nat) (detail : Word) (k : Core) : Core :=
  let e : FaultRec :=
    { level := level, action := action, code := code, unit := unit, tick := k.clock.chron, seq := k.faultSeq
      incarnation := reg k 0x8BF0000C, detail := detail }
  setReg 0x81F0010C (BitVec.ofNat 32 (k.faultSeq + 1))
    { k with faultLog := (k.faultLog ++ [e]).drop (k.faultLog.length + 1 - 256), faultSeq := k.faultSeq + 1 }

/-- The eight words of a fault record (Table ERR-6). -/
def faultWords (e : FaultRec) : List Word :=
  let body := [BitVec.ofNat 32 (e.level * 2 ^ 30 + e.action * 2 ^ 24 + e.code * 2 ^ 16), BitVec.ofNat 32 e.unit]
    ++ words64 e.tick ++ [BitVec.ofNat 32 e.seq, e.incarnation, e.detail]
  body ++ [crc32c (bytesOf body)]

end Sys2Proof.Machine
end

