-- ==== Sys2Proof/Machine/Mem.lean ====
section
/-! DEFINITION. QDR SRAM, the archive, transfer blocks, tariffs and the common arbiter (spec/10_memory_and_arbitration.md),
and the meanings of that chapter's events. -/

namespace Sys2Proof.Machine

/-! ### Capacities -/

/-- C, the archive's bytes (R296). -/
def arcCapacity (o : OrderCode) : Nat :=
  match o with
  | .a128 => 128000000000
  | .a064 => 64000000000
  | .a000 => 0

/-- S, the stacks fitted (Table SCOPE-1). -/
def stacksFitted (o : OrderCode) : Nat :=
  match o with
  | .a128 => 4
  | .a064 => 2
  | .a000 => 0

/-- The stack of an archive byte (R296). -/
def stackOf (o : OrderCode) (a : Nat) : Nat := a / 256 % stacksFitted o

/-- STACK_STATUS.STATE of a stack. -/
def stackState (k : Core) (n : Nat) : Nat := regFld k (pageBase (.stack n)) 1 0

/-- Has an archive range a block on a FAILED stack (R299)? -/
def arcFailed (k : Core) (a n : Nat) : Bool :=
  (List.range (ceilDiv n 256)).any (fun i => stackState k (stackOf k.order (a + 256 * i)) == 3)

/-- Has an archive range an uncorrectable block (R298)? -/
def arcBadIn (k : Core) (a n : Nat) : Bool := k.mem.arcBad.any (fun b => decide (a / 256 * 256 ≤ b) && decide (b < a + n))

/-- Has a range of a region's QDR SRAM an uncorrectable word (R293)? -/
def qdrBadIn (k : Core) (r a n : Nat) : Bool :=
  k.mem.qdrBad.any (fun w => decide (qdrKey r a / 8 * 8 ≤ w) && decide (w < qdrKey r a + n))

/-! ### Tariff register sets (R310 to R318) -/

/-- The base of a resource instance's tariff register set (Table MEM-7, R317); none where the instance does not exist. -/
def tariffBase (res inst : Nat) : Option Nat :=
  match res with
  | 0 => if inst = 0 then some 0x99F00000 else none
  | 1 => if inst < 8 then some (arbReg inst 0) else none
  | 2 => if inst < 4 then some (portReg inst 0xF000) else none
  | 3 => if inst = 0 then some 0x81F0F000 else none
  | 4 => if inst < 64 then some (blockReg inst 0x440) else none
  | _ => none

/-- The instances of a resource. -/
def tariffInstances (res : Nat) : Nat :=
  match res with
  | 0 => 1
  | 1 => 8
  | 2 => 4
  | 3 => 1
  | 4 => 64
  | _ => 0

/-- May a class hold a budget on a resource (Table ARCH-8, R38)? -/
def tariffMay (res cls : Nat) : Bool :=
  match res with
  | 0 | 1 => [0, 1, 2, 3, 6, 7].contains cls
  | 2 => [2, 3, 5, 6, 7].contains cls
  | 3 => [2, 3, 4, 5, 7].contains cls
  | 4 => [3, 4, 6, 7].contains cls
  | _ => false

/-- Every tariff register set of the module. -/
def tariffSets : List Nat :=
  0x99F00000 :: 0x81F0F000 :: ((List.range 8).map (fun r => arbReg r 0) ++ (List.range 4).map (fun p => portReg p 0xF000)
    ++ (List.range 64).map (fun b => blockReg b 0x440))

/-- BUDGET of a class. -/
def budget (k : Core) (base cls : Nat) : Nat := regFld k (base + 4 * cls) 15 0

/-- REMAIN of a class, signed (TSTAT). -/
def remain (k : Core) (base cls : Nat) : Int := signed (regFld k (base + 0x40 + 4 * cls) 16 0) 17

/-- REMAIN of a class set. -/
def setRemain (base cls : Nat) (v : Int) (k : Core) : Core := setRegFld (base + 0x40 + 4 * cls) 16 0 (unsigned v 17) k

/-- Charge a class (R312): REMAIN falls by the cost, and may fall below 0. -/
def chargeClass (base cls n : Nat) (k : Core) : Core :=
  let key := base + 0x40 + 4 * cls
  let k1 := setRemain base cls (remain k base cls - n) k
  { k1 with mem := { k1.mem with spent := amSet k1.mem.spent key (amGetD k1.mem.spent key 0 + n) } }

/-- REMAIN of a region's share of the archive (R313). -/
def shareRemain (k : Core) (r : Nat) : Int :=
  (amGet? k.mem.remainShare r).getD (regFld k (0x99F000C0 + 4 * r) 15 0 : Nat)

/-- A region's share charged (R313). -/
def chargeShare (r n : Nat) (k : Core) : Core :=
  { k with mem := { k.mem with remainShare := amSet k.mem.remainShare r (shareRemain k r - n) } }

/-- A value less the debt of a remainder (R311). -/
def lessDebt (v : Nat) (rem : Int) : Int := if rem < 0 then (v : Int) + rem else v

/-- The refill of one class (R311): REMAIN is BUDGET less the debt, and SPENT_LAST the units spent in the period. -/
def refillClass (base cls : Nat) (k : Core) : Core :=
  let key := base + 0x40 + 4 * cls
  let k1 := setRegFld (base + 0xA0 + 4 * cls) 15 0 (min (amGetD k.mem.spent key 0) 0xFFFF) k
  setRemain base cls (lessDebt (budget k base cls) (remain k base cls))
    { k1 with mem := { k1.mem with spent := amErase k1.mem.spent key } }

/-- The refill of a region share of the archive (R313). -/
def refillShare (r : Nat) (k : Core) : Core :=
  { k with mem := { k.mem with
    remainShare := amSet k.mem.remainShare r (lessDebt (regFld k (0x99F000C0 + 4 * r) 15 0) (shareRemain k r)) } }

/-- Credits of a class return to the partner of a port as far as its budget allows: those that the partner would then hold, and the
flits already received in the period, stay within BUDGET (R315). -/
def returnCredits (p cls : Nat) (k : Core) : Core :=
  let x := portOf k p
  let owed := amGetD x.owed cls 0
  let free := 64 - amGetD x.used cls 0 - owed
  let n := min owed (budget k (portReg p 0xF000) cls - (amGetD x.taken cls 0 + free))
  if n = 0 then k
  else
    let k1 := setPort p { x with owed := amSet x.owed cls (owed - n) } k
    { k1 with car := { k1.car with outbox := k1.car.outbox ++ [⟨some p, .credits cls n⟩] } }

/-- A new period of the partners' budgets at every port, and the credits that the last one withheld (R315). -/
def refillPorts (k : Core) : Core :=
  (List.range 4).foldl (fun acc p => (List.range 8).foldl (fun a cls => returnCredits p cls a)
    (setPort p { portOf acc p with taken := [] } acc)) k

/-- A refill of every class of every resource (R311), and of what a port lets its partner send (R315). -/
def refillAll (k : Core) : Core :=
  let k1 := tariffSets.foldl (fun acc base => (List.range 8).foldl (fun acc2 cls => refillClass base cls acc2) acc) k
  let k2 := refillPorts ((List.range 8).foldl (fun acc r => refillShare r acc) k1)
  { k2 with clock := { k2.clock with lastRefill := k2.clock.uptime, refillDue := none } }

/-- Does a refill fall now (R311)? At a multiple of 2,048 while the Chronicle counts TREF, no two within 1,024 ticks, at the
tick that a step left due,
and, away from TREF, whenever the 41 keeper periods end, which this event reports. -/
def refillNow (k : Core) : Bool :=
  match k.clock.by_ with
  | .tref => match k.clock.refillDue with
    | some d => decide (d ≤ k.clock.uptime)
    | none => k.clock.chron % 2048 == 0 && decide (k.clock.lastRefill + 1024 ≤ k.clock.uptime)
  | _ => true

/-- A step of the Chronicle moves the next refill to the later of the first multiple of 2,048 after the new count and 1,024
ticks after the last refill (R311). -/
def refillAfterStep (k : Core) : Core :=
  { k with clock := { k.clock with
    refillDue := some (max (k.clock.uptime + (2048 - k.clock.chron % 2048)) (k.clock.lastRefill + 1024)) } }

/-! ### Arbiters (R303 to R309, R543) -/

/-- The slots of an arbiter (Table MEM-3). -/
def arbSlots (a : ArbiterId) : Nat :=
  match a with
  | .levelDac _ => 3
  | .converter _ _ => 3
  | .outBuffer _ => 17
  | .catalogue => 9
  | _ => 8

/-- The ARB words of an arbiter with settings of Table MEM-6. -/
def arbWords (a : ArbiterId) : Option Nat :=
  match a with
  | .qdr r => some (arbReg r.val 0x80)
  | .regionLink r => some (arbReg r.val 0x100)
  | .archive => some 0x99F00080
  | .caravan p => some (portReg (portNo p) 0xF080)
  | .steward => some 0x81F0F080
  | _ => none

/-- The tariff register set an arbiter charges, where its resource carries a tariff. Conversions are charged as R226 to R228
give, when they are requested. -/
def arbTariff (a : ArbiterId) : Option Nat :=
  match a with
  | .qdr r => some (arbReg r.val 0)
  | .archive => some 0x99F00000
  | .caravan p => some (portReg (portNo p) 0xF000)
  | .steward => some 0x81F0F000
  | _ => none

/-- The number under which an arbiter's own state is kept. -/
def arbKey (a : ArbiterId) : Nat :=
  match a with
  | .levelDac c => c.val
  | .converter b c => 2000 + 2 * b.val + c.val
  | .outBuffer b => 3000 + b.val
  | .qdr r => 4000 + r.val
  | .regionLink r => 4100 + r.val
  | .archive => 4200
  | .caravan p => 4300 + portNo p
  | .steward => 4400
  | .catalogue => 4500

/-- An arbiter's own state; at reset the pointer stands at the highest slot (R303). -/
def arbState (k : Core) (a : ArbiterId) : ArbState := amGetD k.mem.arbs (arbKey a) { pointer := arbSlots a - 1, waits := [] }

/-- PRIO of a slot (Tables MEM-3 and MEM-6). -/
def slotPrio (k : Core) (a : ArbiterId) (s : Nat) : Nat :=
  match arbWords a with
  | some w => regFld k (w + 4 * s) 18 16
  | none => match a with
    | .levelDac _ | .converter _ _ => 7 - s
    | _ => 4

/-- WLIM of a slot. -/
def slotWlim (k : Core) (a : ArbiterId) (s : Nat) : Nat :=
  match arbWords a with
  | some w => regFld k (w + 4 * s) 15 8
  | none => match a with
    | .catalogue => 8
    | _ => 0

/-- WAIT of a slot. -/
def slotWait (k : Core) (a : ArbiterId) (s : Nat) : Nat :=
  match arbWords a with
  | some w => regFld k (w + 4 * s) 7 0
  | none => amGetD (arbState k a).waits s 0

/-- An arbiter's own state replaced. -/
def setArb (a : ArbiterId) (x : ArbState) (k : Core) : Core :=
  { k with mem := { k.mem with arbs := amSet k.mem.arbs (arbKey a) x } }

/-- WAIT of a slot set. -/
def setSlotWait (a : ArbiterId) (s v : Nat) (k : Core) : Core :=
  match arbWords a with
  | some w => setRegFld (w + 4 * s) 7 0 v k
  | none => setArb a { arbState k a with waits := amSet (arbState k a).waits s v } k

/-- Has a slot budget (R304, R313)? On the archive a TA request needs a region whose share is above 0 too. -/
def slotFunded (k : Core) (a : ArbiterId) (ta : List Nat) (s : Nat) : Bool :=
  match arbTariff a with
  | none => true
  | some base =>
    decide (0 < remain k base s)
      && (if a = .archive ∧ s = 0 then ta.any (fun r => decide (0 < shareRemain k r)) else true)

/-- May a slot borrow (R304, R314)? LEND acts on the archive, the QDR ports and the Caravan ports only. -/
def slotLends (k : Core) (a : ArbiterId) (s : Nat) : Bool :=
  match a with
  | .qdr _ | .archive | .caravan _ =>
    match arbTariff a with
    | some base => regBit k (base + 0x20) s
    | none => false
  | _ => false

/-- The eligible slots of those that hold a request (R304). -/
def eligible (k : Core) (a : ArbiterId) (ta req : List Nat) : List Nat :=
  if (req.filter (slotFunded k a ta)).isEmpty then req.filter (slotLends k a) else req.filter (slotFunded k a ta)

/-- The largest of a measure over slots. -/
def maxOver (f : Nat → Nat) (l : List Nat) : Nat := l.foldl (fun m s => max m (f s)) 0

/-- The first slot in rotation order, ascending from the pointer + 1 and wrapping (R305). -/
def firstInRotation (pointer n : Nat) (l : List Nat) : Option Nat :=
  ((List.range n).map (fun i => (pointer + 1 + i) % n)).find? (fun s => l.contains s)

/-- The slot a decision grants (R305): forced slots first, by the largest WAIT, else the highest PRIO; ties by rotation. -/
def granted (k : Core) (a : ArbiterId) (e : List Nat) : Option Nat :=
  let f := e.filter (fun s => slotWlim k a s != 0 && decide (slotWlim k a s ≤ slotWait k a s))
  let c :=
    if f.isEmpty then e.filter (fun s => slotPrio k a s == maxOver (slotPrio k a) e)
    else f.filter (fun s => slotWait k a s == maxOver (slotWait k a) f)
  firstInRotation (arbState k a).pointer (arbSlots a) c

/-- The region that TA serves next on the archive: the first in rotation whose share is not spent (R313). -/
def taRegion (k : Core) (ta : List Nat) : Option Nat :=
  firstInRotation k.mem.taPointer 8 (ta.filter (fun r => decide (0 < shareRemain k r)))

/-- The charge of a grant (R312, R313); a lent grant charges nothing (R314). -/
def chargeGrant (a : ArbiterId) (ta : List Nat) (g cost : Nat) (k : Core) : Core :=
  match arbTariff a with
  | none => k
  | some base =>
    if slotFunded k a ta g then
      let k1 := chargeClass base g cost k
      if a = .archive ∧ g = 0 then
        match taRegion k ta with
        | some r => { chargeShare r cost k1 with mem := { (chargeShare r cost k1).mem with taPointer := r } }
        | none => k1
      else k1
    else k

/-- DENIED counts of the classes that held a request and were not eligible for want of budget (R318). -/
def countDenied (a : ArbiterId) (l : List Nat) (k : Core) : Core :=
  match arbTariff a with
  | none => k
  | some base => l.foldl (fun acc s => countFld (base + 0x60 + 4 * s) 31 0 1 acc) k

/-- One decision (R305), where some slot is eligible: WAIT of the eligible slots that lose steps up to 255, that of the winner is 0, the pointer stands at
the winner, and the grant is charged. -/
def opArbiterDecision (a : ArbiterId) (requests : List (Nat × Nat)) (ta : List Nat) (k : Core) : Core :=
  let req := (requests.map Prod.fst).filter (fun s => decide (s < arbSlots a))
  let e := eligible k a ta req
  let k0 := countDenied a (req.filter (fun s => !e.contains s)) k
  match granted k a e with
  | none => k
  | some g =>
    let k1 := (e.filter (fun s => s != g)).foldl (fun acc s => setSlotWait a s (min (slotWait k a s + 1) 255) acc) k0
    let k2 := setSlotWait a g 0 k1
    chargeGrant a ta g ((requests.find? (fun q => q.1 == g)).map Prod.snd |>.getD 1)
      (setArb a { arbState k2 a with pointer := g } k2)

/-- Meaning of ARBITER_DECISION (R305, R543): the resource, or the direction of the QDR port, is free, and the slots given
hold a request of that direction, each with its cost in units. -/
def execArbiterDecision (a : ArbiterId) (_isWrite : Bool) (requests : List (Fin 17 × Nat)) (taRegions : List Region)
    (s : State) : Host.Outcome State Fault Refusal :=
  .next (onCore (opArbiterDecision a (requests.map (fun q => (q.1.val, q.2))) (taRegions.map Fin.val)) s)

/-! ### Errors at rest (R293, R294, R298) -/

/-- An uncorrectable QDR word (R293): counted, its address kept, cause QDR_UNCORR recorded. -/
def noteQdrUncorr (r a : Nat) (k : Core) : Core :=
  let k1 := setRegFld (arbReg r 0x204) 25 3 (a / 8) (countFld (arbReg r 0x200) 31 16 1 k)
  recordCause (arbReg r 0x210) 0 { k1 with mem := { k1.mem with qdrBad := (qdrKey r a / 8 * 8) :: k1.mem.qdrBad.filter (fun w => w != qdrKey r a / 8 * 8) } }

/-- QDR_SCRUB: while EN is 1 and TH has budget, the next word is read and any error handled; otherwise the scrub waits. -/
def opQdrScrub (r : Nat) (check : ScrubResult) (k : Core) : Core :=
  if regBit k (arbReg r 0x208) 31 ∧ ¬ regionStopped k r ∧ 2 ≤ domState k (129 + 2 * r) ∧ 0 < remain k (arbReg r 0) 7 then
    let pos := regFld k (arbReg r 0x208) 25 3
    let k1 := setRegFld (arbReg r 0x208) 25 3 (pos + 1) (chargeClass (arbReg r 0) 7 1 k)
    if qdrBadIn k r (8 * pos) 8 then noteQdrUncorr r (8 * pos) k1
    else match check with
      | .clean => k1
      | .corrected => countFld (arbReg r 0x200) 15 0 1 k1
      | .uncorrectable => noteQdrUncorr r (8 * pos) k1
  else k

/-- Meaning of QDR_SCRUB (R294). -/
def execQdrScrub (r : Region) (check : ScrubResult) (s : State) : Host.Outcome State Fault Refusal :=
  .next (onCore (opQdrScrub r.val check) s)

/-- An uncorrectable archive line (R298): counted, also on its stack (R299), its block address kept, cause ARC_UNCORR. -/
def noteArcUncorr (a : Nat) (k : Core) : Core :=
  let st := stackOf k.order a
  let k1 := setReg64 0x99F00204 (a / 256 * 256) (countFld 0x99F00200 31 16 1 (countFld (pageBase (.stack st)) 31 16 1 k))
  recordCause 0x99F00214 0 { k1 with mem := { k1.mem with
    arcBad := (a / 256 * 256) :: k1.mem.arcBad.filter (fun b => b != a / 256 * 256)
    stackLines := (st, k1.clock.uptime) :: k1.mem.stackLines } }

/-- ARC_SCRUB: the patrol scrub reads the next archive block under TH, while its stack may be accessed (Table PWR-3). -/
def opArcScrub (check : ScrubResult) (k : Core) : Core :=
  let pos := regFld k 0x99F00210 28 0
  if regBit k 0x99F00210 31 ∧ 0 < remain k 0x99F00000 7 ∧ 0 < arcCapacity k.order ∧
      2 ≤ domState k (144 + stackOf k.order (256 * pos)) then
    let k1 := setRegFld 0x99F00210 28 0 ((pos + 1) % (arcCapacity k.order / 256)) (chargeClass 0x99F00000 7 1 k)
    if arcBadIn k (256 * pos) 256 then noteArcUncorr (256 * pos) k1
    else match check with
      | .clean => k1
      | .corrected => countFld 0x99F00200 15 0 1 k1
      | .uncorrectable => noteArcUncorr (256 * pos) k1
  else k

/-- Meaning of ARC_SCRUB (R298). -/
def execArcScrub (check : ScrubResult) (s : State) : Host.Outcome State Fault Refusal := .next (onCore (opArcScrub check) s)

/-- The entries of a list of times that fall within the last `ticks`, for one unit. -/
def recent (k : Core) (unit ticks : Nat) (l : List (Nat × Nat)) : Nat :=
  (l.filter (fun e => e.1 == unit && decide (k.clock.uptime ≤ e.2 + ticks))).length

/-- A stack becomes FAILED (R299, chip fault 0x07 STACK of R509). -/
def failStack (n : Nat) (k : Core) : Core :=
  logFault 3 9 7 (pageBase (.stack n)) 0
    (setRegFld 0x81F00100 23 16 7 (recordCause 0x99F00214 2 (setRegFld (pageBase (.stack n)) 1 0 3 k)))

/-- STACK_FAILED: a fitted stack fails its training, or has had 8 transfer faults or 64 uncorrectable lines within 1 s. -/
def opStackFailed (n : Nat) (k : Core) : Core :=
  if n < stacksFitted k.order ∧ stackState k n ≠ 3 ∧
      (stackState k n = 1 ∨ 8 ≤ recent k n (msTicks 1000) k.mem.stackFaults
        ∨ 64 ≤ recent k n (msTicks 1000) k.mem.stackLines) then failStack n k
  else k

/-- Meaning of STACK_FAILED (R299). -/
def execStackFailed (stack : Fin 4) (s : State) : Host.Outcome State Fault Refusal := .next (onCore (opStackFailed stack.val) s)

/-! ### Transfers (R300, R301) -/

/-- Does a work cross a region link, and which? -/
def workRegion (w : Work) : Option Nat :=
  match w with
  | .itinLoad m _ _ _ _ _ => (bitList m 8).head?
  | .catchDump r _ _ _ _ => some r
  | .dma dir _ r _ _ _ => if dir < 2 then some r else none
  | .fabLoad m kind source _ _ => if kind = 1 then some source else (bitList m 8).head?
  | _ => none

/-- The bytes a work moves. -/
def workLen (w : Work) : Nat :=
  match w with
  | .itinLoad _ _ len _ _ _ => len
  | .catchDump _ _ len _ _ => len
  | .dma _ _ _ _ _ len => len
  | _ => 0

/-- The archive byte that block `i` of a work reads or writes, where it uses the archive. -/
def workArc (w : Work) (i : Nat) : Option Nat :=
  match w with
  | .itinLoad _ _ _ (some a) _ _ => some (a + 256 * i)
  | .catchDump _ _ _ dst false => some (dst + 256 * i)
  | .dma _ a _ _ _ _ => some (a + 256 * i)
  | .fabLoad _ 0 _ addr _ => some (addr + 256 * i)
  | _ => none

/-- Bytes written to host memory (R325). -/
def writeHost (a : Nat) (l : List Byte) (s : State) : State :=
  onCore (fun k => { k with mem := { k.mem with hostWrites := k.mem.hostWrites ++ [(a, l)] } }) s

/-- Bytes `off` to `off + n − 1` of a work take effect at their destination; `host` holds those that come from host memory. -/
def moveBytes (w : Work) (off n : Nat) (host : List Byte) (s : State) : State :=
  match w with
  | .itinLoad m dst _ src data _ =>
    (bitList m 8).foldl (fun acc r => writeQdr r (dst + off) (match src with
      | some a => readBytes s.arc (a + off) n
      | none => (data.drop off).take n) acc) s
  | .catchDump r src _ dst toHost =>
    if toHost then writeHost (dst + off) (readBytes s.qdr (qdrKey r (src + off)) n) s
    else writeArc (dst + off) (readBytes s.qdr (qdrKey r (src + off)) n) s
  | .dma dir a r q h _ =>
    match dir with
    | 0 => writeQdr r (q + off) (readBytes s.arc (a + off) n) s
    | 1 => writeArc (a + off) (readBytes s.qdr (qdrKey r (q + off)) n) s
    | 2 => writeHost (h + off) (readBytes s.arc (a + off) n) s
    | _ => writeArc (a + off) host s
  | _ => s

/-- Start a work's transfer (R300): its blocks are numbered by its ticket. -/
def startXfer (ticket : Word) (w : Work) (k : Core) : Core :=
  { k with mem := { k.mem with xfers := amSet k.mem.xfers ticket.toNat { seq := 0, blocks := ceilDiv (workLen w) 256, attempts := 0 } } }

/-- A transfer's record dropped. -/
def dropXfer (ticket : Word) (k : Core) : Core := { k with mem := { k.mem with xfers := amErase k.mem.xfers ticket.toNat } }

/-- Why block `i` of a work cannot be read or written, none where it can: its source holds an uncorrectable word or block, or its
archive block lies on a FAILED stack (Table MEM-2, R299). -/
def blockUnread (k : Core) (w : Work) (i : Nat) : Option Status :=
  let n := min 256 (workLen w - 256 * i)
  if (workArc w i).any (fun a => arcFailed k a n) then some stTransfer
  else
    let bad := match w with
      | .itinLoad _ _ _ (some a) _ _ => arcBadIn k (a + 256 * i) n
      | .catchDump r src _ _ _ => qdrBadIn k r (src + 256 * i) n
      | .dma dir a r q _ _ =>
        if dir = 1 then qdrBadIn k r (q + 256 * i) n else if dir = 3 then false else arcBadIn k (a + 256 * i) n
      | _ => false
    if bad then some stUncorrectable else none

/-- TRANSFER_BLOCK_RECEIVE, intact: the next block of the transfer takes effect at its destination, in sequence order. -/
def deliverBlock (ticket : Word) (hostData : List Word) (s : State) : State :=
  match amGet? s.core.mem.xfers ticket.toNat, workOf s.core ticket with
  | some x, some w =>
    if x.seq < x.blocks ∧ (blockUnread s.core w x.seq).isNone then
      onCore (fun k => { k with mem := { k.mem with
          xfers := amSet k.mem.xfers ticket.toNat { x with seq := x.seq + 1, attempts := 0 } } })
        (moveBytes w (256 * x.seq) (min 256 (workLen w - 256 * x.seq)) (bytesOf hostData) s)
    else s
  | _, _ => s

/-- The count registers and causes of a failed attempt or a transfer fault (R300): LINK_XFER of the region whose link carried
it, ARC_XFER otherwise. -/
def countXfer (w : Work) (fault : Bool) (k : Core) : Core :=
  match workRegion w with
  | some r =>
    if fault then
      let k1 := recordCause (arbReg r 0x210) 1 (countFld (arbReg r 0x20C) 31 16 1 k)
      { k1 with mem := { k1.mem with linkFaults := (r, k1.clock.uptime) :: k1.mem.linkFaults } }
    else countFld (arbReg r 0x20C) 15 0 1 k
  | none => if fault then recordCause 0x99F00214 1 (countFld 0x99F0020C 31 16 1 k) else countFld 0x99F0020C 15 0 1 k

/-- A transfer fault also falls on the stack of its block (R299). -/
def countStackFault (w : Work) (i : Nat) (k : Core) : Core :=
  match workArc w i with
  | some a =>
    let st := stackOf k.order a
    let k1 := countFld (pageBase (.stack st)) 31 16 1 k
    { k1 with mem := { k1.mem with stackFaults := (st, k1.clock.uptime) :: k1.mem.stackFaults } }
  | none => k

/-- Is a work a fabric load, whose transfer fault is a failed load check (Table MEM-2, R280)? -/
def isLoad (w : Work) : Bool :=
  match w with
  | .fabLoad .. => true
  | _ => false

/-- A failed attempt (R300): the block is sent again, up to three times; the fourth failure faults the transfer, whose ticket
completes with TRANSFER and the count of the bytes that stand (Table MEM-2). A fabric load keeps the failure for LOAD_REJECT. -/
def opAttemptFailed (ticket : Word) (k : Core) : Core :=
  match amGet? k.mem.xfers ticket.toNat, workOf k ticket with
  | some x, some w =>
    if x.seq < x.blocks then
      if x.attempts + 1 < 4 then
        countXfer w false { k with mem := { k.mem with
          xfers := amSet k.mem.xfers ticket.toNat { x with attempts := x.attempts + 1 } } }
      else if isLoad w then
        countStackFault w x.seq (countXfer w true { k with mem := { k.mem with
          xfers := amSet k.mem.xfers ticket.toNat { x with blocks := x.seq, attempts := 4 } } })
      else
        completeTicket ticket stTransfer (words64 (256 * x.seq))
          (countStackFault w x.seq (countXfer w true (dropXfer ticket k)))
    else k
  | _, _ => k

/-- Meaning of TRANSFER_BLOCK_RECEIVE (R300, R301). -/
def execTransferBlockReceive (ticket : Word) (intact : Bool) (hostData : List Word) (s : State) :
    Host.Outcome State Fault Refusal :=
  .next (if intact ∧ ¬ (workOf s.core ticket).any (fun w => (workRegion w).any (regionStopped s.core)) then deliverBlock ticket hostData s
    else onCore (opAttemptFailed ticket) s)

/-- Meaning of TRANSFER_ACK_TIMEOUT (R300): no acknowledgement came within 2 µs. -/
def execTransferAckTimeout (ticket : Word) (s : State) : Host.Outcome State Fault Refusal :=
  .next (onCore (opAttemptFailed ticket) s)

end Sys2Proof.Machine
end

