-- ==== Sys2Proof/Machine/Repair.lean ====
section
/-! DEFINITION. The repair allocator (R172 to R177): descriptors, fail cells, must-repair, the search, and the status and
result records. -/

namespace Sys2Proof.Machine

/-- A register of the Catalogue page. -/
def catReg (off : Nat) : Nat := pageBase .cat + off

/-- Is a site uncatalogued (CAT_UNCAT)? -/
def uncat (k : Core) (s : Nat) : Bool := regBit k (catReg (0x10 + 4 * (s / 32))) (s % 32)

/-! ### Descriptors and fail cells (Table FAIL-4, R173) -/

/-- A descriptor word. -/
def desc (k : Core) (d w : Nat) : Word := reg k (catReg (0x20000 + 32 * d + 4 * w))

/-- EN of a repair region. -/
def descEn (k : Core) (d : Nat) : Bool := bit (desc k d 0) 31
/-- SITE of a repair region. -/
def descSite (k : Core) (d : Nat) : Nat := fld (desc k d 0) 30 24
/-- SR, the spare rows. -/
def descSR (k : Core) (d : Nat) : Nat := fld (desc k d 0) 21 16
/-- SC, the spare columns. -/
def descSC (k : Core) (d : Nat) : Nat := fld (desc k d 0) 13 8
/-- The IO mask. -/
def descIo (k : Core) (d : Nat) : Nat := (desc k d 5).toNat + 2 ^ 32 * (desc k d 6).toNat

/-- Does an address lie in a repair region? -/
def descCovers (k : Core) (d x y : Nat) : Bool :=
  decide (fld (desc k d 1) 23 0 ≤ y) && decide (y ≤ fld (desc k d 2) 23 0)
    && decide (fld (desc k d 3) 23 0 ≤ x) && decide (x ≤ fld (desc k d 4) 23 0)

/-- The fail cells of an entry in a repair region, as row key and column key; a column key is column address × 64 + IO, which
orders by address first (R173). -/
def entryCells (k : Core) (d : Nat) (e : CatEntry) : List (Nat × Nat) :=
  if e.site = descSite k d ∧ descCovers k d e.x e.y then
    (bitList (e.io &&& descIo k d) 64).map (fun io =>
      (e.y / 2 ^ fld (desc k d 1) 28 24, e.x / 2 ^ fld (desc k d 3) 28 24 * 64 + if bit (desc k d 0) 0 then 0x3F else io))
  else []

/-- The fail cells of a repair region. -/
def cellsOf (k : Core) (d : Nat) : List (Nat × Nat) := k.hub.entries.flatMap (fun e => entryCells k d e.2)

/-! ### Must-repair (R174) -/

/-- A number put into its place in an ascending list. -/
def insertNat (x : Nat) (l : List Nat) : List Nat :=
  match l with
  | [] => [x]
  | y :: t => if y < x then y :: insertNat x t else x :: y :: t

/-- Numbers in ascending order, each once. -/
def sortNat (l : List Nat) : List Nat := l.dedup.foldl (fun acc x => insertNat x acc) []

/-- The lines forced by one loop of the procedure: the keys whose crossing keys, less those already taken, exceed what is
left. `keys` are in ascending order; `crossing` gives the keys that cross a line. -/
def forceLines (keys : List Nat) (crossing : Nat → List Nat) (taken : List Nat) (left : Int) (lines : List Nat) : List Nat :=
  keys.foldl (fun acc r =>
    if acc.contains r then acc
    else if left < (((crossing r).dedup.filter (fun c => !taken.contains c)).length : Int) then acc ++ [r] else acc) lines

/-- The rows of a set of cells, ascending. -/
def rowKeys (cells : List (Nat × Nat)) : List Nat := sortNat (cells.map Prod.fst)
/-- The columns of a set of cells, ascending. -/
def colKeys (cells : List (Nat × Nat)) : List Nat := sortNat (cells.map Prod.snd)
/-- The columns that fail in a row. -/
def rowCols (cells : List (Nat × Nat)) (r : Nat) : List Nat := (cells.filter (fun c => c.1 == r)).map Prod.snd
/-- The rows that fail in a column. -/
def colRows (cells : List (Nat × Nat)) (c : Nat) : List Nat := (cells.filter (fun x => x.2 == c)).map Prod.fst

/-- The procedure must_repair of R174; every pass but the last forces a line, so SR + SC + 2 passes suffice. -/
def mustLoop (cells : List (Nat × Nat)) (sr sc : Nat) (n : Nat) (rows cols : List Nat) : List Nat × List Nat :=
  match n with
  | 0 => (rows, cols)
  | m + 1 =>
    let rows1 := forceLines (rowKeys cells) (rowCols cells) cols ((sc : Int) - cols.length) rows
    let cols1 := forceLines (colKeys cells) (colRows cells) rows1 ((sr : Int) - rows1.length) cols
    if (rows1.length = rows.length ∧ cols1.length = cols.length) ∨ sr < rows1.length ∨ sc < cols1.length then (rows1, cols1)
    else mustLoop cells sr sc m rows1 cols1

/-- The must-repair rows and columns of a set of cells. -/
def mustRepair (cells : List (Nat × Nat)) (sr sc : Nat) : List Nat × List Nat := mustLoop cells sr sc (sr + sc + 2) [] []

/-! ### The search (R175) -/

/-- The cell with the lowest row key, then the lowest column key. -/
def firstCell (cells : List (Nat × Nat)) : Nat × Nat :=
  cells.foldl (fun m c => if c.1 < m.1 ∨ (c.1 = m.1 ∧ c.2 < m.2) then c else m) (cells.headD (0, 0))

/-- What a search comes to: over the node limit, no solution, or the rows and columns chosen. -/
inductive Found where
  | limit | none
  | set (rows cols : List Nat)
deriving DecidableEq, Repr

/-- The procedure search of R175, with the nodes counted so far; it returns them increased. -/
def search (limit n r c : Nat) (rest : List (Nat × Nat)) (nodes : Nat) : Found × Nat :=
  if limit < nodes + 1 then (.limit, nodes + 1)
  else if rest.isEmpty then (.set [] [], nodes + 1)
  else match n with
    | 0 => (.none, nodes + 1)
    | m + 1 =>
      let p := firstCell rest
      let a := if 0 < r then search limit m (r - 1) c (rest.filter (fun x => x.1 != p.1)) (nodes + 1) else (.none, nodes + 1)
      match a with
      | (.limit, k) => (.limit, k)
      | (.set rows cols, k) => (.set (p.1 :: rows) cols, k)
      | (.none, k) =>
        let b := if 0 < c then search limit m r (c - 1) (rest.filter (fun x => x.2 != p.2)) k else (.none, k)
        match b with
        | (.limit, j) => (.limit, j)
        | (.set rows cols, j) => (.set rows (p.2 :: cols), j)
        | (.none, j) => (.none, j)

/-- The search with 0, 1, … extra spares, fewest first. -/
def searchUp (limit r c : Nat) (rest : List (Nat × Nat)) (ns : List Nat) (nodes : Nat) : Found × Nat :=
  match ns with
  | [] => (.none, nodes)
  | n :: t => match search limit n r c rest nodes with
    | (.none, k) => searchUp limit r c rest t k
    | x => x

/-- The procedure solve of R175: the outcome and the nodes examined. -/
def solveCells (limit sr sc : Nat) (cells : List (Nat × Nat)) : SolveOut × Nat :=
  let m := mustRepair cells sr sc
  if sr < m.1.length ∨ sc < m.2.length then (.unrepairable, 0)
  else
    let rest := cells.filter (fun x => !m.1.contains x.1 && !m.2.contains x.2)
    let r := sr - m.1.length
    let c := sc - m.2.length
    match searchUp limit r c rest (List.range (r + c + 1)) 0 with
    | (.limit, k) => (.limit, k)
    | (.none, k) => (.unrepairable, k)
    | (.set rows cols, k) => (.solved (sortNat (m.1 ++ rows)) (sortNat (m.2 ++ cols)), k)

/-! ### Status and result records (R176, Tables FAIL-5 and FAIL-6) -/

/-- A repair region's record. -/
def repairOf (k : Core) (d : Nat) : Repair := amGetD k.hub.repairs d {}

/-- A repair region's record replaced. -/
def setRepair (d : Nat) (x : Repair) (k : Core) : Core := { k with hub := { k.hub with repairs := amSet k.hub.repairs d x } }

/-- Is a site's result invalid for part of the run? -/
def siteInvalidNow (k : Core) (s : Nat) : Bool := k.hub.invalid.testBit s

/-- STATUS of a repair region: the highest-ranked condition that holds (Table FAIL-6). A region whose descriptor was written
is PENDING until its next solve (R172). -/
def repairStatus (k : Core) (d : Nat) : Nat :=
  let x := repairOf k d
  if ¬ descEn k d then 7
  else if x.excess ∨ x.out = .unrepairable then 3
  else if uncat k (descSite k d) then 5
  else if siteInvalidNow k (descSite k d) then 6
  else match x.out with
    | .limit => 4
    | .solved _ _ => 2
    | _ => if x.fresh ∨ cellsOf k d ≠ [] then 1 else 0

/-- The lists of a result record (R176). -/
def repairLists (k : Core) (d : Nat) : List Nat × List Nat :=
  let x := repairOf k d
  let st := repairStatus k d
  if st = 1 then (x.rows, x.cols)
  else if st = 2 ∨ st = 6 then
    match x.out with
    | .solved r c => (r, c)
    | .none => if st = 6 then (x.rows, x.cols) else ([], [])
    | _ => ([], [])
  else ([], [])

/-- Word 0 of a result record, REPAIR_STATUS. -/
def repairWord (k : Core) (d : Nat) : Word :=
  let l := repairLists k d
  BitVec.ofNat 32 (repairStatus k d * 2 ^ 24 + l.1.length * 2 ^ 16 + l.2.length * 2 ^ 8)

/-- A list filled up to 32 words. -/
def pad32 (l : List Word) : List Word := (l ++ List.replicate 32 0).take 32

/-- The 68 words of a result record (Table FAIL-5). -/
def repairRecord (k : Core) (d : Nat) : List Word :=
  let l := repairLists k d
  [ repairWord k d, BitVec.ofNat 32 (descSite k d * 2 ^ 24 + d), BitVec.ofNat 32 (min (cellsOf k d).length 0xFFFFFFFF)
  , BitVec.ofNat 32 (min (repairOf k d).nodes 0xFFFFFFFF) ]
    ++ pad32 ((sortNat l.1).map (BitVec.ofNat 32))
    ++ pad32 ((sortNat l.2).map (fun c => BitVec.ofNat 32 (c % 64 * 2 ^ 26 + c / 64)))

/-- The repair regions of a site that are in use. -/
def repairsOf (k : Core) (s : Nat) : List Nat :=
  (k.hub.repairs.map Prod.fst).filter (fun d => descEn k d && descSite k d == s)

/-- The rank of a status, 1 the highest (Table FAIL-6). -/
def statusRank (st : Nat) : Nat :=
  match st with
  | 3 => 1
  | 5 => 2
  | 6 => 3
  | 4 => 4
  | 2 => 5
  | 1 => 6
  | _ => 7

/-- The highest-ranked status of a list; CLEAN for none. -/
def worstStatus (l : List Nat) : Nat := l.foldl (fun m st => if statusRank st < statusRank m then st else m) 0

/-- A site's word of FAIL_SITE_SUMMARY (Table FAIL-8). -/
def siteSummary (k : Core) (s : Nat) : Word :=
  BitVec.ofNat 32 (worstStatus ((repairsOf k s).map (repairStatus k)) * 2 ^ 24
    + (if uncat k s then amGetD k.hub.reasons s 0 * 2 ^ 4 else 0)
    + b2n (k.hub.outside.testBit s) * 2 ^ 3 + b2n (siteInvalidNow k s) * 2 ^ 2
    + b2n (regBit k (catReg (0x20 + 4 * (s / 32))) (s % 32)) * 2 + b2n (uncat k s))

/-- A change that bears on a site: REPAIR_STATUS of its regions follows, and a record or summary that changes counts as a new
result (R349). -/
def changeSite (s : Nat) (f : Core → Core) (k : Core) : Core :=
  let k1 := f k
  let k2 := (repairsOf k1 s).foldl (fun acc d =>
    let acc1 := if reg acc (catReg (0x40000 + 4 * d)) = repairWord k1 d then acc
      else setReg (catReg (0x40000 + 4 * d)) (repairWord k1 d) acc
    if repairRecord k d = repairRecord k1 d then acc1 else bumpVersion (verRepair d) acc1) k1
  if siteSummary k s = siteSummary k1 s then k2 else bumpVersion (verSite s) k2

end Sys2Proof.Machine
end

