-- ==== Sys2Proof/Machine/Capture.lean ====
section
/-! DEFINITION. The fail processor (R152 to R164, R167): Ledger records and their buffer, the catch and Catalogue queues, and
results marked invalid; and on the hub die the sites that become uncatalogued (R168). -/

namespace Sys2Proof.Machine

/-- A region's fail processor. -/
def fpOf (k : Core) (r : Nat) : FailProc := amGetD k.fps r {}

/-- A region's fail processor replaced. -/
def setFp (r : Nat) (x : FailProc) (k : Core) : Core := { k with fps := amSet k.fps r x }

/-- A region's engine. -/
def engOf (k : Core) (r : Nat) : Engine := amGetD k.engines r {}

/-- A region's engine replaced. -/
def setEng (r : Nat) (x : Engine) (k : Core) : Core := { k with engines := amSet k.engines r x }

/-! ### Sites (R114, R153) -/

/-- The site of a pin; none where it is SHARED. -/
def pinSite (k : Core) (pin : Nat) : Option Nat :=
  let w := reg k (cellReg (cellOfPin pin) 0x70)
  if bit w 31 then none else some (fld w 30 24)

/-- The pins of a region, by linear pin index. -/
def regionPins (r : Nat) : List Nat := (List.range 128).map (fun i => 128 * r + i)

/-- The pins of a site in a region, ascending. -/
def sitePins (k : Core) (r s : Nat) : List Nat := (regionPins r).filter (fun p => pinSite k p == some s)

/-- The sites that hold a pin in a region, as a mask. -/
def regionSites (k : Core) (r : Nat) : Nat := listBits ((regionPins r).filterMap (pinSite k))

/-- A pin's site pin ordinal in its region (R153). -/
def pinOrdinal (k : Core) (pin : Nat) : Nat :=
  match pinSite k pin with
  | some s => ((List.range (pin % 128)).filter (fun i => pinSite k (pin / 128 * 128 + i) == some s)).length
  | none => 0

/-- Is a site enabled in a region (SITE_EN)? -/
def siteEnabled (k : Core) (r s : Nat) : Bool := regBit k (engReg r (0x60 + 4 * (s / 32))) (s % 32)

/-- The IO number of a pin (PIN_CAT.IO). -/
def pinIo (k : Core) (pin : Nat) : Nat := regFld k (cellReg (cellOfPin pin) 0x78) 5 0

/-- PIN_CAT.CAT_EN. -/
def pinCatEn (k : Core) (pin : Nat) : Bool := regBit k (cellReg (cellOfPin pin) 0x78) 8

/-! ### The Ledger buffer (R155 to R160) -/

/-- FP_STATUS.LEDGER_FILL follows the buffer. -/
def showFill (r : Nat) (k : Core) : Core := setRegFld (fpReg r 4) 14 0 (fpOf k r).buf.length k

/-- A record enters the buffer with the next sequence number. -/
def enterRecord (r : Nat) (e : LedRec) (k : Core) : Core :=
  let f := fpOf k r
  let f1 := if f.buf.length % 8 = 0 then { f with firstAt := k.clock.uptime } else f
  showFill r (setFp r { f1 with buf := f1.buf ++ [{ e with seq := f.seq }], seq := (f.seq + 1) % 256
                                intervalN := f.intervalN + 1 } k)

/-- Has the Ledger stream room for a record now (R159)? -/
def ledgerRoom (f : FailProc) : Bool := decide (f.buf.length < 16384) && decide (f.intervalN < 4)

/-- The GAP record that the buffer owes enters when it has a free entry (R160). -/
def enterGap (r : Nat) (k : Core) : Core :=
  let f := fpOf k r
  if 0 < f.gapN ∧ ledgerRoom f then
    enterRecord r { type := 6, beat := f.gapBeat, mask := min f.gapN 0xFFFFFFFF } (setFp r { f with gapN := 0 } k)
  else k

/-- Does a record name a site (Table FAIL-2)? -/
def namesSite (type : Nat) : Bool := decide (1 ≤ type) && decide (type ≤ 5)

/-- What the loss of a record marks (R160): counted, its site incomplete, and cause LEDGER_DROP. -/
def noteDrop (r : Nat) (e : LedRec) (k : Core) : Core :=
  let k1 := countFld (fpReg r 8) 31 0 1 k
  recordCause (fpReg r 0x14) 0 (if namesSite e.type then
    changeSite e.site (setRegBit (catReg (0x20 + 4 * (e.site / 32))) (e.site % 32) true) k1 else k1)

/-- A record dropped (R160), and a GAP owed; it takes a sequence number all the same (R155). -/
def dropRecord (r : Nat) (e : LedRec) (k : Core) : Core :=
  let f := fpOf k r
  noteDrop r e (setFp r { f with
    seq := (f.seq + 1) % 256, gapN := f.gapN + 1, gapBeat := if f.gapN = 0 then e.beat else f.gapBeat } k)

/-- The 1 ns interval that records now fall in (R159). -/
def inInterval (r ns : Nat) (k : Core) : Core :=
  let f := fpOf k r
  setFp r { f with interval := ns, intervalN := if f.interval = ns then f.intervalN else 0 } k

/-- A record of a region, generated in the 1 ns interval `ns` (R159): it enters the buffer or is dropped. With LEDGER_EN = 0 it
is neither stored nor counted, but takes its sequence number. -/
def pushRecord (r ns : Nat) (e : LedRec) (k : Core) : Core :=
  let f := fpOf k r
  if ¬ regBit k (fpReg r 0) 0 then setFp r { f with seq := (f.seq + 1) % 256 } k
  else
    let k1 := enterGap r (inInterval r ns k)
    if (fpOf k1 r).gapN = 0 ∧ ledgerRoom (fpOf k1 r) then enterRecord r e k1 else dropRecord r e k1

/-- The time within the Chronicle in intervals of 1 ns, for records that no beat generates. -/
def nsNow (k : Core) : Nat := 5 * k.clock.chron

/-- The buffer's last block is completed with PAD records (R158). -/
def padBlock (r : Nat) (k : Core) : Core :=
  let f := fpOf k r
  let n := (8 - f.buf.length % 8) % 8
  showFill r (setFp r { f with buf := f.buf ++ List.replicate n { type := 0 } } k)

/-- The 32 bytes of a record (Table FAIL-1). -/
def recordBytes (r : Nat) (e : LedRec) : List Byte :=
  bytesOf ([ BitVec.ofNat 32 (e.type * 2 ^ 28 + e.strobe * 2 ^ 27 + e.group * 2 ^ 26
               + (if e.type = 0 then 0 else r * 2 ^ 23) + e.site * 2 ^ 16 + e.seq)
           , BitVec.ofNat 32 (e.lane * 2 ^ 24 + e.x), BitVec.ofNat 32 e.y, BitVec.ofNat 32 e.instr ]
    ++ words64 e.beat ++ words64 e.mask)

/-! ### Results marked invalid (R72, R141, Table FAIL-2) -/

/-- A site's results are invalid for part of the run (Table FAIL-6). -/
def siteInvalidInHub (s : Nat) (k : Core) : Core :=
  changeSite s (fun k' => { k' with hub := { k'.hub with invalid := k'.hub.invalid ||| 2 ^ s } }) k

/-- The results of a site in a region are invalid from a beat: one SITE_INVALID record for each group the site has there. -/
def siteInvalid (r s beat : Nat) (k : Core) : Core :=
  let f := fpOf k r
  if f.invSites.testBit s then k
  else
    let groups := if 64 < (sitePins k r s).length then [0, 1] else [0]
    let k1 := groups.foldl (fun acc g => pushRecord r (nsNow acc)
      { type := 3, group := g, site := s, beat := beat, mask := 2 ^ 64 - 1 } acc)
      (setFp r { f with invSites := f.invSites ||| 2 ^ s } k)
    recordCause (fpReg r 0x14) 3 (siteInvalidInHub s k1)

/-- The beat number of a region's next beat (BEAT). -/
def nextBeat (k : Core) (r : Nat) : Nat := reg64 k (engReg r 0x18)

/-- A pin's results are invalid from the region's next beat on (R72): a PIN_INVALID record, where the pin has a site. -/
def pinInvalid (r pin : Nat) (k : Core) : Core :=
  let f := fpOf k r
  if f.invPins.contains pin then k
  else
    let k1 := setFp r { f with invPins := pin :: f.invPins } k
    match pinSite k pin with
    | none => k1
    | some s =>
      let o := pinOrdinal k pin
      let k2 := recordCause (fpReg r 0x14) 4 (pushRecord r (nsNow k1)
        { type := 2, group := o / 64, site := s, beat := nextBeat k r, mask := 2 ^ (o % 64) } k1)
      if pinCatEn k pin then siteInvalidInHub s k2 else k2

/-- A pin's results are valid again from the region's next beat on: a PIN_VALID record. -/
def pinValid (r pin : Nat) (k : Core) : Core :=
  let f := fpOf k r
  if ¬ f.invPins.contains pin then k
  else
    let k1 := setFp r { f with invPins := f.invPins.filter (· != pin) } k
    match pinSite k pin with
    | none => k1
    | some s =>
      let o := pinOrdinal k pin
      pushRecord r (nsNow k1) { type := 4, group := o / 64, site := s, beat := nextBeat k r, mask := 2 ^ (o % 64) } k1

/-! ### Uncatalogued sites (R168) -/

/-- A site's entries enter the background sweep (R168, R170). -/
def startPurge (s : Nat) (k : Core) : Core :=
  setRegBit (catReg 4) 30 true { k with hub := { k.hub with
    purge := (k.hub.entries.filter (fun e => e.2.site == s)).foldl (fun acc e => amSet acc e.1 e.2) k.hub.purge
    entries := k.hub.entries.filter (fun e => e.2.site != s) } }

/-- A site becomes uncatalogued, with its reason (FAIL_SITE_SUMMARY): its bit is set, SITE_UNCAT recorded, and the sweep that
purges its entries starts. -/
def makeUncat (s reason : Nat) (k : Core) : Core :=
  if uncat k s then k
  else
    recordCause (catReg 0x60) 0 (changeSite s (fun k' =>
      startPurge s (setRegBit (catReg (0x10 + 4 * (s / 32))) (s % 32) true
        { k' with hub := { k'.hub with reasons := amSet k'.hub.reasons s reason } })) k)

/-! ### Compaction (R152, R154, R160, R162, R167) -/

/-- A Catalogue update enters its queue of 2,048, or is dropped and leaves its site uncatalogued (R167, R168). -/
def queueUpdate (r : Nat) (u : CatUpd) (k : Core) : Core :=
  let f := fpOf k r
  if f.catQ.length < 2048 then setFp r { f with catQ := f.catQ ++ [u] } k
  else makeUncat u.site 3 (recordCause (fpReg r 0x14) 2 (countFld (fpReg r 0x10) 31 0 1 k))

/-- A catch update lost (R164): counted, the window marked incomplete, CATCH_DROP recorded. -/
def dropCatch (r n : Nat) (k : Core) : Core :=
  recordCause (fpReg r 0x14) 1 (setRegBit (fpReg r 4) (16 + n) true (countFld (fpReg r 0xC) 31 0 1 k))

/-- A catch update enters its queue of 4,096 or is dropped (R164). -/
def queueCatch (r n addr b : Nat) (k : Core) : Core :=
  let f := fpOf k r
  if f.catchQ.length < 4096 then setFp r { f with catchQ := f.catchQ ++ [(n, addr, b)] } k else dropCatch r n k

/-- The bit index of a fail in a window (R162); none outside the window, its rectangle or its IO numbers. -/
def catchBit (k : Core) (r n site x y io : Nat) : Option Nat :=
  let w := reg k (fpReg r (0x400 + 0x10 * n))
  let xorg := regFld k (fpReg r (0x408 + 0x10 * n)) 23 0
  let yorg := regFld k (fpReg r (0x40C + 0x10 * n)) 23 0
  let xb := fld w 12 8
  let yb := fld w 20 16
  let pb := fld w 2 0
  if bit w 31 ∧ fld w 30 24 = site ∧ io < 2 ^ pb ∧ xorg ≤ x ∧ x < xorg + 2 ^ xb ∧ yorg ≤ y ∧ y < yorg + 2 ^ yb then
    some ((y - yorg) * 2 ^ (xb + pb) + (x - xorg) * 2 ^ pb + io)
  else none

/-- The catch updates of a failing IO in every window of its region (R162). -/
def catchFail (r site x y io : Nat) (k : Core) : Core :=
  (List.range 16).foldl (fun acc n =>
    match catchBit acc r n site x y io with
    | some i => queueCatch r n (regFld acc (fpReg r (0x404 + 0x10 * n)) 25 0 + i / 8) (i % 8) acc
    | none => acc) k

/-- The lane address X*j* of a frame (R115): X with its low log2(FRAME) bits replaced by (X + j) mod FRAME. -/
def laneX (frame x j : Nat) : Nat := x / 2 ^ frame * 2 ^ frame + (x + j) % 2 ^ frame

/-- One FAIL record (R154) of failing pins of one beat, strobe, site and group, lowest ordinal first, whose frame gives X, Y,
lane and instruction: SITE_FAILS counts it, and it goes to the Ledger, to the Catalogue and to the catch windows. -/
def failRecord (r ns beat strobe site group : Nat) (l : List FailBit) (k : Core) : Core :=
  match l with
  | [] => k
  | b :: _ =>
    let x := laneX (engOf k r).cfg.frame b.frame.x b.lane
    let mask := listBits (l.map (fun e => pinOrdinal k e.pin % 64))
    let ios := ((l.filter (fun e => pinCatEn k e.pin)).map (fun e => pinIo k e.pin)).dedup
    let k1 := pushRecord r ns
      { type := 1, strobe := strobe, group := group, site := site, lane := b.lane, x := x, y := b.frame.y
        instr := b.frame.instr, beat := beat, mask := mask } (countFld (fpReg r (0x100 + 4 * site)) 31 0 1 k)
    let k2 := if regBit k (fpReg r 0) 1 ∧ ios ≠ [] then
        queueUpdate r { site := site, x := x, y := b.frame.y, io := listBits ios } k1 else k1
    if regBit k (fpReg r 0) 2 ∧ b.frame.cmp.testBit 2 then
      ios.foldl (fun acc io => catchFail r site x b.frame.y io acc) k2
    else k2

/-- May a pin's result enter fail capture (R152)? -/
def captured (k : Core) (r : Nat) (pin : Nat) : Bool :=
  match pinSite k pin with
  | some s => siteEnabled k r s && !(fpOf k r).invSites.testBit s && !(fpOf k r).invPins.contains pin
  | none => false

/-- The fails of one beat become records in the order of R155: S0 before S1, then ascending site, then group. -/
def captureBeat (r ns beat : Nat) (l : List FailBit) (k : Core) : Core :=
  let l1 := l.filter (fun e => captured k r e.pin)
  [0, 1].foldl (fun acc st =>
    (bitList (listBits (l1.filterMap (fun e => if e.strobe = st then pinSite k e.pin else none))) 128).foldl (fun acc2 s =>
      [0, 1].foldl (fun acc3 g =>
        failRecord r ns beat st s g
          ((regionPins r).flatMap (fun p => l1.filter (fun e => e.pin == p && e.strobe == st && pinSite k p == some s
            && pinOrdinal k p / 64 == g))) acc3) acc2) acc) k

end Sys2Proof.Machine
end

