-- ==== Sys2Proof/Machine/Channels.lean ====
section
/-! DEFINITION. Measuring channels: restarts, changes and their settling tags (R184, R187, R190), and the registers that follow
them (R208). -/

namespace Sys2Proof.Machine

/-! ### Calibrated quantities -/

/-- The number of a quantity of cell `c` of a block, by its bit of the cell's valid word (Table CAL-8). -/
def cellQuantity (c i : Nat) : Nat := 32 * c + i

/-- The number of a block quantity, by its bit of the block's valid word (Table CAL-8). -/
def blockQuantity (i : Nat) : Nat := 544 + i

/-- Does a quantity of a block hold its default (R477, R478)? -/
def defaulted (k : Core) (b q : Nat) : Bool := k.cal.defaults.contains (1024 * b + q)

/-- CAL_BLK_DEFAULT of a block and DEFAULTS of CAL_STATUS show the quantities that hold a default (R478, R485). -/
def refreshDefaults (b : Nat) (k : Core) : Core :=
  let cellBit (c : Nat) : Bool := (List.range 32).any (fun i => defaulted k b (cellQuantity c i))
    || (c == 16 && (List.range 16).any (fun i => defaulted k b (blockQuantity (12 + i))))
  setRegBit 0x8DF00000 25 (!k.cal.defaults.isEmpty)
    (setReg (blockReg b 0xB0C) (BitVec.ofNat 32 (listBits ((List.range 17).filter cellBit
      ++ ((List.range 12).filter (fun i => defaulted k b (blockQuantity i))).map (17 + ·)))) k)

/-- A quantity of a block gets a value that is no default (R478), or takes its default (R477). -/
def setDefaulted (b q : Nat) (on : Bool) (k : Core) : Core :=
  let rest := k.cal.defaults.filter (fun x => x != 1024 * b + q)
  refreshDefaults b { k with cal := { k.cal with defaults := if on then (1024 * b + q) :: rest else rest } }

/-! ### Channels and their cells -/

/-- A channel's record. -/
def chanOf (k : Core) (b ch : Nat) : Chan := amGetD k.chans (32 * b + ch) {}

/-- A channel's record replaced. -/
def setChan (b ch : Nat) (x : Chan) (k : Core) : Core := { k with chans := amSet k.chans (32 * b + ch) x }

/-- A register of a channel: channel `k` has those of cell `k`, 16 being the spare (R185, R202). -/
def chanReg (b ch off : Nat) : Nat := cellReg (cellOfBlock b ch) off

/-- The cell whose modulator feeds a channel (R202). -/
def feedCell (k : Core) (b ch : Nat) : Nat :=
  if ch < 16 ∧ regBit k (chanReg b ch 0x50) 21 then cellOfBlock b 16 else cellOfBlock b ch

/-- The order N of a MEAS_FILTER word (R186). -/
def filterOrder (w : Word) : Nat := fld w 25 24 + 3

/-- The measure range in effect of a cell, by its mode and PPMU_CTRL (R180, Tables MEAS-1 and MEAS-2). -/
def measRange (k : Core) (c : Nat) : Nat :=
  let ctrl := reg k (cellReg c 0x80)
  if regFld k (cellReg c 0) 1 0 = 2 then 5
  else if fld ctrl 2 0 = 0 ∨ fld ctrl 2 0 = 3 then fld ctrl 10 8
  else 5

/-- The analogue settling count Sa of a measure range (Table MEAS-4). -/
def settleCount (range : Nat) : Nat :=
  match range with
  | 0 => 5000
  | 1 => 1000
  | 2 => 250
  | 3 => 100
  | _ => 50

/-- MEAS_P0 of a channel. -/
def chanP0 (k : Core) (b ch : Nat) : Nat := reg64 k (chanReg b ch 0xF8)

/-- The tick at which output `j` of a channel takes its last sample (R187), less the skew of its slot. -/
def outputTick (k : Core) (b ch j : Nat) : Nat := chanP0 k b ch + (j * 2 ^ (chanOf k b ch).logd - 1) * 8

/-- Does output `j` of a channel carry SETTLING (R190)? -/
def settles (k : Core) (b ch j : Nat) : Bool :=
  let x := chanOf k b ch
  decide (j ≤ x.base + x.tagged) || decide (outputTick k b ch j ≤ x.until_)

/-- Outputs that are still to carry SETTLING. -/
def settleLeft (k : Core) (b ch : Nat) : Nat :=
  let x := chanOf k b ch
  let last := if x.until_ < chanP0 k b ch then 0 else (x.until_ + 8 - chanP0 k b ch) / 8 / 2 ^ x.logd
  max (x.base + x.tagged) last - x.outputs

/-- Are the coefficients used for a channel's words factory defaults (R195)? -/
def suspectNow (k : Core) (b ch : Nat) : Bool :=
  defaulted k b (cellQuantity (feedCell k b ch % 17) (19 + measRange k (cellOfBlock b ch)))

/-- MEAS_STATUS of a channel follows its record. -/
def refreshMeas (b ch : Nat) (k : Core) : Core :=
  let x := chanOf k b ch
  setReg (chanReg b ch 0x98)
    (BitVec.ofNat 32 (2 ^ 31 * b2n x.ovr + 2 ^ 30 * b2n x.recovering + 2 ^ 29 * b2n (suspectNow k b ch)
      + 2 ^ 16 * min (settleLeft k b ch) 255 + measRange k (cellOfBlock b ch))) k

/-- A change of a channel (R190), with a restart of its filter (R187) or without: it tags the first M outputs, an unfinished
detector window is abandoned (R200), and a COARSE word falls due (R191). Changes of one tick are one change. Of a change that
this one overtakes, the tick of its M-th output is kept. -/
def noteChange (restart analog : Bool) (b ch : Nat) (k : Core) : Core :=
  let x := chanOf k b ch
  let f := reg k (chanReg b ch 0x84)
  let same := decide (x.since = k.clock.chron) && x.tagged != 0
  let an := analog || (same && x.analog)
  let m := filterOrder f + (if an then ceilDiv (settleCount (measRange k (cellOfBlock b ch))) (2 ^ fld f 19 16) else 0)
  let owed := if same ∨ x.base + x.tagged ≤ x.outputs then 0 else outputTick k b ch (x.base + x.tagged)
  let y : Chan := { x with
    since := k.clock.chron, analog := an, tagged := m, until_ := max x.until_ owed, coarseDue := bit f 8,
    detN := 0, detSum := 0, detSq := 0, detTags := 0 }
  refreshMeas b ch
    (if restart then
      setReg64 (chanReg b ch 0xF8) (ceilDiv k.clock.chron 8 * 8)
        (setChan b ch { y with outputs := 0, windows := 0, base := 0, overSeen := false, logd := fld f 19 16 } k)
    else setChan b ch { y with base := x.outputs } k)

/-- Does a PPMU function force a voltage (Table MEAS-1)? FNMV counts as forcing current (R184). -/
def forcesVoltage (func : Nat) : Bool := func == 0 || func == 2

/-- A change of PPMU_CTRL in PPMU mode starts Table MEAS-3: 0.5 µs for a range change that keeps forcing voltage, 2.0 µs with
the pin's voltage held for any other change of range or of the forced quantity (R184). -/
def rangeChange (c : Nat) (old new : Word) (k : Core) : Core :=
  let range := fld old 10 8 != fld new 10 8
  let va := forcesVoltage (fld old 2 0)
  let vb := forcesVoltage (fld new 2 0)
  if regFld k (cellReg c 0) 1 0 = 1 ∧ (range ∨ va ≠ vb) then
    let keeps := va && vb
    { k with ppmus := amSet k.ppmus c { due := k.clock.uptime + (if keeps then 100 else 400), hold := !keeps } }
  else k

/-- What a write of a cell register does to the cell's channel: changes and restarts (R187, R190), WPOS at EN from 0 to 1
(R198), and DET_COUNT at the detectors' EN from 0 to 1 (R208). -/
def measWritten (c off : Nat) (old new : Word) (k : Core) : Core :=
  let b := blockOfCell c
  let ch := c % 17
  if off = 0 then
    if fld new 1 0 ≠ fld old 1 0 ∧ (fld new 1 0 = 1 ∨ fld new 1 0 = 2) then noteChange false true b ch k else refreshMeas b ch k
  else if off = 0x48 then if fld old 15 0 ≠ fld new 15 0 then noteChange false true b ch k else k
  else if off = 0x80 then if old ≠ new then noteChange false true b ch (rangeChange c old new k) else k
  else if off = 0x84 ∨ off = 0x88 ∨ off = 0x8C then
    let k1 := if off = 0x84 ∧ ¬ bit old 31 ∧ bit new 31 then setReg64 (cellReg c 0xD0) 0 k else k
    if old ≠ new then noteChange true false b ch k1 else k1
  else if off = 0x90 then
    if ¬ bit old 31 ∧ bit new 31 then setReg (cellReg c 0xF4) 0 k else k
  else k

end Sys2Proof.Machine
end

