-- ==== Sys2Proof/Machine/WinMon.lean ====
section
/-! DEFINITION. Window monitors: edges, blanking, capture and the wake condition (R239 to R257), and the meanings of their
events. -/

namespace Sys2Proof.Machine

/-- A register of a window monitor, by its offset in a cell page (R260): monitors 16 and 17 have theirs in the block page. -/
def wmReg (b m off : Nat) : Nat :=
  if m < 16 then cellReg (cellOfBlock b m) off else blockReg b (0x800 + 0x100 * (m - 16) + (off - 0x200))

/-- A monitor's record. -/
def wmonOf (k : Core) (b m : Nat) : Wmon := amGetD k.wmons (32 * b + m) {}

/-- A monitor's record replaced. -/
def setWmon (b m : Nat) (x : Wmon) (k : Core) : Core := { k with wmons := amSet k.wmons (32 * b + m) x }

/-- A bit of WM_STATUS. -/
def wmBit (k : Core) (b m i : Nat) : Bool := regBit k (wmReg b m 0x20C) i

/-- The time in units of 250 fs, with a fine time. -/
def wmTime (k : Core) (fine : Nat) : Nat := 20000 * k.clock.uptime + fine

/-! ### Reported edges (R244, R247, R250 to R252) -/

/-- The flags of a reported edge: at the end of blanking, and at a hand-off. -/
structure EdgeFlags where
  blanked : Bool := false
  subst : Bool := false
deriving DecidableEq, Repr

/-- Word 2 of a capture entry (R260). -/
def captWord (k : Core) (missed : Bool) (kind fine : Nat) (f : EdgeFlags) : Word :=
  BitVec.ofNat 32 (2 ^ 30 * kind + 2 ^ 29 * b2n f.blanked + 2 ^ 28 * b2n missed + 2 ^ 27 * b2n (regBit k 0x8FF0000C 2)
    + 2 ^ 26 * b2n f.subst + fine)

/-- A capture written (R250, R251): entry p mod 8 takes the tick, the fine time, the kind and the flags; ONCE stops after entry
7 with FULL and cause CAPT_FULL. -/
def writeCapture (b m kind fine : Nat) (f : EdgeFlags) (k : Core) : Core :=
  let p := (reg k (wmReg b m 0x210)).toNat
  let e := wmReg b m 0x240 + 0x10 * (p % 8)
  let x := wmonOf k b m
  let k1 := setReg (e + 8) (captWord k x.missed kind fine f) (setReg64 e k.clock.chron k)
  let k2 := countFld (wmReg b m 0x210) 31 0 1 (setWmon b m { x with missed := false, lastCapt := some (wmTime k fine) } k1)
  if ¬ regBit k (wmReg b m 0x204) 8 ∧ p = 7 then recordCause (blockReg b 0x704) 1 (setRegBit (wmReg b m 0x20C) 4 true k2) else k2

/-- A reported edge reaches the capture unit: not before it is armed, after FULL, or of a kind that EDGES does not name; an edge
within 2 ns of the last captured one, or while TIMING_READY is 0, marks the next entry MISSED. -/
def captureEdge (b m kind fine : Nat) (f : EdgeFlags) (k : Core) : Core :=
  let x := wmonOf k b m
  if ¬ wmBit k b m 2 ∨ wmBit k b m 4 ∨ ¬ regBit k (wmReg b m 0x204) kind then k
  else if ¬ regBit k (treeReg (b / 8) 0x40) 2 ∨ x.lastCapt.any (fun t => decide (wmTime k fine < t + 8000)) then
    setWmon b m { x with missed := true } k
  else writeCapture b m kind fine f k

/-- A reported edge that EDGE_EN names sets the monitor's bit of WM_HIT and records cause EDGE, once for edges less than 20 ns
apart (R247). -/
def eventEdge (b m kind fine : Nat) (k : Core) : Core :=
  if regBit k (wmReg b m 0x200) kind then
    let x := wmonOf k b m
    let k1 := setRegBit (blockReg b 0x70C) m true (setWmon b m { x with lastEdge := some (wmTime k fine) } k)
    if x.lastEdge.any (fun t => decide (wmTime k fine < t + 80000)) then k1 else recordCause (blockReg b 0x704) 0 k1
  else k

/-- An edge of a comparator is reported when its output differs from the value last reported (R244), and not under a check
(R254). Kinds are 0 CH rise, 1 CH fall, 2 CL rise, 3 CL fall. -/
def reportEdge (b m kind fine : Nat) (f : EdgeFlags) (k : Core) : Core :=
  let x := wmonOf k b m
  let v := kind % 2 == 0
  if wmBit k b m 5 ∨ (if kind < 2 then x.repH else x.repL) = v then k
  else
    captureEdge b m kind fine f (eventEdge b m kind fine
      (setWmon b m (if kind < 2 then { x with repH := v } else { x with repL := v }) k))

/-- The kind of an edge of CH (`high`) or CL to a value. -/
def edgeKind (high v : Bool) : Nat := (if high then 0 else 2) + (if v then 0 else 1)

/-! ### Events -/

/-- WM_EDGE: a decided comparator's output changes; the edge is reported unless the monitor is blanked. -/
def opWmEdge (b m kind fine : Nat) (k : Core) : Core :=
  let i := kind / 2
  let v := kind % 2 == 0
  if wmBit k b m i = v ∨ wmBit k b m (6 + i) then k
  else
    let k1 := setRegBit (wmReg b m 0x20C) i v k
    if wmBit k b m 3 then k1 else reportEdge b m kind fine {} k1

/-- Meaning of WM_EDGE (R247). -/
def execWmEdge (b : Block) (mon : Fin 18) (kind : Fin 4) (fine : Fin 20000) (s : State) : Host.Outcome State Fault Refusal :=
  .next (onCore (opWmEdge b.val mon.val kind.val fine.val) s)

/-- BLANK_START: the blanking tree reaches BLANK_LEVEL, and the blanking memory takes each comparator's output (R248, R249). -/
def opBlankStart (b m : Nat) (k : Core) : Core :=
  if regFld k (wmReg b m 0x200) 13 12 = 0 ∨ wmBit k b m 3 then k
  else setRegBit (wmReg b m 0x20C) 3 true (setWmon b m { wmonOf k b m with memH := wmBit k b m 0, memL := wmBit k b m 1 } k)

/-- Meaning of BLANK_START (R248). -/
def execBlankStart (b : Block) (mon : Fin 18) (s : State) : Host.Outcome State Fault Refusal :=
  .next (onCore (opBlankStart b.val mon.val) s)

/-- The fine time of an edge of a blanking tree: 0 for a tree of TREF, whose edges fall on ticks; of any other it is not stated
(log entry 1). -/
def blankFine (b m : Nat) (k : Core) : Nat × Core :=
  if regFld k (treeReg (b / 8) (0x10 * regFld k (wmReg b m 0x200) 13 12)) 2 0 = 0 then (0, k)
  else ((drawWord k).1.toNat % 20000, (drawWord k).2)

/-- BLANK_END: one edge is reported for each comparator whose decided output differs from the blanking memory, CH before CL (R249). -/
def opBlankEnd (b m : Nat) (k : Core) : Core :=
  if ¬ wmBit k b m 3 then k
  else
    let x := wmonOf k b m
    let f := blankFine b m k
    let k1 := setRegBit (wmReg b m 0x20C) 3 false f.2
    let k2 := if wmBit k b m 0 ≠ x.memH ∧ ¬ wmBit k b m 6 then
        reportEdge b m (edgeKind true (wmBit k b m 0)) f.1 { blanked := true } k1 else k1
    if wmBit k b m 1 ≠ x.memL ∧ ¬ wmBit k b m 7 then reportEdge b m (edgeKind false (wmBit k b m 1)) f.1 { blanked := true } k2 else k2

/-- Meaning of BLANK_END (R249). -/
def execBlankEnd (b : Block) (mon : Fin 18) (s : State) : Host.Outcome State Fault Refusal :=
  .next (onCore (opBlankEnd b.val mon.val) s)

/-- UNDECIDED_EXIT: the input of an undecided comparator leaves its band; the output takes the value of R242, whose edge is
reported at a fine time that the spec does not state (log entry 1). -/
def opUndecidedExit (b m : Nat) (high above : Bool) (k : Core) : Core :=
  let i := if high then 0 else 1
  if ¬ wmBit k b m (6 + i) then k
  else
    let v := high == above
    let d := drawWord k
    let k1 := setRegBit (wmReg b m 0x20C) i v (setRegBit (wmReg b m 0x20C) (6 + i) false d.2)
    if wmBit k b m 3 then k1 else reportEdge b m (edgeKind high v) (d.1.toNat % 20000) {} k1

/-- Meaning of UNDECIDED_EXIT (R243). -/
def execUndecidedExit (b : Block) (mon : Fin 18) (isHigh above : Bool) (s : State) : Host.Outcome State Fault Refusal :=
  .next (onCore (opUndecidedExit b.val mon.val isHigh above) s)

/-! ### Initial decisions (R243) -/

/-- The initial decision of one comparator: inside its band it reads 0 and is UNDECIDED; outside it takes its value. Where the
input stands is not stated (log entry 1). -/
def decideComparator (b m i : Nat) (k : Core) : Core :=
  let d := drawWord k
  setRegBit (wmReg b m 0x20C) (6 + i) (bit d.1 0) (setRegBit (wmReg b m 0x20C) i (!bit d.1 0 && bit d.1 1) d.2)

/-- The initial decision of both comparators of a monitor. -/
def decideMonitor (b m : Nat) (k : Core) : Core := decideComparator b m 1 (decideComparator b m 0 k)

/-- A difference of a decided output from the value last reported is reported (R244). -/
def reportDifference (f : EdgeFlags) (b m : Nat) (high : Bool) (k : Core) : Core :=
  let i := if high then 0 else 1
  if wmBit k b m (6 + i) ∨ wmBit k b m 3 then k
  else reportEdge b m (edgeKind high (wmBit k b m i)) ((drawWord k).1.toNat % 20000) f (drawWord k).2

/-- A hand-off or substitution connects a cell to a pin: its comparators decide, and a difference is reported with the SUBST
flag. -/
def wmConnect (b m : Nat) (k : Core) : Core :=
  reportDifference { subst := true } b m false (reportDifference { subst := true } b m true (decideMonitor b m k))

/-- The end of a comparator check: the comparators decide, and a difference is reported at the restore. -/
def wmRestored (b m : Nat) (k : Core) : Core :=
  reportDifference {} b m false (reportDifference {} b m true (decideMonitor b m (setRegBit (wmReg b m 0x20C) 5 false k)))

/-- A block's analogue domain becomes good: every comparator decides, and the value last reported is 0. -/
def wmPowerUp (b : Nat) (k : Core) : Core :=
  (List.range 18).foldl (fun acc m => decideMonitor b m (setWmon b m { wmonOf acc b m with repH := false, repL := false } acc)) k

/-! ### Registers -/

/-- WM_CTRL written: a monitor that no tree blanks any more leaves its blanking interval (R248). -/
def wmCtrlWritten (b m : Nat) (k : Core) : Core :=
  if regFld k (wmReg b m 0x200) 13 12 = 0 then opBlankEnd b m k else k

/-- An accession that writes WM_CAPT_CTRL arms or disarms the capture unit (R250, R251). -/
def wmArm (b m : Nat) (k : Core) : Core :=
  if regBit k (wmReg b m 0x204) 31 then
    setReg (wmReg b m 0x210) 0 (setRegBit (wmReg b m 0x20C) 2 true (setRegBit (wmReg b m 0x20C) 4 false
      (setWmon b m { wmonOf k b m with missed := false, lastCapt := none } k)))
  else setRegBit (wmReg b m 0x20C) 2 false k

/-! ### Wake (R255, R256) -/

/-- The condition of a monitor; a comparator that is UNDECIDED, or under a check, fails every condition that names it. -/
def wakeMet (k : Core) (b m : Nat) : Bool :=
  let okH := !wmBit k b m 6 && !wmBit k b m 5
  let okL := !wmBit k b m 7 && !wmBit k b m 5
  match regFld k (wmReg b m 0x208) 2 0 with
  | 0 => okH && wmBit k b m 0
  | 1 => okH && !wmBit k b m 0
  | 2 => okL && wmBit k b m 1
  | 3 => okL && !wmBit k b m 1
  | 4 => okH && okL && !wmBit k b m 0 && !wmBit k b m 1
  | 5 => okH && okL && (wmBit k b m 0 || wmBit k b m 1)
  | _ => false

/-- The monitors of a block that take part in wake. -/
def wakeMonitors (k : Core) (b : Nat) : List Nat := (List.range 18).filter (fun m => regBit k (wmReg b m 0x208) 31)

/-- The block condition: any participating monitor's, or with ALL every one's (R255). -/
def blockWake (k : Core) (b : Nat) : Bool :=
  let l := wakeMonitors k b
  if regBit k (blockReg b 0x700) 16 then !l.isEmpty && l.all (wakeMet k b) else l.any (wakeMet k b)

/-- WAKE_CONDITION_BREAK: the count returns to 0, and the block may raise a request again (R256). -/
def opWakeConditionBreak (b : Nat) (k : Core) : Core := { k with wakeRaised := k.wakeRaised.filter (fun x => x != b) }

/-- Meaning of WAKE_CONDITION_BREAK (R256). -/
def execWakeConditionBreak (b : Block) (s : State) : Host.Outcome State Fault Refusal :=
  .next (onCore (opWakeConditionBreak b.val) s)

end Sys2Proof.Machine
end

