-- ==== Sys2Proof/Machine/Pins.lean ====
section
/-! DEFINITION. Pin cells, spare cells and the pin switch: the operations of spec/02_pin_cells.md, and the meanings of that
chapter's events. -/

namespace Sys2Proof.Machine

/-! ### Level DACs (R43 to R51) -/

/-- The level DAC of a register offset in the cell page, 0 VIH to 10 the PPMU setpoint (R78, Table PIN-10A). -/
def dacOfOff (off : Nat) : Option Nat :=
  if 0x20 ≤ off ∧ off ≤ 0x48 ∧ off % 4 = 0 then some ((off - 0x20) / 4) else none

/-- The register offset of a level DAC. -/
def dacOff (i : Nat) : Nat := 0x20 + 4 * i

/-- The power-up code of a level DAC, the factory contents of R78. -/
def dacFactory (i : Nat) : Nat :=
  if i < 6 then 0x4000
  else if i < 8 then 0
  else if i = 8 then 0xB6DB
  else if i = 9 then 0x199A
  else 0x38E4

/-- A level DAC at its power-up value (R45). -/
def dacReset (i : Nat) : Dac :=
  { out := dacFactory i, fine := decide (i < 6), a := 0, b := 0, n := 0, k := 0, phase := .idle, dwellEnd := 0
    target := if i < 6 then 0x80004000 else BitVec.ofNat 32 (dacFactory i) }

/-- The key of a cell's DAC. -/
def dacKey (c i : Nat) : Nat := 11 * c + i

/-- A cell's DAC. -/
def dacOf (k : Core) (c i : Nat) : Dac := amGetD k.dacs (dacKey c i) (dacReset i)

/-- A cell's DAC replaced. -/
def setDac (c i : Nat) (d : Dac) (k : Core) : Core := { k with dacs := amSet k.dacs (dacKey c i) d }

/-- The width of a DAC's span in mV (Table PIN-3). -/
def spanWidth (i : Nat) (fine : Bool) : Nat :=
  if i < 6 then (if fine then 2000 else 5500) else if i = 8 then 7000 else 5000

/-- The low end of a voltage DAC's span in mV below zero (Table PIN-3). -/
def spanLow (fine : Bool) : Nat := if fine then 500 else 1000

/-- The code nearest a safe value in mV, in a span, at most the highest code (R44, R50). -/
def safeCode (fine : Bool) (mv : Int) : Nat := min 65535 (roundDiv ((mv + spanLow fine) * 65536) (spanWidth 0 fine)).toNat

/-- The level of a code in a span, in mV to the nearest (Table PIN-3). -/
def codeMv (fine : Bool) (code : Nat) : Int := roundDiv ((code * spanWidth 0 fine : Nat) : Int) 65536 - spanLow fine

/-- SAFE_MV of a level word, signed (R78). -/
def safeMv (w : Word) : Int := signed (fld w 27 16) 12

/-- The intervals of a change from code `a` to `b` (R49): ⌈m / STEP_MV⌉ with m the difference in whole mV, at least 1 when the
codes differ. -/
def slewCount (i : Nat) (fine : Bool) (a b step : Nat) : Nat :=
  if a = b then 0
  else max 1 (ceilDiv (roundDiv (((max a b - min a b) * spanWidth i fine : Nat) : Int) 65536).toNat step)

/-- Start a change to a code under the slew limiter (R49): in one step when STEP_MV is 0. -/
def startSlew (i step code : Nat) (d : Dac) : Dac :=
  if step = 0 then { d with out := code, a := code, b := code, n := 0, k := 0 }
  else { d with a := d.out, b := code, n := slewCount i d.fine d.out code step, k := 0 }

/-- Start the span sequence of Table PIN-4 from the present value: towards SAFE_MV in the span in use. -/
def startSpan (i step : Nat) (w : Word) (d : Dac) : Dac :=
  startSlew i step (safeCode d.fine (safeMv w)) { d with phase := .toSafe, target := w }

/-- A written level word reaches a DAC (R49 to R51). -/
def levelTarget (i step : Nat) (w : Word) (d : Dac) : Dac :=
  if i = 6 ∨ i = 7 ∨ i = 10 then { d with out := fld w 15 0, target := w }
  else if 8 ≤ i then startSlew i step (fld w 15 0) { d with target := w }
  else
    match d.phase with
    | .idle | .toTarget =>
      if bit w 31 = d.fine then startSlew i step (fld w 15 0) { d with target := w } else startSpan i step w d
    | .toSafe | .dwell => { d with target := w }

/-- LEVEL_SLEW.STEP_MV of a cell. -/
def stepMv (k : Core) (c : Nat) : Nat := regFld k (cellReg c 0x14) 11 0

/-- The time in ticks from now until a DAC reaches a level word written now (R49, R50). -/
def levelTicks (i step : Nat) (w : Word) (d : Dac) : Nat :=
  let code := fld w 15 0
  if i = 6 ∨ i = 7 ∨ i = 10 then 0
  else if 8 ≤ i ∨ bit w 31 = d.fine then (if step = 0 then 0 else 8 * slewCount i d.fine d.out code step)
  else if step = 0 then 400
  else 8 * slewCount i d.fine d.out (safeCode d.fine (safeMv w)) step + 400
    + 8 * slewCount i (bit w 31) (safeCode (bit w 31) (safeMv w)) code step

/-- The output code after interval `k` of a change (R49): a + round(k (b − a) / n). -/
def slewCode (d : Dac) : Nat :=
  if d.n = 0 then d.b else ((d.a : Int) + roundDiv ((d.k : Int) * ((d.b : Int) - d.a)) d.n).toNat

/-- Is a DAC's change complete? -/
def slewDone (d : Dac) : Bool := decide (d.n ≤ d.k)

/-- SEQ_ACTIVE of a DAC in CELL_STATUS (R50). -/
def setSeq (c i : Nat) (on : Bool) (k : Core) : Core := setRegBit (cellReg c 0x50) i on k

/-- A level word takes effect at a DAC of the cell that carries it. In WAVEFORM mode VTT follows its source, and VTT_LEVEL
only keeps the value (R42); while SELFCAL runs in the block the value waits for its end (R464). -/
def levelWrite (c i : Nat) (w : Word) (k : Core) : Core :=
  if (i = 2 ∧ regFld k (cellReg c 0) 1 0 = 3) ∨ selfcalRuns k (blockOfCell c) then k
  else
    let d := levelTarget i (stepMv k c) w (dacOf k c i)
    let k1 := setDac c i d k
    if i < 6 ∧ d.phase ≠ .idle then setSeq c i true k1 else k1

/-- LEVEL_SLEW_INTERVAL (R49): one 40 ns interval of a change under way. -/
def opLevelSlewInterval (c i : Nat) (k : Core) : Core :=
  let d := dacOf k c i
  if slewDone d then k
  else
    let d1 := { d with k := d.k + 1 }
    setDac c i { d1 with out := slewCode d1 } k

/-- Meaning of LEVEL_SLEW_INTERVAL (R49). -/
def execLevelSlewInterval (cell : Cell) (dac : Fin 11) (s : State) : Host.Outcome State Fault Refusal :=
  .next (onCore (opLevelSlewInterval cell.val dac.val) s)

/-- SPAN_SAFE_REACHED (Table PIN-4, step 2): the output is at SAFE_MV, and the dwell of 2.00 µs begins. -/
def opSpanSafeReached (c i : Nat) (k : Core) : Core :=
  let d := dacOf k c i
  if d.phase = .toSafe ∧ slewDone d then setDac c i { d with phase := .dwell, dwellEnd := k.clock.uptime + 400 } k else k

/-- Meaning of SPAN_SAFE_REACHED (R50). -/
def execSpanSafeReached (cell : Cell) (dac : Fin 6) (s : State) : Host.Outcome State Fault Refusal :=
  .next (onCore (opSpanSafeReached cell.val dac.val) s)

/-- SPAN_DWELL_END (Table PIN-4, steps 3 and 4; R51): the span switches to that of the latest target, unless that is the span
in use before, and the output moves to the target code. -/
def opSpanDwellEnd (c i : Nat) (k : Core) : Core :=
  let d := dacOf k c i
  if d.phase = .dwell ∧ d.dwellEnd ≤ k.clock.uptime then
    let fine := bit d.target 31
    let d1 := { d with
      fine := fine, phase := .toTarget
      out := if fine = d.fine then d.out else safeCode fine (codeMv d.fine d.out) }
    setDac c i (startSlew i (stepMv k c) (fld d.target 15 0) d1) k
  else k

/-- Meaning of SPAN_DWELL_END (R50, R51). -/
def execSpanDwellEnd (cell : Cell) (dac : Fin 6) (s : State) : Host.Outcome State Fault Refusal :=
  .next (onCore (opSpanDwellEnd cell.val dac.val) s)

/-- SPAN_DONE (Table PIN-4, step 5): the target is reached, SEQ_ACTIVE clears, and cause SPAN_DONE is recorded. -/
def opSpanDone (c i : Nat) (k : Core) : Core :=
  let d := dacOf k c i
  if d.phase = .toTarget ∧ slewDone d then
    recordCause (cellReg c 0x54) 4 (setSeq c i false (setDac c i { d with phase := .idle } k))
  else k

/-- Meaning of SPAN_DONE (R50). -/
def execSpanDone (cell : Cell) (dac : Fin 6) (s : State) : Host.Outcome State Fault Refusal :=
  .next (onCore (opSpanDone cell.val dac.val) s)

/-! ### Driver, load and switch -/

/-- A cell's record beside its registers. -/
def cellOf (k : Core) (c : Nat) : CellInt := amGetD k.cells c {}

/-- A cell's record replaced. -/
def setCell (c : Nat) (x : CellInt) (k : Core) : Core := { k with cells := amSet k.cells c x }

/-- The spare cell of a cell's block. -/
def spareOf (c : Nat) : Nat := cellOfBlock (blockOfCell c) 16

/-- Does the spare carry this pin cell's pin (CELL_STATUS.CARRIED)? -/
def carried (k : Core) (c : Nat) : Bool := decide (c % 17 < 16) && regBit k (cellReg c 0x50) 21

/-- The cell that carries a pin cell's pin (R59). -/
def carrier (k : Core) (c : Nat) : Nat := if carried k c then spareOf c else c

/-- Is a pin's switch held open (R37, R72, R215, R285, R506)? -/
def switchOpen (x : CellInt) : Bool := x.faultOpen || x.contentionOpen || x.fabricOpen || x.blockOpen

/-- The driver state of a two-bit code of DRIVE_CTRL.STATIC (R78). -/
def driveCode (n : Nat) : DriveState :=
  match n with
  | 1 => .vil
  | 2 => .vih
  | 3 => .vtt
  | _ => .z

/-- The pin that a cell drives: a pin cell's own, and for a spare the one it carries. -/
def pinAt (k : Core) (c : Nat) : Option Nat :=
  if c % 17 < 16 then some (pinOfCell c)
  else
    let i := regFld k (blockReg (blockOfCell c) 4) 4 0
    if i < 16 then some (pinOfCell (cellOfBlock (blockOfCell c) i)) else none

/-- Does the pair hold a cell's driver at high impedance and its load off (R407)? -/
def tenSilent (k : Core) (c : Nat) : Bool := (pinAt k c).any (tenanted k) && regionSilent k (regionOfCell c)

/-- The driver's state under its mode and source (Table PIN-2, R52): static from STATIC, itinerary and fabric as those units
last set it (`source`), VTT in WAVEFORM mode, high impedance in PPMU mode, while stopped under R54, while silent under R407, and
while the block is stopped or in Doze (R431, R507). -/
def driveState (k : Core) (c : Nat) : DriveState :=
  if regBit k (cellReg c 0x50) 18 ∨ tenSilent k c ∨ (cellOf k c).doze ∨ (cellOf k c).blockOpen then .z
  else match regFld k (cellReg c 0) 1 0 with
    | 1 => .z
    | 3 => .vtt
    | _ => (cellOf k c).source

/-- LOAD_ACTIVE (R56): LOAD_EN is 1, the mode is DIGITAL or DIGITISER, and the driver is at high impedance; not while the pair
holds the pin silent (R407). -/
def loadActive (k : Core) (c : Nat) : Bool :=
  regBit k (cellReg c 0xC) 0 && (regFld k (cellReg c 0) 1 0 % 2 == 0) && ((cellOf k c).drive == .z)
    && !tenSilent k c && !(cellOf k c).doze && !(cellOf k c).blockOpen

/-- What the cell's source last set: STATIC while that is the source in a mode that drives. -/
def driveSource (k : Core) (c : Nat) : DriveState :=
  if regFld k (cellReg c 0) 1 0 % 2 = 0 ∧ regFld k (cellReg c 8) 5 4 = 0 then driveCode (regFld k (cellReg c 8) 1 0)
  else (cellOf k c).source

/-- The driver and the load follow the cell's registers. -/
def refreshDrive (c : Nat) (k : Core) : Core :=
  let k0 := setCell c { cellOf k c with source := driveSource k c } k
  let k1 := setCell c { cellOf k0 c with drive := driveState k0 c } k0
  setRegBit (cellReg c 0x50) 19 (loadActive k1 c) k1

/-- CELL_STATUS shows the mode in effect, and the switch position in effect: PARKED while the switch is held open, and
in Doze in any position but OPEN_WIRE (R59, R78, R431). -/
def refreshSwitch (c : Nat) (k : Core) : Core :=
  let pos := if switchOpen (cellOf k c) ∨ ((cellOf k c).doze ∧ regFld k (cellReg c 4) 2 0 ≠ 4) then 0 else regFld k (cellReg c 4) 2 0
  setRegFld (cellReg c 0x50) 14 12 pos (setRegFld (cellReg c 0x50) 17 16 (regFld k (cellReg c 0) 1 0) k)

/-- A driver set by the itinerary engine or the fabric (R52). -/
def setDrive (c : Nat) (v : DriveState) (k : Core) : Core :=
  refreshDrive c (setCell c { cellOf k c with source := v } k)

/-- A driver stopped under R54 is armed again. -/
def rearmDriver (c : Nat) (k : Core) : Core := refreshDrive c (setRegBit (cellReg c 0x50) 18 false k)

/-- What a write to a register of a cell's page does beyond setting it, at the cell that acts on it. -/
def cellEffect (c off : Nat) (w : Word) (k : Core) : Core :=
  match dacOfOff off with
  | some i => levelWrite c i w k
  | none =>
    if off = 0 then
      let k1 := refreshSwitch c (refreshDrive c k)
      if fld w 1 0 = 3 then k1 else levelWrite c 2 (reg k1 (cellReg c 0x28)) k1
    else if off = 4 then refreshSwitch c k
    else if off = 8 then rearmDriver c k
    else if off = 0xC then refreshDrive c k
    else k

/-- The registers of a cell page that the spare takes from the cell it carries (Table PIN-10). -/
def carriedOff (off : Nat) : Bool :=
  off == 0 || off == 8 || off == 0xC || off == 0x10 || off == 0x14 || (dacOfOff off).isSome

/-- A write to a cell's register takes effect. While the spare carries the pin, the write is recorded in the owner's register
and applied to the spare (R67); the clamps stay with the owner (R58), and so does the switch position. -/
def writeCellReg (c off : Nat) (w : Word) (k : Core) : Core :=
  let k1 := setReg (cellReg c off) w k
  if carried k c ∧ carriedOff off then
    let k2 := setReg (cellReg (spareOf c) off) w k1
    if dacOfOff off = some 8 ∨ dacOfOff off = some 9 then cellEffect c off w k2
    else cellEffect (spareOf c) off w k2
  else cellEffect c off w k1

/-! ### Spare cells (R67 to R75) -/

/-- The offsets the receiving cell takes in a hand-off (Table PIN-8, step 1): mode, drive, load, open wire, slew and levels. -/
def handOffs : List Nat := [0, 8, 0xC, 0x10, 0x14] ++ (List.range 11).map dacOff

/-- One cell takes another's settings, its DACs already settled at the levels (Table PIN-8, step 1; Table PIN-9A, step 3). -/
def takeSettings (src dst : Nat) (k : Core) : Core :=
  let k1 := handOffs.foldl (fun acc off => setReg (cellReg dst off) (reg k (cellReg src off)) acc) k
  let k2 := (List.range 11).foldl (fun acc i =>
    setDac dst i { dacReset i with
      out := fld (reg k (cellReg src (dacOff i))) 15 0
      fine := bit (reg k (cellReg src (dacOff i))) 31
      target := reg k (cellReg src (dacOff i)) } acc) k1
  refreshSwitch dst (refreshDrive dst (setCell dst { cellOf k2 dst with source := (cellOf k src).source } k2))

/-- The bit of a block's CELL_STATUS.CARRIED, in the owner's page and in the spare's. -/
def setCarried (c : Nat) (on : Bool) (k : Core) : Core :=
  setRegBit (cellReg (spareOf c) 0x50) 21 on (setRegBit (cellReg c 0x50) 21 on k)

/-- SUB_INCARNATION increments, and the new value goes to the cell that gains the pin (R74). -/
def stepIncarnation (b gains : Nat) (k : Core) : Core :=
  let v := reg k (blockReg b 8) + 1
  setCell gains { cellOf k gains with switchInc := v } (setReg (blockReg b 8) v k)

/-- SPARE_STATUS.REASON. -/
def spareReason (k : Core) (b : Nat) : Nat := regFld k (blockReg b 4) 7 5

/-- SPARE_STATUS.CARRYING: the cell number the spare carries, 0x1F for none. -/
def spareCarrying (k : Core) (b : Nat) : Nat := regFld k (blockReg b 4) 4 0

/-- SPARE_STATUS.REASON and CARRYING set together. -/
def setSpare (b reason carrying : Nat) (k : Core) : Core :=
  setRegFld (blockReg b 4) 4 0 carrying (setRegFld (blockReg b 4) 7 5 reason k)

/-- The end of a waiting hand-off: HANDOFF_PENDING clears. -/
def dropHandoff (b : Nat) (k : Core) : Core :=
  setRegBit (blockReg b 4) 8 false { k with handoffs := amErase k.handoffs b }

/-- A hand-off starts to wait for its quiet beat (R70, R71). -/
def requestHandoff (b : Nat) (h : Handoff) (k : Core) : Core :=
  setRegBit (blockReg b 4) 8 true { k with handoffs := amSet k.handoffs b h }

/-- A pin's cell changes: its channel restarts and tags the change (R187, R202), and its comparators decide anew (R243). -/
def moveMonitors (b i : Nat) (k : Core) : Core := wmConnect b i (noteChange true true b i k)

/-- The spare takes a pin: it carries the settings, SPARE_STATUS and SUB_INCARNATION follow, and a standby of the spare ends
with its new incarnation (R70, R74). -/
def spareTakes (b i reason : Nat) (k : Core) : Core :=
  let c := cellOfBlock b i
  let k1 := setSpare b reason i (setCarried c true (takeSettings c (spareOf c) k))
  moveMonitors b i (stepIncarnation b (spareOf c) (setRegBit (cellReg (spareOf c) 0x50) 23 false k1))

/-- CAL_BLK_STATE of a block (R485): the cell of the present turn and its state. -/
def setTurn (b cell st : Nat) (k : Core) : Core :=
  setRegFld (blockReg b 0xB00) 20 16 cell (setRegFld (blockReg b 0xB00) 1 0 st k)

/-- The turn of a block ends (Table CAL-4, step 5): CAL_BUSY clears, and the state is IDLE. -/
def endTurn (b : Nat) (k : Core) : Core :=
  match amGet? k.cal.turns b with
  | some t =>
    setTurn b 0x1F 0 (setRegBit (cellReg (cellOfBlock b t.cell) 0x50) 20 false { k with cal := { k.cal with turns := amErase k.cal.turns b } })
  | none => k

/-- A turn that has handed its pin to the spare ends as the pin returns (Table CAL-4, Table CAL-5). -/
def endHanded (b : Nat) (k : Core) : Core :=
  match amGet? k.cal.turns b with
  | some t => if t.handed then endTurn b k else k
  | none => k

/-- A turn of a cell ends as the cell faults (Table CAL-5). -/
def endTurnOf (b i : Nat) (k : Core) : Core :=
  match amGet? k.cal.turns b with
  | some t => if t.cell = i then endTurn b k else k
  | none => k

/-- The spare gives its pin back to the owner, and cause SUBSTITUTION is recorded on the owner (Table PIN-8, Table PIN-9A). -/
def spareReturns (b : Nat) (k : Core) : Core :=
  let c := cellOfBlock b (spareCarrying k b)
  let k1 := setSpare b 0 0x1F (setCarried c false (takeSettings (spareOf c) c k))
  endHanded b (moveMonitors b (spareCarrying k b) (refreshSwitch c (recordCause (cellReg c 0x54) 3 (stepIncarnation b c k1))))

/-- A hand-off of background calibration to the spare is made (Table CAL-4, step 2). -/
def calHandoff (b cell : Nat) (k : Core) : Core :=
  match amGet? k.cal.turns b with
  | some t =>
    setTurn b cell 2 (setRegBit (cellReg (cellOfBlock b cell) 0x50) 20 true
      { k with cal := { k.cal with turns := amSet k.cal.turns b { t with handed := true } } })
  | none => k

/-- A hand-off of background calibration found no quiet beat (R71, R469): DEFER counts; a turn not yet handed over passes to the
next cell at once, and a hand-back is tried again. -/
def calDeferred (b : Nat) (h : Handoff) (k : Core) : Core :=
  let k1 := countFld (blockReg b 0xB08) 15 0 1 k
  if h.toSpare then
    let k2 := endTurn b k1
    { k2 with cal := { k2.cal with nextTurn := amSet k2.cal.nextTurn b k2.clock.uptime } }
  else requestHandoff b { h with since := k.clock.uptime } k1

/-- HANDOFF (Table PIN-8): the quiet beat of a waiting hand-off has come, and the pin moves; a ticket completes DONE. A return
made for a fault substitution is made here too, at the first quiet beat (Table PIN-9A, step 2). -/
def opHandoff (b : Nat) (k : Core) : Core :=
  match amGet? k.handoffs b with
  | some h =>
    let k1 := dropHandoff b k
    let k2 :=
      if h.toSpare then
        recordCause (cellReg (cellOfBlock b h.cell) 0x54) 3
          (spareTakes b h.cell (if h.reason = .calibration then 1 else 3) k1)
      else if spareCarrying k b = h.cell then spareReturns b k1
      else k1
    if h.reason = .host then (if h.ticket ≠ 0 then completeTicket h.ticket stDone [] k2 else k2)
    else if h.toSpare then calHandoff b h.cell k2
    else k2
  | none => k

/-- Meaning of HANDOFF (R70). -/
def execHandoff (b : Block) (s : State) : Host.Outcome State Fault Refusal := .next (onCore (opHandoff b.val) s)

/-- SPARE_CTRL.QUIET_LIMIT in ticks: 10 µs units, 0x00 as 0x01 (R78). -/
def quietLimit (k : Core) (b : Nat) : Nat := usTicks (10 * max 1 (regFld k (blockReg b 0) 15 8))

/-- HANDOFF_TIMEOUT (R71): no quiet beat came within QUIET_LIMIT, so the hand-off is not made; a host's ticket completes with
WAITING, and a calibration hand-off is deferred. -/
def opHandoffTimeout (b : Nat) (k : Core) : Core :=
  match amGet? k.handoffs b with
  | some h =>
    if h.since + quietLimit k b ≤ k.clock.uptime then
      if h.ticket ≠ 0 then completeTicket h.ticket stWaiting [] (dropHandoff b k)
      else if h.reason = .calibration then calDeferred b h (dropHandoff b k)
      else dropHandoff b k
    else k
  | none => k

/-- Meaning of HANDOFF_TIMEOUT (R71). -/
def execHandoffTimeout (b : Block) (s : State) : Host.Outcome State Fault Refusal := .next (onCore (opHandoffTimeout b.val) s)

/-- A waiting hand-off to the spare is cancelled by a fault of the block (R73): a host's ticket completes with STATE. -/
def cancelHandoff (b : Nat) (k : Core) : Core :=
  match amGet? k.handoffs b with
  | some h => if h.ticket ≠ 0 then completeTicket h.ticket stState [] (dropHandoff b k) else dropHandoff b k
  | none => k

/-- The switch of a pin opens on a fault: the pin is parked and its compare results are invalid (R72). -/
def parkPin (c : Nat) (k : Core) : Core :=
  pinInvalid (regionOfCell c) (pinOfCell c) (refreshSwitch c (setCell c { cellOf k c with faultOpen := true } k))

/-- A pin left without a spare: its UNSPARED bit is set and cause FAULT is recorded (R72, R73). -/
def unsparePin (c : Nat) (k : Core) : Core :=
  recordCause (cellReg c 0x54) 2 (setRegBit (blockReg (blockOfCell c) 4) (16 + c % 17) true k)

/-- FAULTED and FAULT_CODE of a cell (R72). -/
def markFault (c code : Nat) (k : Core) : Core :=
  setRegBit (cellReg c 0x50) 22 true (setRegFld (cellReg c 0x50) 31 24 code k)

/-- Is the unit of a cell already contained: its block parked, or its region fenced (R513)? -/
def cellContained (k : Core) (c : Nat) : Bool :=
  blockStopped k (blockOfCell c)

/-- A fault of a pin cell (R72, R73, R513). The spare keeps the faulted cell's own pin as a fault substitution; otherwise the
pin is parked, and the spare connects where AUTO_SUB is 1 and no other fault holds it. -/
def opCellFault (pin code : Nat) (k : Core) : Core :=
  let c := cellOfPin pin
  let b := blockOfCell c
  let base := pageBase (.cell c)
  if cellContained k c ∨ regBit k (cellReg c 0x50) 22 then logFault 0 0 code base 0 k
  else
    let k1 := endTurnOf b (c % 17) (markFault c code k)
    if spareCarrying k b = c % 17 then
      logFault 0 1 code base 0 (setSpare b 2 (c % 17) (cancelHandoff b k1))
    else
      let pend := match amGet? k.handoffs b with
        | some h => h.toSpare
        | none => false
      let k2 := parkPin c (if pend then cancelHandoff b k1 else k1)
      if ¬ regBit k (blockReg b 0) 0 ∨ spareReason k b = 2 ∨ spareReason k b = 4 ∨ (amGet? k.faultSubs b).isSome then
        logFault 0 2 code base 0 (unsparePin c k2)
      else
        let k3 := { k2 with faultSubs := amSet k2.faultSubs b { cell := c % 17, since := k.clock.uptime } }
        let k4 :=
          if spareCarrying k b < 16 then
            requestHandoff b { cell := spareCarrying k b, toSpare := false, reason := .host, ticket := 0,
                               since := k.clock.uptime } k3
          else k3
        logFault 0 1 code base 0 k4

/-- SPARE_FORCED_RETURN (Table PIN-9A, step 2): 10 µs after a fault, another pin that the spare still carries is forced back. -/
def opSpareForcedReturn (b : Nat) (k : Core) : Core :=
  match amGet? k.faultSubs b with
  | some f =>
    if spareCarrying k b < 16 ∧ spareCarrying k b ≠ f.cell ∧ f.since + usTicks 10 ≤ k.clock.uptime then
      spareReturns b (dropHandoff b k)
    else k
  | none => k

/-- Meaning of SPARE_FORCED_RETURN (R73). -/
def execSpareForcedReturn (b : Block) (s : State) : Host.Outcome State Fault Refusal :=
  .next (onCore (opSpareForcedReturn b.val) s)

/-- FAULT_SUBSTITUTION_CONNECT (Table PIN-9A, steps 3 and 4): the spare takes the faulted pin's settings and its switch closes;
the owner enters standby (R74), its pin's UNSPARED bit clears (R71), and a commanded substitution's ticket completes DONE. -/
def opFaultSubstitutionConnect (b : Nat) (k : Core) : Core :=
  match amGet? k.faultSubs b with
  | some f =>
    if spareCarrying k b < 16 then k
    else
      let c := cellOfBlock b f.cell
      let k1 := spareTakes b f.cell 2 { k with faultSubs := amErase k.faultSubs b }
      let k2 := setRegBit (cellReg c 0x50) 23 true (setRegBit (blockReg b 4) (16 + f.cell) false k1)
      let k4 := pinValid (regionOfCell c) (pinOfCell c) k2
      let k3 := recordCause (cellReg c 0x54) 5 (refreshSwitch c (setCell c { cellOf k4 c with faultOpen := false } k4))
      if f.ticket ≠ 0 then completeTicket f.ticket stDone [] k3 else k3
  | none => k

/-- Meaning of FAULT_SUBSTITUTION_CONNECT (R72, R74). -/
def execFaultSubstitutionConnect (b : Block) (s : State) : Host.Outcome State Fault Refusal :=
  .next (onCore (opFaultSubstitutionConnect b.val) s)

/-- A fault of a spare cell (R73): a pin it carries is parked and left without a spare, REASON becomes 0b100 and CARRYING
0x1F, and the fault is logged. A pin that waited for the spare is left without one. -/
def opSpareFault (b code : Nat) (k : Core) : Core :=
  let sp := cellOfBlock b 16
  let i := spareCarrying k b
  if cellContained k sp ∨ spareReason k b = 4 then logFault 0 0 code (pageBase (.cell sp)) 0 k
  else
    let k1 := recordCause (cellReg sp 0x54) 2 (markFault sp code (cancelHandoff b k))
    let k2 :=
      if i < 16 then
        let c := cellOfBlock b i
        unsparePin c (parkPin c (setCarried c false k1))
      else k1
    let k3 := match amGet? k.faultSubs b with
      | some f =>
        let c := cellOfBlock b f.cell
        let k' := unsparePin c { k2 with faultSubs := amErase k2.faultSubs b }
        if f.ticket ≠ 0 then completeTicket f.ticket stState [] k' else k'
      | none => k2
    logFault 0 (if i < 16 then 2 else 0) code (pageBase (.cell sp)) 0 (setSpare b 4 0x1F k3)

/-- STALE_SWITCH_REQUEST (R74): a switch request with an incarnation older than the block's is discarded, and the cell enters
standby; one that carries the current incarnation changes nothing that the cell does not already hold. -/
def opStaleSwitchRequest (c : Nat) (inc : Word) (k : Core) : Core :=
  if olderInc inc (reg k (blockReg (blockOfCell c) 8)) ∧ ¬ regBit k (cellReg c 0x50) 23 then
    recordCause (cellReg c 0x54) 5 (setRegBit (cellReg c 0x50) 23 true k)
  else k

/-- Meaning of STALE_SWITCH_REQUEST (R74). -/
def execStaleSwitchRequest (cell : Cell) (incarnation : Word) (s : State) : Host.Outcome State Fault Refusal :=
  .next (onCore (opStaleSwitchRequest cell.val incarnation) s)

/-! ### Driver over-current and clamps -/

/-- DRV_OC (R54): a driver's current was above 60 mA for more than 5 µs; it goes to high impedance until it is armed again. -/
def opDrvOc (c : Nat) (k : Core) : Core :=
  if (cellOf k c).drive = .z then k
  else recordCause (cellReg c 0x54) 1 (refreshDrive c (setRegBit (cellReg c 0x50) 18 true k))

/-- Meaning of DRV_OC (R54). -/
def execDrvOc (cell : Cell) (s : State) : Host.Outcome State Fault Refusal := .next (onCore (opDrvOc cell.val) s)

/-- CLAMP (R57): clamp current was above 40 mA for more than 1 µs; the clamp keeps conducting. A spare has no pin (R40). -/
def opClamp (c : Nat) (k : Core) : Core := if c % 17 = 16 then k else recordCause (cellReg c 0x54) 0 k

/-- Meaning of CLAMP (R57). -/
def execClamp (cell : Cell) (s : State) : Host.Outcome State Fault Refusal := .next (onCore (opClamp cell.val) s)

end Sys2Proof.Machine
end

