-- ==== Sys2Proof/Machine/Units.lean ====
section
/-! DEFINITION. Which units may be accessed (R3, R34 to R37): order code, domain state, park and fence. -/

namespace Sys2Proof.Machine

/-- The domain of a page (Table PWR-2); none for pages of the always-on domain and of the region faults, which the hub die
holds (R459, R507). -/
def pageDomain (p : Page) : Option Nat :=
  match p with
  | .cell c => some (2 * blockOfCell c + 1)
  | .block b => some (2 * b + 1)
  | .engine r | .fp r | .tree r | .arb r => some (128 + 2 * r)
  | .qdrPort r => some (129 + 2 * r)
  | .rfault _ => none
  | .hub => some 148
  | .port _ | .car => some 150
  | .cat => some 151
  | .evt | .sec => some 153
  | .pwr => none
  | .cal => some 155
  | .chr => some 154
  | .stack n => some (144 + n)
  | .arccom => some 152

/-- Is a page's domain in Slumber or Off (R36)? -/
def pageAsleep (k : Core) (p : Page) : Bool :=
  match pageDomain p with
  | some d => decide (domState k d < 2)
  | none => false

/-- Is a block's analogue domain kept no lower than Doze by its wake settings (R257)? -/
def keptDoze (k : Core) (b : Nat) : Bool := !(wakeMonitors k b).isEmpty

/-- Are a block's pins held open: the block stopped (R506, R507, R510), under SELFCAL (Table CAL-2), its analogue domain in SLUMBER
or OFF (R62), or an entry to Slumber or Off past its step 2 and no wake settings (Table PWR-7A)? -/
def pinsHeld (k : Core) (b : Nat) : Bool :=
  blockStopped k b || selfcalRuns k b || decide (domState k (2 * b) < 2) || (k.pwr.parked == 3 && !keptDoze k b)

/-- Have a block's pins their Doze settings (Table PWR-3, R440)? -/
def pinsDozing (k : Core) (b : Nat) : Bool := domState k (2 * b) == 2 || decide (2 ≤ k.pwr.parked)

/-- The drivers, loads and switches of a block's cells follow what holds them. -/
def refreshBlockPins (b : Nat) (k : Core) : Core :=
  (List.range 17).foldl (fun acc i =>
    let c := cellOfBlock b i
    refreshSwitch c (refreshDrive c (setCell c { cellOf acc c with blockOpen := pinsHeld acc b, doze := pinsDozing acc b } acc))) k

/-! ### Stale cells (R472) -/

/-- Is a cell stale: PERIOD above 2,000 ms, or no value of it accepted for 10 s? -/
def cellStale (k : Core) (c : Nat) : Bool :=
  decide (2000 < regFld k 0x8DF00008 15 0)
    || (amGet? k.cal.acceptedAt c).all (fun t => decide (t + msTicks 10000 ≤ k.clock.uptime))

/-- CAL_BLK_STALE of a cell follows, and BG_STALE is recorded as the bit sets. -/
def refreshStale (c : Nat) (k : Core) : Core :=
  let a := blockReg (blockOfCell c) 0xB04
  let on := cellStale k c
  if regBit k a (c % 17) = on then k
  else if on then recordCause 0x8DF00010 2 (setRegBit a (c % 17) true k)
  else setRegBit a (c % 17) false k

/-- Every cell's bit follows a change of PERIOD. -/
def refreshAllStale (k : Core) : Core := (List.range 1088).foldl (fun acc c => refreshStale c acc) k

/-- The fault-record registers of a parked block (R37). -/
def faultRecordReg (p : Page) (off : Nat) : Bool :=
  match p with
  | .cell _ => off == 0x50 || off == 0x54
  | .block _ => [0x4, 0x8, 0x210, 0x218, 0x21C, 0x36C, 0x368, 0x408, 0x438, 0x704, 0x70C, 0xC00].contains off
  | _ => false

/-- Is a region fenced for an access (R37), or under restore after a module reset (R513)? -/
def regionShut (k : Core) (r : Nat) : Bool := regionFenced k r || restoringUnit k (64 + r)

/-- Is a block parked for an access (R37), or under restore after a module reset (R513)? -/
def blockShut (k : Core) (b : Nat) : Bool := blockParked k b || restoringUnit k b

/-- Is a page fenced or parked by a fault, for an access to a register of it (R37)? -/
def pageFaulted (k : Core) (p : Page) (off : Nat) : Bool :=
  match p with
  | .cell c => regionShut k (regionOfCell c) || (blockShut k (blockOfCell c) && !faultRecordReg p off)
  | .block b => regionShut k (b / 8) || (blockShut k b && !faultRecordReg p off)
  | .engine r | .fp r | .tree r | .arb r | .qdrPort r => regionShut k r
  | _ => false

/-- Does an address lie at an archive stack that is not fitted, or on a module without an archive in unit class 0x9 (R3)? -/
def notFitted (k : Core) (a : Nat) : Bool :=
  if a / 2 ^ 28 = 9 then
    match k.order with
    | .a000 => true
    | _ => decide (a / 2 ^ 20 % 32 = 31) && decide (a / 2 ^ 25 % 8 < 4) && decide (stacksFitted k.order ≤ a / 2 ^ 25 % 8)
  else false

/-- Check 6 of Table CMD-5: R3 first, then R34. -/
def targetRefusal (k : Core) (a : Nat) : Option Status :=
  if notFitted k a then some stNotFitted
  else if (pageOf a).isNone ∨ a % 4 ≠ 0 then some stTarget
  else none

/-- The state of the unit an access names (R36, R37; check 9). -/
def unitRefusal (k : Core) (a : Nat) : Option Status :=
  match pageOf a with
  | some p =>
    if pageAsleep k p then some stAsleep
    else if pageFaulted k p (pageOff a) then some stUnitFaulted
    else none
  | none => none

/-- The first refusal of a list. -/
def firstSome (l : List (Option Status)) : Option Status := (l.find? Option.isSome).getD none

/-- Is a status a request error (class 0x01xx)? -/
def isRequest (st : Status) : Bool := decide (st.toNat / 256 = 1)

/-- A refusal when a condition holds. -/
def refuseIf (c : Bool) (st : Status) : Option Status := if c then some st else none

/-- The engine states that bar changes: PRIMING, PRIMED, RUNNING, WAITING (Table ITIN-9; ITIN_STATUS.STATE 1 to 4). -/
def engineBusy (k : Core) (r : Nat) : Bool :=
  decide (1 ≤ regFld k (engReg r 0x10) 18 16) && decide (regFld k (engReg r 0x10) 18 16 ≤ 4)

end Sys2Proof.Machine
end

