-- ==== Sys2Proof/Machine/PowerBase.lean ====
section
/-! DEFINITION. Power targets, PWR_STATE, and what raises a wake event (R436 to R443). -/

namespace Sys2Proof.Machine

/-- A register of the power page. -/
def pwrReg (off : Nat) : Nat := pageBase .pwr + off

/-- PWR_STATE.STATE: 0 Off, 1 Slumber, 2 Doze, 3 Awake. -/
def powerState (k : Core) : Nat := regFld k (pwrReg 0) 31 30

/-- PWR_STATE.STEP: the steps of the running transition that have completed. -/
def powerStep (k : Core) : Nat := regFld k (pwrReg 0) 23 20

/-- The current target (R438): that of the running transition, or the present one. -/
def currentTarget (k : Core) : PowerTarget :=
  match k.pwr.run with
  | some t => t.target
  | none => k.pwr.present

/-- PWR_STATE shows the target, the queue and the transition (R459). -/
def showPower (k : Core) : Core :=
  let q := k.pwr.queued
  let w := setFld (setFld (reg k (pwrReg 0)) 29 28 (currentTarget k).state) 27 26 ((q.map (fun x => x.target.state)).getD 0)
  setReg (pwrReg 0) (putBit (putBit w 25 q.isSome) 24 k.pwr.run.isSome) k

/-- STATE and STEP set. -/
def setPowerState (v : Nat) (k : Core) : Core := setRegFld (pwrReg 0) 31 30 v k

/-- STEP set. -/
def setPowerStep (v : Nat) (k : Core) : Core := setRegFld (pwrReg 0) 23 20 v k

/-- Does the running transition enter a lower state? The state stays the one before it until the transition ends. -/
def entryRuns (k : Core) : Bool := k.pwr.run.any (fun t => decide (t.target.state < powerState k))

/-- A transition begins, with the tickets that end with it. -/
def beginTransition (t : PowerTarget) (tickets : List Word) (k : Core) : Core :=
  showPower (setPowerStep 0 { k with pwr := { k.pwr with
    before := if t.state < powerState k then k.pwr.present else k.pwr.before
    run := some { target := t, tickets := tickets, prior := k.pwr.present, start := k.clock.uptime } } })

/-- The target of a wake event: Awake, with the held masks in effect before the entry began (R443). -/
def wakeTarget (k : Core) : PowerTarget := { k.pwr.before with state := 3 }

/-- A wake event (R439, R443): it is recorded in PWR_WAKE_LAST, acts at the next abort point of an entry or as the entry ends, and
starts at once in Doze and Slumber. In Awake, in Off and on the way to Awake it has no further effect. -/
def raiseWake (source block : Nat) (k : Core) : Core :=
  let k1 := setReg (pwrReg 0x14) (BitVec.ofNat 32 (source * 2 ^ 28 + block)) k
  if entryRuns k then { k1 with pwr := { k1.pwr with wake := some { target := wakeTarget k, ticket := 0 } } }
  else if k.pwr.run.isNone ∧ (powerState k = 1 ∨ powerState k = 2) then beginTransition (wakeTarget k) [] k1
  else k

/-- A command that arrives for this module in Slumber is a wake event (R443). -/
def wakeForCommand (source : Nat) (k : Core) : Core := if powerState k = 1 then raiseWake source 0 k else k

end Sys2Proof.Machine
end

