-- ==== Sys2Proof/Machine/Routing.lean ====
section
/-! DEFINITION. The commons of a block: connections, sources and the routing check (R209 to R216). -/

namespace Sys2Proof.Machine

/-! ### Connections (Table COMM-1) -/

/-- The wire a routing code names: 1 is CW0 and 2 is CW1. -/
def wireCode (n : Nat) : Option Nat :=
  match n with
  | 1 => some 0
  | 2 => some 1
  | _ => none

/-- The register that holds a connection. -/
def connReg (b n : Nat) : Nat :=
  if n < 16 then cellReg (cellOfBlock b n) 4
  else if n < 20 then blockReg b (0x300 + 4 * (n - 16))
  else if n < 22 then blockReg b (0x310 + 4 * (n - 20))
  else if n < 24 then blockReg b (0x320 + 0x20 * (n - 22))
  else blockReg b 0x360

/-- The wire on which a connection stands under a view of the registers (R209, R212, R213). -/
def connWire (view : Nat → Word) (b n : Nat) : Option Nat :=
  let w := view (connReg b n)
  if n < 16 then wireCode (fld w 2 0 - 1)
  else if n < 20 then (if fld w 1 0 = 0 then none else wireCode (fld w 9 8))
  else if n < 22 then (if fld w 17 16 = 0 then none else wireCode (fld w 25 24))
  else if n < 24 then wireCode (fld w 9 8)
  else if n = 24 then (if bit w 0 then some 0 else none)
  else if bit w 8 then some 1 else none

/-- Is a connection a source of its wire (R210)? A commons pin is one with ROLE 1. -/
def connSource (view : Nat → Word) (b n : Nat) : Bool :=
  if n < 24 then true else bit (view (connReg b n)) (if n = 24 then 1 else 9)

/-- The sources of a wire under a view; `closed` says which connections are not open under R215. -/
def wireSources (view : Nat → Word) (closed : Nat → Bool) (b w : Nat) : List Nat :=
  (List.range 26).filter (fun n => closed n && connWire view b n == some w && connSource view b n)

/-! ### The routing check (R214) -/

/-- The input codes that amplifier 0 to 3 or filter 4, 5 uses (R212, R213, Table COMM-2): none while it is OFF, and IN_N in
DIFF only. -/
def elemInputs (view : Nat → Word) (b e : Nat) : List Nat :=
  let w := view (connReg b (16 + e))
  if e < 4 then
    if fld w 1 0 = 0 then [] else fld w 15 12 :: (if fld w 1 0 = 3 then [fld w 19 16] else [])
  else if fld w 17 16 = 0 then [] else [fld w 31 28]

/-- Does the output of one element feed another: directly, or through a wire that joins them (R214)? -/
def elemFeeds (view : Nat → Word) (closed : Nat → Bool) (b e e2 : Nat) : Bool :=
  let ins := elemInputs view b e2
  !(elemInputs view b e).isEmpty &&
    (ins.contains (4 + e) || (closed (16 + e) && (connWire view b (16 + e)).any (fun w => ins.contains w)))

/-- The elements that an element's output reaches in at most `n` steps more. -/
def elemReach (view : Nat → Word) (closed : Nat → Bool) (b : Nat) (n : Nat) (from_ : List Nat) : List Nat :=
  match n with
  | 0 => from_
  | m + 1 => elemReach view closed b m ((List.range 6).filter (fun e2 =>
      from_.contains e2 || from_.any (fun e => elemFeeds view closed b e e2)))

/-- Does an element's output reach one of its own inputs? -/
def elemLoop (view : Nat → Word) (closed : Nat → Bool) (b e : Nat) : Bool :=
  (elemReach view closed b 6 ((List.range 6).filter (fun e2 => elemFeeds view closed b e e2))).contains e

/-- Would a block's routing be refused (R214): a wire with two or more sources, or a loop? -/
def routingBad (view : Nat → Word) (closed : Nat → Bool) (b : Nat) : Bool :=
  [0, 1].any (fun w => decide (2 ≤ (wireSources view closed b w).length))
    || (List.range 6).any (elemLoop view closed b)

/-- Is a connection closed: not opened under R215? -/
def connClosed (k : Core) (b n : Nat) : Bool := !regBit k (blockReg b 0x368) n

/-- Is an address a register with a routing field of a block (R214)? -/
def routingReg (a : Nat) : Option Nat :=
  match pageOf a with
  | some (.cell c) => if pageOff a = 4 ∧ c % 17 < 16 then some (blockOfCell c) else none
  | some (.block b) =>
    if (0x300 ≤ pageOff a ∧ pageOff a < 0x318) ∨ pageOff a = 0x320 ∨ pageOff a = 0x340 ∨ pageOff a = 0x360 then some b else none
  | _ => none

/-- Is a connection made: closed, and not opened for SELFCAL (Table CAL-2, step 1), by a park, fence or halt (R506, R507, R510)
or by a power state (Table PWR-3)? In Doze only the commons pins stay connected. -/
def connMade (k : Core) (b n : Nat) : Bool := connClosed k b n && !selfcalRuns k b && !blockStopped k b
  && ((domState k (2 * b) == 3 && decide (k.pwr.parked < 2)) || (domState k (2 * b) == 2 && decide (24 ≤ n)))

/-- COMM_STATUS shows the source of each wire (R238). -/
def refreshCommons (b : Nat) (k : Core) : Core :=
  let src (w : Nat) : Nat := ((wireSources (reg k) (connMade k b) b w).head?).getD 0x1F
  setReg (blockReg b 0x364) (BitVec.ofNat 32 (src 1 * 32 + src 0)) k

/-- The commons connections that a block register holds. -/
def connsOf (off : Nat) : List Nat :=
  if 0x300 ≤ off ∧ off < 0x310 then [16 + (off - 0x300) / 4]
  else if 0x310 ≤ off ∧ off < 0x318 then [20 + (off - 0x310) / 4]
  else if off = 0x320 then [22]
  else if off = 0x340 then [23]
  else if off = 0x360 then [24, 25]
  else []

/-- An accession that writes the register of opened connections closes them again (R216). -/
def closeConns (b : Nat) (l : List Nat) (k : Core) : Core :=
  l.foldl (fun acc n => setRegBit (blockReg b 0x368) n false acc) k

/-- The time of an element's last change, by connection number (R230). -/
def touchElem (b n : Nat) (k : Core) : Core := { k with elemAt := amSet k.elemAt (32 * b + n) k.clock.uptime }

end Sys2Proof.Machine
end

