-- ==== Sys2Proof/Machine/Waves.lean ====
section
/-! DEFINITION. Waveform DAC cells (R217 to R222). -/

namespace Sys2Proof.Machine

/-- A waveform DAC cell at its power-up value: 0 V in the fine span, shape DC (R217, R238). -/
def wdacReset : Wdac :=
  { dac := { out := 0x4000, fine := true, a := 0, b := 0, n := 0, k := 0, phase := .idle, dwellEnd := 0, target := 0x80000000 }
    target := 0x4000, rising := true, lfsr := 1, fresh := false }

/-- A waveform DAC cell's record. -/
def wdacOf (k : Core) (b i : Nat) : Wdac := amGetD k.wdacs (2 * b + i) wdacReset

/-- A waveform DAC cell's record replaced; WDAC_OUT shows it (R238). -/
def setWdac (b i : Nat) (x : Wdac) (k : Core) : Core :=
  setReg (blockReg b (0x334 + 0x20 * i))
    (BitVec.ofNat 32 (2 ^ 31 * b2n x.dac.fine + 2 ^ 16 * b2n (x.dac.phase != .idle) + x.dac.out))
    { k with wdacs := amSet k.wdacs (2 * b + i) x }

/-- A register of a waveform DAC cell: CTRL 0, LEVELS 4, STEP 8, SLEW 0xC, SEED 0x10. -/
def wdacReg (b i off : Nat) : Nat := blockReg b (0x320 + 0x20 * i + off)

/-- A, the lower level code. -/
def wdacA (k : Core) (b i : Nat) : Nat := regFld k (wdacReg b i 4) 15 0
/-- B, the upper level code. -/
def wdacB (k : Core) (b i : Nat) : Nat := regFld k (wdacReg b i 4) 31 16
/-- WDAC_SLEW.STEP. -/
def wdacStep (k : Core) (b i : Nat) : Nat := regFld k (wdacReg b i 0xC) 15 0
/-- WDAC_CTRL.SHAPE. -/
def wdacShape (k : Core) (b i : Nat) : Nat := regFld k (wdacReg b i 0) 2 0

/-- A code moved towards a goal by at most a step; a step of 0 reaches it at once (R220). -/
def slewTo (step out goal : Nat) : Nat :=
  if step = 0 then goal else if out ≤ goal then min goal (out + step) else max goal (out - step)

/-- The cells of a block in WAVEFORM mode that follow a source (0, 1 a waveform DAC cell, 2 the fabric), where the cell that
carries the pin acts (R42, R67, R222). -/
def followers (k : Core) (b src : Nat) : List Nat :=
  ((List.range 17).map (cellOfBlock b)).filter (fun c =>
    regFld k (cellReg c 0) 1 0 == 3 && regFld k (cellReg c 0) 6 4 == src && !carried k c)

/-- The followers of a waveform DAC cell take its output code and span at their VTT DACs (R222). -/
def followWdac (b i : Nat) (k : Core) : Core :=
  let d := (wdacOf k b i).dac
  (followers k b i).foldl (fun acc c =>
    setDac c 2 { dacOf acc c 2 with out := d.out, fine := d.fine, a := d.out, b := d.out, n := 0, k := 0, phase := .idle } acc) k

/-- A restart of the generator (R219): shape DC holds the target at A, and the next tree edge is update 0 for the others. -/
def wdacRestart (b i : Nat) (k : Core) : Core :=
  let x := wdacOf k b i
  let y : Wdac := { x with lfsr := regFld k (wdacReg b i 0x10) 30 0, rising := true, fresh := true }
  if wdacShape k b i = 0 then
    let a := wdacA k b i
    setWdac b i { y with fresh := false, target := a, dac := { x.dac with out := if wdacStep k b i = 0 then a else x.dac.out } } k
  else setWdac b i y k

/-- The end of a span sequence: cause WDAC_SPAN_DONE, and the generator restarts (R221). -/
def wdacSpanDone (b i : Nat) (k : Core) : Core :=
  let x := wdacOf k b i
  recordCause (blockReg b 0x36C) 2
    (wdacRestart b i (setWdac b i { x with dac := { x.dac with phase := .idle } } k))

/-- The safe code of a waveform DAC cell in a span, from the WDAC_CTRL word it moves to (R50, R221). -/
def wdacSafe (fine : Bool) (w : Word) : Nat := safeCode fine (safeMv w)

/-- A span sequence starts (Table PIN-4, step 1); at the safe value already, its dwell begins at once. -/
def wdacStartSpan (b i : Nat) (w : Word) (k : Core) : Core :=
  let x := wdacOf k b i
  let goal := wdacSafe x.dac.fine w
  let out := slewTo (wdacStep k b i) x.dac.out (if wdacStep k b i = 0 then goal else x.dac.out)
  setWdac b i { x with dac := { x.dac with
    out := out, target := w, phase := if out = goal then .dwell else .toSafe, dwellEnd := k.clock.uptime + 400 } } k

/-- An accession writes a register of a waveform DAC cell (R219, R221): a change of SPAN starts its sequence, under R51 when one
runs; any other write restarts the generator. WDAC_SLEW restarts nothing. -/
def wdacAccede (b i off : Nat) (k : Core) : Core :=
  let x := wdacOf k b i
  let w := reg k (wdacReg b i 0)
  let k1 := touchElem b (22 + i) k
  if off = 0xC then k1
  else match x.dac.phase with
    | .idle => if bit w 31 = x.dac.fine then wdacRestart b i k1 else wdacStartSpan b i w k1
    | .toTarget => if bit w 31 = x.dac.fine then setWdac b i { x with dac := { x.dac with target := w } } k1 else wdacStartSpan b i w k1
    | .toSafe | .dwell => setWdac b i { x with dac := { x.dac with target := w } } k1

/-- step31: a Galois step, taps 31 and 28, shifting right (R219). -/
def step31 (l : Nat) : Nat := if l % 2 = 1 then (l / 2) ^^^ (2 ^ 30 + 2 ^ 27) else l / 2

/-- generator_update of R219. -/
def generatorUpdate (shape a b step : Nat) (x : Wdac) : Wdac :=
  if x.fresh then { x with target := a, rising := true, fresh := false }
  else match shape with
    | 1 =>
      if x.rising then { x with target := min (x.target + step) b, rising := decide (x.target + step < b) }
      else { x with target := max (x.target - step) a, rising := decide (x.target - step ≤ a) }
    | 2 => if x.target = b then { x with target := a } else { x with target := min (x.target + step) b }
    | 3 =>
      let l := step31 x.lfsr
      { x with lfsr := l, target := a + (b - a) * (l % 65536) / 65536 }
    | _ => x

/-- WDAC_UPDATE: an edge of the generator's tree. The generator computes its next target, the output equals it when the limiter
has STEP 0, and the cells that follow take the output (R219, R220, R222). -/
def opWdacUpdate (b i : Nat) (k : Core) : Core :=
  if ¬ analogRuns k b then k else
  let x := wdacOf k b i
  let y := if x.dac.phase = .idle then
      generatorUpdate (wdacShape k b i) (wdacA k b i) (wdacB k b i) (regFld k (wdacReg b i 8) 15 0) x
    else x
  let z : Wdac := if x.dac.phase = .idle ∧ wdacStep k b i = 0 then { y with dac := { y.dac with out := y.target } } else y
  followWdac b i (setWdac b i z k)

/-- Meaning of WDAC_UPDATE (R219). -/
def execWdacUpdate (b : Block) (i : Fin 2) (s : State) : Host.Outcome State Fault Refusal :=
  .next (onCore (opWdacUpdate b.val i.val) s)

/-- The dwell's end: the span switches to that of the latest word, unless that is the span in use, the followers switch with
it, and the output moves to A (Table PIN-4, steps 3 to 5; R222). -/
def wdacDwellEnd (b i : Nat) (k : Core) : Core :=
  let x := wdacOf k b i
  let fine := bit x.dac.target 31
  let out := if fine = x.dac.fine then x.dac.out else safeCode fine (codeMv x.dac.fine x.dac.out)
  let k1 := followWdac b i (setWdac b i { x with dac := { x.dac with fine := fine, out := out, phase := .toTarget } } k)
  if out = wdacA k b i then wdacSpanDone b i k1 else k1

/-- WDAC_SLEW_STEP: one interval of the slew limiter (R220). In a span sequence the output moves to the safe value, dwells
2.00 µs, and moves to A in the new span (R221). -/
def opWdacSlewStep (b i : Nat) (k : Core) : Core :=
  if domState k (2 * b) ≠ 3 then k else
  let x := wdacOf k b i
  let move (goal : Nat) : Nat := slewTo (wdacStep k b i) x.dac.out goal
  match x.dac.phase with
  | .idle => setWdac b i { x with dac := { x.dac with out := move x.target } } k
  | .toSafe =>
    let goal := wdacSafe x.dac.fine x.dac.target
    let out := move goal
    setWdac b i { x with dac := { x.dac with
      out := out, phase := if out = goal then .dwell else .toSafe, dwellEnd := k.clock.uptime + 400 } } k
  | .dwell => if x.dac.dwellEnd ≤ k.clock.uptime then wdacDwellEnd b i k else k
  | .toTarget =>
    let a := wdacA k b i
    let k1 := setWdac b i { x with dac := { x.dac with out := move a } } k
    if move a = a then wdacSpanDone b i k1 else k1

/-- Meaning of WDAC_SLEW_STEP (R220). -/
def execWdacSlewStep (b : Block) (i : Fin 2) (s : State) : Host.Outcome State Fault Refusal :=
  .next (onCore (opWdacSlewStep b.val i.val) s)

end Sys2Proof.Machine
end

