-- ==== Sys2Proof/Machine/Conv.lean ====
section
/-! DEFINITION. Monitor converters: their inputs, schedules, queues and results (R223 to R231). -/

namespace Sys2Proof.Machine

/-- A converter's record, 0 MA and 1 MB. -/
def convOf (k : Core) (b i : Nat) : Conv := amGetD k.convs (2 * b + i) {}

/-- A converter's record replaced; MON_STATUS shows whether it converts or is held (R238). -/
def setConv (b i : Nat) (x : Conv) (k : Core) : Core :=
  let held := match amGetD k.plaus b .none with
    | .none | .due => false
    | _ => !regBit k (blockReg b 0x408) (5 + i)
  setRegBit (blockReg b 0x408) (3 + i) x.recal.isSome (setRegBit (blockReg b 0x408) (1 + i) (x.run.isSome || held)
    { k with convs := amSet k.convs (2 * b + i) x })

/-- Is a converter marked bad (R234)? -/
def convBad (k : Core) (b i : Nat) : Bool := regBit k (blockReg b 0x408) (5 + i)

/-- Is a converter busy, or held for the plausibility check (R226)? -/
def convBusy (k : Core) (b i : Nat) : Bool := regBit k (blockReg b 0x408) (1 + i)

/-- An input code of Table COMM-3. -/
def inputOk (n : Nat) : Bool := (decide (n ≤ 0x10A) && decide (n % 16 ≤ 10)) || (decide (0x110 ≤ n) && decide (n ≤ 0x11F))

/-- MON_SCHED of a converter. -/
def schedReg (b i : Nat) : Nat := blockReg b (0x414 + 4 * i)

/-- MON_ENTRY `e` of a converter. -/
def entryReg (b i e : Nat) : Nat := blockReg b (0x500 + 0x80 * i + 4 * e)

/-- The entries of a converter's schedule. -/
def schedLen (k : Core) (b i : Nat) : Nat := regFld k (schedReg b i) 21 16

/-- Is a converter's schedule enabled? -/
def schedOn (k : Core) (b i : Nat) : Bool := regBit k (schedReg b i) 31

/-- The tariff register set of a block's converters. -/
def convTariff (b : Nat) : Nat := blockReg b 0x440

/-- The tariff class of a schedule entry's CLASS (R228, R238): TD, TE, TG and TH. -/
def entryClass (n : Nat) : Nat :=
  match n with
  | 0 => 3
  | 1 => 4
  | 2 => 6
  | _ => 7

/-- Has a class budget left for a conversion? -/
def convFunded (k : Core) (b cls : Nat) : Bool := decide (0 < remain k (convTariff b) cls)

/-- An entry of a schedule is skipped (R227): MON_SKIP counts, and its next word carries OVERRUN. -/
def skipEntry (b i e : Nat) (k : Core) : Core :=
  let x := convOf k b i
  countFld (blockReg b 0x410) (16 * i + 15) (16 * i) 1
    (setConv b i { x with counts := amSet x.counts e (amGetD x.counts e 0 + 1), owed := e :: x.owed.filter (fun o => o != e) } k)

/-- A trigger of a schedule makes the next entry pending; one that is still pending is skipped (R227). -/
def triggerEntry (b i : Nat) (k : Core) : Core :=
  let k1 := match (convOf k b i).pending with
    | some e => skipEntry b i e k
    | none => k
  let x := convOf k1 b i
  let n := if x.next + 1 < schedLen k b i then x.next + 1 else 0
  setConv b i { x with pending := some x.next, next := n } k1

/-- A schedule starts at entry 0; a free-running one has its first entry pending at once (R227, R230). -/
def startSchedule (b i : Nat) (k : Core) : Core :=
  let x := convOf k b i
  let k1 := setConv b i { x with pending := none, next := 0, counts := [], owed := [] } k
  if schedOn k b i ∧ regFld k (schedReg b i) 13 12 = 0 ∧ analogRuns k b then triggerEntry b i k1 else k1

/-- A write of MON_SCHED (R238): enabling starts the schedule, clearing EN stops it. -/
def schedWritten (b i : Nat) (old new : Word) (k : Core) : Core :=
  if bit new 31 ∧ ¬ bit old 31 then startSchedule b i k
  else if ¬ bit new 31 then setConv b i { convOf k b i with pending := none } k
  else k

/-- Is an input still settling (R230): a DAC whose span sequence or change is in progress, or an element's output within 10 µs
of an accession that changed it? -/
def inputSettling (k : Core) (b n : Nat) : Bool :=
  if n < 0x110 then
    let d := dacOf k (cellOfBlock b (n / 16)) (n % 16)
    d.phase != .idle || !slewDone d
  else if 0x112 ≤ n ∧ n ≤ 0x119 then
    (amGet? k.elemAt (32 * b + 16 + (n - 0x112))).any (fun t => decide (k.clock.uptime < t + 2000))
  else false

/-- MON_CORR of a converter: OFFSET and GAIN. -/
def convCorr (k : Core) (b i : Nat) : Word × Word := (reg k (blockReg b (0x428 + 8 * i)), reg k (blockReg b (0x42C + 8 * i)))

/-- A raw value corrected with OFFSET and GAIN, rounded and clamped to 24 bits (R188, R192, R223): the value, and whether it
did not fit. -/
def correct (r : Int) (offset gain : Word) : Int × Bool :=
  let v := roundDiv ((r - signed (fld offset 23 0) 24) * (fld gain 23 0 : Nat)) (2 ^ 22)
  if v < -(2 ^ 23) then (-(2 ^ 23), true) else if 2 ^ 23 ≤ v then (2 ^ 23 - 1, true) else (v, false)

/-- A sample word (R189): value, the tags SETTLING, OVR, COARSE, SUSPECT and OVERRUN, and the sequence modulo 8. -/
def sampleWord (v : Int) (settling ovr coarse suspect overrun : Bool) (seq : Nat) : Word :=
  BitVec.ofNat 32 (2 ^ 8 * unsigned v 24 + 128 * b2n settling + 64 * b2n ovr + 32 * b2n coarse + 16 * b2n suspect
    + 8 * b2n overrun + seq % 8)

/-- The result word of a conversion (R230, R231) whose raw code is `n`. -/
def convWord (k : Core) (b i : Nat) (run : ConvRun) (n : Nat) (overrun : Bool) (seq : Nat) : Word :=
  let ovr := n == 0 || n == 65535
  let c := correct ((n : Int) - 16384) run.offset run.gain
  let recent := (convOf k b i).lastOver.any (fun t => decide (run.start < t + 240))
  let v := if ovr then (if n = 0 then -(2 ^ 23) else 2 ^ 23 - 1) else c.1
  sampleWord v (run.settling || inputSettling k b run.input) (ovr || c.2) false
    ((recent && !ovr) || regBit k (blockReg b 0x408) 7 || defaulted k b (blockQuantity i)) overrun seq

/-- A converter starts a conversion, charged to a class of its block's converters (R228). -/
def startConv (b i : Nat) (what : ConvFor) (input cls : Nat) (k : Core) : Core :=
  let c := convCorr k b i
  let x : ConvRun :=
    { what := what, input := input, start := k.clock.uptime, settling := inputSettling k b input, offset := c.1, gain := c.2 }
  setConv b i { convOf k b i with run := some x } (chargeClass (convTariff b) cls 1 k)

/-- A dropped urgent request (R226). -/
def dropUrgent (b i : Nat) (k : Core) : Core :=
  recordCause (blockReg b 0x438) 0 (countFld (blockReg b 0x40C) (16 * i + 15) (16 * i) 1 k)

/-- The converter that an urgent request runs on, where one is idle; EITHER takes MA before MB (R226, R234). -/
def urgentConv (k : Core) (b sel : Nat) : Option Nat :=
  ((if sel = 2 then [0, 1] else [sel]).find? (fun i => !convBad k b i && !convBusy k b i))

/-- The converters that an urgent request names and that are not bad. -/
def urgentGood (k : Core) (b sel : Nat) : List Nat := (if sel = 2 then [0, 1] else [sel]).filter (fun i => !convBad k b i)

/-- FAB_CONVERT_REQUEST: a rise of fabric output 52 or 53 requests an urgent conversion of its FAB_MONREQ input, charged to TH
(R276); it is dropped under R226. A bad converter refuses it, and nothing answers (R234). -/
def opFabConvert (rose : Bool) (b i : Nat) (k : Core) : Core :=
  if ¬ rose ∨ convBad k b i then k
  else if convBusy k b i ∨ ¬ convFunded k b 7 then dropUrgent b i k
  else startConv b i .fabric (regFld k (blockReg b 0xA04) (16 * i + 8) (16 * i)) 7 k

end Sys2Proof.Machine
end

