-- ==== Sys2Proof/Machine/Folios.lean ====
section
/-! DEFINITION. Folio slots without their accession (R364 to R377), reservations (R341 to R346) and sessions (R339, R340,
R345). -/

namespace Sys2Proof.Machine

/-! ### Folio slots -/

/-- The slot and folio of a folio ID. -/
def folioBy (k : Core) (id : Word) : Option (Nat × Folio) := k.car.folios.find? (fun e => e.2.id == id)

/-- A folio slot replaced. -/
def setFolio (slot : Nat) (f : Folio) (k : Core) : Core := { k with car := { k.car with folios := amSet k.car.folios slot f } }

/-- A folio slot freed. -/
def freeFolio (slot : Nat) (k : Core) : Core := { k with car := { k.car with folios := amErase k.car.folios slot } }

/-- This module's number (R388). -/
def ownNumber (k : Core) : Nat := regFld k 0x83F00000 11 0

/-- CHR_CTRL.ROLE: 0 SOLO, 1 MASTER, 2 FOLLOWER (R99). -/
def role (k : Core) : Nat := regFld k 0x8FF00008 1 0

/-- Is this module the root of its domain (R360)? A SOLO module is its own root. -/
def isRoot (k : Core) : Bool := role k == 1 || role k == 0

/-- PORT_STATUS.STATE. -/
def portState (k : Core) (p : Nat) : Nat := regFld k (portReg p 4) 31 28

/-- The ACTIVE domain ports (R360). -/
def domainPorts (k : Core) : List Nat :=
  (List.range 4).filter (fun p => regBit k 0x83F00004 (28 + p) && portState k p == 3)

/-- A global packet is flooded by its origin: sent on every ACTIVE domain port, under the next serial (R363). -/
def flood (m : Msg) (k : Core) : Core :=
  (domainPorts k).foldl (fun acc p => sendPort p m acc)
    { k with car := { k.car with
      floodSeen := (ownNumber k, BitVec.ofNat 32 k.car.floodSerial) :: k.car.floodSeen
      floodSerial := nextSerial k.car.floodSerial (2 ^ 32) } }

/-- GLB_CTRL.HOP, SIZE, DEPTH and TOPO (R361). -/
def glbHop (k : Core) : Nat := regFld k 0x83F00004 7 0
/-- GLB_CTRL.SIZE. -/
def glbSize (k : Core) : Nat := regFld k 0x83F00004 19 8
/-- GLB_CTRL.DEPTH. -/
def glbDepth (k : Core) : Nat := regFld k 0x83F00004 25 20
/-- GLB_CTRL.TOPO: a tree. -/
def glbTree (k : Core) : Bool := regBit k 0x83F00004 27

/-- B, the broadcast span of Table FOL-1. -/
def bSpan (chain tree : Bool) (size depth : Nat) : Nat := if chain then (if tree then depth else size) else 0

/-- W, the vote span of Table FOL-1. -/
def wSpan (chain tree : Bool) (size depth : Nat) : Nat := if chain then (if tree then 2 * depth else size) else 0

/-- V = A − (W + 2)·h (R369). -/
def voteTick (f : Folio) : Nat := f.acc - (f.wSpan + 2) * f.hop

/-- Q = A − 2·h (R369). -/
def decideTick (f : Folio) : Nat := f.acc - 2 * f.hop

/-- A reservation that was ending lasts until the folios bound to it resolve (R344). -/
def endReservations (k : Core) : Core :=
  { k with stw := { k.stw with
    reservations := k.stw.reservations.filter (fun e =>
      !e.2.ending || k.car.folios.any (fun f => f.2.bound.contains e.1 && (f.2.state == .voted || f.2.state == .decided))) } }

/-! ### Shadow planes of a folio (Table FAB-10) -/

/-- The shadow of a region that a folio loaded or unloaded is discarded at its withdrawal: LOAD_RESULT takes WITHDRAWN unless a
failure code has been written. After an accession the folio has no shadow left. -/
def dropShadow (id : Word) (r : Nat) (k : Core) : Core :=
  match amGet? k.fabrics r with
  | some f => match f.shadow with
    | some sh =>
      if sh.folio = id then
        let a := treeReg r 0x200
        let k1 := setRegFld a 3 2 0 { k with fabrics := amSet k.fabrics r { f with shadow := none } }
        if sh.failed then k1 else setRegFld a 23 16 0x0C k1
      else k
    | none => k
  | none => k

/-- Does a ticket's work load an image for a folio? -/
def loadsFor (id : Word) (w : Work) : Bool :=
  match w with
  | .fabLoad _ _ _ _ folio => folio == id
  | _ => false

/-- A load cut short by its folio's withdrawal: its transfer is dropped, and its ticket completes with a status that the spec does
not state (log entry 1). -/
def endLoad (ticket : Word) (k : Core) : Core :=
  let d := drawWord k
  completeTicket ticket (d.1.setWidth 16) []
    { d.2 with mem := { d.2.mem with xfers := amErase d.2.mem.xfers ticket.toNat } }

/-- Every load of a folio that runs is cut short. -/
def endLoads (id : Word) (k : Core) : Core :=
  ((k.stw.tickets.filter (fun e => e.2.status.isNone && loadsFor id e.2.work)).map (fun e => e.2.id)
    ++ (k.stw.orphans.filter (fun e => loadsFor id e.2)).map (fun e => BitVec.ofNat 32 e.1)).foldl (fun acc t => endLoad t acc) k

/-- A withdrawn folio's shadows are discarded in every region. -/
def dropShadows (id : Word) (k : Core) : Core :=
  endLoads id ((List.range 8).foldl (fun acc r => dropShadow id r acc) k)

/-- A folio slot is resolved: it is freed with what its shadows still hold, and the reservations that waited for it end (R344,
Table FOL-4, Table FAB-10). -/
def resolveFolio (slot : Nat) (k : Core) : Core :=
  endReservations (freeFolio slot (match amGet? k.car.folios slot with
    | some f => dropShadows f.id k
    | none => k))

/-- FOL_LAST_ID and FOL_LAST_OUT are written and ACCEDED or WITHDRAWN is recorded (R376). -/
def recordOutcome (id : Word) (acceded : Bool) (reason : Byte) (from_ : Nat) (k : Core) : Core :=
  recordCause 0x8FF00110 (if acceded then 0 else 1)
    (setReg 0x8FF00108 (BitVec.ofNat 32 ((if acceded then 2 ^ 24 else 2 ^ 25) + reason.toNat * 2 ^ 16 + from_))
      (setReg 0x8FF00104 id k))

/-- The folio a module withdraws before its vote (Table FOL-4, R344, R374): an OPEN folio this module coordinates is
discarded, a chain one with a flooded withdrawal; an OPEN member entry becomes a tombstone; a PREPARED folio's vote is marked
withdraw. -/
def withdrawLocally (slot : Nat) (f : Folio) (reason : Byte) (k : Core) : Core :=
  match f.state with
  | .opened =>
    if f.coord then resolveFolio slot (if f.chain then flood (.withdrawal f.id) k else k)
    else setFolio slot { f with state := .refusing, words := [], reason := reason, tombstone := true } (dropShadows f.id k)
  | .prepared => setFolio slot { f with state := .refusing, reason := reason } k
  | _ => k

/-! ### Reservations (R341 to R346) -/

/-- Does a reservation's scope cover a page (Table CMD-9)? -/
def resCovers (r : Reservation) (a : Nat) : Bool :=
  match fld r.scope 1 0 with
  | 0 => pageOf a == pageOf r.target
  | 1 => match pageOf a, pageOf r.target with
    | some (.cell c), some (.cell d) => blockOfCell c == blockOfCell d
    | some (.cell c), some (.block b) => blockOfCell c == b
    | some (.block b), some (.cell d) => b == blockOfCell d
    | some (.block b), some (.block d) => b == d
    | _, _ => false
  | 2 => a / 2 ^ 28 == r.target / 2 ^ 28
  | _ => pageOf a == pageOf r.target

/-- The lowest reservation of another session that covers one of the addresses (R341, R342). -/
def reservedBy (k : Core) (session : Nat) (addrs : List Nat) : Option Reservation :=
  (k.stw.reservations.find? (fun e => e.2.session != session && addrs.any (resCovers e.2))).map Prod.snd

/-- The 12 bytes that a refusal with RESERVED carries (R341). -/
def reservedData (r : Reservation) : List Word := BitVec.ofNat 32 r.session :: words64 r.expiry

/-- Release a reservation (R344): every bound folio not yet voted to accede is withdrawn; while a voted one remains, the
reservation lasts until it resolves. -/
def releaseReservation (slot : Nat) (k : Core) : Core :=
  let bound := k.car.folios.filter (fun e => e.2.bound.contains slot)
  let k1 := bound.foldl (fun acc e => withdrawLocally e.1 e.2 2 acc) k
  if bound.any (fun e => e.2.state == .voted || e.2.state == .decided) then
    { k1 with stw := { k1.stw with reservations := k1.stw.reservations.map (fun e =>
        if e.1 = slot then (e.1, { e.2 with ending := true }) else e) } }
  else { k1 with stw := { k1.stw with reservations := amErase k1.stw.reservations slot } }

/-- Has a reservation an unresolved bound folio (R344)? -/
def hasBound (k : Core) (slot : Nat) : Bool := k.car.folios.any (fun e => e.2.bound.contains slot)

/-- The reservation slots of a session. -/
def reservationsOf (k : Core) (session : Nat) : List Nat :=
  (k.stw.reservations.filter (fun e => e.2.session == session)).map Prod.fst

/-- A session's tickets are discarded; work that runs goes on without one (R340, R345, R348). -/
def discardTickets (session : Nat) (k : Core) : Core :=
  { k with stw := { k.stw with
    tickets := k.stw.tickets.filter (fun e => e.2.session != session)
    orphans := (ticketsOf k session).foldl (fun acc e =>
      if e.2.status.isNone then amSet acc e.2.id.toNat e.2.work else acc) k.stw.orphans } }

/-- A session ends: reservations that last for a voted folio belong to none (R344), and a queue is unbound. -/
def unbindSession (n : Nat) (k : Core) : Core :=
  let k1 := { k with stw := { k.stw with
    reservations := k.stw.reservations.map (fun e => if e.2.session = n then (e.1, { e.2 with session := 0 }) else e)
    sessions := amErase k.stw.sessions n } }
  match amGet? k.stw.sessions n with
  | some ss => match ss.owner with
    | .queue q => setQueue q { queueOf k1 q with session := 0 } k1
    | .chain _ _ => k1
  | none => k1

/-- SESSION_CLOSE's action (R340): every reservation is released with withdrawal, the tickets are discarded, the queue is
unbound. -/
def closeSession (n : Nat) (k : Core) : Core :=
  unbindSession n (discardTickets n ((reservationsOf k n).foldl (fun acc slot => releaseReservation slot acc) k))

/-- An owner fault (R345, Table CMD-10): the session ends as at a close, and cause OWNER_FAULT is recorded. -/
def faultSession (n : Nat) (k : Core) : Core :=
  if (amGet? k.stw.sessions n).isSome then recordCause 0x81F00020 1 (closeSession n k) else k

/-- Every host session is faulted (R329, R330). -/
def faultHostSessions (k : Core) : Core :=
  k.stw.sessions.foldl (fun acc e => match e.2.owner with
    | .queue _ => faultSession e.1 acc
    | .chain _ _ => acc) k

/-- The chain session of a module and its session number (R339). -/
def chainSession (k : Core) (m sess : Nat) : Option (Nat × Session) :=
  k.stw.sessions.find? (fun e => e.2.owner == .chain m sess)

/-- The chain sessions of a module are faulted, as when it is declared lost (Table CMD-10). -/
def faultChainSessions (m : Nat) (k : Core) : Core :=
  k.stw.sessions.foldl (fun acc e => match e.2.owner with
    | .chain m' _ => if m' = m then faultSession e.1 acc else acc
    | .queue _ => acc) k

/-- The least free session number, 1 to 64 (R339). -/
def freeSession (k : Core) : Option Nat :=
  ((List.range 64).map (· + 1)).find? (fun n => (amGet? k.stw.sessions n).isNone)

/-- LEASE_EXPIRED: a lease's expiry tick has passed, and the reservation is released. -/
def opLeaseExpired (slot : Nat) (k : Core) : Core :=
  match amGet? k.stw.reservations slot with
  | some r => if r.expiry ≤ k.clock.chron ∧ ¬ r.ending then recordCause 0x81F00020 0 (releaseReservation slot k) else k
  | none => k

/-- Meaning of LEASE_EXPIRED (R343, R344). -/
def execLeaseExpired (slot : Fin 128) (s : State) : Host.Outcome State Fault Refusal :=
  .next (onCore (opLeaseExpired slot.val) s)

/-- HOLDOFF_END: a vector's holdoff is over; when it was raised meanwhile it sends one message, which starts a new holdoff. -/
def opHoldoffEnd (v : Nat) (k : Core) : Core :=
  match amGet? k.stw.vecHold v with
  | some h =>
    if h.until_ ≤ k.clock.uptime then
      if h.raised ∧ ¬ k.stw.d3hot then sendVector v k
      else { k with stw := { k.stw with vecHold := amErase k.stw.vecHold v } }
    else k
  | none => k

/-- Meaning of HOLDOFF_END (R355). -/
def execHoldoffEnd (vector : Fin 64) (s : State) : Host.Outcome State Fault Refusal :=
  .next (onCore (opHoldoffEnd vector.val) s)

end Sys2Proof.Machine
end

