-- ==== Sys2Proof/Machine/Ports.lean ====
section
/-! DEFINITION. Caravan ports, frames, packets and routes (R378 to R391), admission (R489, R498, R499, R502), and the
meanings of those events. -/

namespace Sys2Proof.Machine

/-! ### Modules lost and found (R391, R375) -/

/-- The route nibble of a module number: 0 none, 1 this module, 8 to 11 ports E, W, T, S (R388, R400). -/
def routeOf (k : Core) (m : Nat) : Nat :=
  if m = ownNumber k ∧ m ≠ 0 then 1 else regFld k (0x83F01000 + 4 * (m / 8)) (4 * (m % 8) + 3) (4 * (m % 8))

/-- The port a module number is routed to. -/
def routePort (k : Core) (m : Nat) : Option Nat := if 8 ≤ routeOf k m then some (routeOf k m - 8) else none

/-- The module numbers whose route names a port: those of the ROUTE words that are set. -/
def routedTo (k : Core) (p : Nat) : List Nat :=
  k.regs.flatMap (fun e =>
    if 0x83F01000 ≤ e.1 ∧ e.1 < 0x83F01800 then
      ((List.range 8).filter (fun j => fld e.2 (4 * j + 3) (4 * j) == 8 + p)).map (fun j => 2 * (e.1 - 0x83F01000) + j)
    else [])

/-- GLB_STATUS.ROOT. -/
def rootNumber (k : Core) : Nat := regFld k 0x83F00008 11 0

/-- Every barrier this module waits in is abandoned: the tickets complete with the result word 2 (R394). -/
def abandonBarriers (k : Core) : Core :=
  k.car.barrierTickets.foldl (fun acc e => completeTicket e.2.1 stDone [2] acc)
    { k with car := { k.car with barrierTickets := [] } }

/-- Entries of a lost coordinator that are not yet PREPARED are discarded, and MEMBER_DISCARD is recorded; a prepared entry keeps
that its coordinator was lost before its vote (R375, Table FOL-3). -/
def discardMembers (m : Nat) (k : Core) : Core :=
  let gone := k.car.folios.filter (fun e => !e.2.coord && (fld e.2.id 31 20 == m)
    && (e.2.state == .opened || e.2.tombstone))
  let kept := (k.car.folios.filter (fun e => !(gone.any (fun g => g.1 == e.1)))).map (fun e =>
    if !e.2.coord && fld e.2.id 31 20 == m && (amGet? e.2.votes m).isNone then (e.1, { e.2 with coordLost := true }) else e)
  let k1 := { k with car := { k.car with folios := kept } }
  if gone.isEmpty then k1 else recordCause 0x8FF00110 3 k1

/-- The partner is lost (R422): PAIR_STATUS.STATE becomes PARTNER_LOST, and the cause is recorded. -/
def losePartner (k : Core) : Core :=
  if pairState k = 2 then recordCause (pairReg 0x560) 2 (setRegFld (pairReg 0x404) 31 28 3 k) else k

/-- Module m is declared lost (R391): MODULE_LOST, CAR_LAST.LOST, its chain sessions faulted (Table CMD-10), its unprepared
folios discarded (R375), barriers abandoned when it is the root (R394), and the partner lost when it is the partner (R422). -/
def declareLost (m : Nat) (k : Core) : Core :=
  let k1 := recordCause 0x83F0001C 0 (setRegFld 0x83F00018 27 16 m
    { k with car := { k.car with lost := m :: k.car.lost.filter (· != m) } })
  let k3 := if m = regFld k (pairReg 0x404) 11 0 then losePartner k1 else k1
  let k2 := discardMembers m (faultChainSessions m k3)
  if m = rootNumber k ∧ m ≠ 0 then abandonBarriers k2 else k2

/-- Module m is found (R391). -/
def declareFound (m : Nat) (k : Core) : Core :=
  recordCause 0x83F0001C 1 { k with car := { k.car with lost := k.car.lost.filter (· != m) } }

/-! ### Port states (R380 to R387) -/

/-- PORT_STATUS.STATE and STEP set. -/
def setPortState (p st step : Nat) (k : Core) : Core :=
  setRegFld (portReg p 4) 27 24 step (setRegFld (portReg p 4) 31 28 st k)

/-- PORT_STATUS.LAST_FAIL set. -/
def setLastFail (p code : Nat) (k : Core) : Core := setRegFld (portReg p 4) 23 20 code k

/-- A port starts training at step 1 (R380). -/
def startTraining (p : Nat) (k : Core) : Core :=
  setPortState p 2 1 (setPort p { portOf k p with stepStart := k.clock.uptime, attempts := 0 } k)

/-- What leaves with a port that leaves ACTIVE (R386): flits held for it, and every module its routes reach. -/
def dropPort (p : Nat) (k : Core) : Core :=
  (routedTo k p).foldl (fun acc m => declareLost m acc)
    { k with car := { k.car with held := k.car.held.filter (fun e => e.1 != p) } }

/-- A port becomes FAULTED with a LAST_FAIL code and waits 10 ms × 2^(k − 1), capped at k = 11 (R382). -/
def portFaulted (p code : Nat) (k : Core) : Core :=
  let x := portOf k p
  let n := min (x.faults + 1) 11
  let k1 := setPort p { x with faults := x.faults + 1, waitUntil := k.clock.uptime + msTicks (10 * 2 ^ (n - 1)), unacked := [] } k
  setRegFld (portReg p 4) 19 16 n (countFld (portReg p 0x1C) 15 0 1 (setLastFail p code (setPortState p 4 0 k1)))

/-- A port becomes BARRED with a LAST_FAIL code and waits 1 s × 2^(k − 1), capped at k = 7 (R382). -/
def portBarred (p code : Nat) (k : Core) : Core :=
  let x := portOf k p
  let n := min (x.bars + 1) 7
  let k1 := setPort p { x with bars := x.bars + 1, waitUntil := k.clock.uptime + msTicks (1000 * 2 ^ (n - 1)), unacked := [] } k
  setRegFld (portReg p 4) 19 16 n (setLastFail p code (setPortState p 5 0 k1))

/-- A port becomes VACANT after a DETECT without signal; the next training starts 10 ms after this one started (Table FOL-8). -/
def portVacant (p : Nat) (k : Core) : Core :=
  setLastFail p 1 (setPortState p 1 0
    (setPort p { portOf k p with waitUntil := (portOf k p).stepStart + msTicks 10, unacked := [] } k))

/-- A port leaves ACTIVE (R386): its cause is recorded and the modules it reached are declared lost. -/
def leaveActive (p : Nat) (cause : LeaveCause) (k : Core) : Core :=
  if portState k p = 3 then
    let ev := portReg p 0x20
    let lost := if p = 2 then losePartner k else k
    dropPort p (match cause with
      | .crc => recordCause ev 2 (portFaulted p 7 lost)
      | .silent => recordCause ev 2 (portFaulted p 8 lost)
      | .abuse => recordCause ev 4 (portBarred p 9 lost)
      | .signalLost => recordCause ev 1 (portVacant p (setPort p { portOf k p with stepStart := k.clock.uptime } lost))
      | .retrain => startTraining p lost
      | .disabled => setPortState p 0 0 lost)
  else k

/-- Every ACTIVE port but one retrains (R383, R489). -/
def retrainOthers (except : Option Nat) (k : Core) : Core :=
  (List.range 4).foldl (fun acc p => if some p = except then acc else leaveActive p .retrain acc) k

/-- A write of PORT_CTRL (R382, R401): EN 0 disables the port, EN 1 on a disabled port trains it; RETRAIN leaves ACTIVE and
trains; UNBAR ends a bar and trains at once. -/
def portCtrlEffect (p : Nat) (v : Word) (k : Core) : Core :=
  if ¬ bit v 31 then
    if portState k p = 3 then leaveActive p .disabled k else setPortState p 0 0 k
  else if portState k p = 0 then startTraining p k
  else if bit v 1 ∧ portState k p = 5 then startTraining p k
  else if bit v 0 then
    if portState k p = 3 then leaveActive p .retrain k else startTraining p k
  else k

/-- A write of a ROUTE word: a module whose route is written to none is declared lost (R391). -/
def routeEffect (w : Nat) (old new : Word) (k : Core) : Core :=
  (List.range 8).foldl (fun acc j =>
    if fld old (4 * j + 3) (4 * j) ≠ 0 ∧ fld new (4 * j + 3) (4 * j) = 0 then declareLost (8 * w + j) acc else acc) k

/-- Is every nibble of a ROUTE word a route (R400)? -/
def routeWordOk (v : Word) : Bool :=
  (List.range 8).all (fun j => [0, 1, 8, 9, 10, 11].contains (fld v (4 * j + 3) (4 * j)))

/-! ### Training and admission (Table FOL-8, R489, R498 to R502) -/

/-- The partner's IDENTIFY, step 5 of Table FOL-8: PARTNER and PARTNER_INC are written, an older incarnation of the number is
declared lost (R391), and the module's own incarnation is raised where the partner has recorded one not below it (R489). -/
def identifyPartner (p : Nat) (q : Partner) (k : Core) : Core :=
  let m := q.number.toNat
  let k1 := setReg (portReg p 0xC) q.incarnation
    (setReg (portReg p 8) (BitVec.ofNat 32 (portNo q.port * 2 ^ 16 + m)) k)
  let k2 := match amGet? k.car.seen m with
    | some i => if olderInc i q.incarnation then declareLost m k1 else k1
    | none => k1
  let k3 := { k2 with car := { k2.car with seen := amSet k2.car.seen m q.incarnation } }
  let own := reg k3 0x8BF0000C
  let k4 :=
    if olderInc q.recordedInc own then k3
    else retrainOthers (some p) (recordCause 0x8BF00030 5 (setReg 0x8BF0000C (q.recordedInc + 1) k3))
  setPort p { portOf k4 p with partnerSerial := q.serial } (setPortState p 2 6 k4)

/-- A step of training fails (R381): steps 2 to 5 start again at step 1 after 1 ms, and the third failed attempt makes the
port FAULTED; a DETECT failure makes it VACANT; a failed admission makes it BARRED (R498). -/
def failStep (p code : Nat) (k : Core) : Core :=
  let x := portOf k p
  if x.attempts + 1 < 3 then
    setPortState p 2 1 (setPort p { x with attempts := x.attempts + 1, stepStart := k.clock.uptime + msTicks 1 } k)
  else portFaulted p code k

/-- A failed admission (R498): BARRED, with ADMIT_FAIL at the port and in SEC_EVENT. -/
def failAdmission (p : Nat) (k : Core) : Core :=
  recordCause 0x8BF00030 1 (recordCause (portReg p 0x20) 3 (countFld (portReg p 0x1C) 31 16 1 (portBarred p 6 k)))

/-- LINK_TRAINING: the present step of a training port succeeds (Table FOL-8). -/
def opLinkTraining (p : Nat) (info : TrainInfo) (k : Core) : Core :=
  if portState k p = 2 then
    match info, regFld k (portReg p 4) 27 24 with
    | .detect signal, 1 => if signal then setPortState p 2 2 k else portVacant p k
    | .equalised, 2 => setPortState p 2 3 k
    | .aligned, 3 => setPortState p 2 4 k
    | .delay ps, 4 => setPortState p 2 5 (setRegFld (portReg p 0x10) 19 0 ps k)
    | .identified q, 5 =>
      if q.number.toNat = ownNumber k ∧ ownNumber k ≠ 0 then failStep p 10 k else identifyPartner p q k
    | _, _ => k
  else k

/-- Meaning of LINK_TRAINING (R380). -/
def execLinkTraining (port : Port) (info : TrainInfo) (s : State) : Host.Outcome State Fault Refusal :=
  .next (onCore (opLinkTraining (portNo port) info) s)

/-- TRAINING_ATTEMPT_FAIL: the present step of a training port fails. -/
def opTrainingAttemptFail (p : Nat) (failed : TrainStep) (k : Core) : Core :=
  if portState k p = 2 then
    match failed, regFld k (portReg p 4) 27 24 with
    | .detect, 1 => portVacant p k
    | .equalise, 2 => failStep p 2 k
    | .align, 3 => failStep p 3 k
    | .delay, 4 => failStep p 4 k
    | .identify, 5 => failStep p 5 k
    | .dupNumber, 5 => failStep p 10 k
    | .admission, 6 => failAdmission p k
    | _, _ => k
  else k

/-- Meaning of TRAINING_ATTEMPT_FAIL (R381). -/
def execTrainingAttemptFail (port : Port) (failed : TrainStep) (s : State) : Host.Outcome State Fault Refusal :=
  .next (onCore (opTrainingAttemptFail (portNo port) failed) s)

/-- Does a partner pass admission (R498)? -/
def admitOk (k : Core) (allow : List (BitVec 64)) (q : Partner) : Bool :=
  q.chainOk && q.signatureOk && q.inTime && (q.certSerial == q.serial)
    && (!regBit k 0x8BF00018 0 || allow.contains q.serial)

/-- The replacement of a partner is noticed (R502): the number last admitted on the port comes with another serial. -/
def noteReplacement (p : Nat) (q : Partner) (k : Core) : Core :=
  let x := portOf k p
  if x.lastNumber = q.number.toNat ∧ x.lastNumber ≠ 0 ∧ x.lastSerial ≠ q.serial then
    recordCause 0x8BF00030 0
      (setReg64 0x8BF00028 q.serial.toNat (setReg64 0x8BF00020 x.lastSerial.toNat
        (setReg 0x8BF0001C (BitVec.ofNat 32 (p * 2 ^ 16 + q.number.toNat)) k)))
  else k

/-- Admission succeeds (Table FOL-8, step 7): credits of 64 flits for each class, ACTIVE, and MODULE_FOUND for the modules
its routes reach. -/
def admitPort (p : Nat) (q : Partner) (k : Core) : Core :=
  let k1 := noteReplacement p q k
  let x := portOf k1 p
  let k2 := setPort p { x with
    credits := (List.range 8).map (fun i => (i, 64)), used := [], owed := [], taken := [], unacked := [], attempts := 0, malformed := []
    activeSince := k.clock.uptime, lastFrame := k.clock.uptime
    lastNumber := q.number.toNat, lastSerial := q.serial, lastInc := q.incarnation } k1
  let k3 := recordCause (portReg p 0x20) 0 (setReg (portReg p 0xC) q.incarnation (setPortState p 3 0 k2))
  (routedTo k3 p).foldl (fun acc m => declareFound m acc) k3

/-- TRAINING_RETRY: the wait of a VACANT, FAULTED or BARRED port is over, and training starts again (R382). -/
def opTrainingRetry (p : Nat) (k : Core) : Core :=
  if (portState k p = 1 ∨ portState k p = 4 ∨ portState k p = 5) ∧ regBit k (portReg p 0) 31
      ∧ (portOf k p).waitUntil ≤ k.clock.uptime then startTraining p k
  else k

/-- Meaning of TRAINING_RETRY (R382). -/
def execTrainingRetry (port : Port) (s : State) : Host.Outcome State Fault Refusal :=
  .next (onCore (opTrainingRetry (portNo port)) s)

/-- Meaning of PORT_LEAVE_ACTIVE (R386). -/
def execPortLeaveActive (port : Port) (cause : LeaveCause) (s : State) : Host.Outcome State Fault Refusal :=
  .next (onCore (leaveActive (portNo port) cause) s)

/-- BACKOFF_COUNT_RESET: a port has been ACTIVE for 1 s, and its consecutive counts return to 0. -/
def opBackoffCountReset (p : Nat) (k : Core) : Core :=
  if portState k p = 3 ∧ (portOf k p).activeSince + msTicks 1000 ≤ k.clock.uptime then
    setRegFld (portReg p 4) 19 16 0 (setPort p { portOf k p with faults := 0, bars := 0 } k)
  else k

/-- Meaning of BACKOFF_COUNT_RESET (R382). -/
def execBackoffCountReset (port : Port) (s : State) : Host.Outcome State Fault Refusal :=
  .next (onCore (opBackoffCountReset (portNo port)) s)

/-! ### Frames (R384, R385, R387) -/

/-- A packet is malformed (R387): dropped, counted, MALFORMED recorded; more than ABUSE_LIMIT within 1 s bar the port. -/
def noteMalformed (p : Nat) (k : Core) : Core :=
  let x := portOf k p
  let times := k.clock.uptime :: x.malformed.filter (fun t => decide (k.clock.uptime ≤ t + msTicks 1000))
  let k1 := recordCause (portReg p 0x20) 5 (countFld (portReg p 0x18) 31 0 1 (setPort p { x with malformed := times } k))
  if regFld k 0x83F00010 15 0 < times.length then leaveActive p .abuse k1 else k1

/-- A flit arrives for a class (R384): it takes a buffer of its class, or was sent without a credit. -/
def takeFlit (p cls : Nat) (k : Core) : Core :=
  let x := portOf k p
  if amGetD x.used cls 0 + amGetD x.owed cls 0 < 64 then
    setPort p { x with
      used := amSet x.used cls (amGetD x.used cls 0 + 1), taken := amSet x.taken cls (amGetD x.taken cls 0 + 1) } k
  else noteMalformed p k

/-- The flits of a packet leave their receive buffers, and their credits return under the budgets of R315 (R384). -/
def freeFlits (p cls n : Nat) (k : Core) : Core :=
  let x := portOf k p
  let m := min n (amGetD x.used cls 0)
  returnCredits p cls (setPort p { x with
    used := amSet x.used cls (amGetD x.used cls 0 - m), owed := amSet x.owed cls (amGetD x.owed cls 0 + m) } k)

/-- Credits return for TA to TH, up to the 64 flits of a class (R384). -/
def takeCredits (credits : List Nat) (x : PortInt) : PortInt :=
  { x with credits := (List.range 8).map (fun i => (i, min 64 (amGetD x.credits i 0 + credits.getD i 0))) }

/-- Frames after the acknowledged one are sent again (R385): each re-send is counted, and a frame that was sent four times
faults the port. -/
def resendAll (p : Nat) (k : Core) : Core :=
  let x := portOf k p
  if x.unacked.any (fun e => decide (4 ≤ e.2)) then leaveActive p .crc k
  else countFld (portReg p 0x14) 31 0 x.unacked.length
    (setPort p { x with unacked := x.unacked.map (fun e => (e.1, e.2 + 1)) } k)

/-- FACK acknowledges a frame and every frame sent before it. -/
def dropAcked (fack : Nat) (l : List (Nat × Nat)) : List (Nat × Nat) :=
  if l.any (fun e => e.1 == fack) then (l.dropWhile (fun e => e.1 != fack)).drop 1 else l

/-- FRAME_RESEND_TIMEOUT: the oldest frame was not acknowledged within 2 µs of being sent; it is sent again, and a frame sent
for the fourth time that still fails faults the port. -/
def opFrameResendTimeout (p : Nat) (k : Core) : Core :=
  match portState k p, (portOf k p).unacked with
  | 3, (n, sends) :: rest =>
    if 4 ≤ sends then leaveActive p .crc k
    else countFld (portReg p 0x14) 31 0 1 (setPort p { portOf k p with unacked := (n, sends + 1) :: rest } k)
  | _, _ => k

/-- Meaning of FRAME_RESEND_TIMEOUT (R385). -/
def execFrameResendTimeout (port : Port) (s : State) : Host.Outcome State Fault Refusal :=
  .next (onCore (opFrameResendTimeout (portNo port)) s)

/-- PORT_SILENT: no intact frame for 10 µs. -/
def opPortSilent (p : Nat) (k : Core) : Core :=
  if portState k p = 3 ∧ (portOf k p).lastFrame + usTicks 10 ≤ k.clock.uptime then leaveActive p .silent k else k

/-- Meaning of PORT_SILENT (R385). -/
def execPortSilent (port : Port) (s : State) : Host.Outcome State Fault Refusal :=
  .next (onCore (opPortSilent (portNo port)) s)

/-! ### Packets (R363, R379, R387 to R390) -/

/-- KIND of an envelope. -/
def pkKind (p : Packet) : Nat := fld p.w0 31 28
/-- PATH: routed by PATHBITS. -/
def pkPath (p : Packet) : Bool := bit p.w0 27
/-- CLASS. -/
def pkClass (p : Packet) : Nat := fld p.w0 26 24
/-- SRC. -/
def pkSrc (p : Packet) : Nat := fld p.w0 23 12
/-- DEST. -/
def pkDest (p : Packet) : Nat := fld p.w0 11 0
/-- HOPS. -/
def pkHops (p : Packet) : Nat := fld p.w2 21 16
/-- LEN. -/
def pkLen (p : Packet) : Nat := fld p.w2 6 0
/-- PATH_LEN. -/
def pkPathLen (p : Packet) : Nat := fld p.w3 31 28

/-- ECHK: the CRC-8 of the envelope's bytes 0x0 to 0xE (Table FOL-7). Its words are laid out most significant byte first, so that
ECHK is byte 0xF (DEDUCED, log entry 55). -/
def pkCheck (p : Packet) : Byte := crc8 (([p.w0, p.w1, p.w2, p.w3].flatMap (fun w => (wordBytes w).reverse)).take 15)

/-- Is a CLASS allowed for a KIND (Table FOL-7)? -/
def classAllowed (kind cls : Nat) : Bool :=
  match kind with
  | 0 | 1 => [2, 3, 5, 6, 7].contains cls
  | 2 | 3 => cls == 5
  | 4 | 5 => cls == 2
  | _ => false

/-- Does a command inside a packet pass HCHK (R331)? -/
def innerCheck (p : Packet) : Bool :=
  if pkKind p = 0 then
    let b := bytesOf (p.body.take 4)
    decide (b.length = 16) && (crc8 (b.take 15) == b.getD 15 0)
  else true

/-- Is a packet malformed (R387)? -/
def malformed (k : Core) (port : Nat) (p : Packet) : Bool :=
  let num := regFld k (portReg port 8) 11 0
  ((pkCheck p != p.w3.extractLsb' 0 8) || !innerCheck p || !classAllowed (pkKind p) (pkClass p)
    || decide (pkLen p < 1) || decide (65 < pkLen p) || (pkLen p != p.flits) || decide (63 < pkHops p)
    || ((pkDest p == 0) && !pkPath p)
    || ((pkHops p == 0) && (num != 0) && (pkSrc p != num))
    || !p.credited)

/-- The port a packet leaves on, none when it is local (R388): by PATHBITS while PATH is 1 and hops remain, else by ROUTE. -/
def outPort (k : Core) (p : Packet) : Option Nat :=
  if pkPath p then (if pkPathLen p = 0 then none else some (fld p.w3 9 8))
  else if pkDest p = ownNumber k ∨ routeOf k (pkDest p) = 1 then none
  else routePort k (pkDest p)

/-- The envelope as it is forwarded (R388, R389): HOPS one more, PATHBITS shifted and PATH_LEN one less, ECHK renewed. -/
def hopped (p : Packet) : Packet :=
  let w2 := setFld p.w2 21 16 (pkHops p + 1)
  let w3 :=
    if pkPath p then setFld (setFld p.w3 27 8 (fld p.w3 27 8 / 4)) 31 28 (pkPathLen p - 1) else p.w3
  let q := { p with w2 := w2, w3 := w3 }
  { q with w3 := setFld w3 7 0 (pkCheck q).toNat }

/-- A packet leaves on a port, or waits in its forwarding buffer while the class has no credit or no budget, or an earlier packet of
the class waits (R389); `since` is when it came. -/
def forwardAt (port since : Nat) (p : Packet) (k : Core) : Core :=
  let x := portOf k port
  let cls := pkClass p
  if pkLen p ≤ amGetD x.credits cls 0 ∧ !(eligible k (.caravan (portAt port)) [] [cls]).isEmpty
      ∧ ¬ k.car.held.any (fun e => e.1 == port && e.2.1 == cls) then
    sendPort port (.forward p)
      (setPort port { x with credits := amSet x.credits cls (amGetD x.credits cls 0 - pkLen p) } k)
  else { k with car := { k.car with held := k.car.held ++ [(port, cls, since, p)] } }

/-- A packet is forwarded now. -/
def forwardOn (port : Nat) (p : Packet) (k : Core) : Core := forwardAt port k.clock.uptime p k

/-- The packets that wait for a port leave as far as they may, in the order in which they came. -/
def drainHeld (port : Nat) (k : Core) : Core :=
  (k.car.held.filter (fun e => e.1 == port)).foldl (fun acc e => forwardAt port e.2.2.1 e.2.2.2 acc)
    { k with car := { k.car with held := k.car.held.filter (fun e => e.1 != port) } }

/-- A packet whose destination has no route (R390): dropped, counted, UNROUTABLE; a command is answered with REQUEST. -/
def unroutable (p : Packet) (k : Core) : Core :=
  let k1 := recordCause 0x83F0001C 2 (countFld 0x83F00014 15 0 1 k)
  if pkKind p = 0 then
    sendRouted (.reply (pkSrc p) (fld p.w2 31 24)
      { tag := (pw p.body 0).extractLsb' 16 16, status := stRequest, opcode := (pw p.body 0).extractLsb' 0 16
        chron := chronWord k, notice := false, data := [] }) k1
  else k1

/-- A global packet (R363): a copy already seen is discarded; a new one is forwarded once on every other domain port and
taken here. -/
def takeGlobal (port : Nat) (p : Packet) (k : Core) : Core :=
  if k.car.floodSeen.contains (pkSrc p, p.serial) then k
  else
    let k1 := { k with car := { k.car with
      floodSeen := (pkSrc p, p.serial) :: k.car.floodSeen, inbox := k.car.inbox ++ [p] } }
    if pkHops p = 63 then k1
    else ((domainPorts k).filter (fun q => q != port)).foldl (fun acc q => forwardOn q (hopped p) acc) k1

/-- PACKET_RECEIVE: a packet is dropped when malformed, delivered when it is local, forwarded or dropped as unroutable
otherwise; one whose HOPS would exceed 63 is not forwarded (R387). An unnumbered module takes only packets with PATH = 1 (R388). -/
def opPacketReceive (port : Nat) (p : Packet) (k0 : Core) : Core :=
  let k := freeFlits port (pkClass p) p.flits k0
  if portState k0 port ≠ 3 then k0
  else if malformed k port p then noteMalformed port k
  else if ownNumber k = 0 ∧ ¬ pkPath p then k
  else if pkKind p = 2 ∧ p.flooded then takeGlobal port p k
  else match outPort k p with
    | some q => if pkHops p = 63 then noteMalformed port k else forwardOn q (hopped p) k
    | none =>
      if pkPath p ∨ pkDest p = ownNumber k ∨ routeOf k (pkDest p) = 1 then
        { k with car := { k.car with inbox := k.car.inbox ++ [p] } }
      else unroutable p k

/-- Meaning of PACKET_RECEIVE (R387 to R390). -/
def execPacketReceive (port : Port) (p : Packet) (s : State) : Host.Outcome State Fault Refusal :=
  .next (onCore (opPacketReceive (portNo port) p) s)

/-! ### Frames received and refills (R311, R385) -/

/-- FRAME_RECEIVE: an intact frame acknowledges, returns credits, by which packets that wait may leave, and hands over its flits; a frame that fails its CRC is
answered with NAK and the last good frame's number. -/
def opFrameReceive (p : Nat) (f : Frame) (k : Core) : Core :=
  if portState k p = 3 then
    if f.intact then
      let x := portOf k p
      let x1 := takeCredits f.credits { x with
        unacked := dropAcked f.fack.toNat x.unacked, lastFrame := k.clock.uptime
        lastGood := if f.fseq.toNat = (x.lastGood + 1) % 65536 then f.fseq.toNat else x.lastGood }
      let k1 := drainHeld p (setPort p x1 k)
      let k2 := if f.nak then resendAll p k1 else k1
      if f.fseq.toNat = (x.lastGood + 1) % 65536 then f.classes.foldl (fun acc c => takeFlit p c.val acc) k2 else k2
    else
      { k with car := { k.car with outbox := k.car.outbox ++ [⟨some p, .frame (portOf k p).fseq (portOf k p).lastGood true⟩] } }
  else k

/-- Meaning of FRAME_RECEIVE (R384, R385). -/
def execFrameReceive (port : Port) (f : Frame) (s : State) : Host.Outcome State Fault Refusal :=
  .next (onCore (opFrameReceive (portNo port) f) s)

/-- TARIFF_REFILL: budgets return, and packets that waited for them may leave. -/
def opTariffRefill (k : Core) : Core :=
  if refillNow k then (List.range 4).foldl (fun acc p => drainHeld p acc) (refillAll k) else k

/-- Meaning of TARIFF_REFILL (R311). -/
def execTariffRefill (s : State) : Host.Outcome State Fault Refusal := .next (onCore opTariffRefill s)

/-- STALL_DROP: a packet has waited 100 µs in a forwarding buffer; it is discarded and counted. -/
def opStallDrop (i : Nat) (k : Core) : Core :=
  match k.car.held[i]? with
  | some e =>
    if e.2.2.1 + usTicks 100 ≤ k.clock.uptime then
      recordCause 0x83F0001C 3 (countFld 0x83F00014 31 16 1
        { k with car := { k.car with held := k.car.held.eraseIdx i } })
    else k
  | none => k

/-- Meaning of STALL_DROP (R389). -/
def execStallDrop (index : Nat) (s : State) : Host.Outcome State Fault Refusal := .next (onCore (opStallDrop index) s)

end Sys2Proof.Machine
end

