-- ==== Sys2Proof/Machine/Tenancy.lean ====
section
/-! DEFINITION. Tenancy of the regions of a pair: roles, flits, relinquishing and taking (R402 to R416). -/

namespace Sys2Proof.Machine

/-- The regions of a mask. -/
def maskRegions (m : Nat) : List Nat := bitList m 8

/-- The tenanted pins of a region, by PAIR_TEN. -/
def tenPins (k : Core) (r : Nat) : List Nat := ((List.range 128).map (fun i => 128 * r + i)).filter (tenBit k)

/-- The drivers and loads of a region's tenanted pins follow its role. -/
def refreshTenants (r : Nat) (k : Core) : Core :=
  (tenPins k r).foldl (fun acc i => refreshDrive (carrier acc (cellOfPin i)) acc) k

/-- A region's role set; its tenanted drivers follow at once (R407). -/
def setRole (r v : Nat) (k : Core) : Core :=
  refreshTenants r (setRegFld (pairReg 0x408) (3 * r + 2) (3 * r) v k)

/-- TEN_INC of a region. -/
def tenInc (k : Core) (r : Nat) : Word := reg k (pairReg (0x420 + 4 * r))

/-- TEN_INC of a region set. -/
def setTenInc (r : Nat) (v : Word) (k : Core) : Core := setReg (pairReg (0x420 + 4 * r)) v k

/-- E of a holder, E_rec otherwise (TEN_EXP). -/
def tenExp (k : Core) (r : Nat) : Nat := reg64 k (pairReg (0x440 + 8 * r))

/-- TEN_EXP set. -/
def setTenExp (r v : Nat) (k : Core) : Core := setReg64 (pairReg (0x440 + 8 * r)) v k

/-- The partner's module number (PAIR_STATUS.PARTNER). -/
def partnerNo (k : Core) : Nat := regFld k (pairReg 0x404) 11 0

/-- The witness's module number, 0 for none (PAIR_CTRL.WITNESS). -/
def witnessNo (k : Core) : Nat := regFld k (pairReg 0x400) 27 16

/-- A tenancy flit of this module for some regions; the incarnations are its own records (Tables PAIR-2 and PAIR-3). -/
def tenFlit (k : Core) (regions : List Nat) (tick : Nat) : TenFlit :=
  { src := BitVec.ofNat 12 (ownNumber k), srcInc := reg k 0x8BF0000C, regions := BitVec.ofNat 8 (listBits regions)
    tick := tick, incs := (List.range 8).map (fun r => if regions.contains r then tenInc k r else 0), crc := 0, witness := 0 }

/-- A tenancy flit to the partner, on T while that is ACTIVE; none to a foreign partner (R423). -/
def tenPartner (type : Nat) (f : TenFlit) (k : Core) : Core :=
  if k.pair.replaced ∨ portState k 2 ≠ 3 then k else sendPort 2 (.ten (partnerNo k) type f) k

/-- A tenancy flit to the witness, where one is named. -/
def tenWitness (type : Nat) (f : TenFlit) (k : Core) : Core :=
  if witnessNo k = 0 then k else sendRouted (.ten (witnessNo k) type f) k

/-- A tenancy flit to the partner and the witness. -/
def tenBoth (type : Nat) (f : TenFlit) (k : Core) : Core := tenWitness type f (tenPartner type f k)

/-- A handover in progress becomes void for a region (R414): its ticket completes with STATE. -/
def voidHandover (r : Nat) (k : Core) : Core :=
  match k.pair.handover with
  | some h =>
    if h.left.contains r then completeTicket h.ticket stState [] { k with pair := { k.pair with handover := none } } else k
  | none => k

/-- A region enters STANDBY: its drivers go to high impedance, and nothing of it is asked for or about to drive. -/
def enterStandby (r : Nat) (k : Core) : Core :=
  setRole r 4 { k with pair := { k.pair with
    asked := amErase k.pair.asked r, enabling := k.pair.enabling.filter (· != r) } }

/-- A region relinquishes (R411): a HOLDER takes its drivers to high impedance, sends RELINQUISH and enters STANDBY; a region in
SHADOW or TAKING enters STANDBY on its own fence or fault stop (Table PAIR-4). -/
def relinquish (r : Nat) (k : Core) : Core :=
  if tenRole k r = 1 then
    let k1 := enterStandby r (voidHandover r k)
    tenBoth 0x04 (tenFlit k1 [r] 0) k1
  else if tenRole k r = 2 ∨ tenRole k r = 3 then enterStandby r k
  else k

/-- Every HOLDER region relinquishes, on a condition of the Chronicle (R411). -/
def relinquishAll (k : Core) : Core :=
  (List.range 8).foldl (fun acc r => if tenRole acc r = 1 then relinquish r acc else acc) k

/-- A region enters SHADOW: E_rec is the larger of its value and the tick of entry + 40,000 (R416). -/
def enterShadow (r : Nat) (k : Core) : Core :=
  setRole r 2 (setTenExp r (max (tenExp k r) (k.clock.chron + 40000))
    { k with pair := { k.pair with asked := amErase k.pair.asked r } })

/-- Is a region's engine RUNNING or WAITING (ITIN_STATUS.STATE 3 or 4)? -/
def regionRuns (k : Core) (r : Nat) : Bool := decide (3 ≤ regFld k (engReg r 0x10) 18 16)
  && decide (regFld k (engReg r 0x10) 18 16 ≤ 4)

/-- A region takes the tenancy with an expiry (R412): TEN_INC steps, the drivers are enabled at the next beat boundary, or at
once where the region has no run, E is set, TAKEN is sent and TAKEOVER recorded. -/
def takeTenancy (r expiry : Nat) (k : Core) : Core :=
  let k1 := { k with pair := { k.pair with
    asked := amErase k.pair.asked r
    enabling := if regionRuns k r then r :: k.pair.enabling.filter (· != r) else k.pair.enabling } }
  let k2 := setTenExp r expiry (setRole r 1 (setTenInc r (tenInc k r + 1) k1))
  recordCause (pairReg 0x560) 4 (tenBoth 0x07 (tenFlit k2 [r] expiry) k2)

/-- The drivers of a region that took the tenancy drive from this beat boundary (R412, step 2). -/
def enableTenants (r : Nat) (k : Core) : Core :=
  if k.pair.enabling.contains r then
    refreshTenants r { k with pair := { k.pair with enabling := k.pair.enabling.filter (· != r) } }
  else k

/-- DIVERGE (R407): counted at every mismatch, recorded at most once per tariff period. -/
def noteDiverge (k : Core) : Core :=
  let k1 := countFld (pairReg 0x41C) 31 0 1 k
  if k1.pair.diverged = some k1.clock.lastRefill then k1
  else recordCause (pairReg 0x560) 6 { k1 with pair := { k1.pair with diverged := some k1.clock.lastRefill } }

/-! ### The mirror's sending side (R420, R421) -/

/-- Is this member mirroring itself into its partner (R419, R423)? -/
def mirroring (k : Core) : Bool := pairState k == 2 && !k.pair.replaced && !k.pair.restoring

/-- A mirror packet enters the ordered stream (R420); a queue of 65,536 that overflows is discarded, and a header with
CAT_VALID = 0 and a full resend follow (R421). -/
def queueMirror (off : Nat) (data : List Byte) (k : Core) : Core :=
  if ¬ mirroring k then k
  else if k.pair.mirrorQ.length < 65536 then
    setReg (pairReg 0x50C) (BitVec.ofNat 32 (k.pair.mirrorQ.length + 1))
      { k with pair := { k.pair with mirrorQ := k.pair.mirrorQ ++ [(off, data)] } }
  else setReg (pairReg 0x50C) 0 { k with pair := { k.pair with mirrorQ := [], resync := true } }

/-! ### Cell faults of tenanted pins (R513) -/

/-- A cell fault that leaves a tenanted pin of the block without a spare makes its HOLDER region relinquish (R513, R506). -/
def relinquishUnspared (b : Nat) (old new : Core) : Core :=
  let bits (k : Core) : Nat := regFld k (blockReg b 4) 31 16
  if (List.range 16).any (fun i => (bits new).testBit i && !(bits old).testBit i && tenanted new (16 * b + i))
    ∧ tenRole new (b / 8) = 1 then relinquish (b / 8) new
  else new

/-- A fault of a pin cell, with what it means for a pair. -/
def pinCellFault (pin code : Nat) (k : Core) : Core := relinquishUnspared (pin / 16) k (opCellFault pin code k)

/-- A fault of a spare cell, with what it means for a pair. -/
def spareCellFault (b code : Nat) (k : Core) : Core := relinquishUnspared b k (opSpareFault b code k)

/-- A fault of a cell. -/
def anyCellFault (c code : Nat) (k : Core) : Core :=
  if c % 17 = 16 then spareCellFault (blockOfCell c) code k else pinCellFault (pinOfCell c) code k

/-- Meaning of CELL_FAULT (R72, R513). -/
def execCellFault (pin : Pin) (code : Fin 6) (s : State) : Host.Outcome State Fault Refusal :=
  .next (onCore (pinCellFault pin.val (code.val + 1)) s)

/-- Meaning of SPARE_FAULT (R73, R513). -/
def execSpareFault (b : Block) (code : Fin 6) (s : State) : Host.Outcome State Fault Refusal :=
  .next (onCore (spareCellFault b.val (code.val + 1)) s)

end Sys2Proof.Machine
end

