-- ==== Sys2Proof/Machine/Itinerary.lean ====
section
/-! DEFINITION. The itinerary engine ahead of its FIFO (R113 to R118, R123 to R140, R143, R146): decoding, the generators, the
frames an instruction emits, its register writes and flow, and the meanings of the instruction rows. -/

namespace Sys2Proof.Machine

/-! ### Engine states (Table ITIN-9) -/

/-- ITIN_STATUS.STATE: 0 IDLE, 1 PRIMING, 2 PRIMED, 3 RUNNING, 4 WAITING, 5 HALTED, 6 STOPPED, 7 FAULTED. -/
def engState (k : Core) (r : Nat) : Nat := regFld k (engReg r 0x10) 18 16

/-- ITIN_STATUS.STATE set. -/
def setEngState (r v : Nat) (k : Core) : Core := setRegFld (engReg r 0x10) 18 16 v k

/-- Beats in a frame (R115). -/
def frameBeats (e : Engine) : Nat := 2 ^ e.cfg.frame

/-- Beats in the FIFO, with those of the present frame that have not left. -/
def fifoFill (e : Engine) : Nat :=
  e.fifo.length * frameBeats e + (if e.lane = 0 ∨ e.padding then 0 else frameBeats e - e.lane)

/-- FIFO.FILL, ITIN_STATUS.STACK_DEPTH and the count of a run follow the engine. -/
def showEngine (r : Nat) (k : Core) : Core :=
  let e := engOf k r
  setRegFld (engReg r 0x10) 12 8 e.stack.length (setRegFld (engReg r 0x20) 13 0 (min (fifoFill e) 8192) k)

/-! ### Generator registers (R125 to R128) -/

/-- A working generator register as a number, by LDREG index. -/
def gen (e : Engine) (i : Nat) : Nat := (e.gen.getD i 0).toNat

/-- A working generator register set. -/
def setGen (i v : Nat) (e : Engine) : Engine := { e with gen := e.gen.set i (BitVec.ofNat 32 v) }

/-- A 64-bit register of the data generator, LO at an index. -/
def gen64 (e : Engine) (i : Nat) : Nat := gen e i + 2 ^ 32 * gen e (i + 1)

/-- A 64-bit register of the data generator set. -/
def setGen64 (i v : Nat) (e : Engine) : Engine := setGen (i + 1) (v / 2 ^ 32 % 2 ^ 32) (setGen i (v % 2 ^ 32) e)

/-- One address generator's step (Table ITIN-5, R127): the new address and base, and whether it wrapped. Arguments: FN, WRAP,
then the address, base, increment, minimum and maximum. -/
def addrStep (fn : Nat) (wrap : Bool) (x xb xi xmin xmax : Nat) : Nat × Nat × Bool :=
  let m := 2 ^ 24
  let up (v : Nat) : Nat × Bool := if wrap ∧ (xmax < v ∨ m ≤ v) then (xmin, true) else (v % m, false)
  let down (d : Nat) : Nat × Bool := if wrap ∧ x < xmin + d then (xmax, true) else ((x + m - d % m) % m, false)
  match fn with
  | 1 => let u := up (x + 1); (u.1, xb, u.2)
  | 2 => let u := down 1; (u.1, xb, u.2)
  | 3 => (xb, xb, false)
  | 4 => (xmin, xb, false)
  | 5 => let u := up (x + xi); (u.1, xb, u.2)
  | 6 => let u := down xi; (u.1, xb, u.2)
  | 7 => (x ^^^ xi, xb, false)
  | 8 => (xmax, xb, false)
  | 9 => (x * 2 % m, xb, false)
  | 10 => (x / 2, xb, false)
  | 11 => (x, x, false)
  | 12 => let u := up (xb + xi); (u.1, u.1, u.2)
  | _ => (x, xb, false)

/-- A word of `w` bits rotated left by one. -/
def rotl (v w : Nat) : Nat := v * 2 % 2 ^ w + v / 2 ^ (w - 1)

/-- A word of `w` bits rotated right by one. -/
def rotr (v w : Nat) : Nat := v / 2 + v % 2 * 2 ^ (w - 1)

/-- The data generator's step (Table ITIN-6, R128). -/
def dataStep (dfn : Nat) (e : Engine) : Engine :=
  let d := gen64 e 12
  match dfn with
  | 1 => setGen64 12 (gen64 e 14) e
  | 2 => setGen64 12 (2 ^ 64 - 1 - d) e
  | 3 => setGen64 12 (rotl d 64) e
  | 4 => setGen64 12 (rotr d 64) e
  | 5 =>
    let l := gen64 e 16
    setGen64 16 (if l % 2 = 1 then (l / 2) ^^^ gen64 e 18 else l / 2) e
  | 6 => setGen64 14 d e
  | _ => e

/-! ### Instructions (Table ITIN-4) -/

/-- A decoded instruction. -/
structure ItinIns where
  op : Nat
  tset : Nat
  rep : Nat
  cmd : Nat
  xop : Nat
  yop : Nat
  dop : Nat
  cmp : Nat
  arg : Nat
  operand : Nat
deriving DecidableEq, Repr

/-- The field `[hi:lo]` of a number. -/
def nfld (n hi lo : Nat) : Nat := n / 2 ^ lo % 2 ^ (hi + 1 - lo)

/-- The fields of a 128-bit instruction (Table ITIN-4). -/
def insOf (n : Nat) : ItinIns :=
  { op := nfld n 127 122, tset := nfld n 121 118, rep := nfld n 117 110, cmd := nfld n 109 94, xop := nfld n 93 82
    yop := nfld n 81 70, dop := nfld n 69 60, cmp := nfld n 59 54, arg := nfld n 53 32, operand := nfld n 31 0 }

/-- A number of bytes, the first the least significant. -/
def numOf (l : List Byte) : Nat := l.foldr (fun b acc => b.toNat + 256 * acc) 0

/-- The instruction of an index: from the code cache below 4,096, from QDR SRAM above (R140). -/
def fetchIns (qdr : Memory) (r : Nat) (e : Engine) (i : Nat) : ItinIns :=
  insOf (if i < 4096 then e.cache.getD i 0 else numOf (readBytes qdr (qdrKey r (e.cfg.codeBase + 16 * i)) 16))

/-- The pins of class STREAM of a region, ascending (R143). -/
def streamPins (k : Core) (r : Nat) : List Nat := (regionPins r).filter (fun p => regFld k (cellReg (cellOfPin p) 0x70) 19 16 == 7)

/-- The bytes of a stored-vector record (R143). -/
def recordSize (k : Core) (r : Nat) : Nat := ceilDiv (streamPins k r).length 32 * 4

/-- May LDREG write a value at an index (Table ITIN-8)? -/
def ldregOk (i v : Nat) : Bool := decide (i ≤ 0x2F) && (i != 0x17) && (i != 0x14 || (decide (1 ≤ v) && decide (v ≤ 24)))

/-- Is the condition of a BRC defined? -/
def brcCond (c : Nat) : Bool := decide (c < 4) || (decide (0x10 ≤ c) && decide (c < 0x18)) || (decide (0x20 ≤ c) && decide (c < 0x24))

/-- Are an instruction's ARG and OPERAND legal (Table ITIN-8)? -/
def operandsOk (k : Core) (r : Nat) (e : Engine) (i : ItinIns) : Bool :=
  let target := decide (i.operand < 2 ^ 22) && decide (i.operand < e.cfg.codeLen)
  match i.op with
  | 0x00 | 0x03 | 0x0B => i.arg == 0 && i.operand == 0
  | 0x01 | 0x02 => i.arg == 0 && target
  | 0x04 => decide (i.arg < 64) && ldregOk i.arg i.operand
  | 0x05 => decide (i.arg < 8) && target
  | 0x06 => (i.arg == nfld i.arg 16 16 * 2 ^ 16 + nfld i.arg 7 0) && brcCond (nfld i.arg 7 0) && target
  | 0x07 =>
    (i.arg == nfld i.arg 16 16 * 2 ^ 16 + nfld i.arg 14 0) && decide (nfld i.arg 7 0 < 3) && target && (tenRole k r == 0)
  | 0x08 => decide (i.arg < 16) && target && (tenRole k r == 0)
  | 0x09 => i.arg == 0
  | 0x0A =>
    i.arg == 0 && i.rep == 0 && i.operand != 0 && (k.order != .a000)
      && (decide (0 < e.emitted)
        || decide (e.streamPos + i.operand * frameBeats e * recordSize k r ≤ e.cfg.vsLen))
  | _ => false

/-- Is an instruction legal (R124, R406)? The engine checks its reserved bits, refused field values, targets and operands, and
that its index lies in the code. -/
def insLegal (k : Core) (r : Nat) (e : Engine) (i : ItinIns) : Bool :=
  decide (e.pc < e.cfg.codeLen)
    && decide (nfld i.xop 11 8 ≤ 0xC) && (nfld i.xop 6 0 == 0)
    && decide (nfld i.yop 11 8 ≤ 0xC) && (nfld i.yop 5 0 == 0)
    && (nfld i.dop 9 7 != 7) && decide (nfld i.dop 6 4 ≤ 5) && (nfld i.dop 1 0 == 0)
    && operandsOk k r e i

/-! ### Frames (R115 to R118, R125) -/

/-- An electrical address (R117): bit `i` is a mapped bit of the topological address, XOR a bit. -/
def electrical (e : Engine) (map xor a : Nat) : Nat :=
  listBits ((List.range 24).filter (fun i =>
    let src := nfld (gen e (map + i / 6)) (5 * (i % 6) + 4) (5 * (i % 6))
    (decide (src < 24) && a.testBit src) != (gen e xor).testBit i))

/-- The topology bit of a lane (R118). -/
def topoBit (e : Engine) (x y : Nat) : Bool :=
  let pick (sel a k : Nat) : Bool := let s := nfld (gen e sel) (5 * k + 4) (5 * k); decide (s < 24) && a.testBit s
  let n := listBits ((List.range 4).filter (pick 21 x)) + 16 * listBits ((List.range 4).filter (pick 22 y))
  (gen e (24 + n / 32)).testBit (n % 32)

/-- The background bit of a lane (Table ITIN-6). -/
def background (e : Engine) (bg x y : Nat) : Bool :=
  match bg with
  | 1 => x.testBit 0 != y.testBit 0
  | 2 => y.testBit 0
  | 3 => x.testBit 0
  | 4 => x % 2 ^ gen e 20 == y % 2 ^ gen e 20
  | _ => false

/-- The data word of a lane (R118). -/
def dataWord (e : Engine) (dop x y : Nat) : Nat :=
  let inv (c : Bool) (w : Nat) : Nat := if c then 2 ^ 64 - 1 - w else w
  let w := if nfld dop 6 4 = 5 then gen64 e 16 else inv (background e (nfld dop 6 4) x y) (gen64 e 12)
  inv (dop.testBit 2) (inv (dop.testBit 3 && topoBit e x y) w)

/-- The frame an instruction emits from the registers as they stand; `recs` are the stored-vector records of its lanes. -/
def frameOf (e : Engine) (i : ItinIns) (last : Bool) (recs : List Nat) : ItinFrame :=
  let x := gen e 0
  let y := gen e 6
  { serial := e.serial, instr := e.pc, op := i.op, first := e.emitted == 0, last := last, tset := i.tset, cmd := i.cmd
    x := x, y := y, xe := electrical e 32 5 x, ye := electrical e 36 11 y
    words := (List.range (frameBeats e)).map (fun j => dataWord e i.dop (laneX e.cfg.frame x j) y)
    stream := recs, cmp := i.cmp }

/-- XOP, YOP and DOP after a frame (R125 to R128). -/
def stepGens (i : ItinIns) (e : Engine) : Engine :=
  let sx := addrStep (nfld i.xop 11 8) (i.xop.testBit 7) (gen e 0) (gen e 1) (gen e 2) (gen e 3) (gen e 4)
  let e1 := setGen 1 sx.2.1 (setGen 0 sx.1 { e with xw := sx.2.2 })
  let fy := if i.yop.testBit 6 ∧ ¬ sx.2.2 then 0 else nfld i.yop 11 8
  let sy := addrStep fy (i.yop.testBit 7) (gen e1 6) (gen e1 7) (gen e1 8) (gen e1 9) (gen e1 10)
  dataStep (nfld i.dop 9 7) (setGen 7 sy.2.1 (setGen 6 sy.1 { e1 with yw := sy.2.2 }))

/-- The frames an instruction emits in all. -/
def insFrames (i : ItinIns) : Nat := if i.op = 0x0A then i.operand else i.rep + 1

/-- The records of the next frame's lanes, where the instruction is a VSTREAM (R143). -/
def nextRecords (arc : Memory) (size : Nat) (e : Engine) (i : ItinIns) : List Nat :=
  if i.op = 0x0A then
    (List.range (frameBeats e)).map (fun j => numOf (readBytes arc (e.cfg.vsBase + e.streamPos + size * j) size))
  else []

/-- Up to `n` further frames of an instruction enter the FIFO. -/
def emitFrames (arc : Memory) (size : Nat) (i : ItinIns) (n : Nat) (e : Engine) : Engine :=
  match n with
  | 0 => e
  | m + 1 =>
    let f := frameOf e i (e.emitted + 1 == insFrames i) (nextRecords arc size e i)
    emitFrames arc size i m
      (stepGens i { e with
        fifo := e.fifo ++ [f], serial := e.serial + 1, emitted := e.emitted + 1
        streamPos := if i.op = 0x0A then e.streamPos + size * frameBeats e else e.streamPos })

/-- The frames for which the FIFO has room (R113). -/
def fifoRoom (e : Engine) : Nat := (8192 - fifoFill e) / frameBeats e

/-! ### Register writes and flow (R125, R131) -/

/-- Does a BRC's condition hold (Table ITIN-8)? -/
def brcHolds (k : Core) (r : Nat) (e : Engine) (c : Nat) : Bool :=
  if c = 0 then e.xw
  else if c = 1 then e.yw
  else if c = 2 then gen e 0 == gen e 4
  else if c = 3 then gen e 6 == gen e 10
  else if c < 0x20 then gen e (40 + c % 8) == 0
  else regBit k (treeReg r 0x200) (4 + c % 4)

/-- The engine goes to an instruction. -/
def goTo (n : Nat) (e : Engine) : Engine := { e with pc := n, emitted := 0 }

/-- The mask of bits that a generator register uses (R151). -/
def genMask (i : Nat) : Nat :=
  if i < 12 then 2 ^ 24 - 1 else if i = 20 then 31 else if i = 21 ∨ i = 22 then 2 ^ 20 - 1
  else if 32 ≤ i ∧ i < 40 then 2 ^ 30 - 1 else 2 ^ 32 - 1

/-- A snapshot for the shadow bank (R146). -/
def snapOf (e : Engine) (i : ItinIns) : WpSnap :=
  { serial := e.serial - 1, tag := BitVec.ofNat 32 i.operand, next := e.pc + 1, stack := e.stack, gen := e.gen
    streamPos := e.streamPos, taken := none }

/-- The opcode's register writes and flow after the last frame (R125, R131). BRF and MATCH leave the decision to the pin
side. -/
def finishIns (k : Core) (r : Nat) (i : ItinIns) (e : Engine) : Engine :=
  let neg := i.arg.testBit 16
  match i.op with
  | 0x01 => goTo i.operand e
  | 0x02 => if 16 ≤ e.stack.length then { e with err := 3 } else goTo i.operand { e with stack := (e.pc + 1) :: e.stack }
  | 0x03 => match e.stack with
    | t :: rest => goTo t { e with stack := rest }
    | [] => { e with err := 3 }
  | 0x04 => goTo (e.pc + 1) (setGen i.arg (i.operand &&& genMask i.arg) e)
  | 0x05 =>
    let c := 40 + i.arg % 8
    if gen e c = 0 then goTo (e.pc + 1) e
    else
      let e1 := setGen c (gen e c - 1) e
      if gen e1 c = 0 then goTo (e.pc + 1) e1 else goTo i.operand e1
  | 0x06 => if brcHolds k r e (nfld i.arg 7 0) != neg then goTo i.operand e else goTo (e.pc + 1) e
  | 0x07 | 0x08 => { e with blocked := true }
  | 0x09 => goTo (e.pc + 1) (if e.shadow.isNone then { e with shadow := some (snapOf e i) } else e)
  | 0x0B => { e with ended := true }
  | _ => goTo (e.pc + 1) e

/-- May the engine decode its next instruction: is it priming or in a run, and neither waiting, ended nor faulted? -/
def engineReady (k : Core) (r : Nat) : Bool :=
  let e := engOf k r
  decide (1 ≤ engState k r) && decide (engState k r ≤ 4) && !e.blocked && !e.ended && (e.err == 0)

/-- During a run a read returns the engine's generator registers (R151). -/
def commitGen (r : Nat) (k : Core) : Core :=
  if engState k r < 3 then k
  else (List.range 48).foldl (fun acc i =>
    if reg acc (engReg r (0x100 + 4 * i)) = (engOf k r).gen.getD i 0 then acc
    else setReg (engReg r (0x100 + 4 * i)) ((engOf k r).gen.getD i 0) acc) k

/-- A WAYPOINT decoded while the shadow bank holds an unwritten snapshot is skipped (R147). -/
def noteSkipped (r : Nat) (skipped : Bool) (k : Core) : Core :=
  if skipped then recordCause (engReg r 0x30) 5 (countFld (engReg r 0x38) 31 16 1 k) else k

/-- The engine executes its next instruction, when its opcode is `op` and it is legal: the frames that the FIFO has room for,
and, once the last is out, its register writes and flow. An uncorrectable word of its code or stream is a pending fault
CODE_FETCH or STREAM (R145, Table MEM-2). -/
def runIns (op r : Nat) (qdr arc : Memory) (k : Core) : Core :=
  let e := engOf k r
  let i := fetchIns qdr r e e.pc
  if engineReady k r ∧ i.op = op ∧ insLegal k r e i then
    if qdrBadIn k r (e.cfg.codeBase + 16 * e.pc) 16 then setEng r { e with err := 5 } k
    else if op = 0x0A ∧ arcBadIn k (e.cfg.vsBase + e.streamPos) (recordSize k r * frameBeats e) then
      setEng r { e with err := 4 } k
    else
    let e1 := emitFrames arc (recordSize k r) i (min (fifoRoom e) (insFrames i - e.emitted)) e
    if e1.emitted < insFrames i then showEngine r (commitGen r (setEng r e1 k))
    else showEngine r (commitGen r (noteSkipped r (op == 0x09 && e1.shadow.isSome) (setEng r (finishIns k r i e1) k)))
  else k

/-- STEP emits its frames and goes to the next instruction. -/
def opItinStep (r : Nat) (s : State) : State := onCoreMem (runIns 0x00 r) s
/-- Meaning of STEP (R131). -/
def execItinStep (r : Region) (s : State) : Host.Outcome State Fault Refusal := .next (opItinStep r.val s)

/-- JUMP emits its frames and goes to its target. -/
def opItinJump (r : Nat) (s : State) : State := onCoreMem (runIns 0x01 r) s
/-- Meaning of JUMP (R131). -/
def execItinJump (r : Region) (s : State) : Host.Outcome State Fault Refusal := .next (opItinJump r.val s)

/-- CALL emits its frames, pushes index + 1 and goes to its target; a full stack is a pending fault STACK. -/
def opItinCall (r : Nat) (s : State) : State := onCoreMem (runIns 0x02 r) s
/-- Meaning of CALL (R131). -/
def execItinCall (r : Region) (s : State) : Host.Outcome State Fault Refusal := .next (opItinCall r.val s)

/-- RET emits its frames and goes to the popped index; an empty stack is a pending fault STACK. -/
def opItinRet (r : Nat) (s : State) : State := onCoreMem (runIns 0x03 r) s
/-- Meaning of RET (R131). -/
def execItinRet (r : Region) (s : State) : Host.Outcome State Fault Refusal := .next (opItinRet r.val s)

/-- LDREG emits its frames and loads a generator register. -/
def opItinLdreg (r : Nat) (s : State) : State := onCoreMem (runIns 0x04 r) s
/-- Meaning of LDREG (R131). -/
def execItinLdreg (r : Region) (s : State) : Host.Outcome State Fault Refusal := .next (opItinLdreg r.val s)

/-- LOOP emits its frames, decrements its counter and branches while the result is not 0. -/
def opItinLoop (r : Nat) (s : State) : State := onCoreMem (runIns 0x05 r) s
/-- Meaning of LOOP (R131). -/
def execItinLoop (r : Region) (s : State) : Host.Outcome State Fault Refusal := .next (opItinLoop r.val s)

/-- BRC emits its frames and branches on its condition. -/
def opItinBrc (r : Nat) (s : State) : State := onCoreMem (runIns 0x06 r) s
/-- Meaning of BRC (R131, R275). -/
def execItinBrc (r : Region) (s : State) : Host.Outcome State Fault Refusal := .next (opItinBrc r.val s)

/-- BRF emits its frames; its branch waits for the compares (R133). -/
def opItinBrf (r : Nat) (s : State) : State := onCoreMem (runIns 0x07 r) s
/-- Meaning of BRF (R131, R133). -/
def execItinBrf (r : Region) (s : State) : Host.Outcome State Fault Refusal := .next (opItinBrf r.val s)

/-- MATCH emits the frames of its first iteration; the pin side repeats them (R134). -/
def opItinMatch (r : Nat) (s : State) : State := onCoreMem (runIns 0x08 r) s
/-- Meaning of MATCH (R131, R134). -/
def execItinMatch (r : Region) (s : State) : Host.Outcome State Fault Refusal := .next (opItinMatch r.val s)

/-- WAYPOINT emits its frames and takes a snapshot, or skips it (R146, R147). -/
def opItinWaypoint (r : Nat) (s : State) : State := onCoreMem (runIns 0x09 r) s
/-- Meaning of WAYPOINT (R146, R147). -/
def execItinWaypoint (r : Region) (s : State) : Host.Outcome State Fault Refusal := .next (opItinWaypoint r.val s)

/-- VSTREAM emits its frames with a stored-vector record for each beat. -/
def opItinVstream (r : Nat) (s : State) : State := onCoreMem (runIns 0x0A r) s
/-- Meaning of VSTREAM (R131, R143). -/
def execItinVstream (r : Region) (s : State) : Host.Outcome State Fault Refusal := .next (opItinVstream r.val s)

/-- HALT emits its frames and ends the run's frames. -/
def opItinHalt (r : Nat) (s : State) : State := onCoreMem (runIns 0x0B r) s
/-- Meaning of HALT (R131, R135). -/
def execItinHalt (r : Region) (s : State) : Host.Outcome State Fault Refusal := .next (opItinHalt r.val s)

/-! ### Priming (R137, R138) -/

/-- ITIN_PRIMED: the FIFO is full, or holds every beat up to where the engine can go no further before the run begins: a HALT,
a BRF or MATCH that waits for the device, or a pending fault. -/
def opItinPrimed (r : Nat) (k : Core) : Core :=
  let e := engOf k r
  if engState k r = 1 ∧ (fifoRoom e = 0 ∨ e.ended ∨ e.blocked ∨ e.err ≠ 0) ∧ e.err ≠ 6 then
    setRegBit (engReg r 0x10) 0 true (setEngState r 2 k)
  else k

/-- Meaning of ITIN_PRIMED (R137). -/
def execItinPrimed (r : Region) (s : State) : Host.Outcome State Fault Refusal := .next (onCore (opItinPrimed r.val) s)

/-- The generator registers of a prepare, the folio's stages included. -/
def genView (view : Nat → Word) (r : Nat) : List Word := (List.range 48).map (fun i => view (engReg r (0x100 + 4 * i)))

/-- What a run takes from the registers (R136). -/
def cfgView (view : Nat → Word) (r : Nat) : ItinCfg :=
  let f (off hi lo : Nat) : Nat := fld (view (engReg r off)) hi lo
  { frame := f 0 1 0, rdLat := f 0 21 16, wrLat := f 0 29 24, codeBase := f 8 25 0, codeLen := f 0xC 25 0
    vsBase := f 0x40 31 0 + 2 ^ 32 * f 0x48 31 0, vsLen := f 0x4C 31 0 + 2 ^ 32 * f 0x50 31 0 }

/-- The code cache of a run: instructions 0 to 4,095 of the code area (R140). -/
def loadCache (qdr : Memory) (r : Nat) (c : ItinCfg) : List Nat :=
  (List.range (min c.codeLen 4096)).map (fun i => numOf (readBytes qdr (qdrKey r (c.codeBase + 16 * i)) 16))

/-- CRC-32C of the code area (Table ITIN-13, offset 0xF4). -/
def codeCrcOf (qdr : Memory) (r : Nat) (c : ItinCfg) : Word := crc32c (readBytes qdr (qdrKey r c.codeBase) (16 * c.codeLen))

/-- CRC-32C of the configuration registers (Table ITIN-13, offset 0xF8): POLY, DG_CTRL, TSEL_X, TSEL_Y, TOPO_MAP, XMAP, YMAP. -/
def configCrc (g : List Word) : Word :=
  crc32c (bytesOf ((([18, 19, 20, 21, 22] ++ (List.range 16).map (· + 24))).map (fun i => g.getD i 0)))

/-- The QDR byte address of a staging slot (R146). -/
def stageAddr (k : Core) (r slot : Nat) : Nat := regFld k (engReg r 0x44) 25 0 + 256 * slot

/-- The newest staging slot: the one that the next snapshot does not write. -/
def newestSlot (k : Core) (r : Nat) : Nat := 1 - b2n (regBit k (engReg r 0x10) 1)

/-- A staging slot's 64 words. -/
def slotWords (qdr : Memory) (k : Core) (r slot : Nat) : List Word :=
  wordsOf 64 (readBytes qdr (qdrKey r (stageAddr k r slot)) 256)

/-- Is a waypoint record fit for a resume (R149)? -/
def recordOk (w : List Word) (r : Nat) (codeCrc config : Word) : Bool :=
  (pw w 63 == crc32c (bytesOf (w.take 63))) && (pw w 61 == codeCrc) && (fld (pw w 0) 15 8 == r) && (pw w 62 == config)

/-- The engine as a START leaves it at its prepare (Table ITIN-9). -/
def startEngine (qdr : Memory) (view : Nat → Word) (r state : Nat) (old : Engine) : Engine :=
  let c := cfgView view r
  { shadow := old.shadow, prev := state, action := 1, cfg := c, cache := loadCache qdr r c, gen := genView view r
    pc := fld (view (engReg r 4)) 21 0, codeCrc := codeCrcOf qdr r c }

/-- The engine as a RESUME leaves it: from the record's registers, flags, sites, stack and stream position (R149). -/
def resumeEngine (w : List Word) (e : Engine) : Engine :=
  let g := ((w.drop 32).take 18 ++ (e.gen.drop 18).take 22) ++ (w.drop 24).take 8
  { e with
    action := 2, gen := g, pc := pn w 6, stack := ((List.range (min (fld (pw w 7) 4 0) 16)).map (fun i => pn w (8 + i))).reverse
    streamPos := pn64 w 50, flags := maskOf (w.drop 52) 4, valid := maskOf (w.drop 56) 4, beatBase := pn64 w 2 + 1 }

/-- The prepare of a folio that carries ITIN_RUN for a region (Table ITIN-9): START and RESUME load the cache and begin
priming; a record that fails its checks leaves a pending WP_INVALID, on which the engine never becomes PRIMED (R149). -/
def prepareRun (qdr : Memory) (view : Nat → Word) (r : Nat) (k : Core) : Core :=
  let st := engState k r
  let action := fld (view (engReg r 4)) 31 30
  if (st = 0 ∨ 5 ≤ st) ∧ (action = 1 ∨ action = 2) then
    let e := startEngine qdr view r st (engOf k r)
    let k1 := setRegBit (engReg r 0x10) 0 false (setEngState r 1 k)
    if action = 1 then showEngine r (setEng r e k1)
    else
      let w := slotWords qdr k r (newestSlot k r)
      if recordOk w r e.codeCrc (configCrc (genView view r)) then showEngine r (setEng r (resumeEngine w e) k1)
      else
        recordCause (engReg r 0x30) 11 (setRegFld (engReg r 0x10) 31 24 6 (setEng r { e with action := 2, err := 6 } k1))
  else k

/-- A withdrawal while priming or primed (Table ITIN-9): the FIFO and the cache are discarded. -/
def withdrawRun (r : Nat) (k : Core) : Core :=
  if engState k r = 1 ∨ engState k r = 2 then
    let e := engOf k r
    showEngine r (setRegBit (engReg r 0x10) 0 false (setEngState r e.prev
      (setEng r { shadow := e.shadow, cfg := e.cfg, codeCrc := e.codeCrc, beatBase := e.beatBase } k)))
  else k

end Sys2Proof.Machine
end

