-- ==== Sys2Proof/Machine/PinSide.lean ====
section
/-! DEFINITION. The pin side of a region's itinerary engine (R86 to R88, R115 to R122, R130, R133 to R135, R141, R142, R146):
beats, edges, strobes, waits, and the ends of a run. -/

namespace Sys2Proof.Machine

/-! ### Pins -/

/-- A register of a pin's own cell page. -/
def pinReg (pin off : Nat) : Nat := cellReg (cellOfPin pin) off

/-- PIN_FORMAT of a pin. -/
def pinFormat (k : Core) (pin : Nat) : Word := reg k (pinReg pin 0x74)

/-- PIN_FORMAT.LAG. -/
def pinLag (k : Core) (pin : Nat) : Bool := bit (pinFormat k pin) 15

/-- Does a region hold a pin with LAG = 1? -/
def anyLag (k : Core) (r : Nat) : Bool := (regionPins r).any (pinLag k)

/-- DESKEW_CAL of a pin; while the spare carries it, the spare's own deskew for its position (R90). -/
def pinDeskew (k : Core) (pin : Nat) : Int :=
  let c := cellOfPin pin
  if carried k c then signed (regFld k (cellReg (spareOf c) (0x100 + 4 * (c % 17))) 16 0) 17
  else signed (regFld k (cellReg c 0x60) 16 0) 17

/-- The pair's correction: the member with the higher number adds −PAIR_PHASE to its tenanted pins (R405). -/
def pairShift (k : Core) (pin : Nat) : Int :=
  if tenanted k pin ∧ partnerNo k < ownNumber k then -(signed (regFld k (pairReg 0x40C) 16 0) 17) else 0

/-- The time of an edge from the start of its beat, in units of 250 fs (R87, R90, R405). -/
def edgeTime (k : Core) (pin : Nat) (offset : Nat) : Int :=
  offset + signed (regFld k (pinReg pin 0x64) 16 0) 17 + pinDeskew k pin + pairShift k pin

/-- TSET_EDGE of a pin, set and edge: 0 to 3 are D0 to D3, 4 and 5 are S0 and S1. -/
def tsetEdge (k : Core) (pin set edge : Nat) : Word := reg k (pinReg pin (0x1000 + 0x20 * set + 4 * edge))

/-- BEAT_PERIOD of a timing set. -/
def beatPeriod (k : Core) (r set : Nat) : Nat := regFld k (treeReg r (0x100 + 4 * set)) 27 0

/-! ### Values and actions (R116 to R122) -/

/-- A pin's rank among its region's STREAM pins (R143). -/
def streamRank (k : Core) (pin : Nat) : Nat := ((streamPins k (pin / 128)).filter (fun p => decide (p < pin))).length

/-- A pin's data value in a lane of a frame (Table ITIN-1). A STREAM pin has no record outside a VSTREAM: its value is free
(log entry 1). -/
def pinData (k : Core) (pin : Nat) (f : ItinFrame) (lane : Nat) : Bool :=
  let src := reg k (pinReg pin 0x70)
  let i := fld src 5 0
  match fld src 19 16 with
  | 1 => true
  | 2 => f.cmd.testBit i
  | 3 => f.xe.testBit i
  | 4 => f.ye.testBit i
  | 5 => if f.cmd.testBit 15 then f.ye.testBit i else f.xe.testBit i
  | 6 => (f.words.getD lane 0).testBit i
  | 7 => match f.stream[lane]? with
    | some rec => rec.testBit (streamRank k pin)
    | none => Config.freeBool (k.freeCtr + pin % 128)
  | 8 => regBit k (blockReg (pin / 16) (0xA08 + 4 * (i / 32))) (i % 32)
  | _ => false

/-- The actions of the drive edges (Table ITIN-2). -/
def driveActions (dfmt : Nat) (d : Bool) : List (Nat × DriveState) :=
  let v (b : Bool) : DriveState := if b then .vih else .vil
  match dfmt with
  | 0 => [(0, .z)]
  | 1 => [(0, v d)]
  | 2 => [(0, v d), (1, .vil)]
  | 3 => [(0, v d), (1, .vih)]
  | 4 => [(0, v !d), (1, v d), (2, v !d)]
  | 5 => [(0, .vih), (1, .vil), (2, .vih), (3, .vil)]
  | 6 => [(0, v d), (1, .vtt)]
  | 7 => [(0, v d), (1, .z)]
  | _ => []

/-- An expectation (Table PIN-6). -/
inductive Expect where
  | x | h | l | z | v
deriving DecidableEq, Repr

/-- Does a sample pass (Table PIN-6)? -/
def passes (e : Expect) (ch cl : Bool) : Bool :=
  match e with
  | .x => true
  | .h => ch && !cl
  | .l => cl && !ch
  | .z => !ch && !cl
  | .v => ch != cl

/-- The expectation at a strobe (Table ITIN-3). -/
def expectation (cfmt strobe : Nat) (e : Bool) : Expect :=
  let s : Expect := if e then .h else .l
  match cfmt, strobe with
  | 1, 0 => s
  | 2, _ => s
  | 3, 0 => .z
  | 4, 0 => .v
  | _, _ => .x

/-- Does a pin compare on an action of a frame (R121)? -/
def comparesOn (k : Core) (pin : Nat) (f : ItinFrame) : Bool :=
  match fld (pinFormat k pin) 17 16 with
  | 0 => false
  | 1 => true
  | _ => f.cmp.testBit 4

/-- The delayed actions that land on a frame, the last-generated last (R122). -/
def landing (e : Engine) (n : Nat) : List ItinFrame := (e.lag.filter (fun g => g.1 == n)).map Prod.snd

/-- The frame whose action a pin applies: the present one, or for a LAG pin the last-generated that lands on it (R122). -/
def actionFrame (k : Core) (e : Engine) (pin : Nat) (f : ItinFrame) : Option ItinFrame :=
  if pinLag k pin then (landing e e.frameNo).getLast? else some f

/-! ### Drive edges (R87, R88, R119, R121) -/

/-- The drive edges of a pin that is driven by the itinerary, with their offsets. Edge number 4 stands for high impedance from
the start of a beat that compares or in which no delayed action lands. -/
def pinEdges (k : Core) (e : Engine) (pin : Nat) (f : ItinFrame) : List (Nat × Nat × DriveState) :=
  if regFld k (pinReg pin 8) 5 4 ≠ 1 then []
  else match actionFrame k e pin f with
    | none => if fld (pinFormat k pin) 17 16 = 0 then [] else [(0, 4, .z)]
    | some g =>
      if comparesOn k pin g then [(0, 4, .z)]
      else (driveActions (fld (pinFormat k pin) 7 4) (pinData k pin g e.lane)).filterMap (fun a =>
        let w := tsetEdge k pin f.tset a.1
        if bit w 31 then some (fld w 28 0, a.1, a.2) else none)

/-- The edges of a beat that fire within it. -/
def edgesNow (k : Core) (r : Nat) (e : Engine) (f : ItinFrame) : List LateEdge :=
  (regionPins r).flatMap (fun p => ((pinEdges k e p f).filter (fun a => decide (a.1 < beatPeriod k r f.tset))).map (fun a =>
    { pin := p, time := edgeTime k p a.1, edge := a.2.1, state := a.2.2 }))

/-- The edges of a beat that fire during the following one (R87). -/
def edgesLate (k : Core) (r : Nat) (e : Engine) (f : ItinFrame) : List LateEdge :=
  (regionPins r).flatMap (fun p => ((pinEdges k e p f).filter (fun a => decide (beatPeriod k r f.tset ≤ a.1))).map (fun a =>
    { pin := p, time := edgeTime k p a.1 - beatPeriod k r f.tset, edge := a.2.1, state := a.2.2 }))

/-- Does one edge come before another: by time, and on one step by edge number (R88)? -/
def edgeBefore (a b : LateEdge) : Bool := decide (a.time < b.time) || (a.time == b.time && decide (a.edge ≤ b.edge))

/-- An edge put into its place in a list in order of time. -/
def insertEdge (x : LateEdge) (l : List LateEdge) : List LateEdge :=
  match l with
  | [] => [x]
  | y :: t => if edgeBefore y x then y :: insertEdge x t else x :: y :: t

/-- Edges in order of time. -/
def sortEdges (l : List LateEdge) : List LateEdge := l.foldl (fun acc x => insertEdge x acc) []

/-- Edges fire: each sets its pin's driver, at the cell that carries the pin (R52). -/
def fireEdges (l : List LateEdge) (k : Core) : Core :=
  (sortEdges l).foldl (fun acc x => setDrive (carrier acc (cellOfPin x.pin)) x.state acc) k

/-- The state the itinerary drives a pin to at a time of a beat, before its drivers are silenced (R407). -/
def driveAt (k : Core) (edges : List LateEdge) (pin : Nat) (t : Int) : DriveState :=
  match ((sortEdges edges).filter (fun x => x.pin == pin && decide (x.time ≤ t))).getLast? with
  | some x => x.state
  | none => (cellOf k (carrier k (cellOfPin pin))).source

/-! ### Strobes (R55, R114, R120) -/

/-- CH and CL of a pin at a strobe of the beat. -/
def sampleOf (l : List PinSample) (pin strobe : Nat) : Bool × Bool :=
  match l.find? (fun x => x.pin.val == pin % 128 && x.strobe.val == strobe) with
  | some x => (x.ch, x.cl)
  | none => (false, false)

/-- A pin's expectation at a strobe of the beat, with the frame it comes from: X where the pin does not compare, is SHARED, its
site is disabled, CE is 0, or the frame is a pad or tail frame's own (R114, R120, R133). -/
def pinExpect (k : Core) (r : Nat) (e : Engine) (pin strobe : Nat) (f : ItinFrame) (live : Bool) :
    Option (ItinFrame × Expect) :=
  match actionFrame k e pin f, pinSite k pin with
  | some g, some s =>
    if (live ∨ pinLag k pin) ∧ comparesOn k pin g ∧ g.cmp.testBit 5 ∧ siteEnabled k r s then
      match expectation (fld (pinFormat k pin) 11 8) strobe (pinData k pin g e.lane != g.cmp.testBit 3) with
      | .x => none
      | sym => some (g, sym)
    else none
  | _, _ => none

/-- A compare of a beat: its pin, strobe and frame, whether it fails, and whether it samples in the following beat (R87). -/
structure Compare where
  bit : FailBit
  fails : Bool
  late : Bool
deriving DecidableEq, Repr

/-- The compares of a beat. -/
def compares (k : Core) (r : Nat) (e : Engine) (l : List PinSample) (f : ItinFrame) (live : Bool) : List Compare :=
  [0, 1].flatMap (fun st => (regionPins r).filterMap (fun p =>
    let w := tsetEdge k p f.tset (4 + st)
    if bit w 31 then
      (pinExpect k r e p st f live).map (fun g =>
        { bit := { pin := p, strobe := st, lane := e.lane, frame := g.1 }
          fails := !passes g.2 (sampleOf l p st).1 (sampleOf l p st).2
          late := decide (beatPeriod k r f.tset ≤ fld w 28 0) })
    else none))

/-- Is a compare a match compare (R134)? -/
def isMatch (k : Core) (b : FailBit) : Bool := b.frame.op == 8 && bit (pinFormat k b.pin) 14

/-- Fail flags after fails: those of frames generated since the last CLRF (R130). -/
def flagFails (k : Core) (e : Engine) (l : List FailBit) : Nat :=
  l.foldl (fun acc b => match pinSite k b.pin with
    | some s => if e.clrf ≤ b.frame.serial then acc ||| 2 ^ s else acc
    | none => acc) e.flags

/-- The sites that failed, by iteration of the MATCH that waits (R134). -/
def noteMatchFails (k : Core) (l : List FailBit) (w : Option Wait) : Option Wait :=
  match w with
  | some (.match_ frames pos iter matched fails dec) =>
    some (.match_ frames pos iter matched (l.foldl (fun acc b => match pinSite k b.pin with
      | some s => amSet acc b.frame.iter (amGetD acc b.frame.iter 0 ||| 2 ^ s)
      | none => acc) fails) dec)
  | _ => w

/-- The state that a driver state expects of a sample (R407). -/
def expectOf (d : DriveState) : Expect :=
  match d with
  | .vih => .h
  | .vil => .l
  | _ => .x

/-- SHADOW verification (R407): at each enabled S0 a tenanted pin's sample is compared with what this member would drive. -/
def shadowVerify (r : Nat) (f : ItinFrame) (edges : List LateEdge) (l : List PinSample) (k : Core) : Core :=
  if tenRole k r = 2 then
    (tenPins k r).foldl (fun acc p =>
      let w := tsetEdge k p f.tset 4
      let s := sampleOf l p 0
      if tenanted k p ∧ bit w 31 ∧ ¬ passes (expectOf (driveAt k edges p (edgeTime k p (fld w 28 0)))) s.1 s.2 then
        noteDiverge acc
      else acc) k
  else k

/-! ### The next frame (R133 to R135) -/

/-- The next frame of the FIFO leaves it. -/
def popFrame (e : Engine) : Option Engine :=
  match e.fifo with
  | [] => none
  | f :: t => some { e with fifo := t, cur := some f, padding := false }

/-- The next frame leaves the FIFO, and a BRF or MATCH begins to wait with its first frame (R133, R134). -/
def popNew (e : Engine) : Option Engine :=
  (popFrame e).map (fun x => match x.cur with
    | some f =>
      if f.op = 7 then { x with wait := some (.brf false) }
      else if f.op = 8 then { x with wait := some (.match_ [f] 1 0 0 [] false) }
      else { x with wait := none }
    | none => x)

/-- Is the present frame the last one of its instruction, with this opcode? -/
def curEnds (e : Engine) (op : Nat) : Bool := e.cur.any (fun f => f.last && f.op == op)

/-- Has every frame of an iteration come (R134)? -/
def iterComplete (frames : List ItinFrame) : Bool := frames.getLast?.any (·.last)

/-- Does a delayed action remain to land (R122, R135)? -/
def lagPending (k : Core) (r : Nat) (e : Engine) : Bool := anyLag k r && !e.lag.isEmpty

/-- A repeated frame of an iteration is played. -/
def replay (frames : List ItinFrame) (pos iter : Nat) (w : Wait) (e : Engine) : Engine :=
  { e with cur := (frames[pos]?).map (fun f => { f with iter := iter }), padding := true, wait := some w }

/-- The engine with the frame of its next beat; none where no beat leaves: the FIFO has run dry, an iteration boundary is
undecided, or the run has ended. -/
def nextFrame (k : Core) (r : Nat) (e : Engine) : Option Engine :=
  if e.lane ≠ 0 then some e
  else match e.wait with
    | some (.brf dec) =>
      if curEnds e 7 then
        if dec ∧ ¬ e.fifo.isEmpty then popNew e else some { e with padding := true }
      else popFrame e
    | some (.match_ frames pos iter m fails dec) =>
      if ¬ iterComplete frames then
        (popFrame e).map (fun x => { x with wait := some (.match_ (frames ++ x.cur.toList) (pos + 1) iter m fails dec) })
      else if pos < frames.length then some (replay frames pos iter (.match_ frames (pos + 1) iter m fails dec) e)
      else if ¬ dec then none
      else if ¬ e.fifo.isEmpty then popNew e
      else some (replay frames 0 (iter + 1) (.match_ frames 1 (iter + 1) m fails dec) e)
    | none =>
      if curEnds e 0xB then (if lagPending k r e then some { e with padding := true } else none) else popNew e

/-- Does the pin side need a frame that the FIFO does not hold (R141)? -/
def starved (e : Engine) : Bool :=
  e.lane == 0 && e.fifo.isEmpty &&
  match e.wait with
  | some (.brf _) => !curEnds e 7
  | some (.match_ frames _ _ _ _ _) => !iterComplete frames
  | none => !curEnds e 0xB

/-! ### One beat (R86) -/

/-- Is an engine RUNNING or WAITING? -/
def inRun (k : Core) (r : Nat) : Bool := engState k r == 3 || engState k r == 4

/-- The start of the next beat in units of 250 fs of the Chronicle (R86). -/
def beatTime (e : Engine) : Nat := 20000 * e.accTick + e.time

/-- Has the stop beat come (R142)? -/
def stopDue (e : Engine) : Bool := e.stopAt.any (fun t => decide (t ≤ beatTime e))

/-- At the first beat of an instruction's first frame CLRF clears the fail flags (R129, R130), and a frame that plays with its
own compares generates its delayed actions (R122). -/
def startFrame (f : ItinFrame) (live : Bool) (e : Engine) : Engine :=
  if e.lane ≠ 0 then e
  else
    let e1 := if f.first ∧ f.cmp.testBit 1 ∧ ¬ e.padding then { e with flags := 0, clrf := f.serial } else e
    if live ∧ ¬ f.cmp.testBit 0 then
      { e1 with lag := e1.lag ++ [(e1.frameNo + (if f.cmp.testBit 4 then e1.cfg.rdLat else e1.cfg.wrLat), f)] }
    else e1

/-- The engine past a beat of period `p`. -/
def endBeat (p : Nat) (e : Engine) : Engine :=
  if e.lane + 1 < frameBeats e then { e with time := e.time + p, lane := e.lane + 1 }
  else { e with time := e.time + p, lane := 0, frameNo := e.frameNo + 1, lag := e.lag.filter (fun g => decide (e.frameNo < g.1)) }

/-- The snapshot of a WAYPOINT stands once the last beat of its last frame leaves (R146). -/
def takeSnap (r beat : Nat) (f : ItinFrame) (k : Core) : Core :=
  let e := engOf k r
  match e.shadow with
  | some w =>
    if w.serial = f.serial ∧ w.taken.isNone ∧ ¬ e.padding ∧ e.lane + 1 = frameBeats e then
      countFld (engReg r 0x38) 15 0 1 (setEng r { e with
        shadow := some { w with taken := some (beat, beatTime e / 20000, e.flags, e.valid &&& (2 ^ 128 - 1 - (fpOf k r).invSites)) } } k)
    else k
  | none => k

/-- The registers that follow a beat: BEAT, ITIN_PC, PAD_COUNT, STATE, FILL and LOW_WATER. -/
def showBeat (r : Nat) (f : ItinFrame) (k : Core) : Core :=
  let e := engOf k r
  let k1 := setRegFld (engReg r 0x14) 21 0 f.instr (setReg64 (engReg r 0x18) (nextBeat k r + 1) k)
  let k2 := if e.padding then countFld (engReg r 0x2C) 31 0 1 k1 else k1
  let k3 := showEngine r (setEngState r (if e.wait.isSome then 4 else 3) k2)
  setRegFld (engReg r 0x20) 29 16 (min (regFld k3 (engReg r 0x20) 29 16) (regFld k3 (engReg r 0x20) 13 0)) k3

/-- The sites that R141 makes invalid from a beat of this region on become so. -/
def dueSites (r : Nat) (k : Core) : Core :=
  let e := engOf k r
  (e.invalidSites.filter (fun x => decide (x.2 ≤ beatTime e))).foldl (fun acc x => siteInvalid r x.1 (nextBeat acc r) acc)
    (setEng r { e with invalidSites := e.invalidSites.filter (fun x => decide (beatTime e < x.2)) } k)

/-- A beat of the engine's present frame: its edges fire, its strobes sample, fails set flags and are captured. -/
def playBeat (r : Nat) (l : List PinSample) (f : ItinFrame) (k : Core) : Core :=
  let e0 := engOf k r
  let live := !e0.padding || f.op == 8
  let e := startFrame f live e0
  let n := nextBeat k r
  let p := beatPeriod k r f.tset
  let edges := e.lateEdges ++ edgesNow k r e f
  let cs := compares k r e l f live
  let bad := (cs.filter (·.fails))
  let now := e.lateFails ++ ((bad.filter (fun c => !c.late)).map (·.bit))
  let e1 := { e with
    lateEdges := edgesLate k r e f
    lateFails := (bad.filter (·.late)).map (·.bit)
    lateCmp := cs.any (·.late)
    flags := flagFails k e (now.filter (fun b => !isMatch k b))
    wait := noteMatchFails k ((bad.map (·.bit)).filter (isMatch k)) e.wait }
  let conflict := e.lane = 0 ∧ 2 ≤ (landing e e.frameNo).length ∧ anyLag k r
  let k1 := fireEdges edges (shadowVerify r f edges l (setEng r e1 k))
  let k2 := if conflict then recordCause (engReg r 0x30) 7 k1 else k1
  let k3 := captureBeat r (beatTime e / 4000) n (now.filter (fun b => !isMatch k b)) k2
  let k4 := takeSnap r n f { k3 with freeCtr := k3.freeCtr + 128 }
  showBeat r f (setEng r (endBeat p (engOf k4 r)) k4)

/-- BEAT_START: the next beat of a region in a run leaves the FIFO, unless its stop beat has come. -/
def opBeatStart (r : Nat) (l : List PinSample) (k : Core) : Core :=
  if inRun k r ∧ ¬ stopDue (engOf k r) then
    match nextFrame k r (engOf k r) with
    | some e => match e.cur with
      | some f => playBeat r l f (dueSites r (enableTenants r (setEng r e k)))
      | none => k
    | none => k
  else k

/-- Meaning of BEAT_START (R86): `samples` holds what the comparators of the region's pins held at the beat's own strobes. -/
def execBeatStart (r : Region) (samples : List PinSample) (s : State) : Host.Outcome State Fault Refusal :=
  .next (onCore (opBeatStart r.val samples) s)

/-! ### Waiting on the device (R133, R134) -/

/-- BRF_RESOLVE's condition: the BRF's frames have played, and every compare that they and earlier frames generated has
resolved. -/
def brfReady (k : Core) (r : Nat) (e : Engine) : Bool :=
  inRun k r && e.wait == some (.brf false) && e.lane == 0 && curEnds e 7 && !lagPending k r e && e.lateFails.isEmpty
    && !e.lateCmp

/-- The enabled sites that hold a pin in a region. -/
def enabledSites (k : Core) (r : Nat) : List Nat := (bitList (regionSites k r) 128).filter (siteEnabled k r)

/-- The condition of a BRF (Table ITIN-8, R132). -/
def brfHolds (k : Core) (r : Nat) (e : Engine) (arg : Nat) : Bool :=
  match nfld arg 7 0 with
  | 0 => (enabledSites k r).any (fun s => e.flags.testBit s)
  | 1 => (enabledSites k r).all (fun s => e.flags.testBit s)
  | _ => e.flags.testBit (nfld arg 14 8)

/-- BRF_RESOLVE: the flow decision is taken, and the engine goes on along the chosen path. -/
def opBrfResolve (r : Nat) (qdr : Memory) (_arc : Memory) (k : Core) : Core :=
  let e := engOf k r
  if brfReady k r e then
    let i := fetchIns qdr r e e.pc
    let path := if brfHolds k r e i.arg != i.arg.testBit 16 then i.operand else e.pc + 1
    setEng r (goTo path { e with blocked := false, wait := some (.brf true) }) k
  else k

/-- Meaning of BRF_RESOLVE (R133). -/
def execBrfResolve (r : Region) (s : State) : Host.Outcome State Fault Refusal := .next (onCoreMem (opBrfResolve r.val) s)

/-- The enabled sites with match pins in a region (R134). -/
def matchSites (k : Core) (r : Nat) : List Nat :=
  (enabledSites k r).filter (fun s => (sitePins k r s).any (fun p => bit (pinFormat k p) 14))

/-- Has every match compare of an iteration resolved? -/
def iterResolved (k : Core) (r : Nat) (e : Engine) (iter j : Nat) : Bool :=
  !(anyLag k r && e.lag.any (fun g => g.2.op == 8 && g.2.iter == j)) && !(e.lateCmp && j == iter)

/-- The sites matched after the iterations whose compares have resolved. -/
def matchedBy (k : Core) (r : Nat) (e : Engine) (iter matched : Nat) (fails : AMap Nat) : Nat :=
  (List.range (iter + 1)).foldl (fun acc j =>
    if iterResolved k r e iter j then
      acc ||| listBits ((matchSites k r).filter (fun s => !(amGetD fails j 0).testBit s))
    else acc) matched

/-- Is the condition of a MATCH met (R134)? -/
def matchMet (mode : Bool) (sites : List Nat) (matched : Nat) : Bool :=
  if mode then sites.any (fun s => matched.testBit s) else sites.all (fun s => matched.testBit s)

/-- The match-timeout marks of unmatched sites (Table FAIL-2). -/
def markTimeouts (r instr : Nat) (l : List Nat) (k : Core) : Core :=
  l.foldl (fun acc s => recordCause (fpReg r 0x14) 5
    (pushRecord r (nsNow acc) { type := 5, site := s, beat := nextBeat acc r, instr := instr } acc)) k

/-- MATCH_ITERATION_END: at an undecided iteration boundary the condition is met and the engine goes on, the counter is 0 and
it goes to the timeout target, or the iteration is repeated with the counter one lower. -/
def opMatchIterationEnd (r : Nat) (qdr : Memory) (_arc : Memory) (k : Core) : Core :=
  let e := engOf k r
  match e.wait with
  | some (.match_ frames pos iter m fails false) =>
    if inRun k r ∧ e.lane = 0 ∧ iterComplete frames ∧ pos = frames.length then
      let i := fetchIns qdr r e e.pc
      let c := 40 + i.arg % 8
      let m1 := matchedBy k r e iter m fails
      if matchMet (i.arg.testBit 3) (matchSites k r) m1 then
        setEng r (goTo (e.pc + 1) { e with blocked := false, wait := some (.match_ frames pos iter m1 fails true) }) k
      else if gen e c = 0 then
        markTimeouts r e.pc ((matchSites k r).filter (fun s => !m1.testBit s)) (recordCause (engReg r 0x30) 4
          (setEng r (goTo i.operand { e with blocked := false, wait := some (.match_ frames pos iter m1 fails true) }) k))
      else
        commitGen r (setEng r (setGen c (gen e c - 1) { e with wait := some (.match_ frames 0 (iter + 1) m1 fails false) }) k)
    else k
  | _ => k

/-- Meaning of MATCH_ITERATION_END (R134). -/
def execMatchIterationEnd (r : Region) (s : State) : Host.Outcome State Fault Refusal :=
  .next (onCoreMem (opMatchIterationEnd r.val) s)

/-! ### The start of a run (R137, R149, R156) -/

/-- The counters that the accession of a START clears (R151, R179). -/
def clearDrops (r : Nat) (k : Core) : Core :=
  let k1 := setReg (fpReg r 0x10) 0 (setReg (fpReg r 0xC) 0 (setReg (fpReg r 8) 0 k))
  (List.range 128).foldl (fun acc s =>
    if reg acc (fpReg r (0x100 + 4 * s)) = 0 then acc else setReg (fpReg r (0x100 + 4 * s)) 0 acc) k1

/-- A PRIMED engine's folio accedes: beat 0 leaves at the accession tick (Table ITIN-9). -/
def accedeRun (r : Nat) (k : Core) : Core :=
  if engState k r = 2 then
    let e := { engOf k r with accTick := k.clock.chron, time := 0 }
    let k1 := setRegBit (engReg r 0x10) 0 false (setRegFld (engReg r 0x10) 31 24 0 (setEngState r 3 (setEng r e k)))
    let k2 := setReg (engReg r 0x38) 0 (setReg (engReg r 0x2C) 0 (setReg64 (engReg r 0x18) e.beatBase k1))
    let k3 := if e.action = 1 then clearDrops r k2 else k2
    let k3 := { k3 with hub := { k3.hub with due := k3.hub.due ||| regionSites k3 r } }
    let k4 := setFp r { fpOf k3 r with invSites := 2 ^ 128 - 1 - e.valid % 2 ^ 128 } k3
    let k5 := showEngine r (commitGen r (pushRecord r (nsNow k4)
      { type := 7, mask := k4.clock.chron, instr := (e.fifo.head?.map (·.instr)).getD e.pc } k4))
    setRegFld (engReg r 0x20) 29 16 (regFld k5 (engReg r 0x20) 13 0) k5
  else k

/-- A folio with ACTION STOP accedes: the run stops at the first beat at or after the tick (R142). -/
def accedeStop (r : Nat) (k : Core) : Core :=
  if inRun k r then
    let e := engOf k r
    setEng r { e with stopAt := some (min (20000 * k.clock.chron) (e.stopAt.getD (20000 * k.clock.chron))) } k
  else k

/-! ### The end of a run (R135, R141, R142, R156) -/

/-- The words of ITIN_STATUS of the regions of a mask, ascending. -/
def statusWords (k : Core) (m : Nat) : List Word := (bitList m 8).map (fun r => readReg k (engReg r 0x10))

/-- The ITIN_STOP_NOW tickets of an engine that has stopped: each completes once no other engine is awaited. -/
def endStops (l : List Word) (k : Core) : Core :=
  l.foldl (fun acc t =>
    if acc.engines.any (fun e => e.2.stopTickets.contains t) then acc
    else match workOf acc t with
      | some (.itinStop m) => completeTicket t stDone (statusWords acc m) acc
      | _ => acc) k

/-- A run ends: its RUN_END record completes the Ledger block (R158), and the engine keeps its registers, flags and shadow
bank. -/
def endRunAt (r status code beat : Nat) (k : Core) : Core :=
  let e := engOf k r
  let k1 := padBlock r (pushRecord r (nsNow k) { type := 8, beat := beat, mask := status + 2 ^ 8 * code } k)
  endStops e.stopTickets (showEngine r (setEng r { e with
    fifo := [], blocked := false, ended := false, err := 0, lane := 0, cur := none, padding := false, wait := none, lag := []
    lateEdges := [], lateFails := [], lateCmp := false, stopAt := none, stopTickets := [], invalidSites := [] } k1))

/-- A run ends with its last beat. -/
def endRun (r status code : Nat) (k : Core) : Core := endRunAt r status code (nextBeat k r - 1) k

/-- ITIN_DONE: the last frame of HALT, or the last tail frame, has left; edges and strobes that fire after it still act. -/
def opItinDone (r : Nat) (k : Core) : Core :=
  let e := engOf k r
  if inRun k r ∧ ¬ stopDue e ∧ e.wait = none ∧ e.lane = 0 ∧ curEnds e 0xB ∧ ¬ lagPending k r e then
    let late := e.lateFails.filter (fun b => !isMatch k b)
    let k1 := fireEdges e.lateEdges (setEng r { e with flags := flagFails k e late } k)
    let k2 := captureBeat r (beatTime e / 4000) (nextBeat k r) late k1
    recordCause (engReg r 0x30) 0 (endRun r 1 0 (setEngState r 5 k2))
  else k

/-- Meaning of ITIN_DONE (R135). -/
def execItinDone (r : Region) (s : State) : Host.Outcome State Fault Refusal := .next (onCore (opItinDone r.val) s)

/-- STOP_BEAT: the stop beat has come; it and later beats are not issued, and nothing is marked invalid (R142). -/
def opStopBeat (r : Nat) (k : Core) : Core :=
  if inRun k r ∧ stopDue (engOf k r) then recordCause (engReg r 0x30) 8 (endRun r 2 0 (setEngState r 6 k)) else k

/-- Meaning of STOP_BEAT (R142). -/
def execStopBeat (r : Region) (s : State) : Host.Outcome State Fault Refusal := .next (onCore (opStopBeat r.val) s)

/-- The cause of ITIN_EVENT of a fault code; FENCED has none (R151). -/
def faultCause (code : Nat) : Option Nat :=
  match code with
  | 1 => some 1
  | 2 => some 2
  | 3 => some 3
  | 4 => some 6
  | 5 => some 9
  | 6 => some 11
  | 7 => some 10
  | _ => none

/-- The other regions that hold a pin of a region's sites learn that those sites' results are invalid from a time on
(Table ITIN-11, step 4). -/
def tellRegions (r t : Nat) (k : Core) : Core :=
  (List.range 8).foldl (fun acc q =>
    if q = r ∨ ¬ inRun acc q then acc
    else
      let l := (bitList (regionSites k r) 128).filter (fun s => (regionSites acc q).testBit s)
      setEng q { engOf acc q with invalidSites := (engOf acc q).invalidSites ++ l.map (fun s => (s, t)) } acc) k

/-- A fault stop (Table ITIN-11): FAULTED with its code and FAULT_BEAT, the results of the region's sites invalid from that beat
on, here and in the other regions that hold their pins; a holder relinquishes (R411). -/
def faultStop (r code : Nat) (k : Core) : Core :=
  if inRun k r then
    let b := nextBeat k r
    let k1 := setReg64 (engReg r 0x24) b (setRegFld (engReg r 0x10) 31 24 code (setEngState r 7 k))
    let k2 := match faultCause code with
      | some i => recordCause (engReg r 0x30) i k1
      | none => k1
    let k3 := (bitList (regionSites k r) 128).foldl (fun acc s => siteInvalid r s b acc) k2
    relinquish r (endRun r 3 code (tellRegions r (beatTime (engOf k r)) k3))
  else k

/-- A pending fault stops the run when the pin side has used up the frames before it. -/
def faultIfDry (r : Nat) (k : Core) : Core :=
  let e := engOf k r
  if inRun k r ∧ ¬ stopDue e ∧ starved e then faultStop r (if e.err = 0 then 1 else e.err) k else k

/-- Meaning of ITINERARY_STARVED (R141): the pin side needs a frame that is not in the FIFO, for want of issue slots or because
the engine stopped at a pending fault. -/
def execItineraryStarved (r : Region) (s : State) : Host.Outcome State Fault Refusal := .next (onCore (faultIfDry r.val) s)

/-- ILLEGAL_INSTRUCTION: the next instruction is illegal; it emits nothing (R124). -/
def opIllegalInstruction (r : Nat) (qdr : Memory) (_arc : Memory) (k : Core) : Core :=
  let e := engOf k r
  if engineReady k r ∧ ¬ insLegal k r e (fetchIns qdr r e e.pc) then faultIfDry r (setEng r { e with err := 2 } k) else k

/-- Meaning of ILLEGAL_INSTRUCTION (R124). -/
def execIllegalInstruction (r : Region) (s : State) : Host.Outcome State Fault Refusal :=
  .next (onCoreMem (opIllegalInstruction r.val) s)

/-- STREAM_FAULT: a code transfer (`code`) or stream transfer faults after its re-sends (R145): data beyond it never arrive. -/
def opStreamFault (r : Nat) (code : Bool) (k : Core) : Core :=
  let e := engOf k r
  if engineReady k r then faultIfDry r (setEng r { e with err := if code then 5 else 4 } k) else k

/-- Meaning of STREAM_FAULT (R145). -/
def execStreamFault (r : Region) (code : Bool) (s : State) : Host.Outcome State Fault Refusal :=
  .next (onCore (opStreamFault r.val code) s)

/-! ### Waypoints (R146, R148) -/

/-- The 256 bytes of a waypoint record (Table ITIN-13). -/
def waypointRecord (k : Core) (r : Nat) (w : WpSnap) (taken : Nat × Nat × Nat × Nat) : List Byte :=
  let e := engOf k r
  let g (i : Nat) : Word := w.gen.getD i 0
  let words : List Word :=
    [BitVec.ofNat 32 (2 ^ 16 + 2 ^ 8 * r), w.tag] ++ words64 taken.1 ++ words64 taken.2.1
    ++ [BitVec.ofNat 32 w.next, BitVec.ofNat 32 w.stack.length]
    ++ (List.range 16).map (fun i => BitVec.ofNat 32 (w.stack.reverse.getD i 0))
    ++ (List.range 8).map (fun i => g (40 + i)) ++ (List.range 18).map g
    ++ words64 w.streamPos ++ maskWords taken.2.2.1 4 ++ maskWords taken.2.2.2 4
    ++ [reg k 0x8BF0000C, e.codeCrc, configCrc w.gen]
  bytesOf (words ++ [crc32c (bytesOf words)])

/-- A snapshot staged: the engine moves to the other slot, the record waits for its checkpoint (R418) and for its place in the
mirror stream (R420). -/
def noteStaged (r : Nat) (l : List Byte) (k : Core) : Core :=
  let slot := b2n (regBit k (engReg r 0x10) 1)
  let k1 := setRegBit (engReg r 0x10) 1 (slot == 0) (setEng r { engOf k r with shadow := none } k)
  let k2 := bumpVersion (verWaypoint r slot)
    (if regBit k1 (pairReg 0x518) 31 then { k1 with pair := { k1.pair with ckpt := k1.pair.ckpt ++ [(r, slot)] } } else k1)
  if mirroring k2 then
    { k2 with pair := { k2.pair with wpWait := k2.pair.wpWait ++ [(r, 0x100 + 0x200 * r + 0x100 * slot, l)] } }
  else k2

/-- WAYPOINT_STAGE_WRITE: the shadow bank is written to the staging slot of WP_SLOT; a snapshot that could not be stored is
lost, and the slots stand (Table MEM-2). -/
def opWaypointStageWrite (r : Nat) (stored : Bool) (s : State) : State :=
  match (engOf s.core r).shadow with
  | some w => match w.taken with
    | some t =>
      if stored then
        let l := waypointRecord s.core r w t
        onCore (noteStaged r l)
          (writeQdr r (stageAddr s.core r (b2n (regBit s.core (engReg r 0x10) 1))) l s)
      else onCore (fun k => setEng r { engOf k r with shadow := none } k) s
    | none => s
  | none => s

/-- Meaning of WAYPOINT_STAGE_WRITE (R146). -/
def execWaypointStageWrite (r : Region) (stored : Bool) (s : State) : Host.Outcome State Fault Refusal :=
  .next (opWaypointStageWrite r.val stored s)

end Sys2Proof.Machine
end

