-- ==== Sys2Proof/Machine/Catalogue.lean ====
section
/-! DEFINITION. The Ledger writer, catch windows, the Catalogue and the repair allocator at work (R157 to R175), the rules of
their registers, and the meanings of that chapter's events. -/

namespace Sys2Proof.Machine

/-! ### The Ledger (R157 to R161) -/

/-- LEDGER_BASE. -/
def ledgerBase (k : Core) : Nat := reg64 k (catReg 0x40)
/-- LEDGER_LEN. -/
def ledgerLen (k : Core) : Nat := reg64 k (catReg 0x48)
/-- LEDGER_WR. -/
def ledgerWr (k : Core) : Nat := reg64 k (catReg 0x50)
/-- LEDGER_RD. -/
def ledgerRd (k : Core) : Nat := reg64 k (catReg 0x58)

/-- Has the ring room for a block, and the port a master on SY-UQ1024-A000 (R159, R330)? -/
def ringRoom (k : Core) : Bool :=
  decide (ledgerWr k + 256 ≤ ledgerRd k + ledgerLen k) && (k.order != .a000 || (k.stw.busMaster && k.stw.linkUp))

/-- The ring has become full: LEDGER_RING_FULL is recorded once for each time (R159). -/
def noteRingFull (k : Core) : Core :=
  if k.hub.ringFull then k else recordCause (catReg 0x60) 4 { k with hub := { k.hub with ringFull := true } }

/-- A full ring that has room again is no longer full. -/
def noteRingRoom (k : Core) : Core := if ringRoom k then { k with hub := { k.hub with ringFull := false } } else k

/-- The first block of a region's buffer leaves it, and a GAP that is owed takes a free entry (R160). -/
def takeBlock (r : Nat) (k : Core) : Core :=
  let f := fpOf k r
  showFill r (enterGap r (inInterval r (nsNow k) (setFp r { f with buf := f.buf.drop 8, firstAt := k.clock.uptime } k)))

/-- A block whose transfer faulted: its 8 records are dropped as R160 gives (Table MEM-2). The records that a lost GAP stands
for are owed again. -/
def dropBlock (r : Nat) (k : Core) : Core :=
  let l := (fpOf k r).buf.take 8
  l.foldl (fun acc e =>
    let f := fpOf acc r
    if e.type = 0 then acc
    else
      let acc1 := setFp r { f with
        gapN := f.gapN + (if e.type = 6 then e.mask else 1), gapBeat := if f.gapN = 0 then e.beat else f.gapBeat } acc
      if e.type = 6 then acc1 else noteDrop r e acc1)
    (setFp r { fpOf k r with buf := (fpOf k r).buf.drop 8, firstAt := k.clock.uptime } k)

/-- The Ledger's place for a block: the archive, or host memory on SY-UQ1024-A000 (R157). -/
def ledgerWrite (a : Nat) (l : List Byte) (s : State) : State :=
  match s.core.order with
  | .a000 => writeHost a l s
  | _ => writeArc a l s

/-- A block is written, and LEDGER_WR advances by 256 (R158). -/
def putBlock (r : Nat) (s : State) : State :=
  let a := ledgerBase s.core + ledgerWr s.core % ledgerLen s.core
  let l := ((fpOf s.core r).buf.take 8).flatMap (recordBytes r)
  onCore (fun k =>
    let k1 := setReg64 (catReg 0x50) (ledgerWr k + 256) (takeBlock r k)
    if ringRoom k1 then k1 else noteRingFull k1) (ledgerWrite a l s)

/-- LEDGER_BLOCK_WRITE: a block of 8 records of a region is drained, or its transfer faults (`written` false); on a full ring
the writer stops. -/
def opLedgerBlockWrite (r : Nat) (written : Bool) (s : State) : State :=
  if (fpOf s.core r).buf.length < 8 then s
  else if ¬ ringRoom s.core then onCore noteRingFull s
  else if written ∧ (s.core.order = .a000 ∨
      ¬ arcFailed s.core (ledgerBase s.core + ledgerWr s.core % ledgerLen s.core) 256) then putBlock r s
  else onCore (fun k => showFill r (enterGap r (inInterval r (nsNow k) (dropBlock r k)))) s

/-- Meaning of LEDGER_BLOCK_WRITE (R158, R159). -/
def execLedgerBlockWrite (r : Region) (written : Bool) (s : State) : Host.Outcome State Fault Refusal :=
  .next (opLedgerBlockWrite r.val written s)

/-- LEDGER_BLOCK_PAD: a block still partly filled 20 µs after its first record is completed with PAD records. -/
def opLedgerBlockPad (r : Nat) (k : Core) : Core :=
  if (fpOf k r).buf.length % 8 ≠ 0 ∧ (fpOf k r).firstAt + usTicks 20 ≤ k.clock.uptime then padBlock r k else k

/-- Meaning of LEDGER_BLOCK_PAD (R158). -/
def execLedgerBlockPad (r : Region) (s : State) : Host.Outcome State Fault Refusal :=
  .next (onCore (opLedgerBlockPad r.val) s)

/-! ### Catch windows (R162 to R164) -/

/-- CATCH_UPDATE: the oldest update of a region's queue sets its bit; one on an uncorrectable word is dropped (Table MEM-2). -/
def opCatchUpdate (r : Nat) (s : State) : State :=
  match (if regionStopped s.core r then [] else (fpOf s.core r).catchQ) with
  | [] => s
  | (n, a, b) :: t =>
    let s1 := onCore (fun k => setFp r { fpOf k r with catchQ := t } k) s
    if qdrBadIn s.core r a 1 then onCore (fun k => dropCatch r n (noteQdrUncorr r a k)) s1
    else writeQdr r a [readByte s1.qdr (qdrKey r a) ||| BitVec.ofNat 8 (2 ^ b)] s1

/-- Meaning of CATCH_UPDATE (R162, R164). -/
def execCatchUpdate (r : Region) (s : State) : Host.Outcome State Fault Refusal := .next (opCatchUpdate r.val s)

/-- The bytes of a window's bitmap, from its word 0. -/
def windowBytes (w : Word) : Nat := ceilDiv (2 ^ (fld w 20 16 + fld w 12 8 + fld w 2 0)) 8

/-- Do two byte ranges meet? -/
def rangesMeet (a n b m : Nat) : Bool := decide (a < b + m) && decide (b < a + n) && decide (0 < n) && decide (0 < m)

/-- Does a range of a region's QDR SRAM touch the code area or the two waypoint staging slots (R163, R295)? -/
def touchesCode (view : Nat → Word) (r a n : Nat) : Bool :=
  rangesMeet a n (fld (view (engReg r 8)) 25 0) (16 * fld (view (engReg r 0xC)) 25 0)
    || rangesMeet a n (fld (view (engReg r 0x44)) 25 0) 512

/-- Refusals of a catch window word (R163, R179). The place of the bitmap is checked for an enabled window, which alone has
one. -/
def windowRefuse (k : Core) (view : Nat → Word) (r n : Nat) : Option Status :=
  let w := view (fpReg r (0x400 + 0x10 * n))
  let base := fld (view (fpReg r (0x404 + 0x10 * n))) 25 0
  firstSome
    [ refuseIf (decide (24 < fld w 20 16) || decide (24 < fld w 12 8) || fld w 2 0 == 7
        || decide (29 < fld w 20 16 + fld w 12 8 + fld w 2 0) || base % 256 != 0) stParameter
    , refuseIf (bit w 31 && (decide (2 ^ 26 < base + windowBytes w) || touchesCode view r base (windowBytes w))) stParameter
    , refuseIf (engineBusy k r) stState ]

/-! ### The Catalogue (R165 to R171) -/

/-- Set of a key (R166). -/
def catSet (k : Core) (site x y : Nat) : Nat :=
  (crc32c ([BitVec.ofNat 8 site] ++ (List.range 3).map (fun i => BitVec.ofNat 8 (y / 2 ^ (8 * i)))
    ++ (List.range 3).map (fun i => BitVec.ofNat 8 (x / 2 ^ (8 * i)))
    ++ [BitVec.ofNat 8 (regFld k (catReg 0) 15 8)])).toNat % 2 ^ 17

/-- An entry's 128 bits as four words (Table FAIL-3). -/
def entryWords (e : CatEntry) : List Word :=
  maskWords (2 ^ 127 + e.site * 2 ^ 120 + e.y * 2 ^ 96 + e.x * 2 ^ 72 + e.count * 2 ^ 64 + e.io) 4

/-- The words of the entry of an index; an index without an entry reads 0. -/
def readEntry (k : Core) (i : Nat) : List Word :=
  match amGet? k.hub.entries i with
  | some e => entryWords e
  | none => match amGet? k.hub.purge i with
    | some e => entryWords e
    | none => [0, 0, 0, 0]

/-- CAT_STATUS.ENTRIES and PURGE_BUSY follow the Catalogue. -/
def showCat (k : Core) : Core := setRegFld (catReg 4) 19 0 (k.hub.entries.length + k.hub.purge.length) k

/-- The repair regions in which an entry has a fail cell. -/
def touched (k : Core) (e : CatEntry) : List Nat := (repairsOf k e.site).filter (fun d => entryCells k d e != [])

/-- Does an update fail an IO number outside every enabled region of its site (R173)? -/
def fallsOutside (k : Core) (u : CatUpd) : Bool :=
  (bitList u.io 64).any (fun io => (repairsOf k u.site).all (fun d => !(descCovers k d u.x u.y && (descIo k d).testBit io)))

/-- The changes of repair regions wait for the allocator; a full queue of 65,536 sets RESCAN for the site (R174). -/
def queueDeltas (site : Nat) (l : List Nat) (k : Core) : Core :=
  l.foldl (fun acc d =>
    if acc.hub.deltas.length < 65536 then { acc with hub := { acc.hub with deltas := acc.hub.deltas ++ [d] } }
    else setRegBit (catReg 4) 29 true { acc with hub := { acc.hub with rescan := acc.hub.rescan ||| 2 ^ site } }) k

/-- A solution found before a change of a region's cells no longer stands; an excess does (R174, R176). -/
def staleSolve (d : Nat) (k : Core) : Core :=
  let x := repairOf k d
  if x.out = .unrepairable then k else setRepair d { x with out := .none } k

/-- An entry set at an index, with everything that follows from a change of it: CAT_DELTA (R171), the OUTSIDE flag, the repair
regions it touches and the mirror (R420). -/
def putEntry (i : Nat) (e : CatEntry) (u : CatUpd) (k : Core) : Core :=
  let k1 := showCat { k with hub := { k.hub with
    entries := amSet k.hub.entries i e
    purge := amErase k.hub.purge i
    outside := if fallsOutside k u then k.hub.outside ||| 2 ^ u.site else k.hub.outside } }
  let k2 := setReg64 (catReg 0x30) (reg64 k1 (catReg 0x30) + 1) k1
  let l := touched k2 e
  queueMirror (0x100000 + 16 * i) (bytesOf (entryWords e)) (queueDeltas u.site l (l.foldl (fun acc d => staleSolve d acc) k2))

/-- The procedure catalogue_update of R167. -/
def catalogueUpdate (u : CatUpd) (k : Core) : Core :=
  if uncat k u.site then k
  else
    let ways := (List.range 4).map (fun w => catSet k u.site u.x u.y * 4 + w)
    let here (i : Nat) : Bool := (amGet? k.hub.entries i).any (fun e => e.site == u.site && e.x == u.x && e.y == u.y)
    match ways.find? here with
    | some i => match amGet? k.hub.entries i with
      | some e => changeSite u.site (putEntry i { e with io := e.io ||| u.io, count := min (e.count + 1) 255 } u) k
      | none => k
    | none =>
      if regFld k (catReg 8) 19 0 = (k.hub.entries.filter (fun e => e.2.site == u.site)).length then makeUncat u.site 2 k
      else match ways.find? (fun i => (amGet? k.hub.entries i).isNone) with
        | some i => changeSite u.site (putEntry i { site := u.site, y := u.y, x := u.x, count := 1, io := u.io } u) k
        | none => makeUncat u.site 1 k

/-- CATALOGUE_UPDATE: the oldest update of a region's queue is applied. -/
def opCatalogueUpdate (r : Nat) (k : Core) : Core :=
  match (fpOf k r).catQ with
  | [] => k
  | u :: t => catalogueUpdate u (setFp r { fpOf k r with catQ := t } k)

/-- Meaning of CATALOGUE_UPDATE (R167, R168). -/
def execCatalogueUpdate (r : Region) (s : State) : Host.Outcome State Fault Refusal :=
  .next (onCore (opCatalogueUpdate r.val) s)

/-- PURGE_DONE: the background sweep has removed every entry it was to remove; the CAT_CLEARs that waited complete. -/
def opPurgeDone (k : Core) : Core :=
  if regBit k (catReg 4) 30 then
    let k1 := k.hub.purge.foldl (fun acc e => queueMirror (0x100000 + 16 * e.1) (bytesOf [0, 0, 0, 0]) acc) k
    let k2 := setRegBit (catReg 4) 30 false (showCat { k1 with hub := { k1.hub with purge := [], purgeTickets := [] } })
    recordCause (catReg 0x60) 5 (k.hub.purgeTickets.foldl (fun acc t => completeTicket t stDone [] acc) k2)
  else k

/-- Meaning of PURGE_DONE (R168, R170). -/
def execPurgeDone (s : State) : Host.Outcome State Fault Refusal := .next (onCore opPurgeDone s)

/-- A named site is cleared (R170): its entries enter the sweep, its bits clear, and its repair regions return to CLEAN. -/
def clearSite (s : Nat) (k : Core) : Core :=
  changeSite s (fun k' =>
    let k1 := startPurge s (setRegBit (catReg (0x20 + 4 * (s / 32))) (s % 32) false
      (setRegBit (catReg (0x10 + 4 * (s / 32))) (s % 32) false k'))
    let k2 := { k1 with hub := { k1.hub with
      reasons := amErase k1.hub.reasons s
      outside := k1.hub.outside &&& (2 ^ 128 - 1 - 2 ^ s)
      invalid := k1.hub.invalid &&& (2 ^ 128 - 1 - 2 ^ s)
      rescan := k1.hub.rescan &&& (2 ^ 128 - 1 - 2 ^ s)
      deltas := k1.hub.deltas.filter (fun d => !(repairsOf k1 s).contains d) } }
    (repairsOf k2 s).foldl (fun acc d => setRepair d {} acc) k2) k

/-! ### Repair (R172 to R175) -/

/-- Must-repair is derived again for a region; an excess makes it UNREPAIRABLE at once and for good (R174). -/
def evalRepair (d : Nat) (k : Core) : Core :=
  let x := repairOf k d
  let m := mustRepair (cellsOf k d) (descSR k d) (descSC k d)
  let bad := descSR k d < m.1.length ∨ descSC k d < m.2.length
  let k1 := setRepair d (if bad then { x with excess := true } else { x with rows := m.1, cols := m.2 }) k
  if bad ∧ ¬ x.excess ∧ x.out ≠ .unrepairable then recordCause (catReg 0x60) 1 k1 else k1

/-- MUST_REPAIR_EVAL: a region with a change in the delta queue is re-evaluated. -/
def opMustRepairEval (d : Nat) (k : Core) : Core :=
  if k.hub.deltas.contains d then
    changeSite (descSite k d) (evalRepair d) { k with hub := { k.hub with deltas := k.hub.deltas.erase d } }
  else k

/-- Meaning of MUST_REPAIR_EVAL (R174). -/
def execMustRepairEval (d : Fin 4096) (s : State) : Host.Outcome State Fault Refusal :=
  .next (onCore (opMustRepairEval d.val) s)

/-- CAT_NODE_LIMIT. -/
def nodeLimit (k : Core) : Nat := (reg k (catReg 0xC)).toNat

/-- Is a region searched by a solve (R175)? -/
def searched (k : Core) (d : Nat) : Bool :=
  !(cellsOf k d).isEmpty && repairStatus k d != 3 && !uncat k (descSite k d)

/-- A region's outcome and nodes. -/
def solveOf (k : Core) (d : Nat) : SolveOut × Nat := solveCells (nodeLimit k) (descSR k d) (descSC k d) (cellsOf k d)

/-- The repair regions of a set of sites. -/
def solveRegions (k : Core) (sites : Nat) : List Nat := (bitList sites 128).flatMap (repairsOf k)

/-- The tick by which a solve that starts now ends: 20 µs plus 8 ns for every node (R175). -/
def solveBound (k : Core) (sites : Nat) : Nat :=
  k.clock.chron + usTicks 20
    + ceilDiv (8 * (((solveRegions k sites).filter (searched k)).map (fun d => (solveOf k d).2)).sum) 5

/-- A solve starts (R175). -/
def startSolve (sites : Nat) (ticket : Word) (k : Core) : Core :=
  setRegBit (catReg 4) 31 true { k with hub := { k.hub with
    solves := k.hub.solves ++ [{ sites := sites, until_ := solveBound k sites, ticket := ticket }] } }

/-- AUTO_SOLVE's condition: a run of the site has begun since its last automatic solve, every engine that holds a pin of it has
ended, and no update of it waits. -/
def autoSolveDue (k : Core) (s : Nat) : Bool :=
  regBit k (catReg 0) 1 && k.hub.due.testBit s
    && (List.range 8).all (fun r => !(regionSites k r).testBit s || decide (5 ≤ engState k r))
    && (List.range 8).all (fun r => (fpOf k r).catQ.all (fun u => u.site != s))

/-- AUTO_SOLVE: a site's runs have ended and its queues are empty. -/
def opAutoSolve (s : Nat) (k : Core) : Core :=
  if autoSolveDue k s then
    startSolve (2 ^ s) 0 { k with hub := { k.hub with due := k.hub.due &&& (2 ^ 128 - 1 - 2 ^ s) } }
  else k

/-- Meaning of AUTO_SOLVE (R175). -/
def execAutoSolve (site : Fin 128) (s : State) : Host.Outcome State Fault Refusal := .next (onCore (opAutoSolve site.val) s)

/-- A region at the end of a solve (R175): CLEAN without fail cells, searched, or left with its status. -/
def solveRegion (d : Nat) (k : Core) : Core :=
  let x := repairOf k d
  if (cellsOf k d).isEmpty then (if x.out = .unrepairable ∨ x.excess then k else setRepair d { nodes := x.nodes } k)
  else if ¬ searched k d then k
  else
    let o := solveOf k d
    let k1 := setRepair d { x with out := o.1, nodes := o.2, fresh := false } k
    match o.1 with
    | .unrepairable => recordCause (catReg 0x60) 1 k1
    | .limit => recordCause (catReg 0x60) 3 k1
    | _ => k1

/-- The regions of the sites that an overflow left behind are derived again (R174). -/
def rescanAll (k : Core) : Core :=
  (bitList k.hub.rescan 128).foldl (fun acc s => changeSite s (fun a => (repairsOf a s).foldl (fun b d => evalRepair d b) a) acc)
    (setRegBit (catReg 4) 29 false { k with hub := { k.hub with rescan := 0 } })

/-- SOLVE_DONE: the oldest solve ends with the fail cells of its end; its results stand, RESCAN clears, and its ticket
completes. -/
def opSolveDone (k : Core) : Core :=
  match k.hub.solves with
  | [] => k
  | x :: t =>
    let k1 := { rescanAll k with hub := { (rescanAll k).hub with solves := t } }
    let k2 := (bitList x.sites 128).foldl (fun acc s =>
      changeSite s (fun a => (repairsOf a s).foldl (fun b d => solveRegion d b) a) acc) k1
    let k3 := recordCause (catReg 0x60) 2 (setRegBit (catReg 4) 31 (!t.isEmpty) k2)
    if x.ticket = 0 then k3 else completeTicket x.ticket stDone [] k3

/-- Meaning of SOLVE_DONE (R175, R176). -/
def execSolveDone (s : State) : Host.Outcome State Fault Refusal := .next (onCore opSolveDone s)

/-! ### Register rules (R161, R170, R172) -/

/-- The descriptor of a view, as eight words. -/
def descView (view : Nat → Word) (d w : Nat) : Word := view (catReg (0x20000 + 32 * d + 4 * w))

/-- Do two descriptors of one site overlap (R172)? -/
def descOverlap (view : Nat → Word) (d e : Nat) : Bool :=
  let v (i w : Nat) : Word := descView view i w
  let meets (lo hi : Nat) : Bool :=
    decide (fld (v d lo) 23 0 ≤ fld (v e hi) 23 0) && decide (fld (v e lo) 23 0 ≤ fld (v d hi) 23 0)
  bit (v e 0) 31 && fld (v d 0) 30 24 == fld (v e 0) 30 24 && meets 1 2 && meets 3 4
    && ((v d 5 &&& v e 5) != 0 || (v d 6 &&& v e 6) != 0)

/-- Refusals of a descriptor, given the other regions in use or being written (R172). -/
def descRefuse (k : Core) (view : Nat → Word) (others : List Nat) (d : Nat) : Option Status :=
  let v (w : Nat) : Word := descView view d w
  firstSome
    [ refuseIf (decide (32 < fld (v 0) 21 16) || decide (32 < fld (v 0) 13 8)
        || decide (fld (v 2) 23 0 < fld (v 1) 23 0) || decide (fld (v 4) 23 0 < fld (v 3) 23 0)) stParameter
    , refuseIf (bit (v 0) 31 && others.any (fun e => e != d && descOverlap view d e)) stParameter
    , refuseIf (regBit k (catReg 4) 31 || (List.range 8).any (fun r => engineBusy k r && regBit k (fpReg r 0) 1)) stState ]

/-- The repair regions in use. -/
def inUse (k : Core) : List Nat := k.hub.repairs.map Prod.fst

/-- Refusals in the Catalogue page. -/
def catRefuse (k : Core) (view : Nat → Word) (off : Nat) (v : Word) : Option Status :=
  if off = 0 then refuseIf (fld v 15 8 != regFld k (catReg 0) 15 8 && regFld k (catReg 4) 19 0 != 0) stState
  else if off = 8 then refuseIf (fld v 19 0 == 0 || decide (524288 < fld v 19 0)) stParameter
  else if off = 0xC then refuseIf (v == 0) stParameter
  else if off = 0x58 ∨ off = 0x5C then
    let n := (view (catReg 0x58)).toNat + 2 ^ 32 * (view (catReg 0x5C)).toNat
    refuseIf (decide (n < ledgerRd k) || decide (ledgerWr k < n) || n % 32 != 0) stParameter
  else if 0x20000 ≤ off ∧ off < 0x40000 then descRefuse k view (inUse k) ((off - 0x20000) / 32)
  else none

/-- A descriptor is written by `f`: the region starts anew, PENDING or DISABLED (R172), its cells are to be evaluated, and the
descriptor goes to the mirror (R420). -/
def writeDesc (d : Nat) (f : Core → Core) (k : Core) : Core :=
  let g (a : Core) : Core :=
    let b := f a
    { b with hub := { b.hub with
      repairs := if descEn b d then amSet b.hub.repairs d { fresh := true } else amErase b.hub.repairs d
      deltas := b.hub.deltas.filter (· != d) ++ (if descEn b d then [d] else []) } }
  let k1 := changeSite (descSite k d) (changeSite (descSite (f k) d) g) k
  let k2 := if descEn k1 d then k1 else bumpVersion (verRepair d) (setReg (catReg (0x40000 + 4 * d)) 0x07000000 k1)
  queueMirror (0x10000 + 32 * d) (bytesOf ((List.range 8).map (desc k2 d))) k2

end Sys2Proof.Machine
end

