-- ==== Sys2Proof/Machine/Fabric.lean ====
section
/-! DEFINITION. The logic fabric: its cells and wires, clock edges, outputs, parking and the exchange of planes (R261 to R288),
and the meanings of its events. -/

namespace Sys2Proof.Machine

/-! ### A plane's words (Tables FAB-1 to FAB-8) -/

/-- A word of a section, by byte offset. -/
def secWord (p : Plane) (off : Nat) : Word := readWord p.bytes off

/-- The offset of a block section. -/
def blockOff (b : Nat) : Nat := 0x500 + 16640 * b

/-- A 16-bit entry of a block's output map. -/
def mapEntry (p : Plane) (b o : Nat) : Nat := fld (secWord p (blockOff b + 2 * o / 4 * 4)) (16 * (o % 2) + 15) (16 * (o % 2))

/-- The block's WAVE_TREE and TAP_TREE word. -/
def treesWord (p : Plane) (b : Nat) : Word := secWord p (blockOff b + 0x80)

/-- A word of a cell frame. -/
def frameWord (p : Plane) (b c w : Nat) : Word := secWord p (blockOff b + 0x100 + 16 * c + 4 * w)

/-- A local segment word. -/
def segWord (p : Plane) (b s : Nat) : Word := secWord p (blockOff b + 0x2100 + 4 * s)

/-- A long segment word. -/
def longWord (p : Plane) (l : Nat) : Word := secWord p (0x100 + 4 * l)

/-- The declaration of tree 1 to 3. -/
def declWord (p : Plane) (i : Nat) : Word := secWord p (0x8 + 4 * (i - 1))

/-- The neighbours of a cell: 0 own, 1 east, 2 west, 3 south, 4 north (R261). -/
def neighbour (c n : Nat) : Nat :=
  match n with
  | 0 => c
  | 1 => (c + 1) % 512
  | 2 => (c + 511) % 512
  | 3 => (c + 32) % 512
  | _ => (c + 480) % 512

/-! ### Values of wires and cells -/

/-- A point of the fabric: a LUT's output, a segment, or what drives a segment. -/
inductive FabNode where
  | lut (b c : Nat) | seg (b s : Nat) | segIn (b s : Nat) | long (l : Nat) | longIn (l : Nat)
deriving DecidableEq, Repr

/-- What a point follows without a flop or wire register between: other points, a constant, or a bit that is held. -/
inductive FabSrc where
  | node (n : FabNode) | const (v : Bool)
deriving DecidableEq, Repr

/-- Input `i` of a cell (Table FAB-1). -/
def lutInput (p : Plane) (b c i : Nat) : FabSrc :=
  let sel := fld (frameWord p b c 1) (8 * i + 4) (8 * i)
  if sel < 20 then .node (.seg b (4 * neighbour c (sel / 4) + sel % 4))
  else .const (sel == 21)

/-- The one selected candidate of a segment word; none for a select of no bit or of several (R264). -/
def oneHot (sel : Nat) : Option Nat :=
  match bitList sel 16 with
  | [j] => some j
  | _ => none

/-- Candidate `j` of a local segment (Table FAB-3). -/
def segCandidate (f : Fabric) (b s j : Nat) : FabSrc :=
  let c := s / 4
  if j = 0 then .const (f.flops.testBit (512 * b + c))
  else if j = 1 then .node (.lut b c)
  else if j < 6 then .node (.seg b (4 * neighbour c (j - 1) + s % 4))
  else if j < 8 then .node (.long (2 * (c % 128) + (j - 6)))
  else if j < 12 then .const (f.taps2.testBit (64 * b + 4 * (c % 16) + (j - 8)))
  else .const (j == 12)

/-- Candidate `j` of a long segment (Table FAB-3). -/
def longCandidate (l j : Nat) : FabSrc := if j < 8 then .node (.seg j (4 * (2 * l % 512) + 3)) else .const false

/-- The points that a point follows: the inputs of a LUT, I0 first; one point otherwise. -/
def fabSources (p : Plane) (f : Fabric) (n : FabNode) : List FabSrc :=
  match n with
  | .lut b c => (List.range 4).map (lutInput p b c)
  | .seg b s =>
    if bit (segWord p b s) 15 then [.const (f.wires.testBit (2048 * b + s))] else [.node (.segIn b s)]
  | .segIn b s => match oneHot (fld (segWord p b s) 31 16) with
    | some j => [segCandidate f b s j]
    | none => [.const false]
  | .long l => if bit (longWord p l) 15 then [.const (f.wires.testBit (16384 + l))] else [.node (.longIn l)]
  | .longIn l => match oneHot (fld (longWord p l) 31 16) with
    | some j => [longCandidate l j]
    | none => [.const false]

/-- A point's value from those it follows: a LUT's truth table, or the one value (R262). -/
def fabCombine (p : Plane) (n : FabNode) (l : List Bool) : Bool :=
  match n with
  | .lut b c => bit (frameWord p b c 0) (16 + (l.zipIdx.map (fun e => 2 ^ e.2 * b2n e.1)).sum)
  | _ => l.getD 0 false

/-- The value of a point (R262 to R265). A running configuration has no closed combinational path (R280), so the steps allowed
suffice. -/
def fabValue (p : Plane) (f : Fabric) (fuel : Nat) (n : FabNode) : Bool :=
  match fuel with
  | 0 => false
  | k + 1 => fabCombine p n ((fabSources p f n).map (fun s => match s with
    | .const v => v
    | .node m => fabValue p f k m))

/-- The points of a region: more than any path without a flop or register can have. -/
def fabFuel : Nat := 8 * (512 + 4096) + 513

/-- Is every path into a point free of a closed combinational loop? -/
def fabAcyclic (p : Plane) (fuel : Nat) (n : FabNode) : Bool :=
  match fuel with
  | 0 => false
  | k + 1 => (fabSources p {} n).all (fun s => match s with
    | .const _ => true
    | .node m => fabAcyclic p k m)

/-! ### Regions -/

/-- A region's fabric. -/
def fabOf (k : Core) (r : Nat) : Fabric := amGetD k.fabrics r {}

/-- A region's fabric replaced. -/
def setFab (r : Nat) (f : Fabric) (k : Core) : Core := { k with fabrics := amSet k.fabrics r f }

/-- FAB_STATUS of a region. -/
def fabStatus (r : Nat) : Nat := treeReg r 0x200

/-- Is a block of a region held under R286? -/
def fabHeld (k : Core) (r b : Nat) : Bool := regBit k (fabStatus r) (24 + b)

/-- The outputs of a block as a number (R271): 0 without a configuration, held or parked. -/
def fabOutputs (k : Core) (r b : Nat) : Nat :=
  match (fabOf k r).active with
  | none => 0
  | some p =>
    if fabHeld k r b ∨ blockStopped k (8 * r + b) then 0
    else listBits ((List.range 64).filter (fun o =>
      let m := mapEntry p b o
      m != 0xFFFF && fabValue p (fabOf k r) fabFuel (if m.testBit 15 then .long (m % 2048) else .seg b (m % 2048))))

/-- The inputs of a block's taps as a number (Table FAB-4). -/
def tapInputs (k : Core) (r b : Nat) : Nat :=
  let blk := 8 * r + b
  let e := engOf k r
  let busy := [3, 4].contains (regFld k (engReg r 0x10) 18 16)
  let live (m i : Nat) : Bool := wmBit k blk m i && !wmBit k blk m (6 + i)
  if k.pwr.gated then 0 else listBits ((List.range 64).filter (fun t =>
    if t < 16 then live t 0
    else if t < 32 then live (t - 16) 1
    else if t < 36 then live (16 + (t - 32) / 2) ((t - 32) % 2)
    else if t < 52 then busy && ((e.cur.map (fun (x : ItinFrame) => x.cmd)).getD 0).testBit (t - 36)
    else if t = 52 then busy
    else if t = 53 then (enabledSites k r).any (fun s => e.flags.testBit s)
    else if t < 56 then (fabOf k r).convToggle.testBit (2 * b + (t - 54))
    else regBit k (blockReg blk 0xA00) (t - 56)))

/-! ### Outputs (R271 to R277) -/

/-- The drive states of the pins of a block whose DRIVE_SRC is fabric (Table FAB-5). -/
def fabDrive (r b outs : Nat) (k : Core) : Core :=
  (List.range 16).foldl (fun acc i =>
    let c := cellOfBlock (8 * r + b) i
    if regFld acc (cellReg c 8) 5 4 = 2 then
      setDrive (carrier acc c) (driveCode (2 * b2n (outs.testBit (2 * i + 1)) + b2n (outs.testBit (2 * i)))) acc
    else acc) k

/-- A block's outputs take new values: FAB_OUT shows them, rises are kept for the events they cause, and the pins they drive
follow (R271, R272). -/
def presentBlock (r b : Nat) (k : Core) : Core :=
  let f := fabOf k r
  let outs := fabOutputs k r b
  let old := amGetD f.outs b 0
  let up := listBits ((bitList outs 64).filter (fun o => !old.testBit o))
  let k1 := setFab r { f with outs := amSet f.outs b outs, rises := amSet f.rises b (amGetD f.rises b 0 ||| up) } k
  fabDrive r b outs (setReg64 (blockReg (8 * r + b) 0xA08) outs k1)

/-- Every output of a region presents its value; FLAGS are the ORs of outputs 48 to 51 (Table FAB-5). -/
def presentRegion (r : Nat) (k : Core) : Core :=
  let k1 := (List.range 8).foldl (fun acc b => presentBlock r b acc) k
  let flags := listBits ((List.range 4).filter (fun i =>
    (List.range 8).any (fun b => (amGetD (fabOf k1 r).outs b 0).testBit (48 + i))))
  setRegFld (fabStatus r) 7 4 flags k1

/-- The cells of a block whose WAVE_SRC is fabric take the code that stands on outputs 32 to 47 (R274). -/
def fabWave (r b : Nat) (k : Core) : Core :=
  let code := amGetD (fabOf k r).outs b 0 / 2 ^ 32 % 65536
  (followers k (8 * r + b) 2).foldl (fun acc c =>
    setDac c 2 { dacOf acc c 2 with
      out := code, fine := regBit acc (cellReg c 0x28) 31, a := code, b := code, n := 0, k := 0, phase := .idle } acc) k

/-! ### Clock edges (R262, R265, R266, R269) -/

/-- A set of bits with those of `upd` that `new` decides replaced. -/
def updateBits (old : Nat) (l : List (Nat × Bool)) : Nat :=
  l.foldl (fun acc e => if e.2 then acc ||| 2 ^ e.1 else acc &&& (acc ^^^ 2 ^ e.1)) old

/-- What the flops of a block load at an edge of a tree (R262). -/
def flopLoads (p : Plane) (f : Fabric) (tree b : Nat) : List (Nat × Bool) :=
  ((List.range 512).filter (fun c =>
    let w := frameWord p b c 0
    fld w 14 13 == tree && (!bit w 12 || (match lutInput p b c 3 with
      | .const v => v
      | .node n => fabValue p f fabFuel n)))).map
    (fun c => (512 * b + c, fabValue p f fabFuel (.lut b c)))

/-- What the wire registers of a block load at an edge of a tree (R265). -/
def wireLoads (p : Plane) (f : Fabric) (tree b : Nat) : List (Nat × Bool) :=
  ((List.range 2048).filter (fun s => bit (segWord p b s) 15 && fld (segWord p b s) 14 13 == tree)).map
    (fun s => (2048 * b + s, fabValue p f fabFuel (.segIn b s)))

/-- What the registers of the long segments load at an edge of a tree (R265). -/
def longLoads (p : Plane) (f : Fabric) (tree : Nat) : List (Nat × Bool) :=
  ((List.range 256).filter (fun l => bit (longWord p l) 15 && fld (longWord p l) 14 13 == tree)).map
    (fun l => (16384 + l, fabValue p f fabFuel (.longIn l)))

/-- The blocks whose taps are open: not held (R286), nor parked (R506). -/
def openBlocks (k : Core) (r : Nat) : List Nat :=
  (List.range 8).filter (fun b => !fabHeld k r b && !blockStopped k (8 * r + b))

/-- FABRIC_CLOCK_EDGE: an edge of a fabric tap that is open loads flops, wire registers and input taps from the values before
it; waveform cells take the code that stands, and the outputs follow. -/
def opFabricClockEdge (r tree : Nat) (k : Core) : Core :=
  let f := fabOf k r
  match f.active with
  | none => k
  | some p =>
    if tree = 0 ∨ fld (declWord p tree) 31 30 = 0 ∨ regionStopped k r then k
    else
      let bs := openBlocks k r
      let tapped := bs.filter (fun b => fld (treesWord p b) 1 0 == tree)
      let taps1 := updateBits f.taps1 (tapped.flatMap (fun b => (List.range 64).map (fun t => (64 * b + t, (tapInputs k r b).testBit t))))
      let taps2 := updateBits f.taps2 (tapped.flatMap (fun b => (List.range 64).map (fun t => (64 * b + t, f.taps1.testBit (64 * b + t)))))
      let k1 := (bs.filter (fun b => fld (treesWord p b) 5 4 == tree)).foldl (fun acc b => fabWave r b acc) k
      presentRegion r (setFab r { f with
        flops := updateBits f.flops (bs.flatMap (flopLoads p f tree))
        wires := updateBits f.wires (bs.flatMap (wireLoads p f tree) ++ longLoads p f tree)
        taps1 := taps1, taps2 := taps2 } k1)

/-- Meaning of FABRIC_CLOCK_EDGE (R262, R265, R269, R272, R274). -/
def execFabricClockEdge (r : Region) (tree : Fin 4) (s : State) : Host.Outcome State Fault Refusal :=
  .next (onCore (opFabricClockEdge r.val tree.val) s)

/-- Has output `o` of a block risen, with the rise taken? -/
def takeRise (r b o : Nat) (k : Core) : Bool × Core :=
  let f := fabOf k r
  let up := amGetD f.rises b 0
  if up.testBit o then (true, setFab r { f with rises := amSet f.rises b (up ^^^ 2 ^ o) } k) else (false, k)

/-- USER: a rise of a user-event output sets its bit of FAB_USER_HIT and records cause USER, once for rises less than 20 ns apart
(R277). -/
def opUser (blk e : Nat) (k : Core) : Core :=
  let r := blk / 8
  let b := blk % 8
  let t := takeRise r b (54 + e) k
  if t.1 then
    let f := fabOf t.2 r
    let last := amGet? f.lastUser (8 * b + e)
    let k1 := setRegBit (treeReg r (0x220 + 4 * (b / 4))) (8 * (b % 4) + e) true
      (setFab r { f with lastUser := amSet f.lastUser (8 * b + e) k.clock.uptime } t.2)
    if last.any (fun x => decide (k.clock.uptime < x + 4)) then k1 else recordCause (treeReg r 0x218) 3 k1
  else k

/-- Meaning of USER (R277). -/
def execUser (b : Block) (event : Fin 8) (s : State) : Host.Outcome State Fault Refusal :=
  .next (onCore (opUser b.val event.val) s)

/-! ### Parking (R285) -/

/-- Does a pin depend on the fabric: DRIVE_SRC, PIN_SRC class or WAVE_SRC? -/
def fabDependent (k : Core) (c : Nat) : Bool :=
  regFld k (cellReg c 8) 5 4 == 2 || regFld k (cellReg c 0x70) 19 16 == 8 || regFld k (cellReg c 0) 6 4 == 2

/-- The clamps of a parked pin stand at their power-up values; those of any other follow their registers. -/
def fabClamp (c : Nat) (on : Bool) (k : Core) : Core :=
  [8, 9].foldl (fun acc i =>
    if on then setDac c i { dacOf acc c i with out := dacFactory i, a := dacFactory i, b := dacFactory i, n := 0, k := 0 } acc
    else levelWrite c i (reg acc (cellReg c (dacOff i))) acc) k

/-- A pin is parked for want of a configuration, or its park ends. -/
def fabParkPin (c : Nat) (on : Bool) (k : Core) : Core :=
  let x := cellOf k c
  if x.fabricOpen = on then k
  else
    let k1 := refreshSwitch c (setCell c { x with fabricOpen := on } (fabClamp c on k))
    if on then pinInvalid (regionOfCell c) (pinOfCell c) k1
    else if switchOpen (cellOf k1 c) then k1 else pinValid (regionOfCell c) (pinOfCell c) k1

/-- PARKING shows whether any pin of the region is parked under R285. -/
def refreshParking (r : Nat) (k : Core) : Core :=
  setRegBit (fabStatus r) 1 ((List.range 128).any (fun p => (cellOf k (cellOfPin (128 * r + p))).fabricOpen)) k

/-- A pin of a region follows the region's configuration. -/
def fabFollow (c : Nat) (k : Core) : Core :=
  fabParkPin c ((fabOf k (regionOfCell c)).active.isNone && fabDependent k c) k

/-- Every pin of a region follows its configuration. -/
def fabFollowRegion (r : Nat) (k : Core) : Core :=
  refreshParking r ((List.range 128).foldl (fun acc p => fabFollow (cellOfPin (128 * r + p)) acc) k)

/-- A write of a register by which a pin may depend on the fabric. -/
def fabWritten (c off : Nat) (k : Core) : Core :=
  if c % 17 = 16 ∨ (off ≠ 0 ∧ off ≠ 8 ∧ off ≠ 0x70) then k
  else
    let k1 := refreshParking (regionOfCell c) (fabFollow c k)
    if off = 8 ∧ regFld k1 (cellReg c 8) 5 4 = 2 then
      fabDrive (regionOfCell c) (blockOfCell c % 8) (amGetD (fabOf k1 (regionOfCell c)).outs (blockOfCell c % 8) 0) k1
    else k1

/-! ### Exchange of planes (R284, R286, R288) -/

/-- TREE_STATUS.GATED of trees 1 to 3: closed for a tree declared UNUSED, and for every tree without a configuration (R267,
R285). -/
def fabGate (r : Nat) (k : Core) : Core :=
  [1, 2, 3].foldl (fun acc i =>
    setRegBit (treeReg r (0x10 * i + 4)) 2 (match (fabOf k r).active with
      | some p => fld (declWord p i) 31 30 == 0
      | none => true) acc) k

/-- `n` words that the spec does not state, as a number (log entry 1). -/
def freeBits (n : Nat) (k : Core) : Nat × Core :=
  match n with
  | 0 => (0, k)
  | m + 1 =>
    let d := drawWord k
    let rest := freeBits m d.2
    (d.1.toNat + 2 ^ 32 * rest.1, rest.2)

/-- INIT of every flop of a plane. -/
def initFlops (p : Plane) : Nat :=
  listBits ((List.range 4096).filter (fun i => bit (frameWord p (i / 512) (i % 512) 0) 15))

/-- INIT of every wire register of a plane. -/
def initWires (p : Plane) : Nat :=
  listBits ((List.range 16384).filter (fun i => bit (segWord p (i / 2048) (i % 2048)) 12)
    ++ ((List.range 256).filter (fun l => bit (longWord p l) 12)).map (16384 + ·))

/-- The declarations and the build ID of a region's configuration in its registers. -/
def fabRegs (r : Nat) (o : Option Plane) (k : Core) : Core :=
  let decl (i : Nat) : Word := (o.map (fun p => declWord p i)).getD 0
  setRegBit (fabStatus r) 0 o.isSome (setRegFld (fabStatus r) 31 24 0
    (setReg (treeReg r 0x20C) (decl 1) (setReg (treeReg r 0x210) (decl 2) (setReg (treeReg r 0x214) (decl 3)
      (setReg64 (treeReg r 0x204) ((o.map (fun p => p.build)).getD 0) k)))))

/-- A region takes a configuration, or none: flops and wire registers at INIT, taps at values that the spec does not state until
their first edges, outputs from the values that follow, and the pins unparked or parked. -/
def fabTake (r : Nat) (o : Option Plane) (k : Core) : Core :=
  let d := freeBits 32 k
  let f := fabOf k r
  let f1 : Fabric := match o with
    | some p => { f with active := o, flops := initFlops p, wires := initWires p, taps1 := d.1 % 2 ^ 512, taps2 := d.1 / 2 ^ 512 }
    | none => { f with active := none, flops := 0, wires := 0, taps1 := 0, taps2 := 0, outs := [], rises := [] }
  presentRegion r (fabFollowRegion r (fabGate r (fabRegs r o (setFab r f1 d.2))))

/-- FAB_STATUS.SHADOW. -/
def setShadow (r st : Nat) (k : Core) : Core := setRegFld (fabStatus r) 3 2 st k

/-- The accession of a folio's loaded shadow in a region (R284). -/
def fabAccede (r : Nat) (id : Word) (k : Core) : Core :=
  let f := fabOf k r
  match f.shadow with
  | some sh => if sh.folio = id then setShadow r 0 (fabTake r sh.plane (setFab r { f with shadow := none } k)) else k
  | none => k

/-- A region's configuration and shadow are lost (R288). -/
def fabLose (r : Nat) (k : Core) : Core :=
  setShadow r 0 (fabTake r none (setFab r { fabOf k r with shadow := none } k))

/-- FAB_FAULT: a wrong word in an active plane holds the block's outputs at 0 and gates its taps until an accession loads or
unloads the region's configuration; it is logged as block code FABRIC, action NONE (R286, R515). -/
def opFabFault (blk : Nat) (k : Core) : Core :=
  let r := blk / 8
  if (fabOf k r).active.isNone ∨ fabHeld k r (blk % 8) then k
  else
    logFault 1 0 7 (pageBase (.block blk)) 0 <| setRegFld (blockReg blk 0xC00) 23 16 7
      (recordCause (treeReg r 0x218) 2 (presentRegion r (setRegBit (fabStatus r) (24 + blk % 8) true k)))

/-- Meaning of FAB_FAULT (R286). -/
def execFabFault (b : Block) (s : State) : Host.Outcome State Fault Refusal := .next (onCore (opFabFault b.val) s)

/-! ### Trees (R267, R268) -/

/-- The smallest BEAT_PERIOD of a region's 16 sets under a view. -/
def leastBeat (view : Nat → Word) (r : Nat) : Nat :=
  (List.range 16).foldl (fun acc i => min acc (fld (view (treeReg r (0x100 + 4 * i))) 27 0)) (2 ^ 28)

/-- The root source and effective period of tree `i` under a view, in units of 250 fs: source 0 TREF, 1 the 400 MHz source, 2
the beat; none for a tree that is off or cascades from one (R267). -/
def treePeriod (view : Nat → Word) (r i : Nat) : Option (Nat × Nat) :=
  let w := view (treeReg r (0x10 * i))
  let n := fld w 15 8 + 1
  match fld w 2 0 with
  | 0 => some (0, n * 20000)
  | 1 => some (1, n * 10000)
  | 2 => some (2, n * leastBeat view r)
  | 3 => match i with
    | 0 => none
    | j + 1 => (treePeriod view r j).map (fun e => (e.1, n * e.2))
  | _ => none

/-- Is a tree compatible with a declaration (R267)? -/
def treeCompatible (view : Nat → Word) (r i : Nat) (decl : Word) : Bool :=
  match treePeriod view r i with
  | none => true
  | some (src, period) =>
    match fld decl 31 30 with
    | 0 => true
    | 1 => decide (src < 2) && decide (fld decl 27 0 ≤ period)
    | _ => src == 2 && decide (fld decl 27 0 ≤ period)

/-- Are the trees of a region compatible, under a view, with the configuration in its FAB_TREE registers? -/
def treesOk (k : Core) (view : Nat → Word) (r : Nat) : Bool :=
  !regBit k (fabStatus r) 0 || [1, 2, 3].all (fun i => treeCompatible view r i (reg k (treeReg r (0x208 + 4 * i))))

/-- Are the trees of a region compatible, under a view, with a plane? -/
def planeTreesOk (view : Nat → Word) (r : Nat) (o : Option Plane) : Bool :=
  match o with
  | some p => [1, 2, 3].all (fun i => treeCompatible view r i (declWord p i))
  | none => true

end Sys2Proof.Machine
end

