-- ==== Sys2Proof/Machine/Timing.lean ====
section
/-! DEFINITION. Strobe trees and the Chronicle's role and status registers (R91 to R105), without the loss of TREF, and the
meanings of the tree events. -/

namespace Sys2Proof.Machine

/-! ### Strobe trees (R94, R95) -/

/-- The key of a tree. -/
def treeKey (r i : Nat) : Nat := 4 * r + i

/-- The accession of a changed TREE_CTRL (Table TIME-3, step 1): SWITCHING is set and FORCED clears; a switch already in
transit takes the newer setting and its output stays low (R95). -/
def treeEffect (r i : Nat) (v : Word) (k : Core) : Core :=
  let t : TreeSwitch := match amGet? k.trees (treeKey r i) with
    | some t => { t with setting := v }
    | none => { setting := v, since := k.clock.uptime, released := false }
  let k1 := { k with trees := amSet k.trees (treeKey r i) t }
  let k2 := match amGet? k.trees (treeKey r i) with
    | some _ => k1
    | none => setRegBit (treeReg r (0x10 * i + 4)) 1 false k1
  setRegBit (treeReg r (0x10 * i + 4)) 0 true k2

/-- TREE_SWITCH_RELEASE (Table TIME-3, step 2): the old output is released at its falling edge, or, forced, after 1 µs. -/
def opTreeSwitchRelease (r i : Nat) (forced : Bool) (k : Core) : Core :=
  match amGet? k.trees (treeKey r i) with
  | some t =>
    if t.released ∨ (forced ∧ k.clock.uptime < t.since + 200) then k
    else
      let k1 := { k with trees := amSet k.trees (treeKey r i) { t with released := true } }
      if forced then setRegBit (treeReg r (0x10 * i + 4)) 1 true k1 else k1
  | none => k

/-- Meaning of TREE_SWITCH_RELEASE (R94). -/
def execTreeSwitchRelease (r : Region) (i : Fin 4) (forced : Bool) (s : State) : Host.Outcome State Fault Refusal :=
  .next (onCore (opTreeSwitchRelease r.val i.val forced) s)

/-- TREE_SWITCH_CONNECT (Table TIME-3, step 3): the new output is connected and SWITCHING clears. -/
def opTreeSwitchConnect (r i : Nat) (k : Core) : Core :=
  match amGet? k.trees (treeKey r i) with
  | some t =>
    if t.released then setRegBit (treeReg r (0x10 * i + 4)) 0 false { k with trees := amErase k.trees (treeKey r i) } else k
  | none => k

/-- Meaning of TREE_SWITCH_CONNECT (R94, R95). -/
def execTreeSwitchConnect (r : Region) (i : Fin 4) (s : State) : Host.Outcome State Fault Refusal :=
  .next (onCore (opTreeSwitchConnect r.val i.val) s)

/-! ### Roles (R99 to R103, R375) -/

/-- A module that leaves the MASTER role withdraws the chain folios it coordinates that are OPEN, and votes HOST on those
PREPARED and not yet past V (R375). -/
def leaveMaster (k : Core) : Core :=
  k.car.folios.foldl (fun acc e =>
    if e.2.chain ∧ e.2.coord ∧ (e.2.state = .opened ∨ (e.2.state = .prepared ∧ k.clock.chron ≤ voteTick e.2)) then
      withdrawLocally e.1 e.2 1 acc
    else acc) k

/-- A write of CHR_CTRL: a change of role clears MASTER_CONFLICT; becoming FOLLOWER clears ALIGNED and starts the watch for
beacons (R100, R103); the root shows in GLB_STATUS (R360). -/
def chrCtrlEffect (old new : Word) (k : Core) : Core :=
  if fld old 1 0 = fld new 1 0 then k
  else
    let k1 := setRegBit 0x8FF0000C 5 false k
    let k2 :=
      if fld new 1 0 = 2 then
        setReg 0x83F00008 0 (setRegBit 0x8FF0000C 1 false
          { k1 with clock := { k1.clock with followerSince := k1.clock.chron, lastBeacon := none } })
      else setReg 0x83F00008 (BitVec.ofNat 32 (2 ^ 16 + ownNumber k1)) k1
    if fld old 1 0 = 1 then leaveMaster k2 else k2

/-- A write of CHR_STATUS: writing 0 clears ACCURACY_LOST and STEP_LARGE, writing 1 has no effect (R112). -/
def chrStatusWrite (v : Word) (k : Core) : Core :=
  setReg 0x8FF0000C (reg k 0x8FF0000C &&& (v ||| 0xFFFFFF3F#32)) k

/-! ### Beacons (R99 to R103) -/

/-- The ports enabled in CHR_CTRL.FWD. -/
def fwdPorts (k : Core) : List Nat := (List.range 4).filter (fun p => regBit k 0x8FF00008 (8 + p))

/-- BEACON_SEND: a master sends a beacon at every tick where the Chronicle mod 2,048 is 0, marked as a re-set after a
CHRONICLE_SET (R99, R105). -/
def opBeaconSend (k : Core) : Core :=
  if role k = 1 ∧ k.clock.chron % 2048 = 0 then
    (fwdPorts k).foldl (fun acc p => sendPort p (.beacon k.clock.chron 0 k.clock.reSetMark (ownNumber k)) acc)
      { k with clock := { k.clock with reSetMark := false } }
  else k

/-- Meaning of BEACON_SEND (R99). -/
def execBeaconSend (s : State) : Host.Outcome State Fault Refusal := .next (onCore opBeaconSend s)

/-- The Chronicle steps to a value; a refill that the step crosses is put off (R101, R311), and HOLDER regions relinquish on a
step backwards or forwards by more than 1 tick (R411). -/
def stepChronicle (v : Nat) (k : Core) : Core :=
  let k1 := refillAfterStep { k with clock := { k.clock with chron := v } }
  if v < k.clock.chron ∨ k.clock.chron + 1 < v then relinquishAll k1 else k1

/-- CHR_CORRECTION: a difference, signed, saturating at ±(2^31 − 1) (R112). -/
def writeCorrection (d : Int) (k : Core) : Core :=
  setReg 0x8FF00024 (BitVec.ofNat 32 (unsigned (max (-(2 ^ 31 - 1)) (min (2 ^ 31 - 1) d)) 32)) k

/-- A beacon's value at a follower (R100, Table TIME-4). -/
def takeBeacon (value : Nat) (reSet : Bool) (k : Core) : Core :=
  let d : Int := (value : Int) - k.clock.chron
  let step := stepChronicle value
  if ¬ regBit k 0x8FF0000C 1 then setRegBit 0x8FF0000C 1 true (step k)
  else if reSet then recordCause 0x8FF0002C 4 (setRegBit 0x8FF0000C 2 false (step k))
  else if regBit k 0x8FF0000C 2 then
    recordCause 0x8FF0002C 5 (writeCorrection d (setRegBit 0x8FF0000C 2 false (step k)))
  else if d = 0 then k
  else if d = 1 ∨ d = -1 then recordCause 0x8FF0002C 4 (step k)
  else recordCause 0x8FF0002C 4 (setRegBit 0x8FF0000C 6 true (writeCorrection d (step k)))

/-- LINK_DELAY of a port in ticks, rounded to the nearest (R99). -/
def linkDelayTicks (k : Core) (p : Nat) : Nat := (roundDiv (regFld k (portReg p 0x10) 19 0 : Nat) 5000).toNat

/-- CHR_PHASE is measured against the upstream neighbour (R104): a value that the spec does not state, within ±2.5 ns
(log entry 1). -/
def measurePhase (k : Core) : Core :=
  let d := drawWord k
  setReg 0x8FF00010 (BitVec.ofNat 32 (unsigned ((d.1.toNat % 20001 : Nat) - 10000 : Int) 16)) d.2

/-- BEACON_RECEIVE: a follower takes a beacon from its UPSTREAM port and forwards it re-stamped with one more hop; a master
discards it and sets MASTER_CONFLICT; every other beacon is discarded (R99, R103), and so is one that comes while the Chronicle's domain sleeps. -/
def opBeaconReceive (p value hops : Nat) (reSet : Bool) (root : Nat) (k : Core) : Core :=
  if k.clock.sleeping then k
  else if role k = 1 then recordCause 0x8FF0002C 6 (setRegBit 0x8FF0000C 5 true k)
  else if role k = 2 ∧ regFld k 0x8FF00008 5 4 = p ∧ hops ≤ 63 then
    let k1 := measurePhase (takeBeacon (value + linkDelayTicks k p) reSet k)
    let k2 := setRegFld 0x83F00008 11 0 root (setRegBit 0x8FF0000C 3 false
      { k1 with clock := { k1.clock with lastBeacon := some k1.clock.chron } })
    (fwdPorts k2).foldl (fun acc q => sendPort q (.beacon k2.clock.chron (hops + 1) reSet root) acc) k2
  else k

/-- Meaning of BEACON_RECEIVE (R99, R100). -/
def execBeaconReceive (port : Port) (value hops : Nat) (reSet : Bool) (root : BitVec 12) (s : State) :
    Host.Outcome State Fault Refusal :=
  .next (onCore (opBeaconReceive (portNo port) value hops reSet root.toNat) s)

/-- BEACON_LOST: a follower has received no beacon for 8 beacon intervals (R103). -/
def opBeaconLost (k : Core) : Core :=
  let from_ := match k.clock.lastBeacon with
    | some t => t
    | none => max k.clock.followerSince (k.clock.firstTick.getD 0)
  if role k = 2 ∧ ¬ k.clock.sleeping ∧ from_ + 16384 ≤ k.clock.chron ∧ ¬ regBit k 0x8FF0000C 3 then
    recordCause 0x8FF0002C 3 (setRegBit 0x8FF0000C 3 true k)
  else k

/-- Meaning of BEACON_LOST (R103). -/
def execBeaconLost (s : State) : Host.Outcome State Fault Refusal := .next (onCore opBeaconLost s)

end Sys2Proof.Machine
end

