-- ==== Sys2Proof/Machine/RegWrite.lean ====
section
/-! DEFINITION. Writing registers (R17, R18, R336, R337, R542): the checks that every write meets, and what a write does
beyond setting the register. -/

namespace Sys2Proof.Machine

/-! ### Refusals of a value, by page (R542) -/

/-- Is a number outside a range? -/
def outside (n lo hi : Nat) : Bool := decide (n < lo) || decide (hi < n)

/-- Refusals of the itinerary registers of a cell page (Tables ITIN-1 to ITIN-3, R121): PIN_SRC and PIN_FORMAT. -/
def pinRefuse (off : Nat) (v : Word) : Option Status :=
  if off = 0x70 then
    refuseIf (decide (8 < fld v 19 16) || (fld v 19 16 == 2 && decide (15 < fld v 5 0))
      || ([3, 4, 5].contains (fld v 19 16) && decide (23 < fld v 5 0))) stParameter
  else if off = 0x74 then refuseIf (fld v 17 16 == 3 || decide (4 < fld v 11 8) || decide (7 < fld v 7 4)) stParameter
  else none

/-- Refusals in an itinerary engine page (R136, R143, R151): ranges, and changes while the engine primes or runs. `raw` holds
the reserved bits too, which DG_CTRL refuses. -/
def engRefuse (k : Core) (r off : Nat) (v raw : Word) : Option Status :=
  firstSome
    [ refuseIf ((off == 8 || off == 0x40 || off == 0x44) && v.toNat % 256 != 0) stParameter
    , refuseIf (off == 0xC && outside (fld v 25 0) 1 4194304) stParameter
    , refuseIf (off == 0x150 && outside raw.toNat 1 24) stParameter
    , refuseIf ((decide (0x100 ≤ off) || [0, 8, 0xC, 0x40, 0x48, 0x4C, 0x50].contains off) && engineBusy k r) stState ]

/-- The registers that the spare's page holds read-only while it carries a pin (R67, R202, R241). -/
def spareHeld (off : Nat) : Bool :=
  carriedOff off || [0x80, 0x84, 0x88, 0x8C, 0x90, 0x94, 0x200, 0x204, 0x208].contains off

/-- Is a word of TREE_CTRL of tree 0 TREF ÷ 8 with PHASE 0 (R185)? -/
def treeSamples (w : Word) : Bool := fld w 2 0 == 0 && fld w 15 8 == 7 && fld w 23 16 == 0

/-- The sum of the shifts of the stages in use (R186). -/
def shiftSum (n : Nat) (i c : Word) : Nat :=
  ((List.range n).map (fun j => fld i (5 * j + 4) (5 * j) + fld c (5 * j + 4) (5 * j))).sum

/-- Is a filter setting of a cell refused (R186)? -/
def filterBad (view : Nat → Word) (c : Nat) : Bool :=
  let f := view (cellReg c 0x84)
  let n := filterOrder f
  let logd := fld f 19 16
  let s := shiftSum n (view (cellReg c 0x88)) (view (cellReg c 0x8C))
  fld f 25 24 == 3 || outside logd 2 14 || decide (32 + s < n * logd + 2) || decide (n * logd < s)

/-- Would the comb demand of a block exceed its capacity (R196): the sum of 1/D over the enabled channels, against 5 passes, or 4
when one has N = 5? -/
def combBad (view : Nat → Word) (b : Nat) : Bool :=
  let l := ((List.range 17).map (fun i => view (chanReg b i 0x84))).filter (fun f => bit f 31)
  decide ((if l.any (fun f => fld f 25 24 == 2) then 4 else 5) * 2 ^ 14 < (l.map (fun f => 2 ^ (14 - fld f 19 16))).sum)

/-- Refusals of the measurement and window-monitor registers of a cell page (R180, R186, R196, R208, R260). -/
def measRefuse (view : Nat → Word) (c off : Nat) (v : Word) : Option Status :=
  refuseIf
    ((off == 0x80 && (decide (4 < fld v 2 0) || decide (4 < fld v 10 8)))
      || ((off == 0x84 || off == 0x88 || off == 0x8C) && filterBad view c)
      || (off == 0x84 && combBad view (blockOfCell c))
      || (off == 0x90 && (fld v 19 16 == 0 || fld v 15 0 == 0))
      || (off == 0x200 && (fld v 25 24 == 3 || fld v 21 20 == 3))
      || (off == 0x208 && decide (5 < fld v 2 0))) stParameter

/-- Refusals of a value in a cell page: reserved codes of R78, SAFE_MV (R48), PIN_DELAY (R112), and a mode that measures without
its sample strobe (R185). -/
def cellValueRefuse (view : Nat → Word) (c off : Nat) (v : Word) : Option Status :=
  if off = 0 then
    if 2 < fld v 6 4 then some stParameter
    else refuseIf ((fld v 1 0 == 1 || fld v 1 0 == 2) && !treeSamples (view (treeReg (regionOfCell c) 0))) stState
  else if off = 4 then refuseIf (decide (4 < fld v 2 0) || fld v 5 4 == 3) stParameter
  else if off = 8 then refuseIf (fld v 5 4 == 3) stParameter
  else if off = 0x10 then refuseIf (fld v 1 0 == 3) stParameter
  else if 0x20 ≤ off ∧ off < 0x38 then refuseIf (decide (safeMv v < -500) || decide (1500 < safeMv v)) stParameter
  else if off = 0x64 then
    refuseIf (decide (signed (fld v 16 0) 17 < -40000) || decide (40000 < signed (fld v 16 0) 17)) stParameter
  else firstSome [pinRefuse off v, measRefuse view c off v]

/-- Refusals in a cell page: of the value, and of a change of a field that the spare's page holds read-only (R67). -/
def cellRefuse (k : Core) (view : Nat → Word) (c off : Nat) (v : Word) : Option Status :=
  firstSome
    [ cellValueRefuse view c off v
    , refuseIf (c % 17 == 16 && regBit k (cellReg c 0x50) 21 && spareHeld off && v != reg k (cellReg c off)) stState ]

/-- Refusals of a waveform DAC cell (R48, R219, R238). -/
def wdacRefuse (view : Nat → Word) (b i off : Nat) (v : Word) : Option Status :=
  let shape := fld (view (wdacReg b i 0)) 2 0
  let lv := view (wdacReg b i 4)
  refuseIf
    ((off == 0 && (decide (safeMv v < -500) || decide (1500 < safeMv v) || fld v 9 8 == 3 || fld v 5 4 == 0 || decide (3 < fld v 2 0)))
      || (off < 0xC && decide (1 ≤ shape) && shape ≤ 3 && decide (fld lv 31 16 ≤ fld lv 15 0))
      || (off < 0xC && (shape == 1 || shape == 2) && fld (view (wdacReg b i 8)) 15 0 == 0)
      || (off == 0x10 && fld v 30 0 == 0)) stParameter

/-- Refusals of an amplifier or filter word (Table COMM-2, R238). -/
def routeRefuse (off : Nat) (v : Word) : Option Status :=
  if off < 0x310 then
    refuseIf (decide (0xC ≤ fld v 19 16) || decide (0xC ≤ fld v 15 12) || fld v 9 8 == 3 || decide (4 < fld v 6 4)) stParameter
  else refuseIf (decide (0xC ≤ fld v 31 28) || fld v 25 24 == 3 || decide (850 < fld v 9 0)) stParameter

/-- Refusals of the converters' schedules (R238): LEN, CLASS and INPUT; and changes of an enabled one but a clear of EN. -/
def schedRefuse (k : Core) (b off : Nat) (v : Word) : Option Status :=
  if off = 0x414 ∨ off = 0x418 then
    firstSome [refuseIf (outside (fld v 21 16) 1 32) stParameter,
      refuseIf (regBit k (blockReg b off) 31 && bit v 31) stState]
  else
    firstSome [refuseIf (decide (3 < fld v 31 29) || !inputOk (fld v 8 0)) stParameter,
      refuseIf (schedOn k b ((off - 0x500) / 0x80)) stState]

/-- Is a channel of a block enabled (R198)? -/
def anyEnabled (k : Core) (b : Nat) : Bool := (List.range 17).any (fun i => regBit k (chanReg b i 0x84) 31)

/-- Refusals of the ring registers (R198, R208). -/
def ringRefuse (k : Core) (b off : Nat) (v : Word) : Option Status :=
  let n := fld v 25 0
  firstSome
    [ refuseIf (if off = 0x200 then n % 256 != 0 else !(List.range 11).any (fun i => n == 2 ^ (i + 6))) stParameter
    , refuseIf (anyEnabled k b) stState ]

/-- Refusals in a block page. -/
def blockRefuse (k : Core) (view : Nat → Word) (b off : Nat) (v : Word) : Option Status :=
  if off = 0x200 ∨ off = 0x204 then ringRefuse k b off v
  else if 0x300 ≤ off ∧ off < 0x318 then routeRefuse off v
  else if 0x320 ≤ off ∧ off < 0x360 then wdacRefuse view b ((off - 0x320) / 0x20) ((off - 0x320) % 0x20) v
  else if off = 0x404 then refuseIf (fld v 31 16 == 0) stParameter
  else if off = 0x414 ∨ off = 0x418 ∨ (0x500 ≤ off ∧ off < 0x600) then schedRefuse k b off v
  else if off = 0x700 then refuseIf (fld v 15 0 == 0) stParameter
  else if off = 0x808 ∨ off = 0x908 then refuseIf (decide (5 < fld v 2 0)) stParameter
  else if off = 0xA04 then refuseIf (!inputOk (fld v 24 16) || !inputOk (fld v 8 0)) stParameter
  else none

/-- Is a cell of a region in PPMU or DIGITISER mode under a view (R92)? -/
def anyMeasuring (view : Nat → Word) (r : Nat) : Bool :=
  (List.range 136).any (fun i => [1, 2].contains (fld (view (cellReg (136 * r + i) 0)) 1 0))

/-- Refusals in a strobe tree page: TREE_CTRL.SRC (R112), tree 0 held (R92, R185), the beat period's range (R85), and a tree left
incompatible with the region's configuration, which a folio that loads or unloads it leaves to its vote (R268). -/
def treeRefuse (k : Core) (view : Nat → Word) (fab : Nat) (r off : Nat) (v : Word) : Option Status :=
  let fits := fab.testBit r || treesOk k view r
  if off < 0x40 ∧ off % 0x10 = 0 then
    if 4 < fld v 2 0 ∨ (off = 0 ∧ fld v 2 0 = 3) then some stParameter
    else refuseIf (off == 0 && v != reg k (treeReg r 0) && (anyMeasuring (reg k) r || anyMeasuring view r) || !fits) stState
  else if 0x100 ≤ off ∧ off < 0x140 then
    firstSome [refuseIf (outside (fld v 27 0) 500 160000000) stParameter, refuseIf (!fits) stState]
  else none

/-- Refusals of a tariff register set (R310, R316): a class that may hold no budget, and budgets that would exceed CAPACITY; the
archive's TA budget is the sum of its region shares. -/
def tariffRefuse (view : Nat → Word) (res base off : Nat) (v : Word) : Option Status :=
  if off < 0x20 then
    let cls := off / 4
    let shares := ((List.range 8).map (fun r => fld (view (0x99F000C0 + 4 * r)) 15 0)).sum
    let sum := ((List.range 8).map (fun i => if i = cls then fld v 15 0 else if res = 0 ∧ i = 0 then shares
      else fld (view (base + 4 * i)) 15 0)).sum
    refuseIf ((!tariffMay res cls && fld v 15 0 != 0) || decide (fld (view (base + 0x24)) 15 0 < sum)) stParameter
  else none

/-- Refusals of an archive region share: the sum of the archive's budgets stays within CAPACITY (R310, R316). -/
def shareRefuse (view : Nat → Word) (r : Nat) (v : Word) : Option Status :=
  let shares := ((List.range 8).map (fun i => if i = r then fld v 15 0 else fld (view (0x99F000C0 + 4 * i)) 15 0)).sum
  let rest := ((List.range 7).map (fun i => fld (view (0x99F00004 + 4 * i)) 15 0)).sum
  refuseIf (decide (fld (view 0x99F00024) 15 0 < shares + rest)) stParameter

/-- Refusals in the Caravan common page (R400). -/
def carRefuse (off : Nat) (v : Word) : Option Status :=
  if off = 4 then refuseIf (fld v 19 8 == 0 || fld v 7 0 == 0) stParameter
  else if off = 0xC then refuseIf (outside (fld v 26 0) 100 60000000) stParameter
  else if off = 0x10 then refuseIf (fld v 15 0 == 0) stParameter
  else if 0x1000 ≤ off ∧ off < 0x1800 then refuseIf (!routeWordOk v) stParameter
  else none

/-- Refusals in the power page (R459): speed code 0b11, and a rail timeout of 0. -/
def pwrRefuse (off : Nat) (v : Word) : Option Status :=
  if off = 4 then refuseIf (fld v 3 2 == 3 || fld v 1 0 == 3) stParameter
  else if off = 0x58 then refuseIf (fld v 15 0 == 0) stParameter
  else none

/-- Refusals of the pair registers on the T port page (R428, R418): a change of PAIR_CTRL or PAIR_TEN unless UNPAIRED, ROLE_REQ
0b11, a mirror or checkpoint base that is no multiple of 256, checkpoints without an archive, and an end of the witness service
while entries are in use. -/
def pairRefuse (k : Core) (off : Nat) (v : Word) : Option Status :=
  if off = 0x400 ∨ (0x480 ≤ off ∧ off < 0x500) then
    firstSome
      [ refuseIf (off == 0x400 && (List.range 8).any (fun r => fld v (2 * r + 1) (2 * r) == 3)) stParameter
      , refuseIf (pairState k != 0) stState ]
  else if off = 0x500 ∨ off = 0x510 then refuseIf (v.toNat % 256 != 0) stParameter
  else if off = 0x518 then refuseIf (bit v 31 && k.order == .a000) stNotFitted
  else if off = 0x570 then refuseIf (!bit v 31 && !k.pair.witness.isEmpty) stState
  else none

/-- The refusal of a value in a register, whatever write carries it (R542). `view` shows the registers that a combination is
judged against: the values in effect, or the folio's earlier stages, with the other words of the write. `raw` is the word as
it was sent, `v` without its reserved bits; `fab` is the mask of regions whose configuration the write's folio replaces. -/
def valueRefusal (k : Core) (view : Nat → Word) (fab a : Nat) (raw v : Word) : Option Status :=
  match pageOf a with
  | some (.engine r) => engRefuse k r (pageOff a) v raw
  | some (.fp r) => if 0x400 ≤ pageOff a then windowRefuse k view r ((pageOff a - 0x400) / 0x10) else none
  | some .cat => catRefuse k view (pageOff a) v
  | some (.cell c) => cellRefuse k view c (pageOff a) v
  | some (.tree r) => treeRefuse k view fab r (pageOff a) v
  | some (.arb r) => tariffRefuse view 1 (arbReg r 0) (pageOff a) v
  | some .arccom =>
    if 0xC0 ≤ pageOff a ∧ pageOff a < 0xE0 then shareRefuse view ((pageOff a - 0xC0) / 4) v
    else if pageOff a = 0 then none
    else tariffRefuse view 0 0x99F00000 (pageOff a) v
  | some .hub => if 0xF000 ≤ pageOff a then tariffRefuse view 3 0x81F0F000 (pageOff a - 0xF000) v else none
  | some (.port p) => if 0xF000 ≤ pageOff a then tariffRefuse view 2 (portReg p 0xF000) (pageOff a - 0xF000) v
    else if p = 2 then pairRefuse k (pageOff a) v else none
  | some (.block b) =>
    if 0x440 ≤ pageOff a ∧ pageOff a < 0x500 then tariffRefuse view 4 (blockReg b 0x440) (pageOff a - 0x440) v
    else blockRefuse k view b (pageOff a) v
  | some .cal => refuseIf (pageOff a == 8 && outside (fld v 15 0) 500 60000) stParameter
  | some .car => carRefuse (pageOff a) v
  | some .evt => refuseIf (decide (0x1000 ≤ pageOff a) && decide (fld v 21 16 < 16)) stParameter
  | some .pwr => pwrRefuse (pageOff a) v
  | some .chr => refuseIf (pageOff a == 8 && fld v 1 0 == 3) stParameter
  | _ => none

/-! ### What a write does beyond setting the register -/

/-- The archive's BUDGET_0 reads the sum of the region shares (R318). -/
def sumShares (k : Core) : Core :=
  setReg 0x99F00000 (BitVec.ofNat 32 ((List.range 8).map (fun i => regFld k (0x99F000C0 + 4 * i) 15 0)).sum) k

/-- What a write of a block register does beyond setting it. -/
def blockWritten (b off : Nat) (old new : Word) (k : Core) : Core :=
  if off = 0x414 ∨ off = 0x418 then schedWritten b ((off - 0x414) / 4) old new k
  else if 0x300 ≤ off ∧ off ≤ 0x360 then refreshCommons b k
  else if off = 0x800 ∨ off = 0x900 then wmCtrlWritten b (16 + (off - 0x800) / 0x100) k
  else k

/-- What a write of a cell register does beyond the cell itself: its channel, its fabric park, its commons and its monitor. -/
def cellWritten (c off : Nat) (old new : Word) (k : Core) : Core :=
  let k1 := fabWritten c off (measWritten c off old new k)
  if off = 4 then refreshCommons (blockOfCell c) k1
  else if off = 0x200 ∧ c % 17 < 16 then wmCtrlWritten (blockOfCell c) (c % 17) k1
  else k1

/-- Effects of a register write of RW and FS fields that has set the register from `old` to `new`. -/
def writeEffect (a : Nat) (old new : Word) (k : Core) : Core :=
  match pageOf a with
  | some (.block b) => blockWritten b (pageOff a) old new k
  | some (.tree r) =>
    if pageOff a < 0x40 ∧ pageOff a % 0x10 = 0 ∧ old ≠ new then treeEffect r (pageOff a / 0x10) new k else k
  | some .arccom => if 0xC0 ≤ pageOff a ∧ pageOff a < 0xE0 then sumShares k else k
  | some .car =>
    if pageOff a = 0 ∧ old ≠ new then retrainOthers none k
    else if 0x1000 ≤ pageOff a then routeEffect ((pageOff a - 0x1000) / 4) old new k
    else k
  | some .chr => if pageOff a = 8 then chrCtrlEffect old new k else k
  | some .cal => if pageOff a = 8 ∧ fld old 15 0 ≠ fld new 15 0 then refreshAllStale k else k
  | some .cat => if pageOff a = 0x58 ∨ pageOff a = 0x5C then noteRingRoom k else k
  | some .evt =>
    if 0x1000 ≤ pageOff a ∧ ¬ bit old 31 ∧ bit new 31 then
      let n := (pageOff a - 0x1000) / 4
      match evtReg n with
      | some e => if regBit k e 8 then raiseRoute n k else k
      | none => k
    else k
  | _ => k

/-- A word takes effect in a register, at an accession or immediately: an SQC register takes a clear (R353, R354), SC bits
trigger, reserved and RO bits are discarded (R17, R18), and the unit follows its registers. -/
def applyWord (a : Nat) (v : Word) (k : Core) : Core :=
  match rowOf a with
  | none => k
  | some r =>
    if r.event then (clearEvent a (fld v 7 0) k).2
    else if a = 0x8FF0000C then chrStatusWrite v k
    else
      let old := reg k a
      let new := (old &&& ~~~(r.rw ||| r.fs)) ||| (v &&& (r.rw ||| r.fs))
      match pageOf a with
      | some (.cell c) => cellWritten c (pageOff a) old new (writeCellReg c (pageOff a) new k)
      | some (.port p) => if pageOff a = 0 then portCtrlEffect p v (setReg a new k) else setReg a new k
      | some .cat =>
        if 0x20000 ≤ pageOff a ∧ pageOff a < 0x40000 then writeDesc ((pageOff a - 0x20000) / 32) (setReg a new) k
        else writeEffect a old new (setReg a new { k with hiLatch := amErase k.hiLatch a })
      | _ => writeEffect a old new (setReg a new { k with hiLatch := amErase k.hiLatch a })

/-- What an accession does that an immediate write does not: it arms a driver again (R54), closes the connections its registers
hold (R216), restarts a waveform DAC cell's generator (R219) and arms or disarms a capture unit (R250). -/
def accessionEffect (a : Nat) (k : Core) : Core :=
  match pageOf a with
  | some (.cell c) =>
    let b := blockOfCell c
    let k1 := rearmDriver (carrier k c) k
    if pageOff a = 4 ∧ c % 17 < 16 then
      refreshCommons b (refreshSwitch c (setCell c { cellOf k1 c with contentionOpen := false } (closeConns b [c % 17] k1)))
    else if pageOff a = 0x204 ∧ c % 17 < 16 then wmArm b (c % 17) k1
    else k1
  | some (.block b) =>
    let off := pageOff a
    let l := connsOf off
    let k1 := refreshCommons b (l.foldl (fun acc n => if n < 24 then touchElem b n acc else acc) (closeConns b l k))
    if 0x320 ≤ off ∧ off < 0x360 then wdacAccede b ((off - 0x320) / 0x20) ((off - 0x320) % 0x20) k1
    else if off = 0x804 ∨ off = 0x904 then wmArm b (16 + (off - 0x804) / 0x100) k1
    else k1
  | _ => k

/-- A word of a folio takes effect at its accession (R373). -/
def accedeWord (a : Nat) (v : Word) (k : Core) : Core := accessionEffect a (applyWord a v k)

/-- Words take effect one after another, in ascending order of the command (R336). -/
def applyWords (l : List (Nat × Word)) (k : Core) : Core := l.foldl (fun acc e => applyWord e.1 e.2 acc) k

/-! ### The checks of a write -/

/-- Does a register hold a WO, SC or SQC field (R337)? -/
def unstageable (r : RegRow) : Bool := r.event || (r.sc != 0)

/-- The open folio that a FOLIO field names, none where staging is refused with FOLIO (R366). -/
def openFolio (k : Core) (id : Word) : Option (Nat × Folio) :=
  match folioBy k id with
  | some e => if e.2.state = .opened ∧ ¬ e.2.tombstone then some e else none
  | none => none

/-- The regions whose configuration an open folio loads or unloads (R268). -/
def folioFab (k : Core) (folio : Word) : Nat := if folio = 0 then 0 else ((openFolio k folio).map (fun e => e.2.fab)).getD 0

/-- Every refusal of one word's write, in the order of Table CMD-5: the target, the value, the unit, and FS_IMMEDIATE. -/
def wordRefusals (k : Core) (view : Nat → Word) (folio : Word) (a : Nat) (v : Word) : List (Option Status) :=
  match rowOf a with
  | none => [targetRefusal k a, unitRefusal k a]
  | some r =>
    [ targetRefusal k a
    , refuseIf (folio != 0 && unstageable r) stParameter
    , if r.event then none else valueRefusal k view (folioFab k folio) a v (v &&& (r.rw ||| r.fs))
    , unitRefusal k a
    , refuseIf (folio == 0 && ((v ^^^ reg k a) &&& r.fs) != 0) stFsImmediate ]

/-- The registers as a write's own words would leave them. -/
def overlay (l : List (Nat × Word)) (view : Nat → Word) (a : Nat) : Word :=
  match l.reverse.find? (fun e => e.1 == a) with
  | some e => e.2
  | none => view a

/-- The refusals of a list of words that belong to checks 6 and 7. -/
def requestRefusal (k : Core) (view : Nat → Word) (folio : Word) (l : List (Nat × Word)) : Option Status :=
  firstSome ((l.flatMap (fun e => wordRefusals k (overlay l view) folio e.1 e.2)).map (fun o => o.filter isRequest))

/-- The refusals of a list of words that belong to check 9. -/
def stateRefusal (k : Core) (view : Nat → Word) (folio : Word) (l : List (Nat × Word)) : Option Status :=
  firstSome ((l.flatMap (fun e => wordRefusals k (overlay l view) folio e.1 e.2)).map (fun o => o.filter (fun st => !isRequest st)))

/-! ### Staging (R364, R366) -/

/-- The registers as a folio's earlier stages leave them (R542). -/
def folioView (k : Core) (f : Folio) (a : Nat) : Word := (amGet? f.words a).getD (reg k a)

/-- What a stage is judged against: the folio's view, or the values in effect for an immediate write. -/
def viewOf (k : Core) (folio : Word) : Nat → Word :=
  if folio = 0 then reg k
  else match openFolio k folio with
    | some e => folioView k e.2
    | none => reg k

/-- Is a cell of a contact check or WM_CHECK that has not restored its registers (R545)? -/
def underCheck (k : Core) (c : Nat) : Bool :=
  k.stw.tickets.any (fun e => e.2.status.isNone && checks e.2.work) || k.stw.orphans.any (fun e => checks e.2)
where
  /-- Does a check's work name the cell? -/
  checks (w : Work) : Bool :=
    match w with
    | .contactCheck _ tested _ _ _ _ _ _ => tested.contains c
    | .wmCheck _ tested _ _ _ _ => tested.contains c
    | _ => false

/-- The refusal of a stage by folio state: an unknown or closed folio (R366), a pin under a check (R545), or a full store
(R364). -/
def stageRefusal (k : Core) (folio : Word) (l : List (Nat × Word)) : Option Status :=
  match openFolio k folio with
  | none => some stFolio
  | some e =>
    if l.any (fun w => match pageOf w.1 with
        | some (.cell c) => underCheck k c
        | _ => false) then some stState
    else refuseIf (decide (262144 < stagedWords k + (l.filter (fun w => (amGet? e.2.words w.1).isNone)).length)) stResource

/-- Stage words into a folio; a write that falls within a reservation of the staging session binds the folio to it (R344). -/
def stageWords (folio : Word) (session : Nat) (l : List (Nat × Word)) (k : Core) : Core :=
  match openFolio k folio with
  | some (slot, f) =>
    let covers := (k.stw.reservations.filter (fun e => e.2.session == session && l.any (fun w => resCovers e.2 w.1))).map Prod.fst
    setFolio slot { f with
      words := l.foldl (fun acc w => amSet acc w.1 w.2) f.words
      bound := covers ++ f.bound.filter (fun x => !covers.contains x) } k
  | none => k

/-- Words staged into a command's folio, or applied at once where FOLIO is 0. -/
def putWords (folio : Word) (session : Nat) (l : List (Nat × Word)) (k : Core) : Core :=
  if folio = 0 then applyWords l k else stageWords folio session l k

end Sys2Proof.Machine
end

