-- ==== Sys2Proof/Machine/Steward.lean ====
section
/-! DEFINITION. How Steward takes a command (R321 to R349): the checks of Table CMD-5, the reply, tickets and tariffs, as one
shared operation over a description of each opcode. -/

namespace Sys2Proof.Machine

/-- What the immediate part of a command comes to: a reply with its data and the state it leaves; a refusal, which changes
nothing; a reply that comes later, by itself; or work that goes on under a ticket, started by `go` with the ticket's word, its reply data after the tick. -/
inductive CmdRes where
  | done (st : Status) (data : List Word) (s : State)
  | refuse (st : Status) (data : List Word)
  | later (s : State)
  | ticketed (w : Work) (earliest : Nat) (extra : List Word) (go : Word → State → State)

/-- An opcode: whether it may carry a folio ID (R335), is a read command (R335), or needs no session (Table CMD-5, check 3);
whether it needs the archive (R3); the pages it may target (check 6); the refusals of check 7; the addresses it writes or
names (R342, check 8); the refusals of checks 9 and 10; the tariff cost it must find (R544); and its immediate part. -/
structure OpDef where
  opcode : BitVec 16
  stage : Bool := false
  read : Bool := false
  exempt : Bool := false
  archive : Cmd → Bool := fun _ => false
  target : Page → Bool := fun _ => true
  params : Cmd → State → Option Status
  covers : Cmd → State → List Nat := fun _ _ => []
  state : Cmd → State → Option Status := fun _ _ => none
  cost : Cmd → State → Option (Nat × Nat) := fun _ _ => none
  run : Cmd → Nat → State → CmdRes

/-! ### Sources and sessions -/

/-- The session of a command's source, 0 for none (R339). -/
def sessionOf (k : Core) (c : Cmd) : Nat :=
  match c.src with
  | .host q => (queueOf k q.val).session
  | .chain m ss _ => ((chainSession k m.toNat ss.toNat).map Prod.fst).getD 0

/-- Does a command come from the chain? -/
def fromChain (c : Cmd) : Bool :=
  match c.src with
  | .host _ => false
  | .chain _ _ _ => true

/-- The tariff class of a command (Table CMD-1). -/
def cmdClass (op : BitVec 16) (c : Cmd) : Nat :=
  let range := op.toNat / 256
  if range = 0xA ∧ fromChain c then 5
  else if range = 0xB then 2
  else if range = 0xF then 7
  else 3

/-- Form a chain session for a command of the chain, or find its own (R339). A command older than its session is discarded and
counted in CHAIN_DISCARD, which answers none; a newer incarnation faults the old session and forms a new one. -/
def joinChain (c : Cmd) (k : Core) : Option Core :=
  match c.src with
  | .host _ => some k
  | .chain m ss inc =>
    let form (k' : Core) : Core :=
      match freeSession k' with
      | some n => { k' with stw := { k'.stw with
          sessions := amSet k'.stw.sessions n { owner := .chain m.toNat ss.toNat, incarnation := inc, reads := [] } } }
      | none => k'
    match chainSession k m.toNat ss.toNat with
    | some (n, x) =>
      if x.incarnation = inc then some k
      else if olderInc inc x.incarnation then none
      else some (form (faultSession n k))
    | none => some (form k)

/-! ### When a command may start (R322, R326, R312, R544) -/

/-- The notices owed to a queue's session (R326). -/
def noticesOwed (k : Core) (session : Nat) : Nat :=
  ((ticketsOf k session).filter (fun e => e.2.notify && e.2.status.isNone)).length

/-- Has the reply ring room for a reply and the notices owed (R326)? -/
def roomFor (k : Core) (q : Nat) : Bool :=
  let x := queueOf k q
  decide (4112 + 16 * noticesOwed k x.session + 16 + (x.rqTail + rqSize x - x.rqHead) % rqSize x ≤ rqSize x)

/-- Is an opcode held by the power state: in Slumber, until step 1 of the wake (Table PWR-7B), and in Off, during start-up, and from step 1 of an entry to Slumber or Off (R441,
Table PWR-3)? The power opcodes are served until the entry's last abort point, since requests act at the abort points (R439). -/
def powerHolds (k : Core) (op : Nat) : Bool :=
  (decide (powerState k < 2) && !(k.pwr.run.any (fun t => decide (2 ≤ t.target.state)) && decide (1 ≤ powerStep k)))
    || k.pwr.startup.isSome
    || (k.pwr.run.any (fun t => decide (t.target.state < 2)) && decide (1 ≤ powerStep k) && !(op / 256 == 0xC && decide (powerStep k < 4)))

/-- Is a conversion one that a MON_CONVERT waits for? -/
def hostRun (x : Conv) : Bool :=
  match x.run with
  | some r => match r.what with
    | .host _ _ => true
    | _ => false
  | none => false

/-- Does the immediate part of a command go on: a MON_CONVERT whose conversion is under way? Steward executes one command at a
time (R321). -/
def stewardBusy (k : Core) : Bool := k.convs.any (fun e => hostRun e.2)

/-- Is the source of a command served: its queue runs and has room, and Steward is up and free? -/
def sourceReady (k : Core) (op : Nat) (c : Cmd) : Bool :=
  !k.stw.restarting && !stewardBusy k && !powerHolds k op &&
  match c.src with
  | .host q => (queueOf k q.val).state == .running && roomFor k q.val
  | .chain _ _ _ => true

/-- May Steward start a command now? Its source is served, its class has Steward time left (R312), and the resource it charges
as a whole has the cost left (R544); a cost above BUDGET does not wait, since the command is refused. -/
def startable (d : OpDef) (c : Cmd) (s : State) : Bool :=
  sourceReady s.core d.opcode.toNat c && decide (0 < remain s.core 0x81F0F000 (cmdClass d.opcode c)) &&
  match d.cost c s with
  | some (base, n) => decide ((n : Int) ≤ remain s.core base 3) || decide (budget s.core base 3 < n)
  | none => true

/-- A command that may not start yet stays at its source (R326, R544). -/
def holdCmd (op : BitVec 16) (c : Cmd) (k : Core) : Core :=
  match c.src with
  | .host q => setQueue q.val { queueOf k q.val with waiting := (queueOf k q.val).waiting ++ [(op, c)] } k
  | .chain _ _ _ => { k with stw := { k.stw with chainWaiting := k.stw.chainWaiting ++ [(sessionOf k c, op, c)] } }

/-- Steward time is charged to the command's class as it is used (R312, R322; log entry 9). -/
def chargeSteward (op : BitVec 16) (c : Cmd) (k : Core) : Core :=
  chargeClass 0x81F0F000 (cmdClass op c) (Config.stewardTime op.toNat k.freeCtr) { k with freeCtr := k.freeCtr + 1 }

/-! ### Checks (Table CMD-5) -/

/-- Check 5: who may use the opcode. In RECOVERY only five opcodes are served (R490); a halted module serves four (R510); a
chain session needs its range in SEC_CHAIN_ALLOW, and the security page is written from a host queue only (R497). -/
def permission (d : OpDef) (c : Cmd) (s : State) : Option Status :=
  let op := d.opcode.toNat
  if regBit s.core 0x8BF00000 28 ∧ ¬ [0x100, 0x101, 0x102, 0xE01, 0xE02].contains op then some stLocked
  else if regBit s.core 0x81F00100 31 ∧ ¬ [0x100, 0x101, 0xF10, 0xC03].contains op then some stUnitFaulted
  else if fromChain c ∧ (¬ regBit s.core 0x8BF00014 (op / 256) ∨
      (¬ d.read ∧ (c.target.toNat :: d.covers c s).any (fun a => pageOf a == some .sec))) then some stNotPermitted
  else none

/-- Check 6: R3 first, also for an opcode that needs the archive on SY-UQ1024-A000; then R34 and the opcode's own target. -/
def targetCheck (d : OpDef) (c : Cmd) (s : State) : Option Status :=
  if s.core.order = .a000 ∧ d.archive c then some stNotFitted
  else match targetRefusal s.core c.target.toNat with
    | some st => some st
    | none => refuseIf (!(pageOf c.target.toNat).any d.target) stTarget

/-- Check 8: a reservation of another session covers what the command writes, names in its parameters or targets (R342). -/
def reservationCheck (d : OpDef) (c : Cmd) (s : State) : Option Reservation :=
  if d.read then none else reservedBy s.core (sessionOf s.core c) (c.target.toNat :: d.covers c s)

/-- Check 10: a cost above the class's BUDGET can never be met (R544). -/
def costCheck (d : OpDef) (c : Cmd) (s : State) : Option Status :=
  match d.cost c s with
  | some (base, n) => refuseIf (decide (budget s.core base 3 < n)) stTariff
  | none => none

/-- The first check of Table CMD-5 that a command fails, and the data of its reply. -/
def refusal (d : OpDef) (c : Cmd) (s : State) : Option (Status × List Word) :=
  match firstSome
      [ refuseIf (c.flags &&& 0xFC#8 != 0) stFlags
      , refuseIf (!d.exempt && sessionOf s.core c == 0) stNoSession
      , permission d c s
      , targetCheck d c s
      , d.params c s
      , refuseIf (!d.stage && c.folio != 0) stNotStageable ] with
  | some st => some (st, [])
  | none =>
    match reservationCheck d c s with
    | some r => some (stReserved, reservedData r)
    | none => (firstSome [d.state c s, costCheck d c s]).map (fun st => (st, []))

/-! ### Replies (R333, R347) -/

/-- The reply to a command; QUIET suppresses DONE and ACCEPTED with ticket 0 (R333). -/
def answer (op : BitVec 16) (c : Cmd) (st : Status) (data : List Word) (k : Core) : Core :=
  if c.flags.getLsbD 1 ∧ (st = stDone ∨ (st = stAccepted ∧ pw data 0 = 0)) then k
  else
    let r : Reply := { tag := c.tag, status := st, opcode := op, chron := chronWord k, notice := false, data := data }
    match c.src with
    | .host q => writeReply q.val r k
    | .chain m ss _ => sendRouted (.reply m.toNat ss.toNat r) k

/-- The reply data of a staged write: ticket 0 and no tick (R347). -/
def ticketZero : List Word := [0, 0, 0]

/-- The outcome of a command's immediate part becomes state and reply; work that goes on opens a ticket, or is refused with
TICKETS when the session or the module has no slot (R347). -/
def finish (d : OpDef) (c : Cmd) (r : CmdRes) (s : State) : State :=
  match r with
  | .done st data s' => onCore (answer d.opcode c st data) s'
  | .refuse st data => onCore (answer d.opcode c st data) s
  | .later s' => s'
  | .ticketed w earliest extra go =>
    if ticketFree s.core (sessionOf s.core c) then
      let id := nextTicket s.core
      onCore (answer d.opcode c stAccepted (id :: words64 earliest ++ extra))
        (go id (onCore (openTicket c d.opcode (sessionOf s.core c) w earliest) s))
    else onCore (answer d.opcode c stTickets []) s

/-- Charge the whole cost of a command that R544 charges at its start. -/
def chargeCost (d : OpDef) (c : Cmd) (s : State) : State :=
  match d.cost c s with
  | some (base, n) => onCore (chargeClass base 3 n) s
  | none => s

/-- Steward executes a command's immediate part (R321): the checks, then the work, then the reply. -/
def serve (d : OpDef) (c : Cmd) (s : State) : State :=
  match refusal d c s with
  | some (st, data) => onCore (answer d.opcode c st data) s
  | none => finish d c (d.run c (sessionOf s.core c) (chargeCost d c s)) (chargeCost d c s)

/-- A source's place in the rotation of R322: host queue pairs 0 to 15, then the chain sessions; 80 where none could be formed. -/
def sourceIndex (k : Core) (c : Cmd) : Nat :=
  match c.src with
  | .host q => q.val
  | .chain _ _ _ => if sessionOf k c = 0 then 80 else 15 + sessionOf k c

/-- Does an earlier command of the source still wait (R322)? -/
def sourceWaits (k : Core) (c : Cmd) : Bool :=
  match c.src with
  | .host q => !(queueOf k q.val).waiting.isEmpty
  | .chain _ _ _ => k.stw.chainWaiting.any (fun e => e.1 == sessionOf k c)

/-- A command starts: Steward time is charged, and the rotation stands at its source. -/
def markStart (op : BitVec 16) (c : Cmd) (k : Core) : Core :=
  let k1 := chargeSteward op c k
  { k1 with stw := { k1.stw with source := sourceIndex k c } }

/-- A command reaches Steward: it starts when it may, and waits at its source otherwise. A command of the chain first joins its
session (R339); the commands of one source start in arrival order (R322). -/
def takeCmd (d : OpDef) (c : Cmd) (s : State) : State :=
  match joinChain c s.core with
  | none => onCore (countFld 0x81F0001C 31 0 1) s
  | some k =>
    let s1 := { s with core := k }
    if ¬ sourceWaits k c ∧ startable d c s1 then serve d c (onCore (markStart d.opcode c) s1)
    else onCore (holdCmd d.opcode c) s1

/-! ### Common parameter checks -/

/-- LENGTH unless a command carries exactly `n` parameter words. -/
def exactly (n : Nat) (c : Cmd) : Option Status := refuseIf (c.params.length != n) stLength

/-- PARAMETER when a reserved bit of a parameter word is set (R546). -/
def onlyBits (w : Word) (m : Word) : Option Status := refuseIf ((w &&& ~~~m) != 0) stParameter

/-- PARAMETER unless a number lies in a range. -/
def inRange (n lo hi : Nat) : Option Status := refuseIf (outside n lo hi) stParameter

/-- Is a page the one page a set of opcodes targets? -/
def isPage (p q : Page) : Bool := p == q

/-- The regions of a mask word. -/
def wordRegions (w : Word) : List Nat := bitList w.toNat 8

/-- PARAMETER when a mask names more than the eight regions. -/
def regionMask (w : Word) : Option Status := onlyBits w 0xFF

/-- The refusals of check 9 for the engine pages of regions named in parameters (R36, R37). -/
def regionsState (k : Core) (l : List Nat) : Option Status := firstSome (l.map (fun r => unitRefusal k (engReg r 0x10)))

/-! ### Ready ticks and result reads (R349, R350) -/

/-- The earliest-ready tick of work that moves data under a class: the end of the last period it needs, with the class's whole
BUDGET on each resource from the next refill on; costs are tariff register set and units (R349). -/
def readyTick (k : Core) (cls : Nat) (costs : List (Nat × Nat)) : Nat :=
  if costs.any (fun c => decide (0 < c.2) && budget k c.1 cls == 0) then noTick
  else 2048 * (k.clock.chron / 2048 + 1 + maxOver id (costs.map (fun c => ceilDiv c.2 (max 1 (budget k c.1 cls)))))


/-- Is a result new to the session's same read, and the session with that read remembered first (R349, R350)? -/
def readOnce (op : BitVec 16) (c : Cmd) (stamp : List Nat) (x : Session) : Bool × Session :=
  let same (e : SameRead) : Bool := e.opcode == op.toNat && e.target == c.target && e.params == c.params
  let old := x.reads.find? same
  let e : SameRead := { opcode := op.toNat, target := c.target, params := c.params, stamp := stamp }
  (old.all (fun o => o.stamp != stamp), { x with reads := (e :: x.reads.filter (fun o => !same o)).take 64 })

/-- The reply of a result read whose result is ready: DONE when it is new to the session, REPEAT otherwise. -/
def resultRead (op : BitVec 16) (c : Cmd) (session : Nat) (stamp : List Nat) (data : List Word) (s : State) : CmdRes :=
  match amGet? s.core.stw.sessions session with
  | some x =>
    let r := readOnce op c stamp x
    .done (if r.1 then stDone else stRepeat) data
      (onCore (fun k => { k with stw := { k.stw with sessions := amSet k.stw.sessions session r.2 } }) s)
  | none => .done stDone data s

/-- The reply NOT_READY with the earliest-ready tick (R349). -/
def notReady (tick : Nat) (s : State) : CmdRes := .done stNotReady (words64 tick) s

end Sys2Proof.Machine
end

