-- ==== Sys2Proof/Machine/General.lean ====
section
/-! DEFINITION. The general and event opcodes (Tables CMD-8 and CMD-17) and the host port's events. -/

namespace Sys2Proof.Machine

/-! ### NOP, MODULE_INFO and sessions -/

/-- NOP (0x0100). -/
def opNop : OpDef where
  opcode := 0x0100
  read := true
  exempt := true
  target := isPage .hub
  params := fun c _ => exactly 0 c
  run := fun _ _ s => .done stDone [] s

/-- Meaning of NOP (R335). -/
def execNop (c : Cmd) (s : State) : Host.Outcome State Fault Refusal := .next (takeCmd opNop c s)

/-- The words of MODULE_INFO: MODULE_ORDER, serial, STEWARD_STATUS, incarnation, module number and Chronicle (Table CMD-8). -/
def moduleInfoWords (k : Core) : List Word :=
  [readReg k 0x81F00004, reg k 0x8BF00004, reg k 0x8BF00008, readReg k 0x81F00010, reg k 0x8BF0000C,
    BitVec.ofNat 32 (ownNumber k)] ++ words64 k.clock.chron

/-- MODULE_INFO (0x0101). -/
def opModuleInfo : OpDef where
  opcode := 0x0101
  read := true
  exempt := true
  target := isPage .hub
  params := fun c _ => exactly 0 c
  run := fun _ _ s => .done stDone (moduleInfoWords s.core) s

/-- Meaning of MODULE_INFO (R335). -/
def execModuleInfo (c : Cmd) (s : State) : Host.Outcome State Fault Refusal := .next (takeCmd opModuleInfo c s)

/-- A new host session on a queue: the least free number, with the next value of SESSION_INC (R339, R340). -/
def openSession (q n : Nat) (k : Core) : Core :=
  let k1 := setQueue q { queueOf k q with session := n } { k with stw := { k.stw with
    sessions := amSet k.stw.sessions n { owner := .queue q, incarnation := reg k 0x81F00018, reads := [] } } }
  setReg 0x81F00018 (reg k 0x81F00018 + 1) k1

/-- The immediate part of SESSION_OPEN: a session already bound to the queue is closed first (R340). -/
def runSessionOpen (c : Cmd) (_ : Nat) (s : State) : CmdRes :=
  match c.src with
  | .chain _ _ _ => .refuse stState []
  | .host q =>
    let old := (queueOf s.core q.val).session
    let k1 := if old = 0 then s.core else closeSession old s.core
    match freeSession k1 with
    | some n => .done stDone [BitVec.ofNat 32 n, reg k1 0x81F00018] { s with core := openSession q.val n k1 }
    | none => .refuse stSessions []

/-- SESSION_OPEN (0x0102). -/
def opSessionOpen : OpDef where
  opcode := 0x0102
  exempt := true
  target := isPage .hub
  params := fun c _ => exactly 0 c
  run := runSessionOpen

/-- Meaning of SESSION_OPEN (R339, R340). -/
def execSessionOpen (c : Cmd) (s : State) : Host.Outcome State Fault Refusal := .next (takeCmd opSessionOpen c s)

/-- SESSION_CLOSE (0x0103). -/
def opSessionClose : OpDef where
  opcode := 0x0103
  target := isPage .hub
  params := fun c _ => exactly 0 c
  run := fun _ n s => .done stDone [] (onCore (closeSession n) s)

/-- Meaning of SESSION_CLOSE (R340). -/
def execSessionClose (c : Cmd) (s : State) : Host.Outcome State Fault Refusal := .next (takeCmd opSessionClose c s)

/-! ### Register access (R335 to R338) -/

/-- The addresses of `n` consecutive registers. -/
def regRange (a n : Nat) : List Nat := (List.range n).map (fun i => a + 4 * i)

/-- Read registers in ascending order, each with what its read does. -/
def readRegs (l : List Nat) (k : Core) : List Word × Core :=
  l.foldl (fun acc a => let r := readRegEff acc.2 a; (acc.1 ++ [r.1], r.2)) ([], k)

/-- REG_READ (0x0110). -/
def opRegRead : OpDef where
  opcode := 0x0110
  read := true
  params := fun c s => firstSome
    (exactly 1 c :: inRange (pn c.params 0) 1 1024 :: (regRange c.target.toNat (pn c.params 0)).map (targetRefusal s.core))
  state := fun c s => firstSome ((regRange c.target.toNat (pn c.params 0)).map (unitRefusal s.core))
  run := fun c _ s =>
    let r := readRegs (regRange c.target.toNat (pn c.params 0)) s.core
    .done stDone r.1 { s with core := r.2 }

/-- Meaning of REG_READ (R336). -/
def execRegRead (c : Cmd) (s : State) : Host.Outcome State Fault Refusal := .next (takeCmd opRegRead c s)

/-- The address and word pairs of a REG_WRITE. -/
def regPairs (c : Cmd) : List (Nat × Word) := (regRange c.target.toNat c.params.length).zip c.params

/-- The refusals of check 7 for a command that writes words. -/
def pairsRequest (c : Cmd) (s : State) (l : List (Nat × Word)) : Option Status :=
  requestRefusal s.core (viewOf s.core c.folio) c.folio l

/-- The refusals of check 9 for a command that writes words: the units' state, and the folio's for a stage. -/
def pairsState (c : Cmd) (s : State) (l : List (Nat × Word)) : Option Status :=
  firstSome [ stateRefusal s.core (viewOf s.core c.folio) c.folio l
            , if c.folio = 0 then none else stageRefusal s.core c.folio l ]

/-- The immediate part of a command that writes words: DONE with data, or ACCEPTED with ticket 0 when they are staged. -/
def runPairs (c : Cmd) (n : Nat) (l : List (Nat × Word)) (data : List Word) (s : State) : CmdRes :=
  if c.folio = 0 then .done stDone data (onCore (applyWords l) s)
  else .done stAccepted (ticketZero ++ data) (onCore (stageWords c.folio n l) s)

/-- REG_WRITE (0x0111). -/
def opRegWrite : OpDef where
  opcode := 0x0111
  stage := true
  params := fun c s => firstSome [inRange c.params.length 1 1024 |>.map (fun _ => stLength), pairsRequest c s (regPairs c)]
  covers := fun c _ => (regPairs c).map Prod.fst
  state := fun c s => pairsState c s (regPairs c)
  run := fun c n s => runPairs c n (regPairs c) [] s

/-- Meaning of REG_WRITE (R336, R337). -/
def execRegWrite (c : Cmd) (s : State) : Host.Outcome State Fault Refusal := .next (takeCmd opRegWrite c s)

/-- The word of a REG_MODIFY (R338), from the value in effect, or, staged, from the folio's own value (R366). -/
def modifyWord (c : Cmd) (s : State) : Word :=
  (viewOf s.core c.folio c.target.toNat &&& ~~~(pw c.params 0)) ||| (pw c.params 1 &&& pw c.params 0)

/-- REG_MODIFY (0x0112). -/
def opRegModify : OpDef where
  opcode := 0x0112
  stage := true
  params := fun c s => firstSome [exactly 2 c, pairsRequest c s [(c.target.toNat, modifyWord c s)]]
  covers := fun c _ => [c.target.toNat]
  state := fun c s => pairsState c s [(c.target.toNat, modifyWord c s)]
  run := fun c n s => runPairs c n [(c.target.toNat, modifyWord c s)] [readReg s.core c.target.toNat] s

/-- Meaning of REG_MODIFY (R338). -/
def execRegModify (c : Cmd) (s : State) : Host.Outcome State Fault Refusal := .next (takeCmd opRegModify c s)

/-- A clear of an event register by an immediate REG_WRITE of its one word (R337, R354). -/
def opSqcClearWrite : OpDef where
  opcode := 0x0111
  params := fun c s => firstSome [exactly 1 c, refuseIf (!(rowOf c.target.toNat).any (·.event)) stParameter,
    pairsRequest c s (regPairs c)]
  covers := fun c _ => [c.target.toNat]
  state := fun c s => pairsState c s (regPairs c)
  run := fun c _ s => .done stDone [] (onCore (fun k => (clearEvent c.target.toNat (fld (pw c.params 0) 7 0) k).2) s)

/-- Meaning of SQC_CLEAR_WRITE (R353, R354). -/
def execSqcClearWrite (c : Cmd) (s : State) : Host.Outcome State Fault Refusal := .next (takeCmd opSqcClearWrite c s)

/-! ### Reservations (R341 to R344) -/

/-- Does a RESERVE's TARGET suit its scope (Table CMD-9)? -/
def scopeTargetOk (scope : Word) (a : Nat) : Bool :=
  match fld scope 1 0, pageOf a with
  | 0, some (.cell _) => true
  | 1, some (.cell _) => true
  | 1, some (.block _) => true
  | 2, some _ => decide (a / 2 ^ 28 < 8)
  | 3, some _ => decide (8 ≤ a / 2 ^ 28)
  | _, _ => false

/-- The reservation of another session that a scope overlaps, in the lowest slot (R341). -/
def overlapping (k : Core) (n : Nat) (scope : Word) (a : Nat) : Option Reservation :=
  let r : Reservation := { id := 0, scope := scope, target := a, session := n, expiry := 0, ending := false }
  (k.stw.reservations.find? (fun e => e.2.session != n && (resCovers e.2 a || resCovers r e.2.target))).map Prod.snd

/-- The slot and reservation a session names by its ID; none for one unknown, ended, or not its own (R343, R344). -/
def ownReservation (k : Core) (n : Nat) (id : Word) : Option (Nat × Reservation) :=
  match amGet? k.stw.reservations (fld id 7 0) with
  | some r => if r.id = id ∧ r.session = n ∧ n ≠ 0 then some (fld id 7 0, r) else none
  | none => none

/-- A reservation slot set. -/
def setReservation (slot : Nat) (r : Reservation) (k : Core) : Core :=
  { k with stw := { k.stw with reservations := amSet k.stw.reservations slot r } }

/-- The immediate part of RESERVE: a new reservation in the least free slot, or a renewal (R343). -/
def runReserve (c : Cmd) (n : Nat) (s : State) : CmdRes :=
  let k := s.core
  let scope := pw c.params 0
  let expiry := k.clock.chron + 200 * pn c.params 1
  if pw c.params 2 = 0 then
    match overlapping k n scope c.target.toNat with
    | some r => .refuse stReserved (reservedData r)
    | none =>
      match amFree k.stw.reservations 128 with
      | none => .refuse stReservations []
      | some slot =>
        let id := BitVec.ofNat 32 (k.stw.reservationSerial * 2 ^ 8 + slot)
        let r : Reservation :=
          { id := id, scope := scope, target := c.target.toNat, session := n, expiry := expiry, ending := false }
        .done stDone (id :: words64 expiry)
          (onCore (fun k' => setReservation slot r
            { k' with stw := { k'.stw with reservationSerial := nextSerial k'.stw.reservationSerial (2 ^ 24) } }) s)
  else
    match ownReservation k n (pw c.params 2) with
    | some (slot, r) =>
      if r.scope = scope ∧ r.target = c.target.toNat ∧ ¬ r.ending then
        .done stDone (r.id :: words64 expiry) (onCore (setReservation slot { r with expiry := expiry }) s)
      else .refuse stReservation []
    | none => .refuse stReservation []

/-- The targets of the other sessions' reservations that a RESERVE's scope takes in (R341). -/
def scopeTargets (c : Cmd) (s : State) : List Nat :=
  let r : Reservation := { id := 0, scope := pw c.params 0, target := c.target.toNat, session := 0, expiry := 0, ending := false }
  (s.core.stw.reservations.filter (fun e => resCovers r e.2.target)).map (fun e => e.2.target)

/-- RESERVE (0x0120). -/
def opReserve : OpDef where
  opcode := 0x0120
  covers := scopeTargets
  params := fun c _ => firstSome [exactly 3 c, onlyBits (pw c.params 0) 3, inRange (pn c.params 1) 1000 60000000,
    refuseIf (!scopeTargetOk (pw c.params 0) c.target.toNat) stTarget]
  run := runReserve

/-- Meaning of RESERVE (R341, R343). -/
def execReserve (c : Cmd) (s : State) : Host.Outcome State Fault Refusal := .next (takeCmd opReserve c s)

/-- The immediate part of RELEASE (R344). -/
def runRelease (c : Cmd) (n : Nat) (s : State) : CmdRes :=
  match ownReservation s.core n (pw c.params 0) with
  | none => .refuse stReservation []
  | some (slot, r) =>
    if r.ending then .refuse stReservation []
    else if ¬ bit (pw c.params 1) 0 ∧ hasBound s.core slot then .refuse stFolioBound []
    else .done stDone [] (onCore (releaseReservation slot) s)

/-- RELEASE (0x0121). -/
def opRelease : OpDef where
  opcode := 0x0121
  target := isPage .hub
  params := fun c _ => firstSome [exactly 2 c, onlyBits (pw c.params 1) 1]
  run := runRelease

/-- Meaning of RELEASE (R344). -/
def execRelease (c : Cmd) (s : State) : Host.Outcome State Fault Refusal := .next (takeCmd opRelease c s)

/-- The six words of a reservation in RESERVATION_READ (Table CMD-8). -/
def reservationWords (r : Reservation) : List Word :=
  [r.id, r.scope, BitVec.ofNat 32 r.target, BitVec.ofNat 32 r.session] ++ words64 r.expiry

/-- RESERVATION_READ (0x0122). -/
def opReservationRead : OpDef where
  opcode := 0x0122
  read := true
  target := isPage .hub
  params := fun c _ => exactly 0 c
  run := fun _ _ s => .done stDone (s.core.stw.reservations.flatMap (fun e => reservationWords e.2)) s

/-- Meaning of RESERVATION_READ (R335). -/
def execReservationRead (c : Cmd) (s : State) : Host.Outcome State Fault Refusal := .next (takeCmd opReservationRead c s)

/-! ### Tickets (R347 to R350) -/

/-- The ticket a session names; none for one unknown, released, or of another session (R348). -/
def ownTicket (k : Core) (n : Nat) (id : Word) : Option Ticket :=
  match amGet? k.stw.tickets (fld id 9 0) with
  | some t => if t.id = id ∧ t.session = n then some t else none
  | none => none

/-- RESULT_READ (0x0130). -/
def opResultRead : OpDef where
  opcode := 0x0130
  read := true
  target := isPage .hub
  params := fun c s => firstSome [exactly 1 c, refuseIf (ownTicket s.core (sessionOf s.core c) (pw c.params 0)).isNone stTicket]
  run := fun c n s =>
    match ownTicket s.core n (pw c.params 0) with
    | some t =>
      match t.status with
      | some st => resultRead 0x0130 c n [] (st.setWidth 32 :: t.result) s
      | none => notReady t.earliest s
    | none => .refuse stTicket []

/-- Meaning of RESULT_READ (R349). -/
def execResultRead (c : Cmd) (s : State) : Host.Outcome State Fault Refusal := .next (takeCmd opResultRead c s)

/-- A ticket released (R348): work that still runs goes on, and its result is discarded. -/
def releaseTicket (t : Ticket) (k : Core) : Core :=
  { k with stw := { k.stw with
    tickets := amErase k.stw.tickets (fld t.id 9 0)
    orphans := if t.status.isNone then amSet k.stw.orphans t.id.toNat t.work else k.stw.orphans } }

/-- TICKET_RELEASE (0x0131). -/
def opTicketRelease : OpDef where
  opcode := 0x0131
  target := isPage .hub
  params := fun c s => firstSome [exactly 1 c, refuseIf (ownTicket s.core (sessionOf s.core c) (pw c.params 0)).isNone stTicket]
  run := fun c n s =>
    match ownTicket s.core n (pw c.params 0) with
    | some t => .done stDone [] (onCore (releaseTicket t) s)
    | none => .refuse stTicket []

/-- Meaning of TICKET_RELEASE (R348). -/
def execTicketRelease (c : Cmd) (s : State) : Host.Outcome State Fault Refusal := .next (takeCmd opTicketRelease c s)

/-! ### Event opcodes (R359) -/

/-- The route words of an EVT_ROUTE_SET with their addresses. -/
def routePairs (c : Cmd) : List (Nat × Word) :=
  ((List.range (c.params.length - 2)).map (fun i => evtRoute (pn c.params 0 + i))).zip (c.params.drop 2)

/-- EVT_ROUTE_SET (0x0F01). -/
def opEvtRouteSet : OpDef where
  opcode := 0x0F01
  target := isPage .evt
  params := fun c s => firstSome [refuseIf (c.params.length != 2 + pn c.params 1) stLength, inRange (pn c.params 1) 1 1022,
    refuseIf (decide (1536 < pn c.params 0 + pn c.params 1)) stParameter, pairsRequest c s (routePairs c)]
  covers := fun _ _ => [0x87F00000]
  state := fun c s => pairsState c s (routePairs c)
  run := fun c n s => runPairs c n (routePairs c) [] s

/-- Meaning of EVT_ROUTE_SET (R359). -/
def execEvtRouteSet (c : Cmd) (s : State) : Host.Outcome State Fault Refusal := .next (takeCmd opEvtRouteSet c s)

/-- EVT_PENDING_READ (0x0F02). -/
def opEvtPendingRead : OpDef where
  opcode := 0x0F02
  read := true
  target := isPage .evt
  params := fun c _ => exactly 0 c
  run := fun _ _ s =>
    .done stDone ([summaryWord s.core 0, summaryWord s.core 1] ++ (List.range 48).map (pendingWord s.core)) s

/-- Meaning of EVT_PENDING_READ (R359). -/
def execEvtPendingRead (c : Cmd) (s : State) : Host.Outcome State Fault Refusal := .next (takeCmd opEvtPendingRead c s)

/-- A source's event word as EVT_SOURCE_READ and EVT_CLEAR return it: 0 for a reserved source and for one whose register is
refused (R37, R351). -/
def sourceWord (k : Core) (n : Nat) : Word :=
  match evtReg n with
  | some a => if (unitRefusal k a).isSome then 0 else readReg k a
  | none => 0

/-- EVT_SOURCE_READ (0x0F03). -/
def opEvtSourceRead : OpDef where
  opcode := 0x0F03
  read := true
  target := isPage .evt
  params := fun c _ => firstSome [exactly 2 c, inRange (pn c.params 1) 1 1023,
    refuseIf (decide (1536 < pn c.params 0 + pn c.params 1)) stParameter]
  run := fun c _ s =>
    .done stDone ((List.range (pn c.params 1)).map (fun i => sourceWord s.core (pn c.params 0 + i))) s

/-- Meaning of EVT_SOURCE_READ (R359). -/
def execEvtSourceRead (c : Cmd) (s : State) : Host.Outcome State Fault Refusal := .next (takeCmd opEvtSourceRead c s)

/-- The pairs of source and count of an EVT_CLEAR. -/
def clearPairs (l : List Word) : List (Nat × Nat) :=
  match l with
  | n :: count :: t => (n.toNat, count.toNat) :: clearPairs t
  | _ => []

/-- One pair of an EVT_CLEAR: the source's word after the clear, with bit 31 set when it was accepted (R354). -/
def clearSource (n count : Nat) (k : Core) : Word × Core :=
  match evtReg n with
  | some a =>
    if (unitRefusal k a).isSome then (0, k)
    else
      let r := clearEvent a count k
      (putBit (readReg r.2 a) 31 r.1, r.2)
  | none => (0, k)

/-- The pairs of an EVT_CLEAR, one after another. -/
def clearAll (l : List (Nat × Nat)) (k : Core) : List Word × Core :=
  l.foldl (fun acc e => let r := clearSource e.1 e.2 acc.2; (acc.1 ++ [r.1], r.2)) ([], k)

/-- EVT_CLEAR (0x0F04). -/
def opEvtClear : OpDef where
  opcode := 0x0F04
  target := isPage .evt
  params := fun c _ => firstSome [refuseIf (c.params.length % 2 != 0 || outside (c.params.length / 2) 1 511) stLength,
    refuseIf ((clearPairs c.params).any (fun e => decide (1535 < e.1) || decide (255 < e.2))) stParameter]
  covers := fun c _ => (clearPairs c.params).filterMap (fun e => evtReg e.1)
  run := fun c _ s =>
    let r := clearAll (clearPairs c.params) s.core
    .done stDone r.1 { s with core := r.2 }

/-- Meaning of EVT_CLEAR (R353, R354, R359). -/
def execEvtClear (c : Cmd) (s : State) : Host.Outcome State Fault Refusal := .next (takeCmd opEvtClear c s)

/-! ### The host port (R324 to R330, R356) -/

/-- HCHK of a raw packet: the CRC-8 of its header bytes 0x00 to 0x0E (Table CMD-4). -/
def headerCheck (p : RawPacket) : Byte :=
  let w3 : Word := BitVec.ofNat 32 (p.plen.toNat + p.flags.toNat * 2 ^ 16)
  crc8 ((bytesOf [BitVec.ofNat 32 (p.opcode.toNat + p.tag.toNat * 2 ^ 16), p.target, p.folio, w3]).take 15)

/-- A queue enters ERROR (R327): its STATE and ERR are written, one reply with TAG and OPCODE 0xFFFF where the table gives a
status, and cause QUEUE_ERROR. -/
def queueError (q : Nat) (err : Byte) (st : Option Status) (k : Core) : Core :=
  let k1 := match st with
    | some v => writeReply q { tag := 0xFFFF, status := v, opcode := 0xFFFF, chron := chronWord k, notice := false, data := [] } k
    | none => k
  recordCause 0x81F00020 2 (setQueue q { queueOf k1 q with state := .error, err := err, waiting := [] } k1)

/-- One packet fetched from a submission ring (Table CMD-5, check 1): SQ_HEAD moves past it; a bad header or a bad length stops
the queue (R327). A command for another module leaves by Caravan and its reply is awaited (R325, R390). -/
def fetchPacket (q : Nat) (p : RawPacket) (k : Core) : Core :=
  let x := queueOf k q
  if x.state ≠ .running then k
  else if headerCheck p ≠ p.hchk then queueError q 1 (some 0x0101) k
  else if 4096 < p.plen.toNat ∨ p.plen.toNat % 4 ≠ 0 then queueError q 2 (some stLength) k
  else
    let c : Cmd := { src := .host (Fin.ofNat 16 q), tag := p.tag, flags := p.flags, target := p.target, folio := p.folio
                     params := p.params.take (p.plen.toNat / 4) }
    let x1 := { x with sqHead := (x.sqHead + padded (16 + p.plen.toNat)) % sqSize x }
    if x.qdest.toNat = 0 ∨ x.qdest.toNat = ownNumber k then
      setQueue q { x1 with waiting := x1.waiting ++ [(p.opcode, c)] } k
    else
      let k1 := setQueue q x1 k
      sendRouted (.command x.qdest.toNat x.session p.opcode c)
        { k1 with stw := { k1.stw with forwarded := k1.stw.forwarded ++
          [{ queue := q, tag := p.tag, opcode := p.opcode, since := k1.clock.uptime }] } }

/-- SQ_TAIL_WRITE: the tail is checked and the packets up to it are fetched in order (R325, R327). -/
def opSqTailWrite (q : Nat) (v : Word) (l : List RawPacket) (k : Core) : Core :=
  let x := queueOf k q
  let t := fld v 23 0
  if x.state ≠ .running then setQueue q { x with sqTail := t } k
  else if t % 16 ≠ 0 ∨ sqSize x ≤ t then queueError q 3 (some stRequest) k
  else wakeForCommand 2 (l.foldl (fun acc p => fetchPacket q p acc) (setQueue q { x with sqTail := t } k))

/-- Meaning of SQ_TAIL_WRITE (R325, R327). -/
def execSqTailWrite (q : QueueNo) (value : Word) (packets : List RawPacket) (s : State) : Host.Outcome State Fault Refusal :=
  .next (onCore (opSqTailWrite q.val value packets) s)

/-- RQ_HEAD_WRITE: the host has consumed replies, and the ring has room again (R325, R326). -/
def opRqHeadWrite (q : Nat) (v : Word) (k : Core) : Core := setQueue q { queueOf k q with rqHead := fld v 23 0 } k

/-- Meaning of RQ_HEAD_WRITE (R325). -/
def execRqHeadWrite (q : QueueNo) (value : Word) (s : State) : Host.Outcome State Fault Refusal :=
  .next (onCore (opRqHeadWrite q.val value) s)

/-- QCFG's writable bits (R356). -/
def qcfgBits : Word := 0x9F1F000F

/-- Are the ring sizes of a QCFG within 12 to 24 (R356)? -/
def qcfgOk (v : Word) : Bool := !outside (fld v 28 24) 12 24 && !outside (fld v 20 16) 12 24

/-- QCFG_WRITE: a write while EN is 1 is ignored unless it clears EN, which disables the queue; EN going to 1 empties both
rings and the queue runs (R327, R356). A size outside 12 to 24 leaves the register as it is (log entry 12). -/
def opQcfgWrite (q : Nat) (v : Word) (k : Core) : Core :=
  let x := queueOf k q
  let w := v &&& qcfgBits
  if bit x.qcfg 31 then
    if bit w 31 then k
    else setQueue q { x with qcfg := (if qcfgOk w then w else x.qcfg &&& 0x7FFFFFFF#32), state := .disabled } k
  else if ¬ qcfgOk w then k
  else if bit w 31 then
    setQueue q { x with qcfg := w, sqTail := 0, sqHead := 0, rqHead := 0, rqTail := 0, err := 0, waiting := [], replies := []
                        held := [], state := .running } k
  else setQueue q { x with qcfg := w } k

/-- Meaning of QCFG_WRITE (R327, R356). -/
def execQcfgWrite (q : QueueNo) (value : Word) (s : State) : Host.Outcome State Fault Refusal :=
  .next (onCore (opQcfgWrite q.val value) s)

/-- QUEUE_REGISTER_WRITE: bases and QDEST take a write while EN is 0; SQ_HEAD, RQ_TAIL and QSTATUS are RO. Ring bases are
multiples of 4,096 and SHADOW of 4, so their low bits read 0 (R356). -/
def opQueueRegisterWrite (q : Nat) (r : QueueReg) (v : Word) (k : Core) : Core :=
  let x := queueOf k q
  if bit x.qcfg 31 then k
  else match r with
    | .sqBaseLo => setQueue q { x with sqBaseLo := v &&& 0xFFFFF000#32 } k
    | .sqBaseHi => setQueue q { x with sqBaseHi := v } k
    | .rqBaseLo => setQueue q { x with rqBaseLo := v &&& 0xFFFFF000#32 } k
    | .rqBaseHi => setQueue q { x with rqBaseHi := v } k
    | .shadowLo => setQueue q { x with shadowLo := v &&& 0xFFFFFFFC#32 } k
    | .shadowHi => setQueue q { x with shadowHi := v } k
    | .qdest => setQueue q { x with qdest := v.extractLsb' 0 12 } k
    | .sqHead | .rqTail | .qstatus => k

/-- Meaning of QUEUE_REGISTER_WRITE (R356). -/
def execQueueRegisterWrite (q : QueueNo) (reg : QueueReg) (value : Word) (s : State) : Host.Outcome State Fault Refusal :=
  .next (onCore (opQueueRegisterWrite q.val reg value) s)

/-- HOST_DMA_FAULT: a read of the SQ, or a write of the RQ or the shadow, fails; ERR 0x04 faults the session (Table CMD-3). -/
def opHostDmaFault (q : Nat) (k : Core) : Core :=
  if (queueOf k q).state = .running then faultSession (queueOf k q).session (queueError q 4 none k) else k

/-- Meaning of HOST_DMA_FAULT (R327). -/
def execHostDmaFault (q : QueueNo) (s : State) : Host.Outcome State Fault Refusal :=
  .next (onCore (opHostDmaFault q.val) s)

/-- Every queue changed by one function. -/
def mapQueues (f : Queue → Queue) (k : Core) : Core :=
  (List.range 16).foldl (fun acc q => setQueue q (f (queueOf acc q)) acc) k

/-- D3HOT_ENTRY (R328): running queues stop; nothing is fetched, written or sent. -/
def opD3hotEntry (k : Core) : Core :=
  if k.stw.d3hot then k
  else mapQueues (fun x => if x.state = .running then { x with state := .stopped, resume := x.state } else x)
    { k with stw := { k.stw with d3hot := true } }

/-- Meaning of D3HOT_ENTRY (R328). -/
def execD3hotEntry (s : State) : Host.Outcome State Fault Refusal := .next (onCore opD3hotEntry s)

/-- A stopped queue resumes and writes the packets it held (R328, R347). -/
def resumeQueue (q : Nat) (k : Core) : Core :=
  let x := queueOf k q
  if x.state = .stopped then
    x.held.foldl (fun acc r => writeReply q r acc) (setQueue q { x with state := x.resume, held := [] } k)
  else k

/-- D0_RETURN (R328). -/
def opD0Return (k : Core) : Core :=
  (List.range 16).foldl (fun acc q => resumeQueue q acc) { k with stw := { k.stw with d3hot := false } }

/-- Meaning of D0_RETURN (R328). -/
def execD0Return (s : State) : Host.Outcome State Fault Refusal := .next (onCore opD0Return s)

/-- PCIE_LINK_DOWN (R329): every host session is faulted and the queues enter DISABLED. -/
def opPcieLinkDown (k : Core) : Core :=
  let k1 := faultHostSessions { k with stw := { k.stw with linkUp := false } }
  mapQueues (fun x => { x with state := .disabled, qcfg := x.qcfg &&& 0x7FFFFFFF#32, waiting := [] }) k1

/-- Meaning of PCIE_LINK_DOWN (R329). -/
def execPcieLinkDown (s : State) : Host.Outcome State Fault Refusal := .next (onCore opPcieLinkDown s)

/-- Is a work an ARC_DMA with a host address (R330)? -/
def isHostDma (w : Work) : Bool :=
  match w with
  | .dma dir _ _ _ _ _ => decide (2 ≤ dir)
  | _ => false

/-- Every ARC_DMA with a host address ends, its ticket discarded (R330). -/
def endHostDma (k : Core) : Core :=
  let gone := k.stw.tickets.filter (fun e => e.2.status.isNone && isHostDma e.2.work)
  { k with
    stw := { k.stw with
      tickets := k.stw.tickets.filter (fun e => !(e.2.status.isNone && isHostDma e.2.work))
      orphans := k.stw.orphans.filter (fun e => !isHostDma e.2) }
    mem := { k.mem with xfers := k.mem.xfers.filter (fun e => !gone.any (fun g => g.2.id.toNat == e.1)) } }

/-- FUNCTION_LEVEL_RESET (R330): the queues return to reset values, host sessions are faulted, host DMA ends, bus mastering is
off until the host enables it, the DOE exchange returns to its start (R495), and FLR_DONE is recorded. -/
def opFunctionLevelReset (k : Core) : Core :=
  let k1 := endHostDma (faultHostSessions k)
  recordCause 0x81F00020 3
    { k1 with
      sec := { k1.sec with spdm := 0, transcript := [] }
      stw := { k1.stw with queues := [], vecHold := [], busMaster := false, d3hot := false, forwarded := [] } }

/-- Meaning of FUNCTION_LEVEL_RESET (R330). -/
def execFunctionLevelReset (s : State) : Host.Outcome State Fault Refusal := .next (onCore opFunctionLevelReset s)

/-- PCIE_PERST: as PCIE_PERST_N falls the host port is held in reset, as for link down together with a Function Level Reset; as
it rises the link trains, no earlier than step 8 of Table PWR-9. -/
def opPciePerst (level : Bool) (k : Core) : Core :=
  let k1 := { k with stw := { k.stw with perst := level } }
  if level then
    (match k.pwr.startup with
     | some x => if 7 ≤ x.step then { k1 with stw := { k1.stw with linkUp := true } } else k1
     | none => if regBit k 0x89F00050 5 then { k1 with stw := { k1.stw with linkUp := true } } else k1)
  else opPcieLinkDown (opFunctionLevelReset k1)

/-- Meaning of PCIE_PERST (R534). -/
def execPciePerst (level : Bool) (s : State) : Host.Outcome State Fault Refusal := .next (onCore (opPciePerst level) s)

/-- BUS_MASTERING_ENABLED (R330): the host enables bus mastering again. -/
def opBusMasteringEnabled (k : Core) : Core := { k with stw := { k.stw with busMaster := true } }

/-- Meaning of BUS_MASTERING_ENABLED (R330). -/
def execBusMasteringEnabled (s : State) : Host.Outcome State Fault Refusal := .next (onCore opBusMasteringEnabled s)

/-! ### Commands and replies of other modules (R325, R390) -/

/-- CHAIN_REPLY_RECEIVE: a reply to a command that a queue sent to another module is written to the queue; one that is no
longer awaited is discarded (R390). -/
def opChainReplyReceive (q : Nat) (tag opcode : BitVec 16) (st : Status) (data : List Word) (k : Core) : Core :=
  match k.stw.forwarded.find? (fun e => e.queue == q && e.tag == tag) with
  | some e =>
    writeReply q { tag := tag, status := st, opcode := opcode, chron := chronWord k, notice := false, data := data }
      { k with stw := { k.stw with forwarded := k.stw.forwarded.erase e } }
  | none => k

/-- Meaning of CHAIN_REPLY_RECEIVE (R325, R390). -/
def execChainReplyReceive (_port : Port) (tag opcode : BitVec 16) (status : Status) (queue : QueueNo) (data : List Word)
    (s : State) : Host.Outcome State Fault Refusal :=
  .next (onCore (opChainReplyReceive queue.val tag opcode status data) s)

/-- COMMAND_TIMEOUT: no reply came within CMD_TIMEOUT, and the module answers FAULT itself (R390). -/
def opCommandTimeout (q : Nat) (tag : BitVec 16) (k : Core) : Core :=
  match k.stw.forwarded.find? (fun e => e.queue == q && e.tag == tag) with
  | some e =>
    if e.since + usTicks (regFld k 0x83F0000C 26 0) ≤ k.clock.uptime then
      writeReply q { tag := tag, status := stFault, opcode := e.opcode, chron := chronWord k, notice := false, data := [] }
        { k with stw := { k.stw with forwarded := k.stw.forwarded.erase e } }
    else k
  | none => k

/-- Meaning of COMMAND_TIMEOUT (R390). -/
def execCommandTimeout (queue : QueueNo) (tag : BitVec 16) (s : State) : Host.Outcome State Fault Refusal :=
  .next (onCore (opCommandTimeout queue.val tag) s)

end Sys2Proof.Machine
end

