-- ==== Sys2Proof/Machine/TestCmds.lean ====
section
/-! DEFINITION. The itinerary opcodes (Table ITIN-15) and the fail and Catalogue opcodes (Table FAIL-8). -/

namespace Sys2Proof.Machine

/-! ### Itineraries (R150) -/

/-- The bytes of an ITIN_LOAD's image. -/
def loadLen (c : Cmd) : Nat := 16 * pn c.params 5

/-- The words of an ITIN_LOAD are: region mask; source, 0 archive or 1 inline; archive address; CODE_BASE; instruction count;
CRC-32C; inline code. An image in the archive is read in whole blocks (R296). -/
def loadRequest (c : Cmd) (s : State) : Option Status :=
  let n := pn c.params 5
  let inline_ := pn c.params 1 == 1
  firstSome
    [ refuseIf (decide (c.params.length < 7) || (inline_ && c.params.length != 7 + 4 * n)
        || (!inline_ && c.params.length != 7)) stLength
    , regionMask (pw c.params 0), onlyBits (pw c.params 1) 1
    , inRange n 1 (if inline_ then 254 else 4194304)
    , refuseIf (pn c.params 4 % 256 != 0 || decide (2 ^ 26 < pn c.params 4 + loadLen c)) stParameter
    , refuseIf (!inline_ && (pn64 c.params 2 % 256 != 0
        || decide (arcCapacity s.core.order < pn64 c.params 2 + ceilDiv (loadLen c) 256 * 256))) stParameter
    , refuseIf (inline_ && crc32c (bytesOf (c.params.drop 7)) != pw c.params 6) stParameter ]

/-- An ITIN_LOAD's work. -/
def loadWork (c : Cmd) : Work :=
  .itinLoad (pn c.params 0) (pn c.params 4) (loadLen c) (if pn c.params 1 = 0 then some (pn64 c.params 2) else none)
    (bytesOf (c.params.drop 7)) (pw c.params 6)

/-- The resources an ITIN_LOAD uses. -/
def loadCosts (c : Cmd) : List (Nat × Nat) :=
  (wordRegions (pw c.params 0)).map (fun r => (arbReg r 0, ceilDiv (loadLen c) 8))
    ++ (if pn c.params 1 = 0 then [(0x99F00000, ceilDiv (loadLen c) 256)] else [])

/-- ITIN_LOAD (0x0401). -/
def opItinLoad : OpDef where
  opcode := 0x0401
  archive := fun c => pn c.params 1 == 0
  params := loadRequest
  covers := fun c _ => (wordRegions (pw c.params 0)).map (fun r => engReg r 0x10)
  state := fun c s => firstSome [regionsState s.core (wordRegions (pw c.params 0)),
    refuseIf ((wordRegions (pw c.params 0)).any (engineBusy s.core)) stState]
  run := fun c _ s => .ticketed (loadWork c) (readyTick s.core 3 (loadCosts c)) []
    (fun id s' => onCore (startXfer id (loadWork c)) s')

/-- Meaning of ITIN_LOAD (R150). -/
def execItinLoad (c : Cmd) (s : State) : Host.Outcome State Fault Refusal := .next (takeCmd opItinLoad c s)

/-- One word for each masked region, at an offset of a page. -/
def regionPairs (mask : Word) (page : Nat → Nat) (w : Word) : List (Nat × Word) := (wordRegions mask).map (fun r => (page r, w))

/-- ITIN_RUN_SET (0x0402). -/
def opItinRunSet : OpDef where
  opcode := 0x0402
  stage := true
  params := fun c s => firstSome [exactly 2 c, regionMask (pw c.params 0),
    pairsRequest c s (regionPairs (pw c.params 0) (fun r => engReg r 4) (pw c.params 1))]
  covers := fun c _ => (wordRegions (pw c.params 0)).map (fun r => engReg r 4)
  state := fun c s => pairsState c s (regionPairs (pw c.params 0) (fun r => engReg r 4) (pw c.params 1))
  run := fun c n s => runPairs c n (regionPairs (pw c.params 0) (fun r => engReg r 4) (pw c.params 1)) [] s

/-- Meaning of ITIN_RUN_SET (R150). -/
def execItinRunSet (c : Cmd) (s : State) : Host.Outcome State Fault Refusal := .next (takeCmd opItinRunSet c s)

/-- The running engines of a list stop at the first beat that begins more than 1 µs from now (R142); the ticket completes at
once where there is none. -/
def stopNow (l : List Nat) (m : Nat) (ticket : Word) (k : Core) : Core :=
  let live := l.filter (inRun k)
  let t := 20000 * k.clock.chron + 4000001
  if live.isEmpty then completeTicket ticket stDone (statusWords k m) k
  else live.foldl (fun acc r =>
    let e := engOf acc r
    setEng r { e with stopAt := some (min t (e.stopAt.getD t)), stopTickets := e.stopTickets ++ [ticket] } acc) k

/-- ITIN_STOP_NOW (0x0403). -/
def opItinStopNow : OpDef where
  opcode := 0x0403
  params := fun c _ => firstSome [exactly 1 c, regionMask (pw c.params 0)]
  covers := fun c _ => (wordRegions (pw c.params 0)).map (fun r => engReg r 0x10)
  state := fun c s => regionsState s.core (wordRegions (pw c.params 0))
  run := fun c _ _ => .ticketed (.itinStop (pn c.params 0)) noTick []
    (fun id s' => onCore (stopNow (wordRegions (pw c.params 0)) (pn c.params 0) id) s')

/-- Meaning of ITIN_STOP_NOW (R142, R150). -/
def execItinStopNow (c : Cmd) (s : State) : Host.Outcome State Fault Refusal := .next (takeCmd opItinStopNow c s)

/-- ITIN_STATUS_READ (0x0404). -/
def opItinStatusRead : OpDef where
  opcode := 0x0404
  read := true
  params := fun c _ => firstSome [exactly 1 c, regionMask (pw c.params 0)]
  state := fun c s => regionsState s.core (wordRegions (pw c.params 0))
  run := fun c _ s => .done stDone ((wordRegions (pw c.params 0)).flatMap (fun r =>
    [0x10, 0x14, 0x18, 0x1C, 0x20].map (fun o => readReg s.core (engReg r o)))) s

/-- Meaning of ITIN_STATUS_READ (R150). -/
def execItinStatusRead (c : Cmd) (s : State) : Host.Outcome State Fault Refusal := .next (takeCmd opItinStatusRead c s)

/-- The staging slot that a WAYPOINT_READ names. -/
def readSlot (k : Core) (r which : Nat) : Nat := if which = 0 then newestSlot k r else 1 - newestSlot k r

/-- WAYPOINT_READ (0x0405). -/
def opWaypointRead : OpDef where
  opcode := 0x0405
  read := true
  params := fun c _ => firstSome [exactly 2 c, inRange (pn c.params 0) 0 7, inRange (pn c.params 1) 0 1]
  state := fun c s => regionsState s.core [pn c.params 0]
  run := fun c n s =>
    let r := pn c.params 0
    let slot := readSlot s.core r (pn c.params 1)
    if qdrBadIn s.core r (stageAddr s.core r slot) 256 then .refuse stUncorrectable []
    else resultRead 0x0405 c n [version s.core (verWaypoint r slot)] (slotWords s.qdr s.core r slot) s

/-- Meaning of WAYPOINT_READ (R150, R349). -/
def execWaypointRead (c : Cmd) (s : State) : Host.Outcome State Fault Refusal := .next (takeCmd opWaypointRead c s)

/-- The stream words of a VSTREAM_SET. -/
def vstreamPairs (c : Cmd) : List (Nat × Word) :=
  (wordRegions (pw c.params 0)).flatMap (fun r =>
    [(engReg r 0x40, pw c.params 1), (engReg r 0x48, pw c.params 2), (engReg r 0x4C, pw c.params 3), (engReg r 0x50, pw c.params 4)])

/-- VSTREAM_SET (0x0406). -/
def opVstreamSet : OpDef where
  opcode := 0x0406
  stage := true
  params := fun c s => firstSome [exactly 5 c, regionMask (pw c.params 0), pairsRequest c s (vstreamPairs c)]
  covers := fun c _ => (vstreamPairs c).map Prod.fst
  state := fun c s => pairsState c s (vstreamPairs c)
  run := fun c n s => runPairs c n (vstreamPairs c) [] s

/-- Meaning of VSTREAM_SET (R150). -/
def execVstreamSet (c : Cmd) (s : State) : Host.Outcome State Fault Refusal := .next (takeCmd opVstreamSet c s)

/-- The generator words of an ITIN_GEN_WRITE. -/
def genPairs (c : Cmd) : List (Nat × Word) :=
  (wordRegions (pw c.params 0)).flatMap (fun r =>
    ((List.range (c.params.length - 2)).map (fun i => engReg r (0x100 + 4 * (pn c.params 1 + i)))).zip (c.params.drop 2))

/-- ITIN_GEN_WRITE (0x0407). -/
def opItinGenWrite : OpDef where
  opcode := 0x0407
  stage := true
  params := fun c s => firstSome [refuseIf (outside c.params.length 3 50) stLength, regionMask (pw c.params 0),
    refuseIf (decide (48 < pn c.params 1 + (c.params.length - 2))) stParameter, pairsRequest c s (genPairs c)]
  covers := fun c _ => (genPairs c).map Prod.fst
  state := fun c s => pairsState c s (genPairs c)
  run := fun c n s => runPairs c n (genPairs c) [] s

/-- Meaning of ITIN_GEN_WRITE (R136, R150). -/
def execItinGenWrite (c : Cmd) (s : State) : Host.Outcome State Fault Refusal := .next (takeCmd opItinGenWrite c s)

/-! ### Fail capture (R178) -/

/-- FAIL_CTRL_SET (0x0501). -/
def opFailCtrlSet : OpDef where
  opcode := 0x0501
  stage := true
  params := fun c s => firstSome [exactly 2 c, regionMask (pw c.params 0),
    pairsRequest c s (regionPairs (pw c.params 0) (fun r => fpReg r 0) (pw c.params 1))]
  covers := fun c _ => (wordRegions (pw c.params 0)).map (fun r => fpReg r 0)
  state := fun c s => pairsState c s (regionPairs (pw c.params 0) (fun r => fpReg r 0) (pw c.params 1))
  run := fun c n s => runPairs c n (regionPairs (pw c.params 0) (fun r => fpReg r 0) (pw c.params 1)) [] s

/-- Meaning of FAIL_CTRL_SET (R178). -/
def execFailCtrlSet (c : Cmd) (s : State) : Host.Outcome State Fault Refusal := .next (takeCmd opFailCtrlSet c s)

/-- The words of a CATCH_WINDOW_SET. -/
def windowPairs (c : Cmd) : List (Nat × Word) :=
  (List.range 4).map (fun w => (fpReg (pn c.params 0) (0x400 + 0x10 * pn c.params 1 + 4 * w), pw c.params (2 + w)))

/-- CATCH_WINDOW_SET (0x0502). -/
def opCatchWindowSet : OpDef where
  opcode := 0x0502
  stage := true
  params := fun c s => firstSome [exactly 6 c, inRange (pn c.params 0) 0 7, inRange (pn c.params 1) 0 15,
    pairsRequest c s (windowPairs c)]
  covers := fun c _ => (windowPairs c).map Prod.fst
  state := fun c s => pairsState c s (windowPairs c)
  run := fun c n s => runPairs c n (windowPairs c) [] s

/-- Meaning of CATCH_WINDOW_SET (R163). -/
def execCatchWindowSet (c : Cmd) (s : State) : Host.Outcome State Fault Refusal := .next (takeCmd opCatchWindowSet c s)

/-- Bytes of a region's QDR SRAM zeroed; a word wholly written is no longer uncorrectable. -/
def zeroQdr (r a n : Nat) (s : State) : State :=
  { s with
    qdr := zeroBytes s.qdr (qdrKey r a) n
    core := { s.core with mem := { s.core.mem with
      qdrBad := s.core.mem.qdrBad.filter (fun w => decide (w < qdrKey r a / 8 * 8) || decide (qdrKey r a + n ≤ w)) } } }

/-- A window's QDR byte address and the bytes of its bitmap. -/
def windowRange (k : Core) (r n : Nat) : Nat × Nat :=
  (regFld k (fpReg r (0x404 + 0x10 * n)) 25 0, windowBytes (reg k (fpReg r (0x400 + 0x10 * n))))

/-- The named windows zeroed and their CATCH_INCOMPLETE bits cleared (R164). -/
def clearWindows (r mask : Nat) (s : State) : State :=
  let s1 := (bitList mask 16).foldl (fun acc n => zeroQdr r (windowRange s.core r n).1 (windowRange s.core r n).2 acc) s
  onCore (setReg (fpReg r 4) (reg s1.core (fpReg r 4) &&& ~~~(BitVec.ofNat 32 (mask % 2 ^ 16 * 2 ^ 16)))) s1

/-- CATCH_CLEAR (0x0503). -/
def opCatchClear : OpDef where
  opcode := 0x0503
  params := fun c _ => firstSome [exactly 2 c, inRange (pn c.params 0) 0 7, onlyBits (pw c.params 1) 0xFFFF]
  covers := fun c _ => [fpReg (pn c.params 0) 4]
  state := fun c s => unitRefusal s.core (fpReg (pn c.params 0) 4)
  run := fun c _ s => .done stDone [] (clearWindows (pn c.params 0) (pn c.params 1) s)

/-- Meaning of CATCH_CLEAR (R164). -/
def execCatchClear (c : Cmd) (s : State) : Host.Outcome State Fault Refusal := .next (takeCmd opCatchClear c s)

/-- The work of a CATCH_DUMP: the bitmap in whole archive blocks (R296). -/
def dumpWork (c : Cmd) (k : Core) : Work :=
  let w := windowRange k (pn c.params 0) (pn c.params 1)
  .catchDump (pn c.params 0) w.1 (ceilDiv w.2 256 * 256) (pn64 c.params 2) false

/-- CATCH_DUMP (0x0504). -/
def opCatchDump : OpDef where
  opcode := 0x0504
  archive := fun _ => true
  params := fun c s =>
    let n := workLen (dumpWork c s.core)
    firstSome [exactly 4 c, inRange (pn c.params 0) 0 7, inRange (pn c.params 1) 0 15,
      refuseIf (pn64 c.params 2 % 256 != 0 || decide (arcCapacity s.core.order < pn64 c.params 2 + n)
        || decide (2 ^ 26 < (windowRange s.core (pn c.params 0) (pn c.params 1)).1 + n)) stParameter]
  covers := fun c _ => [fpReg (pn c.params 0) 4]
  state := fun c s => unitRefusal s.core (fpReg (pn c.params 0) 4)
  run := fun c _ s =>
    let w := dumpWork c s.core
    .ticketed w (readyTick s.core 1 [(arbReg (pn c.params 0) 0, workLen w / 8), (0x99F00000, workLen w / 256)]) []
      (fun id s' => onCore (startXfer id w) s')

/-- Meaning of CATCH_DUMP (R164). -/
def execCatchDump (c : Cmd) (s : State) : Host.Outcome State Fault Refusal := .next (takeCmd opCatchDump c s)

/-! ### The Ledger (R161) -/

/-- LEDGER_BASE and LEDGER_LEN set, and both positions 0. -/
def setLedger (base len : Nat) (k : Core) : Core :=
  setReg64 (catReg 0x58) 0 (setReg64 (catReg 0x50) 0 (setReg64 (catReg 0x48) len (setReg64 (catReg 0x40) base
    { k with hub := { k.hub with ringFull := false } })))

/-- LEDGER_SET (0x0505). -/
def opLedgerSet : OpDef where
  opcode := 0x0505
  target := isPage .cat
  params := fun c s => firstSome [exactly 4 c, refuseIf (pn64 c.params 0 % 256 != 0 || pn64 c.params 2 % 256 != 0
    || (s.core.order != .a000 && decide (arcCapacity s.core.order < pn64 c.params 0 + pn64 c.params 2))) stParameter]
  covers := fun _ _ => [catReg 0x40]
  state := fun _ s => firstSome [unitRefusal s.core (catReg 0x40),
    refuseIf ((List.range 8).any (fun r => engineBusy s.core r && regBit s.core (fpReg r 0) 0)) stState]
  run := fun c _ s => .done stDone [] (onCore (setLedger (pn64 c.params 0) (pn64 c.params 2)) s)

/-- Meaning of LEDGER_SET (R157, R161). -/
def execLedgerSet (c : Cmd) (s : State) : Host.Outcome State Fault Refusal := .next (takeCmd opLedgerSet c s)

/-- LEDGER_RD moved. -/
def advanceLedger (n : Nat) (k : Core) : Core := noteRingRoom (setReg64 (catReg 0x58) n k)

/-- LEDGER_ADVANCE (0x0506). -/
def opLedgerAdvance : OpDef where
  opcode := 0x0506
  target := isPage .cat
  params := fun c s => firstSome [exactly 2 c, refuseIf (decide (pn64 c.params 0 < ledgerRd s.core)
    || decide (ledgerWr s.core < pn64 c.params 0) || pn64 c.params 0 % 32 != 0) stParameter]
  covers := fun _ _ => [catReg 0x58]
  state := fun _ s => unitRefusal s.core (catReg 0x58)
  run := fun c _ s => .done stDone [] (onCore (advanceLedger (pn64 c.params 0)) s)

/-- Meaning of LEDGER_ADVANCE (R161). -/
def execLedgerAdvance (c : Cmd) (s : State) : Host.Outcome State Fault Refusal := .next (takeCmd opLedgerAdvance c s)

/-! ### The Catalogue and repair (R170, R172, R175, R177, R178) -/

/-- The sites of a site mask in the first four parameter words. -/
def maskSites (c : Cmd) : Nat := maskOf c.params 4

/-- Named sites cleared, the ticket waiting for the sweep. -/
def clearSites (m : Nat) (ticket : Word) (k : Core) : Core :=
  let k1 := (bitList m 128).foldl (fun acc s => clearSite s acc) (setRegBit (catReg 4) 30 true k)
  { k1 with hub := { k1.hub with purgeTickets := k1.hub.purgeTickets ++ [ticket] } }

/-- CAT_CLEAR (0x0507). -/
def opCatClear : OpDef where
  opcode := 0x0507
  target := isPage .cat
  params := fun c _ => exactly 4 c
  covers := fun _ _ => [catReg 0]
  state := fun c s => firstSome [unitRefusal s.core (catReg 0),
    refuseIf (regBit s.core (catReg 4) 31 || (List.range 8).any (fun r => engineBusy s.core r
      && (regionSites s.core r &&& maskSites c) != 0)) stState]
  run := fun c _ _ => .ticketed (.other 0x0507) noTick [] (fun id s' => onCore (clearSites (maskSites c) id) s')

/-- Meaning of CAT_CLEAR (R170). -/
def execCatClear (c : Cmd) (s : State) : Host.Outcome State Fault Refusal := .next (takeCmd opCatClear c s)

/-- The regions that a REPAIR_REGION_WRITE writes. -/
def writtenRegions (c : Cmd) : List Nat := (List.range (pn c.params 1)).map (fun i => pn c.params 0 + i)

/-- The registers as a REPAIR_REGION_WRITE leaves them, reserved bits discarded (R18). -/
def regionsView (c : Cmd) (k : Core) : Nat → Word :=
  overlay (((List.range (8 * pn c.params 1)).map (fun i => catReg (0x20000 + 32 * pn c.params 0 + 4 * i))).zip (c.params.drop 2))
    (reg k)

/-- A descriptor's eight words written. -/
def putDesc (d : Nat) (l : List Word) (k : Core) : Core :=
  writeDesc d (fun a => (List.range 8).foldl (fun acc w =>
    let x := catReg (0x20000 + 32 * d + 4 * w)
    setReg x (pw l w &&& ((rowOf x).map (·.rw)).getD 0) acc) a) k

/-- The first refusal of the descriptors of a REPAIR_REGION_WRITE, of one class. -/
def regionsRefusal (request : Bool) (c : Cmd) (k : Core) : Option Status :=
  (firstSome ((writtenRegions c).map (fun d =>
    (descRefuse k (regionsView c k) (inUse k ++ writtenRegions c) d).filter (fun st => isRequest st == request))))

/-- REPAIR_REGION_WRITE (0x0508). -/
def opRepairRegionWrite : OpDef where
  opcode := 0x0508
  target := isPage .cat
  params := fun c s => firstSome
    [ refuseIf (decide (c.params.length < 2) || c.params.length != 2 + 8 * pn c.params 1) stLength
    , inRange (pn c.params 1) 1 127, refuseIf (decide (4096 < pn c.params 0 + pn c.params 1)) stParameter
    , regionsRefusal true c s.core ]
  covers := fun _ _ => [catReg 0x20000]
  state := fun c s => firstSome [unitRefusal s.core (catReg 0), regionsRefusal false c s.core]
  run := fun c _ s => .done stDone [] (onCore (fun k =>
    (List.range (pn c.params 1)).foldl (fun acc i => putDesc (pn c.params 0 + i) ((c.params.drop (2 + 8 * i)).take 8) acc) k) s)

/-- Meaning of REPAIR_REGION_WRITE (R172). -/
def execRepairRegionWrite (c : Cmd) (s : State) : Host.Outcome State Fault Refusal := .next (takeCmd opRepairRegionWrite c s)

/-- REPAIR_SOLVE (0x0509). -/
def opRepairSolve : OpDef where
  opcode := 0x0509
  target := isPage .cat
  params := fun c _ => exactly 4 c
  covers := fun _ _ => [catReg 0]
  state := fun _ s => unitRefusal s.core (catReg 0)
  run := fun c _ s => .ticketed (.solve (bitList (maskSites c) 128)) (solveBound s.core (maskSites c)) []
    (fun id s' => onCore (startSolve (maskSites c) id) s')

/-- Meaning of REPAIR_SOLVE (R175). -/
def execRepairSolve (c : Cmd) (s : State) : Host.Outcome State Fault Refusal := .next (takeCmd opRepairSolve c s)

/-- The latest end bound of the solves that cover a site of a mask; none where no such solve runs (R177). -/
def solveUntil (k : Core) (m : Nat) : Option Nat :=
  let l := (k.hub.solves.filter (fun x => (x.sites &&& m) != 0)).map (·.until_)
  if l.isEmpty then none else some (maxOver id l)

/-- A result read of the allocator: NOT_READY while a solve covers its sites (R177). -/
def solveRead (op : BitVec 16) (c : Cmd) (n m : Nat) (stamp : List Nat) (data : List Word) (s : State) : CmdRes :=
  match solveUntil s.core m with
  | some t => notReady t s
  | none => resultRead op c n stamp data s

/-- REPAIR_RESULT_READ (0x050A). -/
def opRepairResultRead : OpDef where
  opcode := 0x050A
  read := true
  target := isPage .cat
  params := fun c _ => firstSome [exactly 2 c, inRange (pn c.params 1) 1 15,
    refuseIf (decide (4096 < pn c.params 0 + pn c.params 1)) stParameter]
  state := fun _ s => unitRefusal s.core (catReg 0)
  run := fun c n s =>
    let l := writtenRegions c
    solveRead 0x050A c n (listBits ((l.filter (descEn s.core)).map (descSite s.core)))
      (l.map (fun d => version s.core (verRepair d))) (l.flatMap (repairRecord s.core)) s

/-- Meaning of REPAIR_RESULT_READ (R177, R349). -/
def execRepairResultRead (c : Cmd) (s : State) : Host.Outcome State Fault Refusal := .next (takeCmd opRepairResultRead c s)

/-- FAIL_SITE_SUMMARY (0x050B). -/
def opFailSiteSummary : OpDef where
  opcode := 0x050B
  read := true
  target := isPage .cat
  params := fun c _ => exactly 4 c
  state := fun _ s => unitRefusal s.core (catReg 0)
  run := fun c n s =>
    let l := bitList (maskSites c) 128
    solveRead 0x050B c n (maskSites c) (l.map (fun x => version s.core (verSite x))) (l.map (siteSummary s.core)) s

/-- Meaning of FAIL_SITE_SUMMARY (R177, R349). -/
def execFailSiteSummary (c : Cmd) (s : State) : Host.Outcome State Fault Refusal := .next (takeCmd opFailSiteSummary c s)

/-- CAT_READ (0x050C). -/
def opCatRead : OpDef where
  opcode := 0x050C
  read := true
  target := isPage .cat
  params := fun c _ => firstSome [exactly 2 c, inRange (pn c.params 1) 1 255,
    refuseIf (decide (524288 < pn c.params 0 + pn c.params 1)) stParameter]
  state := fun _ s => unitRefusal s.core (catReg 0)
  run := fun c _ s => .done stDone ((List.range (pn c.params 1)).flatMap (fun i => readEntry s.core (pn c.params 0 + i))) s

/-- Meaning of CAT_READ (R178). -/
def execCatRead (c : Cmd) (s : State) : Host.Outcome State Fault Refusal := .next (takeCmd opCatRead c s)

end Sys2Proof.Machine
end

