-- ==== Sys2Proof/Machine/Pair.lean ====
section
/-! DEFINITION. Pair operation (spec/13_pair_operation.md): formation, tenancy flits, the witness, handover, checkpoints, the
mirror, and the opcodes of Table PAIR-7. -/

namespace Sys2Proof.Machine

/-! ### Formation (R403, R404) -/

/-- The regions that hold tenanted pins by PAIR_TEN. -/
def tenRegions (k : Core) : List Nat := (List.range 8).filter (fun r => !(tenPins k r).isEmpty)

/-- The bytes of PAIR_TEN0 to PAIR_TEN31. -/
def tenCrc (k : Core) : Word := crc32c (bytesOf ((List.range 32).map (fun w => reg k (pairReg (0x480 + 4 * w)))))

/-- PAIR_CTRL.ROLE_REQ of a region: 0 none, 1 HOLDER, 2 SHADOW. -/
def roleReq (k : Core) (r : Nat) : Nat := regFld k (pairReg 0x400) (2 * r + 1) (2 * r)

/-- The formation ends with a reason of Table PAIR-1: FORM_FAIL is recorded and the ticket completes with STATE. A member that
still holds roles is PARTNER_LOST again. -/
def failFormation (reason : Nat) (ticket : Word) (k : Core) : Core :=
  let k1 := { k with pair := { k.pair with forming := none, heard := none } }
  let st := if (List.range 8).any (fun r => tenRole k r != 0) then 3 else 0
  completeTicket ticket stState [BitVec.ofNat 32 reason]
    (recordCause (pairReg 0x560) 1
      (setRegFld (pairReg 0x404) 27 24 reason (setRegFld (pairReg 0x404) 31 28 st k1)))

/-- The first check of Table PAIR-1 after PORT that fails, 0 for none. -/
def formReason (k : Core) (h : FormHeard) : Nat :=
  let phase := signed (regFld k (pairReg 0x40C) 16 0) 17
  let partner := regFld k (portReg 2 8) 11 0
  if h.order ≠ k.order then 2
  else if ¬ regBit k 0x8FF0000C 1 ∨ regBit k 0x8FF0000C 2 ∨ ¬ h.aligned ∨ 40000 < phase ∨ phase < -40000 then 3
  else if h.f.crc ≠ tenCrc k then 4
  else if (List.range 8).any (fun r =>
      let mine := roleReq k r
      let his := h.roles / 4 ^ r % 4
      if (tenRegions k).contains r then !((mine == 1 && his == 2) || (mine == 2 && his == 1))
      else mine != 0 || his != 0) then 5
  else if h.f.witness.toNat ≠ witnessNo k then 6
  else if witnessNo k ≠ 0 ∧ (witnessNo k = ownNumber k ∨ witnessNo k = partner ∨ ¬ h.witness.any (fun t => decide (t ≤ 4000))) then 6
  else 0

/-- The partner's FORM is checked (R403): F is the later of the two proposals. PAIR_PHASE is measured (R405), which gives a
value that the spec does not state (log entry 1); WITNESS_RTT keeps the witness's round trip. -/
def checkForm (p : PairForming) (h : FormHeard) (k : Core) : Core :=
  let d := drawWord k
  let k1 := setReg (pairReg 0x40C) (d.1 &&& 0x1FFFF#32) d.2
  let k2 := match h.witness with
    | some t => setRegFld (pairReg 0x574) 15 0 (min t 0xFFFF) k1
    | none => k1
  let reason := formReason k2 h
  if reason = 0 then
    { k2 with pair := { k2.pair with heard := none, forming := some { p with passed := some (max p.proposed h.f.tick, h.f.incs) } } }
  else failFormation reason p.ticket k2

/-- FORM_RECEIVE: the partner's FORM is checked against this member's own, or kept for a PAIR_FORM that follows within 100 ms. -/
def opFormReceive (f : TenFlit) (roles : Nat) (order : OrderCode) (witness : Option Nat) (aligned : Bool) (k : Core) : Core :=
  let h : FormHeard := { f := f, roles := roles, order := order, witness := witness, aligned := aligned, at_ := k.clock.uptime }
  match k.pair.forming with
  | some p => if p.passed.isNone then checkForm p h k else k
  | none => { k with pair := { k.pair with heard := some h } }

/-- Meaning of FORM_RECEIVE (R403). -/
def execFormReceive (f : TenFlit) (roles : BitVec 16) (order : OrderCode) (witness : Option Nat) (aligned : Bool) (s : State) :
    Host.Outcome State Fault Refusal := .next (onCore (opFormReceive f roles.toNat order witness aligned) s)

/-- FORM_TIMEOUT: no FORM came within 100 ms of this member's PAIR_FORM. -/
def opFormTimeout (k : Core) : Core :=
  match k.pair.forming with
  | some p => if p.passed.isNone ∧ p.since + msTicks 100 ≤ k.clock.uptime then failFormation 7 p.ticket k else k
  | none => k

/-- Meaning of FORM_TIMEOUT (R403). -/
def execFormTimeout (s : State) : Host.Outcome State Fault Refusal := .next (onCore opFormTimeout s)

/-- The larger of two incarnations, with wraparound. -/
def newerInc (a b : Word) : Word := if olderInc a b then b else a

/-- A tenanted region at F: its incarnation, expiry and role (R404). -/
def formRegion (tick : Nat) (incs : List Word) (r : Nat) (k : Core) : Core :=
  setRole r (roleReq k r) (setTenExp r (tick + 40000) (setTenInc r (1 + newerInc (tenInc k r) (incs.getD r 0)) k))

/-- The mirror of a former partner at a formation (R423): kept and held back with KEEP_MIRROR, discarded otherwise. -/
def formMirror (k : Core) : Core :=
  if regBit k (pairReg 0x400) 31 ∧ regBit k (pairReg 0x404) 22 then { k with pair := { k.pair with restoring := true } }
  else setRegFld (pairReg 0x404) 23 21 0 { k with pair := { k.pair with restoring := false, resync := true } }

/-- PAIR_FORMATION: at F both members take roles, incarnations and expiries. -/
def opPairFormation (k : Core) : Core :=
  match k.pair.forming with
  | some p => match p.passed with
    | some (tick, incs) =>
      if tick ≤ k.clock.chron then
        let k1 := setReg64 (pairReg 0x410) (portOf k 2).partnerSerial.toNat
          (setRegFld (pairReg 0x404) 11 0 (regFld k (portReg 2 8) 11 0)
            (setRegFld (pairReg 0x404) 31 24 (2 * 16) { k with pair := { k.pair with
              forming := none, replaced := false, mirrorQ := [], mirrorHeader := [], wpWait := [] } }))
        let k2 := formMirror ((tenRegions k1).foldl (fun acc r => formRegion tick incs r acc) k1)
        completeTicket p.ticket stDone [] (recordCause (pairReg 0x560) 0 k2)
      else k
    | none => k
  | none => k

/-- Meaning of PAIR_FORMATION (R404). -/
def execPairFormation (s : State) : Host.Outcome State Fault Refusal := .next (onCore opPairFormation s)

/-! ### What a flit brings (R415) -/

/-- A flit's incarnation of a region. -/
def flitInc (f : TenFlit) (r : Nat) : Word := f.incs.getD r 0

/-- A flit for this member's own tenancies: from the witness, or from the partner with no older incarnation of its module; the
regions for which it is not stale, and whether any was. A flit of an older module incarnation is discarded whole. -/
def openFlit (f : TenFlit) (k : Core) : List Nat × Core :=
  let all := (maskRegions f.regions.toNat).filter (fun r => tenRole k r != 0)
  let live := all.filter (fun r => !olderInc (flitInc f r) (tenInc k r))
  let count (k' : Core) : Core := if live.length < all.length then countFld (pairReg 0x418) 31 0 1 k' else k'
  if witnessNo k ≠ 0 ∧ f.src.toNat = witnessNo k then
    (live, count { k with pair := { k.pair with witnessHeard := true } })
  else if f.src.toNat ≠ partnerNo k ∨ k.pair.replaced then ([], k)
  else if olderInc f.srcInc (reg k (portReg 2 0xC)) then ([], countFld (pairReg 0x418) 31 0 1 k)
  else (live, count k)

/-- A holder stops driving, other than by relinquishing: any handover of the region is void (R414). -/
def loseTenancy (r : Nat) (k : Core) : Core := enterStandby r (voidHandover r k)

/-- A higher incarnation of a region is learnt: a HOLDER enters STANDBY (R415). -/
def learnInc (f : TenFlit) (r : Nat) (k : Core) : Core :=
  if olderInc (tenInc k r) (flitInc f r) then
    let k1 := setTenInc r (flitInc f r) k
    if tenRole k r = 1 then loseTenancy r k1 else k1
  else k

/-- Both members are HOLDER of a region with one incarnation (R415). -/
def clash (f : TenFlit) (r : Nat) (k : Core) : Core :=
  if tenRole k r = 1 ∧ flitInc f r = tenInc k r then recordCause (pairReg 0x560) 5 (loseTenancy r k) else k

/-! ### The witness (R413) -/

/-- The entry of a region of a pair of which `m` is a member. -/
def witEntry (k : Core) (r m : Nat) : Option WitEntry :=
  k.pair.witness.find? (fun e => e.region == r && (e.a == m || e.b == m))

/-- Does an entry concern a region of a member? -/
def sameEntry (e : WitEntry) (r m : Nat) : Bool := e.region == r && (e.a == m || e.b == m)

/-- An entry changed. -/
def putWitness (r m : Nat) (f : WitEntry → WitEntry) (k : Core) : Core :=
  { k with pair := { k.pair with witness := k.pair.witness.map (fun e => if sameEntry e r m then f e else e) } }

/-- The witness's own records of a member's regions, for an answer. -/
def witFlit (k : Core) (m : Nat) (regions : List Nat) (tick : Nat) : TenFlit :=
  { tenFlit k regions tick with
    incs := (List.range 8).map (fun r => if regions.contains r then ((witEntry k r m).map (·.inc)).getD 0 else 0) }

/-- The witness answers a member, when there is anything to answer. -/
def witAnswer (type m : Nat) (regions : List Nat) (tick : Nat) (k : Core) : Core :=
  if regions.isEmpty then k else sendRouted (.ten m type (witFlit k m regions tick)) k

/-- Does this module act as a witness (WITNESS_CTRL.EN)? -/
def isWitness (k : Core) : Bool := regBit k (pairReg 0x570) 31

/-- A witness that does not know the time answers every flit with REFUSE; `act` handles a region and says whether it is
granted (R413). -/
def witServe (f : TenFlit) (grant tick : Nat) (ok : Core → Nat → Bool) (act : Nat → Core → Core) (k : Core) : Core :=
  if ¬ isWitness k then k
  else
    let l := maskRegions f.regions.toNat
    let yes := if regBit k 0x8FF0000C 2 then [] else l.filter (ok k)
    let k1 := yes.foldl (fun acc r => act r acc) k
    witAnswer 0x03 f.src.toNat (l.filter (fun r => !yes.contains r)) 0 (witAnswer grant f.src.toNat yes tick k1)

/-- A RENEW at a witness. -/
def witRenew (f : TenFlit) (k : Core) : Core :=
  witServe f 0x02 f.tick
    (fun k' r => (witEntry k' r f.src.toNat).any (fun e => !olderInc (flitInc f r) e.inc))
    (fun r => putWitness r f.src.toNat (fun e =>
      { e with holder := f.src.toNat, inc := flitInc f r, expiry := max e.expiry f.tick })) k

/-- A TAKEOVER_REQ at a witness. -/
def witTakeover (f : TenFlit) (k : Core) : Core :=
  witServe f 0x06 (k.clock.chron + 40000)
    (fun k' r => (witEntry k' r f.src.toNat).any (fun e =>
      e.holder != f.src.toNat && e.inc == flitInc f r && decide (e.expiry + 10000 ≤ k'.clock.chron)))
    (fun r => putWitness r f.src.toNat (fun e =>
      { e with holder := f.src.toNat, inc := e.inc + 1, expiry := k.clock.chron + 40000 })) k

/-- A TAKEN at a witness: a newer incarnation is recorded, an older one refused. -/
def witTaken (f : TenFlit) (k : Core) : Core :=
  if ¬ isWitness k then k
  else
    let l := (maskRegions f.regions.toNat).filter (fun r => (witEntry k r f.src.toNat).isSome)
    let inc (r : Nat) : Word := ((witEntry k r f.src.toNat).map (·.inc)).getD 0
    if regBit k 0x8FF0000C 2 then witAnswer 0x03 f.src.toNat l 0 k
    else
      let k1 := (l.filter (fun r => olderInc (inc r) (flitInc f r))).foldl (fun acc r =>
        putWitness r f.src.toNat (fun e => { e with holder := f.src.toNat, inc := flitInc f r, expiry := f.tick }) acc) k
      witAnswer 0x03 f.src.toNat (l.filter (fun r => olderInc (flitInc f r) (inc r))) 0 k1

/-- REGISTER_RECEIVE: a witness creates an entry for each region of a member of a pair, the other member being `other`, with
E_w = F + 40,000, while its 64 entries have room (R413). -/
def opRegisterReceive (f : TenFlit) (other : Nat) (k : Core) : Core :=
  if ¬ isWitness k then k
  else
    let l := maskRegions f.regions.toNat
    let rest := k.pair.witness.filter (fun e => !(l.contains e.region
      && ((e.a == f.src.toNat && e.b == other) || (e.b == f.src.toNat && e.a == other))))
    if regBit k 0x8FF0000C 2 ∨ 64 < rest.length + l.length then
      sendRouted (.ten f.src.toNat 0x03 (witFlit k f.src.toNat l 0)) k
    else
      let made := l.map (fun r => ({ region := r, a := f.src.toNat, b := other, holder := f.src.toNat, inc := flitInc f r
                                     expiry := f.tick + 40000 } : WitEntry))
      let k1 := setRegFld (pairReg 0x570) 6 0 (rest.length + made.length) { k with pair := { k.pair with witness := rest ++ made } }
      sendRouted (.ten f.src.toNat 0x02 (witFlit k1 f.src.toNat l f.tick)) k1

/-- Meaning of REGISTER_RECEIVE (R413). -/
def execRegisterReceive (f : TenFlit) (other : BitVec 12) (s : State) : Host.Outcome State Fault Refusal :=
  .next (onCore (opRegisterReceive f other.toNat) s)

/-! ### Renewal (R409, R410) -/

/-- The regions this member holds. -/
def heldRegions (k : Core) : List Nat := (List.range 8).filter (fun r => tenRole k r == 1)

/-- RENEW_SEND: at a tick where the Chronicle mod 10,000 is 0, WITNESS_OK shows whether the witness answered in the interval,
and one RENEW goes out for all regions held. -/
def opRenewSend (k : Core) : Core :=
  if k.clock.chron % 10000 = 0 ∧ pairState k ≠ 0 then
    let k1 := setRegBit (pairReg 0x404) 20 k.pair.witnessHeard { k with pair := { k.pair with witnessHeard := false } }
    if (heldRegions k1).isEmpty then k1
    else tenBoth 0x01 (tenFlit k1 (heldRegions k1) (k1.clock.chron + 40000)) k1
  else k

/-- Meaning of RENEW_SEND (R409). -/
def execRenewSend (s : State) : Host.Outcome State Fault Refusal := .next (onCore opRenewSend s)

/-- A RENEW at the partner: granted for a region that this member neither holds nor has asked to take over. -/
def partnerRenew (f : TenFlit) (k : Core) : Core :=
  let o := openFlit f k
  if f.src.toNat ≠ partnerNo k ∨ k.pair.replaced ∨ olderInc f.srcInc (reg k (portReg 2 0xC)) then o.2
  else
    let grants := o.1.filter (fun r => tenRole k r != 1 && tenRole k r != 3)
    let k1 := o.1.foldl (fun acc r => learnInc f r (clash f r acc)) o.2
    let k2 := grants.foldl (fun acc r => setTenExp r (max (tenExp acc r) f.tick) acc) k1
    let no := (maskRegions f.regions.toNat).filter (fun r => !grants.contains r)
    let k3 := if grants.isEmpty then k2 else tenPartner 0x02 (tenFlit k2 grants f.tick) k2
    if no.isEmpty then k3 else tenPartner 0x03 (tenFlit k3 no 0) k3

/-- Meaning of RENEW_RECEIVE (R409, R413). -/
def execRenewReceive (f : TenFlit) (asWitness : Bool) (s : State) : Host.Outcome State Fault Refusal :=
  .next (onCore (if asWitness then witRenew f else partnerRenew f) s)

/-- GRANT_RECEIVE: a grant with the current incarnation extends E of a region held (R409). -/
def opGrantReceive (f : TenFlit) (k : Core) : Core :=
  let o := openFlit f k
  o.1.foldl (fun acc r =>
    if tenRole acc r = 1 ∧ flitInc f r = tenInc acc r then setTenExp r (max (tenExp acc r) f.tick) acc
    else learnInc f r acc) o.2

/-- Meaning of GRANT_RECEIVE (R409). -/
def execGrantReceive (f : TenFlit) (s : State) : Host.Outcome State Fault Refusal := .next (onCore (opGrantReceive f) s)

/-- REFUSE_RECEIVE: a region in TAKING returns to SHADOW (R412); a higher incarnation is learnt (R415). -/
def opRefuseReceive (f : TenFlit) (k : Core) : Core :=
  let o := openFlit f k
  o.1.foldl (fun acc r =>
    let k1 := learnInc f r acc
    if tenRole k1 r = 3 then enterShadow r k1 else k1) o.2

/-- Meaning of REFUSE_RECEIVE (R412). -/
def execRefuseReceive (f : TenFlit) (s : State) : Host.Outcome State Fault Refusal := .next (onCore (opRefuseReceive f) s)

/-- TENANCY_EXPIRY: E of a region held has passed without a later grant (R410). -/
def opTenancyExpiry (r : Nat) (k : Core) : Core :=
  if tenRole k r = 1 ∧ tenExp k r ≤ k.clock.chron then recordCause (pairReg 0x560) 5 (loseTenancy r k) else k

/-- Meaning of TENANCY_EXPIRY (R410). -/
def execTenancyExpiry (r : Region) (s : State) : Host.Outcome State Fault Refusal := .next (onCore (opTenancyExpiry r.val) s)

/-! ### Takeover (R412) -/

/-- The regions of a flit take the tenancy where they are in one of the roles given and the flit's incarnation is the current
one; a higher incarnation is learnt. -/
def takeOn (f : TenFlit) (roles : List Nat) (k : Core) : Core :=
  let o := openFlit f k
  o.1.foldl (fun acc r =>
    if roles.contains (tenRole acc r) ∧ flitInc f r = tenInc acc r then takeTenancy r (acc.clock.chron + 40000) acc
    else learnInc f r acc) o.2

/-- RELINQUISH_RECEIVE: a region in SHADOW or TAKING takes at once. -/
def opRelinquishReceive (f : TenFlit) (k : Core) : Core := takeOn f [2, 3] k

/-- Meaning of RELINQUISH_RECEIVE (R412). -/
def execRelinquishReceive (f : TenFlit) (s : State) : Host.Outcome State Fault Refusal := .next (onCore (opRelinquishReceive f) s)

/-- A TAKEOVER_REQ goes to the witness. -/
def askTakeover (r : Nat) (k : Core) : Core :=
  tenWitness 0x05 (tenFlit k [r] 0) { k with pair := { k.pair with asked := amSet k.pair.asked r k.clock.chron } }

/-- TAKEOVER_TIMER: at E_rec + 10,000 a region in SHADOW asks the witness and enters TAKING, or takes where there is none; a
region in TAKING whose request was not answered asks again every 10,000 ticks. -/
def opTakeoverTimer (r : Nat) (k : Core) : Core :=
  if tenRole k r = 2 ∧ tenExp k r + 10000 ≤ k.clock.chron then
    if witnessNo k = 0 then takeTenancy r (k.clock.chron + 40000) k else setRole r 3 (askTakeover r k)
  else if tenRole k r = 3 ∧ amGetD k.pair.asked r 0 + 10000 ≤ k.clock.chron then askTakeover r k
  else k

/-- Meaning of TAKEOVER_TIMER (R412). -/
def execTakeoverTimer (r : Region) (s : State) : Host.Outcome State Fault Refusal := .next (onCore (opTakeoverTimer r.val) s)

/-- Meaning of TAKEOVER_REQ_RECEIVE (R413). -/
def execTakeoverReqReceive (f : TenFlit) (s : State) : Host.Outcome State Fault Refusal := .next (onCore (witTakeover f) s)

/-- TAKEOVER_GRANT_RECEIVE: a region in TAKING takes, with the expiry the flit carries. -/
def opTakeoverGrantReceive (f : TenFlit) (k : Core) : Core :=
  let o := openFlit f k
  o.1.foldl (fun acc r => if tenRole acc r = 3 then takeTenancy r f.tick acc else learnInc f r acc) o.2

/-- Meaning of TAKEOVER_GRANT_RECEIVE (R412). -/
def execTakeoverGrantReceive (f : TenFlit) (s : State) : Host.Outcome State Fault Refusal :=
  .next (onCore (opTakeoverGrantReceive f) s)

/-- A TAKEN at the partner: it records the expiry and incarnation, and a handover to that region's new holder is complete once no
region is awaited (R413, R414). -/
def partnerTaken (f : TenFlit) (k : Core) : Core :=
  let o := openFlit f k
  let k1 := o.1.foldl (fun acc r =>
    let k' := learnInc f r (clash f r acc)
    if tenRole k' r = 1 then k' else setTenExp r (max (tenExp k' r) f.tick) k') o.2
  match k1.pair.handover with
  | some h =>
    let waits := h.waits.filter (fun r => !o.1.contains r)
    if h.left.isEmpty ∧ waits.isEmpty then completeTicket h.ticket stDone [] { k1 with pair := { k1.pair with handover := none } }
    else { k1 with pair := { k1.pair with handover := some { h with waits := waits } } }
  | none => k1

/-- Meaning of TAKEN_RECEIVE (R413). -/
def execTakenReceive (f : TenFlit) (asWitness : Bool) (s : State) : Host.Outcome State Fault Refusal :=
  .next (onCore (if asWitness then witTaken f else partnerTaken f) s)

/-! ### Handover and resynchronisation (R414, R416) -/

/-- HANDOVER_BOUNDARY: the first beat boundary of a region at or after H; the holder stops driving, sends HANDOVER and enters
SHADOW. -/
def opHandoverBoundary (r : Nat) (k : Core) : Core :=
  match k.pair.handover with
  | some h =>
    if h.left.contains r ∧ h.tick ≤ k.clock.chron ∧ tenRole k r = 1 then
      let k1 := enterShadow r { k with pair := { k.pair with
        handover := some { h with left := h.left.filter (· != r), waits := r :: h.waits.filter (· != r) } } }
      tenPartner 0x08 (tenFlit k1 [r] h.tick) k1
    else k
  | none => k

/-- Meaning of HANDOVER_BOUNDARY (R414). -/
def execHandoverBoundary (r : Region) (s : State) : Host.Outcome State Fault Refusal := .next (onCore (opHandoverBoundary r.val) s)

/-- HANDOVER_RECEIVE: the partner takes, with the other steps of R412. -/
def opHandoverReceive (f : TenFlit) (k : Core) : Core := takeOn f [2] k

/-- Meaning of HANDOVER_RECEIVE (R414). -/
def execHandoverReceive (f : TenFlit) (s : State) : Host.Outcome State Fault Refusal := .next (onCore (opHandoverReceive f) s)

/-- RESYNCHRONISATION: the partner holds the region and both engines run; its newest waypoint record carries a tag, beat and
tick, and `diverged` says whether a DIVERGE was counted in the 2,048 ticks after the comparison. -/
def opResynchronisation (r : Nat) (tag : Word) (beat tick : Nat) (diverged : Bool) (qdr : Memory) (_arc : Memory) (k : Core) : Core :=
  let w := slotWords qdr k r (newestSlot k r)
  if tenRole k r = 4 ∧ regionRuns k r ∧ ¬ diverged ∧ pw w 1 = tag ∧ pn64 w 2 = beat ∧ pn64 w 4 = tick then enterShadow r k
  else k

/-- Meaning of RESYNCHRONISATION (R416). -/
def execResynchronisation (r : Region) (tag : Word) (beat tick : Nat) (diverged : Bool) (s : State) :
    Host.Outcome State Fault Refusal := .next (onCoreMem (opResynchronisation r.val tag beat tick diverged) s)

/-! ### Checkpoints (R418) -/

/-- The archive address of a region's record number `n`. -/
def ckptAddr (k : Core) (r n : Nat) : Nat := reg64 k (pairReg 0x510) + r * 1048576 + 256 * (n % 4096)

/-- CHECKPOINT_COPY: the region's oldest staged record is copied to its ring and counted; one whose transfer faulted is not. -/
def opCheckpointCopy (r : Nat) (stored : Bool) (s : State) : State :=
  match s.core.pair.ckpt.find? (fun e => e.1 == r) with
  | some e =>
    let n := (reg s.core (pairReg (0x520 + 4 * r))).toNat
    let s1 := onCore (fun k => { k with pair := { k.pair with ckpt := k.pair.ckpt.erase e } }) s
    if stored then
      onCore (setReg (pairReg (0x520 + 4 * r)) (BitVec.ofNat 32 (n + 1)))
        (writeArc (ckptAddr s.core r n) (readBytes s.qdr (qdrKey r (stageAddr s.core r e.2)) 256) s1)
    else s1
  | none => s

/-- Meaning of CHECKPOINT_COPY (R418). -/
def execCheckpointCopy (r : Region) (stored : Bool) (s : State) : Host.Outcome State Fault Refusal :=
  .next (opCheckpointCopy r.val stored s)

/-! ### The mirror (R419 to R421) -/

/-- MIRROR_BASE in the archive. -/
def mirrorBase (k : Core) : Nat := reg64 k (pairReg 0x500)

/-- Bytes of the mirror area (R419). -/
def mirrorRead (off n : Nat) (s : State) : List Byte :=
  match s.core.order with
  | .a000 => readBytes s.qdr (qdrKey (regFld s.core (pairReg 0x508) 2 0) (mirrorBase s.core + off)) n
  | _ => readBytes s.arc (mirrorBase s.core + off) n

/-- Bytes written to the mirror area (R419). -/
def mirrorWrite (off : Nat) (l : List Byte) (s : State) : State :=
  match s.core.order with
  | .a000 => writeQdr (regFld s.core (pairReg 0x508) 2 0) (mirrorBase s.core + off) l s
  | _ => writeArc (mirrorBase s.core + off) l s

/-- What a header packet shows in PAIR_STATUS. -/
def noteHeader (off : Nat) (l : List Byte) (k : Core) : Core :=
  if off = 0 then
    setRegBit (pairReg 0x404) 23 true (setRegBit (pairReg 0x404) 21 ((l.getD 0 0).getLsbD 0) k)
  else k

/-- MIRROR_RECEIVE: data of the partner are written at their offset of the area; a packet older than the incarnation the header
holds is discarded and counted. -/
def opMirrorReceive (srcInc : Word) (off : Nat) (l : List Byte) (s : State) : State :=
  if pairState s.core ≠ 2 ∨ s.core.pair.replaced ∨ s.core.pair.restoring then s
  else if l.length % 16 ≠ 0 ∨ l.length = 0 ∨ 4096 < l.length ∨ 9437184 < off + l.length then s
  else if regBit s.core (pairReg 0x404) 23 ∧ olderInc srcInc (wordOf (mirrorRead 4 4 s)) then
    onCore (countFld (pairReg 0x418) 31 0 1) s
  else onCore (noteHeader off l) (mirrorWrite off l s)

/-- Meaning of MIRROR_RECEIVE (R420, R421). -/
def execMirrorReceive (srcInc : Word) (offset : Nat) (data : List Byte) (s : State) : Host.Outcome State Fault Refusal :=
  .next (opMirrorReceive srcInc offset data s)

/-- The mirror header of this member (Table PAIR-6), 256 bytes. -/
def mirrorHeaderOf (valid : Bool) (k : Core) : List Byte :=
  let w (off : Nat) : Word := reg k (catReg off)
  bytesOf ([BitVec.ofNat 32 (2 ^ 16 + 2 + b2n valid), reg k 0x8BF0000C, reg k 0x8BF00004, reg k 0x8BF00008, w 0x30, w 0x34]
    ++ (List.range 8).map (fun i => w (0x40 + 4 * i)) ++ (List.range 8).map (fun i => w (0x10 + 4 * i)) ++ [w 0, w 8, w 0xC]
    ++ List.replicate 39 0)

/-- Has every Catalogue update of a region's sites been applied or dropped (R420)? -/
def updatesDone (k : Core) (r : Nat) : Bool :=
  k.fps.all (fun e => e.2.catQ.all (fun u => !(regionSites k r).testBit u.site))

/-- Waypoint records whose updates have entered the stream enter it too (R420). -/
def admitWaypoints (k : Core) : Core :=
  let ready := k.pair.wpWait.filter (fun e => updatesDone k e.1)
  ready.foldl (fun acc e => queueMirror e.2.1 e.2.2 acc)
    { k with pair := { k.pair with wpWait := k.pair.wpWait.filter (fun e => !updatesDone k e.1) } }

/-- A header packet leaves, and is remembered. -/
def sendHeader (h : List Byte) (k : Core) : Core :=
  sendPort 2 (.mirror 0 h) { k with pair := { k.pair with mirrorHeader := h } }

/-- MIRROR_SEND: the next packet of the stream leaves on T: after an overflow first the header with CAT_VALID = 0 (R421), then
the queue in order, and at a renewal tick the header when a field has changed. -/
def opMirrorSend (k0 : Core) : Core :=
  let k := admitWaypoints k0
  if ¬ mirroring k then k
  else if k.pair.resync ∧ (k.pair.mirrorHeader.getD 0 1).getLsbD 0 then sendHeader (mirrorHeaderOf false k) k
  else match k.pair.mirrorQ with
    | (off, l) :: t =>
      sendPort 2 (.mirror off l) (setReg (pairReg 0x50C) (BitVec.ofNat 32 t.length) { k with pair := { k.pair with
        mirrorQ := t, mirrorHeader := if off = 0 then l else k.pair.mirrorHeader } })
    | [] =>
      let h := mirrorHeaderOf (!k.pair.resync) k
      if k.clock.chron % 10000 = 0 ∧ h ≠ k.pair.mirrorHeader then sendHeader h k else k

/-- Meaning of MIRROR_SEND (R420). -/
def execMirrorSend (s : State) : Host.Outcome State Fault Refusal := .next (onCore opMirrorSend s)

/-- A full resend: every Catalogue entry and repair descriptor in packets of 4,096 bytes, then the header. -/
def resendPackets (k : Core) : List (Nat × List Byte) :=
  (List.range 2048).map (fun i => (0x100000 + 4096 * i, bytesOf ((List.range 256).flatMap (fun j => readEntry k (256 * i + j)))))
  ++ (List.range 32).map (fun i => (0x10000 + 4096 * i,
      bytesOf ((List.range 128).flatMap (fun d => (List.range 8).map (desc k (128 * i + d))))))
  ++ [(0, mirrorHeaderOf true k)]

/-- MIRROR_RESYNC: at the sender, once the queue has drained after an overflow, the full resend enters the stream; at the
receiver, its header with CAT_VALID = 1 has come. Both record the cause. -/
def opMirrorResync (isReceiver : Bool) (k : Core) : Core :=
  if isReceiver then
    if pairState k = 2 ∧ regBit k (pairReg 0x404) 21 then recordCause (pairReg 0x560) 7 k else k
  else if mirroring k ∧ k.pair.resync ∧ k.pair.mirrorQ.isEmpty ∧ ¬ (k.pair.mirrorHeader.getD 0 1).getLsbD 0 then
    let l := resendPackets k
    recordCause (pairReg 0x560) 7 (setReg (pairReg 0x50C) (BitVec.ofNat 32 l.length)
      { k with pair := { k.pair with mirrorQ := l, resync := false } })
  else k

/-- Meaning of MIRROR_RESYNC (R421). -/
def execMirrorResync (isReceiver : Bool) (s : State) : Host.Outcome State Fault Refusal := .next (onCore (opMirrorResync isReceiver) s)

/-! ### Opcodes (R427) -/

/-- A command on the T port page without parameters. -/
def pairPlain (c : Cmd) (_ : State) : Option Status := exactly 0 c

/-- PAIR_FORM's work: without an ACTIVE T port or with an unnumbered member it fails with PORT; otherwise FORM goes to the
partner and REGISTER to the witness, and a FORM already heard is checked. -/
def startForming (ticket : Word) (k : Core) : Core :=
  if portState k 2 ≠ 3 ∨ ownNumber k = 0 ∨ regFld k (portReg 2 8) 11 0 = 0 then failFormation 1 ticket k
  else
    let tick := k.clock.chron + 4000
    let p : PairForming := { ticket := ticket, since := k.clock.uptime, proposed := tick, passed := none }
    let f := { tenFlit k (tenRegions k) tick with crc := tenCrc k, witness := BitVec.ofNat 12 (witnessNo k) }
    let k1 := setRegFld (pairReg 0x404) 31 28 1 { k with pair := { k.pair with forming := some p } }
    let k2 := tenWitness 0x0A (tenFlit k1 ((tenRegions k1).filter (fun r => roleReq k1 r == 1)) tick)
      (sendPort 2 (.form f (regFld k (pairReg 0x400) 15 0) k.order) k1)
    match k.pair.heard with
    | some h => if k.clock.uptime ≤ h.at_ + msTicks 100 then checkForm p h k2 else k2
    | none => k2

/-- PAIR_FORM (0x0B01). -/
def opPairForm : OpDef where
  opcode := 0x0B01
  target := isPage (.port 2)
  params := pairPlain
  state := fun _ s => refuseIf (pairState s.core == 1 || pairState s.core == 2 || (pairState s.core == 3 && !s.core.pair.replaced)) stState
  run := fun _ _ s => .ticketed .pairForm (s.core.clock.chron + 4000) [] (fun id s' => onCore (startForming id) s')

/-- Meaning of PAIR_FORM (R403). -/
def execPairForm (c : Cmd) (s : State) : Host.Outcome State Fault Refusal := .next (takeCmd opPairForm c s)

/-- The pair ends (R426): every role becomes NONE, a handover or a formation ends, and the drivers drive as programmed. -/
def dissolvePair (k : Core) : Core :=
  let k1 := match k.pair.handover with
    | some h => completeTicket h.ticket stState [] k
    | none => k
  let k2 := match k.pair.forming with
    | some p => completeTicket p.ticket stState [] k1
    | none => k1
  let k3 := setReg (pairReg 0x408) 0 (setRegFld (pairReg 0x404) 31 28 0 { k2 with pair := { k2.pair with
    forming := none, heard := none, handover := none, asked := [], enabling := [], replaced := false, mirrorQ := [], wpWait := []
    resync := false } })
  (List.range 8).foldl (fun acc r => refreshTenants r acc) (setReg (pairReg 0x50C) 0 k3)

/-- PAIR_DISSOLVE (0x0B02): the partner and the witness learn of it. -/
def opPairDissolve : OpDef where
  opcode := 0x0B02
  target := isPage (.port 2)
  params := pairPlain
  state := fun _ s => refuseIf (pairState s.core == 0) stState
  run := fun _ _ s => .done stDone [] (onCore (fun k =>
    let k1 := if portState k 2 = 3 ∧ ¬ k.pair.replaced then sendPort 2 (.dissolve (partnerNo k)) k else k
    let k2 := if witnessNo k = 0 then k1 else sendRouted (.dissolve (witnessNo k)) k1
    dissolvePair k2) s)

/-- Meaning of PAIR_DISSOLVE (R426). -/
def execPairDissolve (c : Cmd) (s : State) : Host.Outcome State Fault Refusal := .next (takeCmd opPairDissolve c s)

/-- PAIR_HANDOVER (0x0B03): accepted at the member that holds every named region, while no handover is under way. -/
def opPairHandover : OpDef where
  opcode := 0x0B03
  target := isPage (.port 2)
  params := fun c _ => firstSome [exactly 3 c, regionMask (pw c.params 0), refuseIf (pn c.params 0 == 0) stParameter]
  state := fun c s => refuseIf (!(wordRegions (pw c.params 0)).all (fun r => tenRole s.core r == 1)
    || s.core.pair.handover.isSome) stState
  run := fun c _ _ => .ticketed (.pairHandover (pn c.params 0)) (pn64 c.params 1) []
    (fun id s' => onCore (fun k => { k with pair := { k.pair with
      handover := some { ticket := id, tick := pn64 c.params 1, left := wordRegions (pw c.params 0), waits := [] } } }) s')

/-- Meaning of PAIR_HANDOVER (R414). -/
def execPairHandover (c : Cmd) (s : State) : Host.Outcome State Fault Refusal := .next (takeCmd opPairHandover c s)

/-- PAIR_STATUS_READ (0x0B04). -/
def opPairStatusRead : OpDef where
  opcode := 0x0B04
  read := true
  target := isPage (.port 2)
  params := pairPlain
  run := fun _ _ s => .done stDone (([0x404, 0x408, 0x40C] ++ (List.range 8).map (fun r => 0x420 + 4 * r)
    ++ (List.range 16).map (fun i => 0x440 + 4 * i) ++ [0x41C]).map (fun o => readReg s.core (pairReg o))) s

/-- Meaning of PAIR_STATUS_READ (R427). -/
def execPairStatusRead (c : Cmd) (s : State) : Host.Outcome State Fault Refusal := .next (takeCmd opPairStatusRead c s)

/-- The packets of a restore (R424): the whole mirror area in pieces of 4,096 bytes. -/
def restorePackets (s : State) : List (Nat × List Byte) := (List.range 2304).map (fun i => (4096 * i, mirrorRead (4096 * i) 4096 s))

/-- PAIR_RESTORE (0x0B05): at the member that holds a foreign mirror of its new pair. -/
def opPairRestore : OpDef where
  opcode := 0x0B05
  target := isPage (.port 2)
  params := pairPlain
  state := fun _ s => refuseIf (pairState s.core != 2 || !regBit s.core (pairReg 0x404) 22
    || s.core.stw.tickets.any (fun e => e.2.work == .pairRestore && e.2.status.isNone)) stState
  run := fun _ _ s => .ticketed .pairRestore (readyTick s.core 2 [(portReg 2 0xF000, 2304 * 65)]) []
    (fun _ s' => onCore (fun k => (restorePackets s).foldl (fun acc e => sendPort 2 (.restore e.1 e.2) acc) k) s')

/-- Meaning of PAIR_RESTORE (R424). -/
def execPairRestore (c : Cmd) (s : State) : Host.Outcome State Fault Refusal := .next (takeCmd opPairRestore c s)

/-- The result of a restore: CAT_VALID, then the mirrored LEDGER_RD and LEDGER_WR. -/
def restoreResult (s : State) : List Word :=
  let w := wordsOf 16 (mirrorRead 0 64 s)
  [pw w 0 &&& 1#32, pw w 12, pw w 13, pw w 10, pw w 11]

/-- RESTORE_DONE: the restore under way ends; RESTORE_DONE is recorded, MIRROR_FOREIGN clears, and mirroring starts with a full
resend. -/
def opRestoreDone (s : State) : State :=
  match s.core.stw.tickets.find? (fun e => e.2.work == .pairRestore && e.2.status.isNone) with
  | some e =>
    onCore (fun k => completeTicket e.2.id stDone (restoreResult s) (recordCause (pairReg 0x560) 8
      (setRegBit (pairReg 0x404) 22 false { k with pair := { k.pair with restoring := false, resync := true } }))) s
  | none => s

/-- Meaning of RESTORE_DONE (R424). -/
def execRestoreDone (s : State) : Host.Outcome State Fault Refusal := .next (opRestoreDone s)

end Sys2Proof.Machine
end

