-- ==== Sys2Proof/Machine/PinCmds.lean ====
section
/-! DEFINITION. The pin cell opcodes (Table PIN-10A) and the contact check (R64 to R66, R545). -/

namespace Sys2Proof.Machine

/-- The pins of a 128-byte pin mask (R77). -/
def maskPins (c : Cmd) : List Nat := bitList (maskOf c.params 32) 1024

/-- One word for a register of each masked pin's cell page. -/
def pinPairs (c : Cmd) (off : Nat) (w : Word) : List (Nat × Word) := (maskPins c).map (fun p => (pinReg p off, w))

/-! ### Levels and switches -/

/-- The pairs of a PIN_LEVELS_SET. -/
def levelPairs (c : Cmd) : List (Nat × Word) := pinPairs c (dacOff (pn c.params 32)) (pw c.params 33)

/-- PIN_LEVELS_SET (0x0201). -/
def opPinLevelsSet : OpDef where
  opcode := 0x0201
  stage := true
  target := isPage .hub
  params := fun c s => firstSome [exactly 34 c, inRange (pn c.params 32) 0 10, pairsRequest c s (levelPairs c)]
  covers := fun c _ => (levelPairs c).map Prod.fst
  state := fun c s => pairsState c s (levelPairs c)
  run := fun c n s => runPairs c n (levelPairs c) [] s

/-- Meaning of PIN_LEVELS_SET (R47, R77). -/
def execPinLevelsSet (c : Cmd) (s : State) : Host.Outcome State Fault Refusal := .next (takeCmd opPinLevelsSet c s)

/-- PIN_SWITCH_SET (0x0202). -/
def opPinSwitchSet : OpDef where
  opcode := 0x0202
  stage := true
  target := isPage .hub
  params := fun c s => firstSome [exactly 33 c, pairsRequest c s (pinPairs c 4 (pw c.params 32))]
  covers := fun c _ => (maskPins c).map (fun p => pinReg p 4)
  state := fun c s => pairsState c s (pinPairs c 4 (pw c.params 32))
  run := fun c n s => runPairs c n (pinPairs c 4 (pw c.params 32)) [] s

/-- Meaning of PIN_SWITCH_SET (R77). -/
def execPinSwitchSet (c : Cmd) (s : State) : Host.Outcome State Fault Refusal := .next (takeCmd opPinSwitchSet c s)

/-- PIN_STATUS_READ (0x0204). -/
def opPinStatusRead : OpDef where
  opcode := 0x0204
  read := true
  target := isPage .hub
  params := fun c _ => exactly 32 c
  state := fun c s => firstSome ((maskPins c).map (fun p => unitRefusal s.core (pinReg p 0x50)))
  run := fun c _ s => .done stDone ((maskPins c).map (fun p => readReg s.core (pinReg p 0x50))) s

/-- Meaning of PIN_STATUS_READ (R77). -/
def execPinStatusRead (c : Cmd) (s : State) : Host.Outcome State Fault Refusal := .next (takeCmd opPinStatusRead c s)

/-! ### The contact check -/

/-- Can a check connect a pin (R65, R254)? Not a pin whose switch is held open, nor one of a parked or held block, of a fenced
region, or of a block whose analogue domain sleeps. -/
def connectable (k : Core) (pin : Nat) : Bool :=
  let c := cellOfPin pin
  let b := blockOfCell c
  !switchOpen (cellOf k c) && !blockStopped k b && decide (2 ≤ domState k (2 * b))
    && !regBit k (0x89F00008 + 4 * (b / 32)) (b % 32)

/-- Has a pin's cell a staged word of a folio that is not resolved (R66)? -/
def stagedAgainst (k : Core) (pin : Nat) : Bool :=
  k.car.folios.any (fun e => e.2.words.any (fun w => pageOf w.1 == some (.cell (cellOfPin pin))))

/-- Is a folio write staged against a pin, a region busy, or a pin tenanted (R66)? -/
def checkBusy (k : Core) (l : List Nat) : Bool :=
  l.any (fun p => engineBusy k (p / 128) || tenanted k p || stagedAgainst k p)

/-- T0: the first tick boundary at least 4 µs after the immediate part (R545). -/
def checkStart (k : Core) : Nat := k.clock.chron + 800

/-- Ticks until the last threshold of the tested pins has reached its check value (R64, step 3). -/
def thresholdTicks (k : Core) (tested : List Nat) (voh vol : Word) : Nat :=
  maxOver id (tested.map (fun p =>
    let c := carrier k (cellOfPin p)
    max (levelTicks 3 (stepMv k c) voh (dacOf k c 3)) (levelTicks 4 (stepMv k c) vol (dacOf k c 4))))

/-- The ticks from T0 to the sample (R64). -/
def sampleTicks (k : Core) (tested : List Nat) (ctl voh vol : Word) : Nat :=
  thresholdTicks k tested voh vol + usTicks (fld ctl 31 16)

/-- The level of a voltage level word in units of 1/65,536 mV (R43). -/
def levelOf (w : Word) : Int := (fld w 15 0 : Int) * spanWidth 3 (bit w 31) - 65536 * spanLow (bit w 31)

/-- PIN_CONTACT_CHECK (0x0203). -/
def opPinContactCheck : OpDef where
  opcode := 0x0203
  target := isPage .hub
  params := fun c _ => firstSome
    [ exactly 35 c, onlyBits (pw c.params 32) 0xFFFF0007, refuseIf (fld (pw c.params 32) 31 16 == 0) stParameter
    , refuseIf (outsideSafe (pw c.params 33) || outsideSafe (pw c.params 34)) stParameter
    , refuseIf (decide (levelOf (pw c.params 33) ≤ levelOf (pw c.params 34)) || fld (pw c.params 32) 1 0 == 3) stParameter ]
  covers := fun c _ => (maskPins c).map (fun p => pinReg p 4)
  state := fun c s => refuseIf (checkBusy s.core (maskPins c)) stState
  run := fun c _ s =>
    let tested := (maskPins c).filter (connectable s.core)
    let t0 := checkStart s.core
    .ticketed (.contactCheck (maskPins c) tested (pw c.params 32) (pw c.params 33) (pw c.params 34) t0 0 false)
      (t0 + sampleTicks s.core tested (pw c.params 32) (pw c.params 33) (pw c.params 34) + 200) [] (fun _ s' => s')
where
  /-- Is SAFE_MV of a level word out of range (R48)? -/
  outsideSafe (w : Word) : Bool := decide (safeMv w < -500) || decide (1500 < safeMv w)

/-- Meaning of PIN_CONTACT_CHECK (R64, R545). -/
def execPinContactCheck (c : Cmd) (s : State) : Host.Outcome State Fault Refusal := .next (takeCmd opPinContactCheck c s)

/-- Registers of a pin's cell that a check saves. -/
def saveRegs (offs : List Nat) (pin : Nat) (k : Core) : Core :=
  let c := cellOfPin pin
  let x := cellOf k c
  if x.saved.isEmpty then setCell c { x with saved := offs.map (fun o => (o, reg k (cellReg c o))) } k else k

/-- The saved registers of a pin's cell restored. -/
def restoreRegs (pin : Nat) (k : Core) : Core :=
  let c := cellOfPin pin
  let x := cellOf k c
  x.saved.foldl (fun acc e => accedeWord (cellReg c e.1) e.2 acc) (setCell c { x with saved := [] } k)

/-- The check settings of one pin (R64, step 2). An accession that writes the cell arms its driver again (R54). -/
def applyCheck (ctl voh vol : Word) (pin : Nat) (k : Core) : Core :=
  let c := cellOfPin pin
  let k1 := saveRegs [4, 0x10, 0x2C, 0x30] pin k
  let k2 := [(4, 4), (0x10, ctl &&& 7#32), (0x2C, voh), (0x30, vol)].foldl (fun acc e => accedeWord (cellReg c e.1) e.2 acc) k1
  k2

/-- The check settings of one pin for WM_CHECK (R254, steps 1 and 2): VOH and VOL at the check value, THR_H and THR_L at the
DACs, and CHECKING set. -/
def applyWmCheck (pin : Nat) (k : Core) : Core :=
  let c := cellOfPin pin
  let k1 := saveRegs [0x2C, 0x30, 0x200] pin k
  let k2 := [(0x2C, 0x68BA), (0x30, 0x68BA), (0x200, reg k1 (cellReg c 0x200) &&& ~~~0x03300000#32)].foldl
    (fun acc e => accedeWord (cellReg c e.1) e.2 acc) (setRegBit (cellReg c 0x20C) 5 true k1)
  k2

/-- CONTACT_CHECK_ACCESSION: at T0 the pins that the check can connect are saved and set; for a WM_CHECK the thresholds that
it writes then reach their value as late as the last of them. -/
def opContactCheckAccession (t : Word) (k : Core) : Core :=
  match workOf k t with
  | some (.contactCheck pins _ ctl voh vol start _ false) =>
    if start ≤ k.clock.chron then
      let tested := pins.filter (connectable k)
      setWork t (.contactCheck pins tested ctl voh vol start (k.clock.chron + sampleTicks k tested ctl voh vol) true)
        (tested.foldl (fun acc p => applyCheck ctl voh vol p acc) k)
    else k
  | some (.wmCheck pins _ start none next passed) =>
    if start ≤ k.clock.chron then
      let tested := pins.filter (connectable k)
      setWork t (.wmCheck pins tested start (some (k.clock.chron + thresholdTicks k tested 0x68BA 0x68BA)) next passed)
        (tested.foldl (fun acc p => applyWmCheck p acc) k)
    else k
  | _ => k

/-- Meaning of CONTACT_CHECK_ACCESSION (R64, R545). -/
def execContactCheckAccession (ticket : Word) (s : State) : Host.Outcome State Fault Refusal :=
  .next (onCore (opContactCheckAccession ticket) s)

/-- The 64 words of a contact check's result (R65). -/
def contactResult (tested : List Nat) (ch cl : PinMask) : List Word :=
  (List.range 64).map (fun w => BitVec.ofNat 32 ((List.range 16).map (fun j =>
    let p := 16 * w + j
    4 ^ j * (if tested.contains p then 2 * b2n (ch.getLsbD p) + b2n (cl.getLsbD p) else 3))).sum)

/-- CONTACT_CHECK_SAMPLE: CH and CL of every tested pin are taken at one tick, the saved values are restored, and the result is
ready 1 µs later. -/
def opContactCheckSample (t : Word) (ch cl : PinMask) (k : Core) : Core :=
  match workOf k t with
  | some (.contactCheck _ tested _ _ _ _ sample true) =>
    if sample ≤ k.clock.chron then
      setWork t (.ending (k.clock.chron + 200) stDone (contactResult tested ch cl)) (tested.foldl (fun acc p => restoreRegs p acc) k)
    else k
  | _ => k

/-- Meaning of CONTACT_CHECK_SAMPLE (R64, R65). -/
def execContactCheckSample (ticket : Word) (ch cl : PinMask) (s : State) : Host.Outcome State Fault Refusal :=
  .next (onCore (opContactCheckSample ticket ch cl) s)

/-! ### Spare cells (R71, R75) -/

/-- The block that a block address names. -/
def blockAt (w : Word) : Option Nat :=
  match pageOf w.toNat with
  | some (.block b) => if pageOff w.toNat = 0 then some b else none
  | _ => none

/-- The parameter checks of the spare opcodes: a block address and a pin cell number. -/
def spareRequest (c : Cmd) (_ : State) : Option Status :=
  firstSome [exactly 2 c, refuseIf (blockAt (pw c.params 0)).isNone stParameter, inRange (pn c.params 1) 0 15]

/-- The block of a spare opcode. -/
def spareBlock (c : Cmd) : Nat := (blockAt (pw c.params 0)).getD 0

/-- SPARE_STATUS.HANDOFF_PENDING. -/
def handoffPending (k : Core) (b : Nat) : Bool := regBit k (blockReg b 4) 8

/-- Is the spare idle (R71)? A fault substitution under way takes it. -/
def spareIdle (k : Core) (b : Nat) : Bool :=
  spareReason k b == 0 && !handoffPending k b && (amGet? k.faultSubs b).isNone && !regBit k (cellReg (cellOfBlock b 16) 0x50) 22

/-- A commanded substitution: a fault substitution for a faulted cell whose pin is parked without a spare, a hand-off
otherwise (R71). -/
def startSubstitute (b i : Nat) (ticket : Word) (k : Core) : Core :=
  if regBit k (cellReg (cellOfBlock b i) 0x50) 22 ∧ regBit k (blockReg b 4) (16 + i) then
    { k with faultSubs := amSet k.faultSubs b { cell := i, since := k.clock.uptime, ticket := ticket } }
  else requestHandoff b { cell := i, toSpare := true, reason := .host, ticket := ticket, since := k.clock.uptime } k

/-- SPARE_SUBSTITUTE (0x0205). -/
def opSpareSubstitute : OpDef where
  opcode := 0x0205
  params := spareRequest
  covers := fun c _ => [blockReg (spareBlock c) 0, cellReg (cellOfBlock (spareBlock c) (pn c.params 1)) 0]
  state := fun c s => firstSome [unitRefusal s.core (blockReg (spareBlock c) 0),
    refuseIf (!spareIdle s.core (spareBlock c) || regBit s.core (cellReg (cellOfBlock (spareBlock c) (pn c.params 1)) 0x50) 23) stState]
  run := fun c _ _ => .ticketed (.substitute (spareBlock c) (pn c.params 1)) noTick []
    (fun id s' => onCore (startSubstitute (spareBlock c) (pn c.params 1) id) s')

/-- Meaning of SPARE_SUBSTITUTE (R71). -/
def execSpareSubstitute (c : Cmd) (s : State) : Host.Outcome State Fault Refusal := .next (takeCmd opSpareSubstitute c s)

/-- SPARE_RETURN (0x0206): the owner cell's self-test begins; its outcome comes with TICKET_COMPLETE. -/
def opSpareReturn : OpDef where
  opcode := 0x0206
  params := spareRequest
  covers := fun c _ => [blockReg (spareBlock c) 0, cellReg (cellOfBlock (spareBlock c) (pn c.params 1)) 0]
  state := fun c s => firstSome [unitRefusal s.core (blockReg (spareBlock c) 0),
    refuseIf (spareCarrying s.core (spareBlock c) != pn c.params 1 || handoffPending s.core (spareBlock c)) stState]
  run := fun c _ _ => .ticketed (.substitute (spareBlock c) (pn c.params 1)) noTick [] (fun _ s' => s')

/-- Meaning of SPARE_RETURN (R71, R75). -/
def execSpareReturn (c : Cmd) (s : State) : Host.Outcome State Fault Refusal := .next (takeCmd opSpareReturn c s)

/-- A passed self-test of SPARE_RETURN: FAULTED and STANDBY clear and the hand-back is requested; the carry may have ended
meanwhile, which is STATE. -/
def selfTestPassed (b i : Nat) (ticket : Word) (k : Core) : Core :=
  if spareCarrying k b ≠ i ∨ handoffPending k b then completeTicket ticket stState [] k
  else
    let a := cellReg (cellOfBlock b i) 0x50
    requestHandoff b { cell := i, toSpare := false, reason := .host, ticket := ticket, since := k.clock.uptime }
      (setRegBit a 23 false (setRegBit a 22 false (setRegFld a 31 24 0 k)))

end Sys2Proof.Machine
end

