-- ==== Sys2Proof/Machine/Chronicle.lean ====
section
/-! DEFINITION. TREF, the keeper oscillator and the hand-back of the Chronicle (R80 to R84, R106 to R109), and the timing
opcodes (Table TIME-7). -/

namespace Sys2Proof.Machine

/-! ### TREF and the keeper -/

/-- CHR_STATUS.TREF_PRESENT. -/
def trefPresent (k : Core) : Bool := regBit k 0x8FF0000C 0

/-- A bit of REGION_TIMING set in every region: 0 TREF_PRESENT, 1 LOCKED, 2 TIMING_READY. -/
def timingBit (i : Nat) (v : Bool) (k : Core) : Core :=
  (List.range 8).foldl (fun acc r => setRegBit (treeReg r 0x40) i v acc) k

/-- REGION_TIMING.TIMING_READY of a region. -/
def timingReady (k : Core) (r : Nat) : Bool := regBit k (treeReg r 0x40) 2

/-- The Chronicle passes to the keeper (R107): C0, the ratio and its validity and the temperature are held from now on, TREF is
not present and the count is ESTIMATED, which makes holders relinquish (R411). -/
def passToKeeper (k : Core) : Core :=
  let k1 := { k with clock := { k.clock with
    by_ := .keeper, c0 := k.clock.chron, ratioAtEntry := reg k 0x8FF00014, calValidAtEntry := regBit k 0x8FF0000C 4
    tempAtEntry := k.clock.temperature, entrySince := k.clock.uptime, handbackAt := none } }
  relinquishAll (setRegBit 0x8FF0000C 2 true (setRegBit 0x8FF0000C 0 false (timingBit 0 false (timingBit 1 false (timingBit 2 false k1)))))

/-- TREF_LOST (Table TIME-2, steps 1 and 2): every engine stops, timing is no longer ready, and the Chronicle passes to the
keeper. -/
def opTrefLost (k : Core) : Core :=
  if trefPresent k then
    let k1 := (List.range 8).foldl (fun acc r => faultStop r 7 acc) k
    recordCause 0x8FF0002C 0 (if k1.clock.by_ = .keeper then setRegBit 0x8FF0000C 0 false
        (timingBit 0 false (timingBit 1 false (timingBit 2 false { k1 with clock := { k1.clock with handbackAt := none } })))
      else passToKeeper k1)
  else k

/-- Meaning of TREF_LOST (R82). -/
def execTrefLost (s : State) : Host.Outcome State Fault Refusal := .next (onCore opTrefLost s)

/-- TREF_ACCEPTED: 64 consecutive rising edges on a powered Chronicle TREF path. After a start-up without VAON the Chronicle
counts from here (R109); otherwise the keeper keeps counting until the hand-back. -/
def opTrefAccepted (k : Core) : Core :=
  if trefPresent k ∨ k.clock.sleeping then k
  else
    let k1 := timingBit 0 true (setRegBit 0x8FF0000C 0 true { k with clock := { k.clock with acceptedAt := k.clock.uptime } })
    if k1.clock.by_ = .none then
      { k1 with clock := { k1.clock with by_ := .tref, firstTick := some k1.clock.chron } }
    else k1

/-- Meaning of TREF_ACCEPTED (R82, R108, R109). -/
def execTrefAccepted (s : State) : Host.Outcome State Fault Refusal := .next (onCore opTrefAccepted s)

/-- The signed change of a ratio in units of 0.01 ppm (R112). -/
def ratioChange (now entry : Nat) : Int := roundDiv (((now : Int) - entry) * 10 ^ 8) (max 1 entry)

/-- KEEPER_RATIO_MEASURED: the re-measurement is complete, 1.31 ms after a wake's acceptance of TREF, or 1.0 ms later after a
loss; a change above 100 ppm is recorded and puts the hand-back off by 5.24 ms (Table TIME-5, step 3). -/
def opKeeperRatioMeasured (ratio : Word) (k : Core) : Core :=
  let due := k.clock.acceptedAt + 262144 + (if k.clock.waking then 0 else msTicks 1)
  if k.clock.by_ = .keeper ∧ trefPresent k ∧ due ≤ k.clock.uptime then
    let k1 := setReg 0x8FF00014 ratio k
    let d := ratioChange ratio.toNat k.clock.ratioAtEntry.toNat
    match k.clock.handbackAt with
    | some _ => k1
    | none =>
      if 10000 < d ∨ d < -10000 then
        recordCause 0x8FF0002C 2 (setReg 0x8FF00028 (BitVec.ofNat 32 (unsigned d 32))
          { k1 with clock := { k1.clock with handbackAt := some (k.clock.uptime + 1048576) } })
      else { k1 with clock := { k1.clock with handbackAt := some k.clock.uptime } }
  else k

/-- Meaning of KEEPER_RATIO_MEASURED (R108). -/
def execKeeperRatioMeasured (ratio : Word) (s : State) : Host.Outcome State Fault Refusal :=
  .next (onCore (opKeeperRatioMeasured ratio) s)

/-- E = round(K × KEEPER_RATIO) with the ratio held at entry (R107). -/
def elapsedTicks (k : Core) (periods : Nat) : Nat := (roundDiv ((periods * k.clock.ratioAtEntry.toNat : Nat) : Int) (2 ^ 24)).toNat

/-- U of R107 with temperatures in units of 0.01 °C, saturating; all ones without a valid keeper calibration at entry. -/
def uncertainty (k : Core) (e : Nat) (temp : Int) : Nat :=
  if k.clock.calValidAtEntry then min 0xFFFFFFFF (1 + ceilDiv (e * (500 + 3 * (temp - k.clock.tempAtEntry).natAbs)) 100000000)
  else 0xFFFFFFFF

/-- TIMING_READY is set in the regions whose multiplier is locked. -/
def readyLocked (k : Core) : Core :=
  (List.range 8).foldl (fun acc r => if regBit acc (treeReg r 0x40) 1 then setRegBit (treeReg r 0x40) 2 true acc else acc) k

/-- CHRONICLE_HANDBACK: the count becomes C0 + E and rests on TREF again, and ESTIMATED is set (R107). After a loss, TREF_RESTORED
is recorded (Table TIME-2, step 5). -/
def opChronicleHandback (periods : Nat) (temp : Int) (k : Core) : Core :=
  if k.clock.by_ = .keeper ∧ trefPresent k ∧ k.clock.handbackAt.any (fun t => decide (t ≤ k.clock.uptime)) then
    let e := elapsedTicks k periods
    let k1 := refillAfterStep { k with clock := { k.clock with chron := k.clock.c0 + e, by_ := .tref, handbackAt := none
                                                               temperature := temp, waking := false, acceptLate := false } }
    let k2 := readyLocked (setRegBit 0x8FF0000C 2 true
      (setReg 0x8FF00020 (BitVec.ofNat 32 (uncertainty k e temp)) (setReg64 0x8FF00018 e k1)))
    if k.clock.waking then k2 else recordCause 0x8FF0002C 1 k2
  else k

/-- Meaning of CHRONICLE_HANDBACK (R107, R108). -/
def execChronicleHandback (periods : Nat) (temperature : Int) (s : State) : Host.Outcome State Fault Refusal :=
  .next (onCore (opChronicleHandback periods temperature) s)

/-- TREF_ACCEPT_TIMEOUT: TREF has not been accepted 100 ms after a wake; TREF_LOST is recorded once. -/
def opTrefAcceptTimeout (k : Core) : Core :=
  if k.clock.waking ∧ ¬ trefPresent k ∧ ¬ k.clock.acceptLate ∧ k.clock.wakeAt + msTicks 100 ≤ k.clock.uptime then
    recordCause 0x8FF0002C 0 { k with clock := { k.clock with acceptLate := true } }
  else k

/-- Meaning of TREF_ACCEPT_TIMEOUT (R108). -/
def execTrefAcceptTimeout (s : State) : Host.Outcome State Fault Refusal := .next (onCore opTrefAcceptTimeout s)

/-- TREF_CHANGED: the ratio of TREF and the keeper moved by more than 100 ppm within 10 ms. -/
def opTrefChanged (k : Core) : Core :=
  if trefPresent k then recordCause 0x8FF0002C 2 (setRegBit 0x8FF0000C 7 true k) else k

/-- Meaning of TREF_CHANGED (R84). -/
def execTrefChanged (s : State) : Host.Outcome State Fault Refusal := .next (onCore opTrefChanged s)

/-- MULTIPLIER_LOCKED: a powered region's multiplier has locked to TREF; timing is ready once the Chronicle counts TREF
(R80, R109, Table TIME-5). -/
def opMultiplierLocked (r : Nat) (k : Core) : Core :=
  if trefPresent k ∧ 2 ≤ domState k (128 + 2 * r) then
    let k1 := setRegBit (treeReg r 0x40) 1 true k
    if k.clock.by_ = .tref then setRegBit (treeReg r 0x40) 2 true k1 else k1
  else k

/-- Meaning of MULTIPLIER_LOCKED (R80). -/
def execMultiplierLocked (r : Region) (s : State) : Host.Outcome State Fault Refusal :=
  .next (onCore (opMultiplierLocked r.val) s)

/-- KEEPER_CAL_VALID: 2^24 ticks have been counted from TREF since the first one after start-up. -/
def opKeeperCalValid (ratio : Word) (k : Core) : Core :=
  if k.clock.by_ = .tref ∧ k.clock.firstTick.any (fun t => decide (t + 2 ^ 24 ≤ k.clock.chron)) then
    setRegBit 0x8FF0000C 4 true (setReg 0x8FF00014 ratio k)
  else k

/-- Meaning of KEEPER_CAL_VALID (R106). -/
def execKeeperCalValid (ratio : Word) (s : State) : Host.Outcome State Fault Refusal := .next (onCore (opKeeperCalValid ratio) s)

/-! ### Opcodes (R111) -/

/-- CHRONICLE_READ (0x0301). -/
def opChronicleRead : OpDef where
  opcode := 0x0301
  read := true
  params := fun c _ => exactly 0 c
  run := fun _ _ s => .done stDone (words64 s.core.clock.chron ++ [readReg s.core 0x8FF0000C]) s

/-- Meaning of CHRONICLE_READ (R111). -/
def execChronicleRead (c : Cmd) (s : State) : Host.Outcome State Fault Refusal := .next (takeCmd opChronicleRead c s)

/-- Is an accession scheduled: a folio prepared and not yet decided against (R105)? -/
def accessionScheduled (k : Core) : Bool :=
  k.car.folios.any (fun e => e.2.state == .prepared || e.2.state == .voted || e.2.state == .decided)

/-- The Chronicle set to a value (R105): on TREF the count takes it and ESTIMATED clears; on the keeper it becomes C0 and the
count of keeper periods starts again. A master marks its next beacon. -/
def setChronicle (v : Nat) (k : Core) : Core :=
  let k1 := { k with clock := { k.clock with reSetMark := k.clock.reSetMark || role k == 1 } }
  if k.clock.by_ = .keeper then
    stepChronicle v { k1 with clock := { k1.clock with c0 := v, entrySince := k.clock.uptime } }
  else setRegBit 0x8FF0000C 2 false (stepChronicle v k1)

/-- CHRONICLE_SET (0x0302). -/
def opChronicleSet : OpDef where
  opcode := 0x0302
  params := fun c _ => exactly 2 c
  covers := fun _ _ => [0x8FF00000]
  state := fun _ s => firstSome [unitRefusal s.core 0x8FF00000,
    refuseIf (role s.core == 2 || accessionScheduled s.core) stState]
  run := fun c _ s => .done stDone [] (onCore (setChronicle (pn64 c.params 0)) s)

/-- Meaning of CHRONICLE_SET (R105). -/
def execChronicleSet (c : Cmd) (s : State) : Host.Outcome State Fault Refusal := .next (takeCmd opChronicleSet c s)

/-- CHRONICLE_ROLE_SET (0x0303). -/
def opChronicleRoleSet : OpDef where
  opcode := 0x0303
  params := fun c s => firstSome [exactly 1 c, pairsRequest c s [(0x8FF00008, pw c.params 0)]]
  covers := fun _ _ => [0x8FF00008]
  state := fun c s => pairsState c s [(0x8FF00008, pw c.params 0)]
  run := fun c n s => runPairs c n [(0x8FF00008, pw c.params 0)] [] s

/-- Meaning of CHRONICLE_ROLE_SET (R99, R111). -/
def execChronicleRoleSet (c : Cmd) (s : State) : Host.Outcome State Fault Refusal := .next (takeCmd opChronicleRoleSet c s)

/-- The edge words of a TIMING_SET_WRITE. -/
def timingPairs (c : Cmd) : List (Nat × Word) :=
  (maskPins c).flatMap (fun p => (List.range 6).map (fun e =>
    (pinReg p (0x1000 + 0x20 * pn c.params 32 + 4 * e), pw c.params (33 + e))))

/-- TIMING_SET_WRITE (0x0304). -/
def opTimingSetWrite : OpDef where
  opcode := 0x0304
  stage := true
  target := isPage .hub
  params := fun c s => firstSome [exactly 39 c, inRange (pn c.params 32) 0 15, pairsRequest c s (timingPairs c)]
  covers := fun c _ => (timingPairs c).map Prod.fst
  state := fun c s => pairsState c s (timingPairs c)
  run := fun c n s => runPairs c n (timingPairs c) [] s

/-- Meaning of TIMING_SET_WRITE (R89, R111). -/
def execTimingSetWrite (c : Cmd) (s : State) : Host.Outcome State Fault Refusal := .next (takeCmd opTimingSetWrite c s)

/-- The region that a strobe tree page address names. -/
def treePage (w : Word) : Option Nat :=
  match pageOf w.toNat with
  | some (.tree r) => if pageOff w.toNat = 0 then some r else none
  | _ => none

/-- The pair of a BEAT_PERIOD_SET. -/
def periodPairs (c : Cmd) : List (Nat × Word) :=
  [(treeReg ((treePage (pw c.params 0)).getD 0) (0x100 + 4 * pn c.params 1), pw c.params 2)]

/-- BEAT_PERIOD_SET (0x0305). -/
def opBeatPeriodSet : OpDef where
  opcode := 0x0305
  stage := true
  params := fun c s => firstSome [exactly 3 c, refuseIf (treePage (pw c.params 0)).isNone stParameter,
    inRange (pn c.params 1) 0 15, pairsRequest c s (periodPairs c)]
  covers := fun c _ => (periodPairs c).map Prod.fst
  state := fun c s => pairsState c s (periodPairs c)
  run := fun c n s => runPairs c n (periodPairs c) [] s

/-- Meaning of BEAT_PERIOD_SET (R85, R111). -/
def execBeatPeriodSet (c : Cmd) (s : State) : Host.Outcome State Fault Refusal := .next (takeCmd opBeatPeriodSet c s)

/-- SLEEP_ACCOUNT_READ (0x0306). -/
def opSleepAccountRead : OpDef where
  opcode := 0x0306
  read := true
  params := fun c _ => exactly 0 c
  run := fun _ _ s => .done stDone ([0x8FF00018, 0x8FF0001C, 0x8FF00020, 0x8FF00024, 0x8FF00028].map (readReg s.core)) s

/-- Meaning of SLEEP_ACCOUNT_READ (R111). -/
def execSleepAccountRead (c : Cmd) (s : State) : Host.Outcome State Fault Refusal := .next (takeCmd opSleepAccountRead c s)

end Sys2Proof.Machine
end

