-- ==== Sys2Proof/Machine/MemCmds.lean ====
section
/-! DEFINITION. The memory opcodes (Table MEM-5). -/

namespace Sys2Proof.Machine

/-! ### QDR SRAM (R295, R544) -/

/-- The QDR port page of a region, which reads and writes of its SRAM name. -/
def qdrPage (r : Nat) : Nat := pageBase (.qdrPort r)

/-- The bytes of a QDR_WRITE or ARC_WRITE. -/
def dataBytes (c : Cmd) : Nat := 4 * (c.params.length - 2)

/-- Refusals of a QDR range (R292, R295). -/
def qdrRange (a n : Nat) : Option Status :=
  refuseIf (a % 8 != 0 || n % 8 != 0 || outside n 8 3840 || decide (2 ^ 26 < a + n)) stParameter

/-- The bytes of a range that arrive before the block in which an item lies: whole blocks of 256 bytes from the start. -/
def beforeBlock (a item : Nat) : Nat := (item - a) / 256 * 256

/-- The first uncorrectable word of a QDR range, as an offset from the start. -/
def firstBad (l : List Nat) (lo n : Nat) : Option Nat :=
  let bad := l.filter (fun w => decide (lo / 8 * 8 ≤ w) && decide (w < lo + n))
  if bad.isEmpty then none else some (bad.foldl (fun m w => min m w) (lo + n))

/-- A read reply that ends early: the count of the bytes that stand, and those bytes (Table MEM-2). -/
def shortRead (st : Status) (stands : Nat) (bytes : List Byte) (s : State) : CmdRes :=
  .done st (words64 stands ++ wordsOf (stands / 4) bytes) s

/-- QDR_READ (0x0904). -/
def opQdrRead : OpDef where
  opcode := 0x0904
  read := true
  params := fun c _ => firstSome [exactly 3 c, inRange (pn c.params 0) 0 7, qdrRange (pn c.params 1) (pn c.params 2)]
  state := fun c s => unitRefusal s.core (qdrPage (pn c.params 0))
  cost := fun c _ => some (arbReg (pn c.params 0) 0, pn c.params 2 / 8)
  run := fun c _ s =>
    let lo := qdrKey (pn c.params 0) (pn c.params 1)
    match firstBad s.core.mem.qdrBad lo (pn c.params 2) with
    | some w => shortRead stUncorrectable (beforeBlock lo w) (readBytes s.qdr lo (beforeBlock lo w)) s
    | none => .done stDone (wordsOf (pn c.params 2 / 4) (readBytes s.qdr lo (pn c.params 2))) s

/-- Meaning of QDR_READ (R295, R544). -/
def execQdrRead (c : Cmd) (s : State) : Host.Outcome State Fault Refusal := .next (takeCmd opQdrRead c s)

/-- QDR_WRITE (0x0905). -/
def opQdrWrite : OpDef where
  opcode := 0x0905
  params := fun c _ => firstSome [refuseIf (outside c.params.length 4 962) stLength, inRange (pn c.params 0) 0 7,
    qdrRange (pn c.params 1) (dataBytes c)]
  covers := fun c _ => [qdrPage (pn c.params 0)]
  state := fun c s => firstSome [unitRefusal s.core (qdrPage (pn c.params 0)),
    refuseIf (engineBusy s.core (pn c.params 0)
      && touchesCode (reg s.core) (pn c.params 0) (pn c.params 1) (dataBytes c)) stState]
  cost := fun c _ => some (arbReg (pn c.params 0) 0, dataBytes c / 8)
  run := fun c _ s => .done stDone [] (writeQdr (pn c.params 0) (pn c.params 1) (bytesOf (c.params.drop 2)) s)

/-- Meaning of QDR_WRITE (R295, R544). -/
def execQdrWrite (c : Cmd) (s : State) : Host.Outcome State Fault Refusal := .next (takeCmd opQdrWrite c s)

/-! ### The archive (R296, R544) -/

/-- The archive's register page. -/
def arcPage : Nat := 0x99F00000

/-- Refusals of an archive range (R296). -/
def arcRange (k : Core) (a n : Nat) : Option Status :=
  refuseIf (a % 256 != 0 || n % 256 != 0 || decide (arcCapacity k.order < a + n)) stParameter

/-- How the first block of an archive range that fails does so: a block on a FAILED stack (R299), or one that cannot be corrected
(R298). -/
def arcFirstFail (k : Core) (a n : Nat) : Option (Nat × Status) :=
  ((List.range (n / 256)).find? (fun i => arcFailed k (a + 256 * i) 256 || arcBadIn k (a + 256 * i) 256)).map (fun i =>
    (256 * i, if arcFailed k (a + 256 * i) 256 then stTransfer else stUncorrectable))

/-- The first block of a written range that lies on a FAILED stack. -/
def arcWriteFail (k : Core) (a n : Nat) : Option Nat :=
  ((List.range (n / 256)).find? (fun i => arcFailed k (a + 256 * i) 256)).map (fun i => 256 * i)

/-- ARC_READ (0x0901). -/
def opArcRead : OpDef where
  opcode := 0x0901
  read := true
  archive := fun _ => true
  params := fun c s => firstSome [exactly 3 c, inRange (pn c.params 2) 256 3840, arcRange s.core (pn64 c.params 0) (pn c.params 2)]
  state := fun _ s => unitRefusal s.core arcPage
  cost := fun c _ => some (arcPage, pn c.params 2 / 256)
  run := fun c _ s =>
    match arcFirstFail s.core (pn64 c.params 0) (pn c.params 2) with
    | some (n, st) => shortRead st n (readBytes s.arc (pn64 c.params 0) n) s
    | none => .done stDone (wordsOf (pn c.params 2 / 4) (readBytes s.arc (pn64 c.params 0) (pn c.params 2))) s

/-- Meaning of ARC_READ (R296, R544). -/
def execArcRead (c : Cmd) (s : State) : Host.Outcome State Fault Refusal := .next (takeCmd opArcRead c s)

/-- ARC_WRITE (0x0902). -/
def opArcWrite : OpDef where
  opcode := 0x0902
  archive := fun _ => true
  params := fun c s => firstSome [refuseIf (outside c.params.length 66 962) stLength,
    arcRange s.core (pn64 c.params 0) (dataBytes c)]
  covers := fun _ _ => [arcPage]
  state := fun _ s => unitRefusal s.core arcPage
  cost := fun c _ => some (arcPage, dataBytes c / 256)
  run := fun c _ s =>
    let data := bytesOf (c.params.drop 2)
    match arcWriteFail s.core (pn64 c.params 0) (dataBytes c) with
    | some n => .done stTransfer (words64 n) (writeArc (pn64 c.params 0) (data.take n) s)
    | none => .done stDone [] (writeArc (pn64 c.params 0) data s)

/-- Meaning of ARC_WRITE (R296, R544). -/
def execArcWrite (c : Cmd) (s : State) : Host.Outcome State Fault Refusal := .next (takeCmd opArcWrite c s)

/-- The words of an ARC_DMA are: direction; archive address; region and QDR address, or host address; length. -/
def dmaWork (c : Cmd) : Work :=
  .dma (pn c.params 0) (pn64 c.params 1) (pn c.params 3) (pn c.params 4) (pn64 c.params 3) (pn64 c.params 5)

/-- Does a DMA use a region's QDR SRAM? -/
def dmaQdr (c : Cmd) : Bool := decide (pn c.params 0 < 2)

/-- ARC_DMA (0x0903). -/
def opArcDma : OpDef where
  opcode := 0x0903
  archive := fun _ => true
  params := fun c s => firstSome
    [ exactly 7 c, inRange (pn c.params 0) 0 3, arcRange s.core (pn64 c.params 1) (pn64 c.params 5)
    , refuseIf (dmaQdr c && (decide (7 < pn c.params 3) || pn c.params 4 % 8 != 0
        || decide (2 ^ 26 < pn c.params 4 + pn64 c.params 5))) stParameter ]
  covers := fun c _ => arcPage :: (if dmaQdr c then [qdrPage (pn c.params 3)] else [])
  state := fun c s => firstSome [unitRefusal s.core arcPage, if dmaQdr c then unitRefusal s.core (qdrPage (pn c.params 3)) else none]
  run := fun c _ s => .ticketed (dmaWork c)
    (readyTick s.core 3 ((arcPage, ceilDiv (pn64 c.params 5) 256)
      :: (if dmaQdr c then [(arbReg (pn c.params 3) 0, ceilDiv (pn64 c.params 5) 8)] else []))) []
    (fun id s' => onCore (startXfer id (dmaWork c)) s')

/-- Meaning of ARC_DMA (R317). -/
def execArcDma (c : Cmd) (s : State) : Host.Outcome State Fault Refusal := .next (takeCmd opArcDma c s)

/-! ### Tariffs and arbiters (R307, R316, R317) -/

/-- The instances that an instance field names. -/
def instancesOf (total field : Nat) : List Nat := if field = 0xFF then List.range total else [field]

/-- The registers of a resource instance that a TARIFF_SET writes, in the order of its words. -/
def tariffRegs (res inst : Nat) : List Nat :=
  match tariffBase res inst with
  | some base =>
    if res = 0 then (List.range 8).map (fun r => 0x99F000C0 + 4 * r) ++ (List.range 7).map (fun i => base + 4 + 4 * i)
    else (List.range 8).map (fun i => base + 4 * i)
  | none => []

/-- The pairs of a TARIFF_SET. -/
def tariffPairs (c : Cmd) : List (Nat × Word) :=
  (instancesOf (tariffInstances (pn c.params 0)) (pn c.params 1)).flatMap (fun i => (tariffRegs (pn c.params 0) i).zip (c.params.drop 2))

/-- Refusals of a resource and instance. -/
def resourceRefusal (c : Cmd) (all : Bool) : Option Status :=
  firstSome [inRange (pn c.params 0) 0 4,
    refuseIf (decide (tariffInstances (pn c.params 0) ≤ pn c.params 1) && !(all && pn c.params 1 == 0xFF)) stParameter]

/-- TARIFF_SET (0x0906). -/
def opTariffSet : OpDef where
  opcode := 0x0906
  archive := fun c => pn c.params 0 == 0
  params := fun c s => firstSome [exactly (if pn c.params 0 = 0 then 17 else 10) c, resourceRefusal c true,
    pairsRequest c s (tariffPairs c)]
  covers := fun c _ => (tariffPairs c).map Prod.fst
  state := fun c s => pairsState c s (tariffPairs c)
  run := fun c n s => runPairs c n (tariffPairs c) [] s

/-- Meaning of TARIFF_SET (R316). -/
def execTariffSet (c : Cmd) (s : State) : Host.Outcome State Fault Refusal := .next (takeCmd opTariffSet c s)

/-- The words of a TARIFF_READ. -/
def tariffWords (k : Core) (res base : Nat) : List Word :=
  readReg k (base + 0x24)
    :: ((List.range 8).flatMap (fun i => [4 * i, 0x40 + 4 * i, 0xA0 + 4 * i, 0x60 + 4 * i].map (fun o => readReg k (base + o)))
      ++ (if res = 0 then (List.range 8).map (fun r => readReg k (base + 0xC0 + 4 * r)) else []))

/-- TARIFF_READ (0x0907). -/
def opTariffRead : OpDef where
  opcode := 0x0907
  read := true
  archive := fun c => pn c.params 0 == 0
  params := fun c _ => firstSome [exactly 2 c, resourceRefusal c false]
  state := fun c s => unitRefusal s.core ((tariffBase (pn c.params 0) (pn c.params 1)).getD 0)
  run := fun c _ s => .done stDone (tariffWords s.core (pn c.params 0) ((tariffBase (pn c.params 0) (pn c.params 1)).getD 0)) s

/-- Meaning of TARIFF_READ (R317). -/
def execTariffRead (c : Cmd) (s : State) : Host.Outcome State Fault Refusal := .next (takeCmd opTariffRead c s)

/-- The arbiter of a code of ARB_SET. -/
def arbByCode (code inst : Nat) : Option ArbiterId :=
  match code with
  | 0 => if inst < 8 then some (.qdr (Fin.ofNat 8 inst)) else none
  | 1 => if inst < 8 then some (.regionLink (Fin.ofNat 8 inst)) else none
  | 2 => if inst = 0 then some .archive else none
  | 3 => if inst < 4 then some (.caravan (portAt inst)) else none
  | 4 => if inst = 0 then some .steward else none
  | _ => none

/-- The instances of an arbiter code. -/
def arbInstances (code : Nat) : Nat :=
  match code with
  | 0 | 1 => 8
  | 3 => 4
  | _ => 1

/-- The pairs of an ARB_SET. -/
def arbPairs (c : Cmd) : List (Nat × Word) :=
  (instancesOf (arbInstances (pn c.params 0)) (pn c.params 1)).filterMap (fun i =>
    ((arbByCode (pn c.params 0) i).bind arbWords).map (fun a => (a + 4 * pn c.params 2, pw c.params 3)))

/-- ARB_SET (0x0908). -/
def opArbSet : OpDef where
  opcode := 0x0908
  archive := fun c => pn c.params 0 == 2
  params := fun c s => firstSome [exactly 4 c, inRange (pn c.params 0) 0 4,
    refuseIf (decide (arbInstances (pn c.params 0) ≤ pn c.params 1) && pn c.params 1 != 0xFF) stParameter,
    inRange (pn c.params 2) 0 7, pairsRequest c s (arbPairs c)]
  covers := fun c _ => (arbPairs c).map Prod.fst
  state := fun c s => pairsState c s (arbPairs c)
  run := fun c n s => runPairs c n (arbPairs c) [] s

/-- Meaning of ARB_SET (R307, R317). -/
def execArbSet (c : Cmd) (s : State) : Host.Outcome State Fault Refusal := .next (takeCmd opArbSet c s)

/-- A register of a unit that may not be fitted (R3): 0 where it is not. -/
def readFitted (k : Core) (a : Nat) : Word := if notFitted k a then 0 else readReg k a

/-- MEM_ERRORS_READ (0x0909). -/
def opMemErrorsRead : OpDef where
  opcode := 0x0909
  read := true
  params := fun c _ => firstSome [exactly 1 c, regionMask (pw c.params 0)]
  state := fun c s => firstSome ((wordRegions (pw c.params 0)).map (fun r => unitRefusal s.core (arbReg r 0x200)))
  run := fun c _ s => .done stDone
    ((wordRegions (pw c.params 0)).flatMap (fun r => [0x200, 0x204, 0x20C].map (fun o => readReg s.core (arbReg r o)))
      ++ [0x200, 0x204, 0x208, 0x20C].map (fun o => readFitted s.core (arcPage + o))
      ++ (List.range 4).map (fun n => readFitted s.core (pageBase (.stack n)))) s

/-- Meaning of MEM_ERRORS_READ (R317). -/
def execMemErrorsRead (c : Cmd) (s : State) : Host.Outcome State Fault Refusal := .next (takeCmd opMemErrorsRead c s)

end Sys2Proof.Machine
end

