-- ==== Sys2Proof/Machine/Measure.lean ====
section
/-! DEFINITION. Per-pin measurement: outputs, coarse values, over range, detectors and rings, and the measurement opcodes
(spec/06_parametric_measurement.md). -/

namespace Sys2Proof.Machine

/-! ### Words and their delivery -/

/-- Does a channel produce outputs: EN, PPMU or DIGITISER mode, the spare only when idle, and its block neither parked nor its
region fenced (R185, R202, R208)? -/
def chanRuns (k : Core) (b ch : Nat) : Bool :=
  regBit k (chanReg b ch 0x84) 31 && [1, 2].contains (regFld k (chanReg b ch 0) 1 0)
    && (decide (ch < 16) || spareCarrying k b == 0x1F) && analogRuns k b

/-- OFFSET and GAIN of the modulator in use, for the range in effect (R188). -/
def chanCorr (k : Core) (b ch : Nat) : Word × Word :=
  let a := cellReg (feedCell k b ch) (0xA0 + 8 * measRange k (cellOfBlock b ch))
  (reg k a, reg k (a + 4))

/-- A channel's corrected value and its OVR tag (R188, R192): clamped by the sign of the input while the window holds an
over-range sample. -/
def chanValue (k : Core) (b ch : Nat) (raw : Int) : Int × Bool :=
  let x := chanOf k b ch
  let q := chanCorr k b ch
  if x.overSeen ∨ x.ovr ∨ x.recovering then (if x.positive then 2 ^ 23 - 1 else -(2 ^ 23), true) else correct raw q.1 q.2

/-- The word of a channel's next output, or its coarse word (R189 to R197). -/
def chanWord (k : Core) (b ch : Nat) (raw : Int) (coarse : Bool) : Word :=
  let x := chanOf k b ch
  let v := chanValue k b ch raw
  sampleWord v.1 (settles k b ch (x.outputs + 1)) v.2 coarse (suspectNow k b ch) x.overrun x.outputs

/-- MEAS_WPOS of a channel. -/
def chanWpos (k : Core) (b ch : Nat) : Nat := reg64 k (chanReg b ch 0xD0)

/-- MEAS_RING_DEPTH of a block. -/
def ringDepth (k : Core) (b : Nat) : Nat := regFld k (blockReg b 0x204) 25 0

/-- The QDR byte address of position `p` of a channel's ring (R198). -/
def ringAddr (k : Core) (b ch p : Nat) : Nat :=
  (regFld k (blockReg b 0x200) 25 0 + 4 * (ch * ringDepth k b + p % ringDepth k b)) % 2 ^ 26

/-- A word is delivered: into the ring, MEAS_LAST and the count (R198). -/
def deliverWord (b ch : Nat) (w : Word) (s : State) : State :=
  let p := chanWpos s.core b ch
  onCore (fun k => bumpVersion (verLast (cellOfBlock b ch)) (setReg (chanReg b ch 0xD8) w (setReg64 (chanReg b ch 0xD0) (p + 1) k)))
    (writeQdr (b / 8) (ringAddr s.core b ch p) (wordBytes w) s)

/-- Is a pin's channel silent: from a cell fault to the connection of the spare, or while the pin is parked by a fault (R203)? -/
def chanSilent (k : Core) (b ch : Nat) : Bool := (cellOf k (cellOfBlock b ch)).faultOpen

/-- A lost output (R197): MEAS_OVERRUN_COUNT, cause OVERRUN, and the tag on the next word. -/
def loseOutput (b ch : Nat) (k : Core) : Core :=
  recordCause (blockReg b 0x210) 1 (countFld (blockReg b 0x20C) 31 0 1 (setChan b ch { chanOf k b ch with overrun := true } k))

/-! ### Detectors (R200) -/

/-- The square root of a number below 2^48, rounded down. -/
def isqrt (n : Nat) : Nat :=
  (List.range 24).foldl (fun acc i => if (acc + 2 ^ (23 - i)) ^ 2 ≤ n then acc + 2 ^ (23 - i) else acc) 0

/-- A quotient or root that is not whole takes one of the two integers beside it; which is not stated (log entry 1). -/
def roundFree (floor : Int) (exact : Bool) (k : Core) : Int × Core :=
  if exact then (floor, k) else (floor + b2n (bit (drawWord k).1 0), (drawWord k).2)

/-- A detector's word: tags as a word's bits [7:3], and DET_COUNT as its sequence. -/
def detWord (k : Core) (b ch : Nat) (v : Int) (tags : Nat) : Word :=
  BitVec.ofNat 32 (2 ^ 8 * unsigned v 24 + tags + (reg k (chanReg b ch 0xF4)).toNat % 8)

/-- The end of a detector window: its words, DET_COUNT, and cause DET_DONE. -/
def closeWindow (b ch : Nat) (k : Core) : Core :=
  let x := chanOf k b ch
  let m := roundFree (x.detSum / x.detN) (x.detSum % x.detN == 0) k
  let q := x.detSq / x.detN
  let r := roundFree (isqrt q) (isqrt q ^ 2 * x.detN == x.detSq) m.2
  let k1 := countFld (chanReg b ch 0xF4) 31 0 1 r.2
  let put (off : Nat) (v : Int) (k' : Core) : Core := setReg (chanReg b ch off) (detWord k' b ch v x.detTags) k'
  recordCause (blockReg b 0x210) 3
    (setChan b ch { x with detN := 0, detSum := 0, detSq := 0, detTags := 0 }
      (put 0xE0 m.1 (put 0xE4 x.detMax (put 0xE8 x.detMin (put 0xEC r.1 k1)))))

/-- An included output enters the channel's window and its envelope. -/
def detectOutput (b ch : Nat) (w : Word) (k : Core) : Core :=
  let det := reg k (chanReg b ch 0x90)
  if ¬ bit det 31 ∨ bit w 7 ∨ bit w 5 then k
  else
    let x := chanOf k b ch
    let v := signed (fld w 31 8) 24
    let y : Chan := { x with
      detN := x.detN + 1, detSum := x.detSum + v, detSq := x.detSq + v.natAbs ^ 2
      detMax := if x.detN = 0 then v else max x.detMax v, detMin := if x.detN = 0 then v else min x.detMin v
      detTags := x.detTags ||| (w.toNat % 256 / 8 * 8), env := max v.natAbs (x.env - x.env / 2 ^ fld det 19 16) }
    let k1 := setChan b ch y k
    let k2 := bumpVersion (verDet (cellOfBlock b ch)) (setReg (chanReg b ch 0xF0) (detWord k1 b ch y.env y.detTags) k1)
    if fld det 15 0 ≤ y.detN then closeWindow b ch k2 else k2

/-! ### Events -/

/-- The record after an output has completed: it counts, its window's over-range samples are past, and a clean output (neither
SETTLING nor OVR) lets OVR_START be recorded again (R192). -/
def passOutput (b ch : Nat) (clean : Bool) (k : Core) : Core :=
  let x := chanOf k b ch
  setChan b ch { x with outputs := x.outputs + 1, overSeen := x.ovr || x.recovering, overNoted := x.overNoted && !clean } k

/-- MEAS_OUTPUT: a filter completes an output; it is lost, or corrected, tagged and delivered (R187 to R200). -/
def opMeasOutput (b ch : Nat) (raw : Int) (lost : Bool) (s : State) : State :=
  if ¬ chanRuns s.core b ch then s
  else if lost ∨ chanSilent s.core b ch then
    onCore (fun k => refreshMeas b ch (passOutput b ch false (loseOutput b ch k))) s
  else
    let w := chanWord s.core b ch raw false
    onCore (fun k =>
        refreshMeas b ch (detectOutput b ch w (passOutput b ch (!bit w 7 && !bit w 6) (setChan b ch { chanOf k b ch with overrun := false } k))))
      (deliverWord b ch w s)

/-- Meaning of MEAS_OUTPUT (R187). -/
def execMeasOutput (b : Block) (ch : Fin 17) (raw : Int) (lost : Bool) (s : State) : Host.Outcome State Fault Refusal :=
  .next (opMeasOutput b.val ch.val raw lost s)

/-- The limit monitor compares a coarse value (R201). -/
def checkLimit (b ch : Nat) (v : Int) (k : Core) : Core :=
  let lim := reg k (chanReg b ch 0x94)
  let h := v / 256
  if regBit k (chanReg b ch 0x84) 9 ∧ (signed (fld lim 31 16) 16 < h ∨ h < signed (fld lim 15 0) 16) then
    recordCause (blockReg b 0x210) 2 (setRegBit (blockReg b 0x21C) ch true k)
  else k

/-- COARSE_VALUE: a fast window ends; its value meets the limit monitor, and the first whose window starts at or after a change
is delivered as a COARSE word (R191). -/
def opCoarseValue (b ch : Nat) (raw : Int) (s : State) : State :=
  if ¬ chanRuns s.core b ch then s
  else
    let x := chanOf s.core b ch
    let start := chanP0 s.core b ch + 128 * x.windows
    let s1 := onCore (fun k => checkLimit b ch (chanValue k b ch raw).1 (setChan b ch { x with windows := x.windows + 1 } k)) s
    if x.coarseDue ∧ x.since ≤ start ∧ ¬ chanSilent s.core b ch then
      onCore (fun k => setChan b ch { chanOf k b ch with coarseDue := false, overrun := false } k)
        (deliverWord b ch (chanWord s.core b ch raw true) s1)
    else s1

/-- Meaning of COARSE_VALUE (R191, R201). -/
def execCoarseValue (b : Block) (ch : Fin 17) (raw : Int) (s : State) : Host.Outcome State Fault Refusal :=
  .next (opCoarseValue b.val ch.val raw s)

/-- OVR_START: the over-range detector asserts; a recovery under way is cancelled (R193), and the first assertion after a clean
output is recorded (R192). -/
def opOvrStart (b ch : Nat) (positive : Bool) (k : Core) : Core :=
  let x := chanOf k b ch
  if ¬ chanRuns k b ch ∨ x.ovr then k
  else
    let k1 := refreshMeas b ch (setChan b ch { x with ovr := true, positive := positive, recovering := false, overSeen := true, overNoted := true } k)
    if x.overNoted then k1 else recordCause (blockReg b 0x210) 0 (setRegBit (blockReg b 0x218) ch true k1)

/-- Meaning of OVR_START (R192). -/
def execOvrStart (b : Block) (ch : Fin 17) (positive : Bool) (s : State) : Host.Outcome State Fault Refusal :=
  .next (onCore (opOvrStart b.val ch.val positive) s)

/-- OVR_RELEASE: the detector releases, and recovery begins (Table MEAS-5, step 1). -/
def opOvrRelease (b ch : Nat) (k : Core) : Core :=
  let x := chanOf k b ch
  if x.ovr then refreshMeas b ch (setChan b ch { x with ovr := false, recovering := true, recoverAt := k.clock.uptime + 800 } k)
  else k

/-- Meaning of OVR_RELEASE (R193). -/
def execOvrRelease (b : Block) (ch : Fin 17) (s : State) : Host.Outcome State Fault Refusal :=
  .next (onCore (opOvrRelease b.val ch.val) s)

/-- OVR_RECOVERY_END: 4 µs after the release the channel restarts (Table MEAS-5, step 2). -/
def opOvrRecoveryEnd (b ch : Nat) (k : Core) : Core :=
  let x := chanOf k b ch
  if x.recovering ∧ x.recoverAt ≤ k.clock.uptime then
    noteChange true false b ch (setChan b ch { x with recovering := false } k)
  else k

/-- Meaning of OVR_RECOVERY_END (R193). -/
def execOvrRecoveryEnd (b : Block) (ch : Fin 17) (s : State) : Host.Outcome State Fault Refusal :=
  .next (onCore (opOvrRecoveryEnd b.val ch.val) s)

/-- RANGE_CHANGE_COMPLETE: the second step of a range or function change (Table MEAS-3). -/
def opRangeChangeComplete (c : Nat) (k : Core) : Core :=
  match amGet? k.ppmus c with
  | some x => if x.due ≤ k.clock.uptime then { k with ppmus := amErase k.ppmus c } else k
  | none => k

/-- Meaning of RANGE_CHANGE_COMPLETE (R184). -/
def execRangeChangeComplete (cell : Cell) (s : State) : Host.Outcome State Fault Refusal :=
  .next (onCore (opRangeChangeComplete cell.val) s)

/-! ### Opcodes (Table MEAS-7) -/

/-- Words for registers of each masked pin's cell page, pin by pin. -/
def pinGroup (c : Cmd) (l : List (Nat × Word)) : List (Nat × Word) :=
  (maskPins c).flatMap (fun p => l.map (fun e => (pinReg p e.1, e.2)))

/-- The pairs of a MEAS_CONFIG_SET. -/
def measConfigPairs (c : Cmd) : List (Nat × Word) :=
  pinGroup c [(0x80, pw c.params 32), (0x84, pw c.params 33), (0x88, pw c.params 34), (0x8C, pw c.params 35)]

/-- MEAS_CONFIG_SET (0x0601). -/
def opMeasConfigSet : OpDef where
  opcode := 0x0601
  stage := true
  target := isPage .hub
  params := fun c s => firstSome [exactly 36 c, pairsRequest c s (measConfigPairs c)]
  covers := fun c _ => (measConfigPairs c).map Prod.fst
  state := fun c s => pairsState c s (measConfigPairs c)
  run := fun c n s => runPairs c n (measConfigPairs c) [] s

/-- Meaning of MEAS_CONFIG_SET (R206). -/
def execMeasConfigSet (c : Cmd) (s : State) : Host.Outcome State Fault Refusal := .next (takeCmd opMeasConfigSet c s)

/-- The pairs of a MEAS_DET_SET. -/
def measDetPairs (c : Cmd) : List (Nat × Word) := pinGroup c [(0x90, pw c.params 32), (0x94, pw c.params 33)]

/-- MEAS_DET_SET (0x0602). -/
def opMeasDetSet : OpDef where
  opcode := 0x0602
  stage := true
  target := isPage .hub
  params := fun c s => firstSome [exactly 34 c, pairsRequest c s (measDetPairs c)]
  covers := fun c _ => (measDetPairs c).map Prod.fst
  state := fun c s => pairsState c s (measDetPairs c)
  run := fun c n s => runPairs c n (measDetPairs c) [] s

/-- Meaning of MEAS_DET_SET (R206). -/
def execMeasDetSet (c : Cmd) (s : State) : Host.Outcome State Fault Refusal := .next (takeCmd opMeasDetSet c s)

/-- The cell that a cell address names. -/
def cellAt (w : Word) : Option Nat :=
  match pageOf w.toNat with
  | some (.cell c) => if pageOff w.toNat = 0 then some c else none
  | _ => none

/-- The block and channel of a MEAS_READ. -/
def readChan (c : Cmd) : Nat × Nat :=
  let n := (cellAt (pw c.params 0)).getD 0
  (blockOfCell n, n % 17)

/-- The tick at which a position of a channel's ring will have been written (R199): 2 µs after its output completes. -/
def positionTick (k : Core) (b ch p : Nat) : Nat :=
  if chanRuns k b ch then outputTick k b ch ((chanOf k b ch).outputs + (p + 1 - chanWpos k b ch)) + 400 else noTick

/-- The immediate part of MEAS_READ: the words, or NOT_READY (R199). -/
def runMeasRead (c : Cmd) (n : Nat) (s : State) : CmdRes :=
  let b := (readChan c).1
  let ch := (readChan c).2
  let start := pn64 c.params 1
  let cnt := pn c.params 3
  if start + cnt ≤ chanWpos s.core b ch then
    resultRead 0x0603 c n [] ((List.range cnt).map (fun i => readWord s.qdr (qdrKey (b / 8) (ringAddr s.core b ch (start + i))))) s
  else notReady (positionTick s.core b ch (start + cnt - 1)) s

/-- MEAS_READ (0x0603). -/
def opMeasRead : OpDef where
  opcode := 0x0603
  read := true
  params := fun c _ => firstSome [exactly 4 c, refuseIf (cellAt (pw c.params 0)).isNone stParameter, inRange (pn c.params 3) 1 1024]
  state := fun c s => firstSome [unitRefusal s.core (pn c.params 0),
    refuseIf (decide (pn64 c.params 1 + ringDepth s.core (readChan c).1 < chanWpos s.core (readChan c).1 (readChan c).2)) stState]
  run := runMeasRead

/-- Meaning of MEAS_READ (R199). -/
def execMeasRead (c : Cmd) (s : State) : Host.Outcome State Fault Refusal := .next (takeCmd opMeasRead c s)

/-- MEAS_LAST_READ (0x0604). -/
def opMeasLastRead : OpDef where
  opcode := 0x0604
  read := true
  target := isPage .hub
  params := fun c _ => exactly 32 c
  state := fun c s => firstSome ((maskPins c).map (fun p => unitRefusal s.core (pinReg p 0xD8)))
  run := fun c n s => resultRead 0x0604 c n ((maskPins c).map (fun p => version s.core (verLast (cellOfPin p))))
    ((maskPins c).map (fun p => readReg s.core (pinReg p 0xD8))) s

/-- Meaning of MEAS_LAST_READ (R206). -/
def execMeasLastRead (c : Cmd) (s : State) : Host.Outcome State Fault Refusal := .next (takeCmd opMeasLastRead c s)

/-- MEAS_DET_READ (0x0605). -/
def opMeasDetRead : OpDef where
  opcode := 0x0605
  read := true
  target := isPage .hub
  params := fun c _ => firstSome [exactly 32 c, refuseIf (decide (170 < (maskPins c).length)) stParameter]
  state := fun c s => firstSome ((maskPins c).map (fun p => unitRefusal s.core (pinReg p 0xE0)))
  run := fun c n s => resultRead 0x0605 c n ((maskPins c).map (fun p => version s.core (verDet (cellOfPin p))))
    ((maskPins c).flatMap (fun p => (List.range 6).map (fun i => readReg s.core (pinReg p (0xE0 + 4 * i))))) s

/-- Meaning of MEAS_DET_READ (R207). -/
def execMeasDetRead (c : Cmd) (s : State) : Host.Outcome State Fault Refusal := .next (takeCmd opMeasDetRead c s)

/-- Is a page a block page? -/
def isBlock (p : Page) : Bool :=
  match p with
  | .block _ => true
  | _ => false

/-- The pairs of a MEAS_RING_SET. -/
def ringPairs (c : Cmd) : List (Nat × Word) :=
  let b := (blockAt (pw c.params 0)).getD 0
  [(blockReg b 0x200, pw c.params 1), (blockReg b 0x204, pw c.params 2)]

/-- MEAS_RING_SET (0x0606). -/
def opMeasRingSet : OpDef where
  opcode := 0x0606
  target := isBlock
  params := fun c s => firstSome [exactly 3 c, refuseIf (blockAt (pw c.params 0)).isNone stParameter, pairsRequest c s (ringPairs c)]
  covers := fun c _ => (ringPairs c).map Prod.fst
  state := fun c s => pairsState c s (ringPairs c)
  run := fun c n s => runPairs c n (ringPairs c) [] s

/-- Meaning of MEAS_RING_SET (R198). -/
def execMeasRingSet (c : Cmd) (s : State) : Host.Outcome State Fault Refusal := .next (takeCmd opMeasRingSet c s)

end Sys2Proof.Machine
end

