-- ==== Sys2Proof/Machine/Commons.lean ====
section
/-! DEFINITION. The commons and the monitor converters: their events and opcodes (spec/07_analog_commons.md). -/

namespace Sys2Proof.Machine

/-- CONTENTION: the two connections of a wire that carry the largest opposing currents open (R215), while the block's analogue
domain is Awake or Doze. A pin whose connection opens is at PARKED. -/
def opContention (b x y : Nat) (k : Core) : Core :=
  let wire (n : Nat) : Option Nat := if connMade k b n then connWire (reg k) b n else none
  if x = y ∨ (wire x).isNone ∨ wire x ≠ wire y then k
  else
    let open_ (n : Nat) (acc : Core) : Core :=
      let k1 := setRegBit (blockReg b 0x368) n true acc
      if n < 16 then
        refreshSwitch (cellOfBlock b n) (setCell (cellOfBlock b n) { cellOf k1 (cellOfBlock b n) with contentionOpen := true } k1)
      else k1
    recordCause (blockReg b 0x36C) 0 (refreshCommons b (open_ y (open_ x k)))

/-- Meaning of CONTENTION (R215). -/
def execContention (b : Block) (inward outward : Fin 26) (s : State) : Host.Outcome State Fault Refusal :=
  .next (onCore (opContention b.val inward.val outward.val) s)

/-! ### DAC read-back (R224, R232) -/

/-- The level of a DAC at its output node in 1/65,536 mV (R43, R181, R224): IOH and IOL read as 100 mV per mA. -/
def nodeLevel (i : Nat) (d : Dac) : Int :=
  if i < 6 then (d.out : Int) * spanWidth i d.fine - 65536 * spanLow d.fine
  else if i < 8 then (d.out : Int) * 2400
  else if i = 8 then (d.out : Int) * 7000
  else if i = 9 then (d.out : Int) * 5000 - 65536 * 2000
  else (d.out : Int) * 9000 - 65536 * 2000

/-- The limit of a DAC's row in Table PIN-9, plus 2.0 mV, in 1/655,360,000 mV: a part of the level and a fixed part in tenths of
a mV (R232). -/
def readbackLimit (i : Nat) (d : Dac) : Int :=
  let v := (nodeLevel i d).natAbs
  let tenths : Nat :=
    if i = 0 ∨ i = 1 ∨ i = 2 ∨ i = 5 then (if d.fine then 10 else 30)
    else if i < 6 then (if d.fine then 20 else 40)
    else if i < 8 then 20
    else if i < 10 then 1000
    else 15
  let part : Nat := if i < 6 ∨ i = 10 then 5 else if i < 8 then 100 else 0
  (v * part + (tenths + 20) * 65536 * 1000 : Nat)

/-- Does a result word of a read-back pass (R232)? One that carries SETTLING, SUSPECT or OVR fails. -/
def readbackPass (i : Nat) (d : Dac) (w : Word) : Bool :=
  !bit w 7 && !bit w 6 && !bit w 4
    && decide (((signed (fld w 31 8) 24 * 10000 - nodeLevel i d).natAbs * 10000 : Int) ≤ readbackLimit i d)

/-- The result of a DAC_READBACK (Table COMM-6): the word of each converter, the expected value in value units, and the pass bits.
The word of a converter that made no conversion is not stated (log entry 1). -/
def readbackResult (cell dac : Nat) (a b : Option Word) (k : Core) : List Word × Core :=
  let d := dacOf k cell dac
  let pass (o : Option Word) : Nat := b2n (o.any (readbackPass dac d))
  let da := drawWord k
  let db := drawWord da.2
  ([a.getD da.1, b.getD db.1, BitVec.ofNat 32 (unsigned (roundDiv (nodeLevel dac d) 10000) 32),
    BitVec.ofNat 32 (pass a + 2 * pass b)], db.2)

/-- One word of a read-back has come: the last completes the ticket. -/
def readbackWord (ticket : Word) (i : Nat) (w : Option Word) (k : Core) : Core :=
  match workOf k ticket with
  | some (.dacReadback cell dac a b left) =>
    let a1 := if i = 0 then w else a
    let b1 := if i = 1 then w else b
    if left ≤ 1 then
      let r := readbackResult cell dac a1 b1 k
      completeTicket ticket stDone r.1 r.2
    else setWork ticket (.dacReadback cell dac a1 b1 (left - 1)) k
  | _ => k

/-- The good converters of a block. -/
def goodConvs (k : Core) (b : Nat) : List Nat := [0, 1].filter (fun i => !convBad k b i)

/-- A queued request joins a converter's queue (R225). -/
def enqueueConv (b i : Nat) (what : ConvFor) (input : Nat) (k : Core) : Core :=
  let x := convOf k b i
  setConv b i { x with queue := x.queue ++ [(what, input)] } k

/-- DAC_READBACK (0x0706): one conversion is queued on each good converter; with both bad it fails. -/
def opDacReadback : OpDef where
  opcode := 0x0706
  target := fun p => match p with
    | .cell _ => true
    | _ => false
  params := fun c _ => firstSome [exactly 1 c, inRange (pn c.params 0) 0 10]
  state := fun c s =>
    let b := match pageOf c.target.toNat with
      | some (.cell n) => blockOfCell n
      | _ => 0
    firstSome [unitRefusal s.core c.target.toNat,
      refuseIf ((goodConvs s.core b).any (fun i => decide (8 ≤ (convOf s.core b i).queue.length))) stQueueFull]
  run := fun c _ s =>
    let n := match pageOf c.target.toNat with
      | some (.cell n) => n
      | _ => 0
    let l := goodConvs s.core (blockOfCell n)
    .ticketed (.dacReadback n (pn c.params 0) none none l.length) noTick [] (fun id s' =>
      if l.isEmpty then onCore (fun k => let r := readbackResult n (pn c.params 0) none none k; completeTicket id stDone r.1 r.2) s'
      else onCore (fun k => l.foldl (fun acc i =>
        enqueueConv (blockOfCell n) i (.readback id) (16 * (n % 17) + pn c.params 0) acc) k) s')

/-- Meaning of DAC_READBACK (R232). -/
def execDacReadback (c : Cmd) (s : State) : Host.Outcome State Fault Refusal := .next (takeCmd opDacReadback c s)

/-! ### Conversions (R225 to R231) -/

/-- MON_SCHED_TRIGGER: a tree edge makes the next entry pending; a bad converter's entry is skipped at once (R227, R234). -/
def opMonSchedTrigger (b i : Nat) (k : Core) : Core :=
  if ¬ schedOn k b i ∨ regFld k (schedReg b i) 13 12 = 0 ∨ selfcalRuns k b ∨ ¬ analogRuns k b then k
  else
    let k1 := triggerEntry b i k
    if convBad k b i then
      match (convOf k1 b i).pending with
      | some e => skipEntry b i e (setConv b i { convOf k1 b i with pending := none } k1)
      | none => k1
    else k1

/-- Meaning of MON_SCHED_TRIGGER (R227). -/
def execMonSchedTrigger (b : Block) (conv : Fin 2) (s : State) : Host.Outcome State Fault Refusal :=
  .next (onCore (opMonSchedTrigger b.val conv.val) s)

/-- MON_CONVERSION_START: an idle converter starts its pending entry, which is skipped where its class has no budget left, or
else its oldest queued request, which waits for the budget of TE (R225, R227, R228). -/
def opMonConversionStart (b i : Nat) (k : Core) : Core :=
  let x := convOf k b i
  if convBad k b i ∨ convBusy k b i ∨ blockStopped k b then k
  else match x.pending with
    | some e =>
      let w := reg k (entryReg b i e)
      let cls := entryClass (fld w 31 29)
      let k1 := setConv b i { x with pending := none } k
      if convFunded k b cls then startConv b i (.entry e) (fld w 8 0) cls k1 else skipEntry b i e k1
    | none => match x.queue with
      | q :: rest =>
        if convFunded k b 4 then startConv b i q.1 q.2 4 (setConv b i { x with queue := rest } k) else k
      | [] => k

/-- Meaning of MON_CONVERSION_START (R225). -/
def execMonConversionStart (b : Block) (conv : Fin 2) (s : State) : Host.Outcome State Fault Refusal :=
  .next (onCore (opMonConversionStart b.val conv.val) s)

/-- The plausibility conversions start at one tick once every good converter is free, charged to TE (R228, R233). -/
def startPlaus (b : Nat) (k : Core) : Core :=
  if amGetD k.plaus b .none = .waiting ∧ (goodConvs k b).all (fun i => (convOf k b i).run.isNone) then
    (goodConvs k b).foldl (fun acc _ => chargeClass (convTariff b) 4 1 acc) { k with plaus := amSet k.plaus b .running }
  else k

/-- BUSY of both converters follows the plausibility check. -/
def refreshConvs (b : Nat) (k : Core) : Core := setConv b 1 (convOf k b 1) (setConv b 0 (convOf k b 0) k)

/-- A schedule entry's result (R227, R230): its word and counts; a free-running schedule's next entry becomes pending. -/
def entryDone (b i e : Nat) (run : ConvRun) (n : Nat) (k : Core) : Core :=
  let x := convOf k b i
  let w := convWord k b i run n (x.owed.contains e) (amGetD x.counts e 0)
  let k1 := setReg (blockReg b (0x600 + 0x80 * i + 4 * e)) w
    (setConv b i { x with counts := amSet x.counts e (amGetD x.counts e 0 + 1), owed := x.owed.filter (fun o => o != e) } k)
  if schedOn k b i ∧ regFld k (schedReg b i) 13 12 = 0 ∧ ¬ selfcalRuns k b ∧ analogRuns k b then triggerEntry b i k1 else k1

/-- An urgent result (R230): the word goes to MON_URGENT_RESULT and the converter counts it. -/
def urgentDone (b i : Nat) (run : ConvRun) (n : Nat) (k : Core) : Word × Core :=
  let x := convOf k b i
  let w := convWord k b i run n false x.urgents
  (w, setReg (blockReg b (0x41C + 4 * i)) w (setConv b i { x with urgents := x.urgents + 1 } k))

/-- The toggle that the fabric sees at each completed conversion it requested (Table FAB-4). -/
def toggleFab (b i : Nat) (k : Core) : Core :=
  let f := fabOf k (b / 8)
  setFab (b / 8) { f with convToggle := f.convToggle ^^^ 2 ^ (2 * (b % 8) + i) } k

/-- A conversion of a recalibration (R235): its sum grows, and the next one is queued, 32 of ground and then 32 of the check
reference. -/
def recalDone (b i : Nat) (reference : Bool) (n : Nat) (k : Core) : Core :=
  let x := convOf k b i
  match x.recal with
  | none => k
  | some r =>
    let v : Int := (n : Int) - 16384
    let r1 : Recal := if reference then { r with refs := r.refs + 1, refSum := r.refSum + v }
      else { r with grounds := r.grounds + 1, groundSum := r.groundSum + v }
    let k1 := setConv b i { x with recal := some r1 } k
    if r1.grounds < 32 then enqueueConv b i (.recal false) 0x11B k1
    else if r1.refs < 32 then enqueueConv b i (.recal true) 0x11A k1
    else k1

/-- What a conversion that ends does. The sequence field of a read-back's word is not stated (log entry 1). -/
def convDone (b i : Nat) (run : ConvRun) (n : Nat) (k : Core) : Core :=
  match run.what with
  | .entry e => entryDone b i e run n k
  | .host op c => answer op c stDone [(urgentDone b i run n k).1] (urgentDone b i run n k).2
  | .fabric => toggleFab b i (urgentDone b i run n k).2
  | .unclaimed => (urgentDone b i run n k).2
  | .readback t => readbackWord t i (some (convWord (drawWord k).2 b i run n false (drawWord k).1.toNat)) (drawWord k).2
  | .recal reference => recalDone b i reference n k

/-- MON_CONVERSION_DONE: the result is written (R230); an over-range conversion leaves its time (R231); and a plausibility check
that waited for the converter starts. -/
def opMonConversionDone (b i n : Nat) (k : Core) : Core :=
  let x := convOf k b i
  match x.run with
  | none => k
  | some run =>
    let k1 := convDone b i run n (setConv b i { x with run := none } k)
    let k2 := if n = 0 ∨ n = 65535 then setConv b i { convOf k1 b i with lastOver := some k.clock.uptime } k1 else k1
    startPlaus b k2

/-- Meaning of MON_CONVERSION_DONE (R230). -/
def execMonConversionDone (b : Block) (conv : Fin 2) (raw : BitVec 16) (s : State) : Host.Outcome State Fault Refusal :=
  .next (onCore (opMonConversionDone b.val conv.val raw.toNat) s)

/-- Meaning of FAB_CONVERT_REQUEST (R276). -/
def execFabConvertRequest (b : Block) (conv : Fin 2) (s : State) : Host.Outcome State Fault Refusal :=
  .next (onCore (fun k =>
    let t := takeRise (b.val / 8) (b.val % 8) (52 + conv.val) k
    opFabConvert t.1 b.val conv.val t.2) s)

/-- The immediate part of MON_CONVERT: the conversion starts and its reply follows; or the request is refused by a bad converter
(R234) or dropped (R226). -/
def runMonConvert (c : Cmd) (_ : Nat) (s : State) : CmdRes :=
  let b := match pageOf c.target.toNat with
    | some (.block b) => b
    | _ => 0
  let k := s.core
  let sel := pn c.params 0
  let named := urgentGood k b sel
  let dropped (st : Status) : CmdRes := .done st [] (onCore (fun k' => named.foldl (fun acc i => dropUrgent b i acc) k') s)
  if named.isEmpty then .refuse stConverterBad []
  else match urgentConv k b sel with
    | none => dropped stUnitBusy
    | some i =>
      if convFunded k b 3 then .later (onCore (startConv b i (.host 0x0704 c) (pn c.params 1) 3) s) else dropped stTariff

/-- MON_CONVERT (0x0704). -/
def opMonConvert : OpDef where
  opcode := 0x0704
  target := isBlock
  params := fun c _ => firstSome [exactly 2 c, inRange (pn c.params 0) 0 2, refuseIf (!inputOk (pn c.params 1)) stParameter]
  state := fun c s => unitRefusal s.core c.target.toNat
  run := runMonConvert

/-- Meaning of MON_CONVERT (R226). -/
def execMonConvert (c : Cmd) (s : State) : Host.Outcome State Fault Refusal := .next (takeCmd opMonConvert c s)

/-! ### Plausibility (R233, R234) -/

/-- PLAUS_CHECK: a check falls due at a tariff-period boundary, or waits for the budget of TE; it holds the good converters until
both are free. -/
def opPlausCheck (b : Nat) (k : Core) : Core :=
  let period := regFld k (blockReg b 0x404) 31 16
  let st := amGetD k.plaus b .none
  let falls := k.clock.chron % 2048 == 0 && (k.clock.chron / 2048 % period == 0 || st == .due)
  if ¬ falls ∨ st = .waiting ∨ st = .running ∨ (goodConvs k b).isEmpty then k
  else if ¬ convFunded k b 4 then { k with plaus := amSet k.plaus b .due }
  else startPlaus b (refreshConvs b { k with plaus := amSet k.plaus b .waiting })

/-- Meaning of PLAUS_CHECK (R233). -/
def execPlausCheck (b : Block) (s : State) : Host.Outcome State Fault Refusal := .next (onCore (opPlausCheck b.val) s)

/-- A converter is marked bad (R234): it is logged as block code CONVERTER (R515), its recalibration ends, and its queued requests go
to the other converter; with both bad, every read-back fails and background calibration of the block ends (R471). -/
def markBad (b i : Nat) (k : Core) : Core :=
  if convBad k b i then k
  else
    let x := convOf k b i
    let moved := x.queue.filter (fun q => match q.1 with
      | .recal _ => false
      | _ => true)
    let k1 := logFault 1 0 6 (pageBase (.block b)) 0 <| setRegFld (blockReg b 0xC00) 23 16 6
      (setConv b i { x with queue := [], recal := none } (setRegBit (blockReg b 0x408) (5 + i) true k))
    if convBad k b (1 - i) then
      moved.foldl (fun acc q => match q.1 with
        | .readback t => readbackWord t i none acc
        | _ => acc) k1
    else
      let o := convOf k1 b (1 - i)
      setConv b (1 - i) { o with queue := o.queue ++ moved } k1

/-- Does a corrected value lie more than a tolerance from another (Table COMM-4)? -/
def apart (v w : Int) (tol : Nat) : Bool := decide (tol < (v - w).natAbs)

/-- The turn of a block whose converters are both bad ends: the hand-back follows (Table CAL-5). -/
def badTurn (b : Nat) (k : Core) : Core :=
  match amGet? k.cal.turns b with
  | some t =>
    if t.handed then
      setTurn b t.cell 3 (requestHandoff b { cell := t.cell, toSpare := false, reason := .calibration, ticket := 0, since := k.clock.uptime } k)
    else if (amGet? k.handoffs b).any (fun h => h.reason == .calibration) then endTurn b (dropHandoff b k)
    else endTurn b k
  | none => k

/-- The outcome of Table COMM-4 for the good converters and their corrected values. -/
def plausOutcome (b : Nat) (va vb : Int) (k : Core) : Core :=
  let e := signed (regFld k (blockReg b 0xB34) 23 0) 24
  let tol := regFld k (blockReg b 0x404) 15 8
  let badA := !convBad k b 0 && apart va e tol
  let badB := !convBad k b 1 && apart vb e tol
  let pair := !convBad k b 0 && !convBad k b 1 && apart va vb (regFld k (blockReg b 0x404) 7 0)
  if badA ∨ badB then
    let k1 := if badA then markBad b 0 k else k
    let k2 := recordCause (blockReg b 0x438) 2 (if badB then markBad b 1 k1 else k1)
    if convBad k2 b 0 ∧ convBad k2 b 1 then badTurn b k2 else k2
  else if pair then recordCause (blockReg b 0x438) 1 (setRegBit (blockReg b 0x408) 7 true k)
  else setRegBit (blockReg b 0x408) 7 false k

/-- PLAUS_RESULT: the check's conversions end with their raw codes, and the outcome of Table COMM-4 is applied. -/
def opPlausResult (b rawA rawB : Nat) (k : Core) : Core :=
  if amGetD k.plaus b .none ≠ .running then k
  else
    let value (i n : Nat) : Int := (correct ((n : Int) - 16384) (convCorr k b i).1 (convCorr k b i).2).1
    let note (i n : Nat) (acc : Core) : Core :=
      if convBad k b i then acc
      else
        let k1 := setRegFld (blockReg b 0x424) (31 - 16 * i) (16 - 16 * i) n acc
        if n = 0 ∨ n = 65535 then setConv b i { convOf k1 b i with lastOver := some k.clock.uptime } k1 else k1
    refreshConvs b (plausOutcome b (value 0 rawA) (value 1 rawB)
      (note 1 rawB (note 0 rawA { k with plaus := amErase k.plaus b })))

/-- Meaning of PLAUS_RESULT (R233, R234). -/
def execPlausResult (b : Block) (rawA rawB : BitVec 16) (s : State) : Host.Outcome State Fault Refusal :=
  .next (onCore (opPlausResult b.val rawA.toNat rawB.toNat) s)

/-! ### Recalibration of the converters (R235) -/

/-- MON_RECAL_DUE: a good converter's recalibration falls due, and its first conversion of ground is queued. -/
def opMonRecalDue (b i : Nat) (k : Core) : Core :=
  let x := convOf k b i
  if convBad k b i ∨ x.recal.isSome ∨ selfcalRuns k b ∨ blockStopped k b then k
  else
    enqueueConv b i (.recal false) 0x11B
      (setConv b i { x with recal := some { due := k.clock.uptime, grounds := 0, groundSum := 0, refs := 0, refSum := 0 } } k)

/-- Meaning of MON_RECAL_DUE (R235). -/
def execMonRecalDue (b : Block) (conv : Fin 2) (s : State) : Host.Outcome State Fault Refusal :=
  .next (onCore (opMonRecalDue b.val conv.val) s)

/-- OFFSET and GAIN from the sums of a recalibration; a mean or quotient that is not whole is rounded to one of its neighbours
(log entry 1). -/
def recalValues (b : Nat) (r : Recal) (k : Core) : (Int × Int) × Core :=
  let e := signed (regFld k (blockReg b 0xB34) 23 0) 24
  let o := roundFree (r.groundSum / 32) (r.groundSum % 32 == 0) k
  let den := r.refSum - r.groundSum
  let num := 2 ^ 22 * 32 * e
  let g := roundFree (num / den) (num % den == 0) o.2
  ((o.1, g.1), g.2)

/-- Are new coefficients within R235's limits of the old: 8 LSB of OFFSET and 0.05 % of GAIN? -/
def recalOk (old : Word × Word) (new : Int × Int) : Bool :=
  decide ((new.1 - signed (fld old.1 23 0) 24).natAbs ≤ 8)
    && decide ((new.2 - (fld old.2 23 0 : Nat)).natAbs * 2000 ≤ fld old.2 23 0)

/-- The recalibration of a converter ends with its old coefficients kept and CAL_REJECT recorded. -/
def rejectRecal (b i : Nat) (k : Core) : Core :=
  let x := convOf k b i
  recordCause (blockReg b 0x438) 3 (setConv b i { x with recal := none, queue := x.queue.filter (fun q => match q.1 with
    | .recal _ => false
    | _ => true) } k)

/-- MON_RECAL: the 64 conversions are complete; coefficients within the limits are written and are no default any more (R478). -/
def opMonRecal (b i : Nat) (k : Core) : Core :=
  let x := convOf k b i
  match x.recal with
  | none => k
  | some r =>
    if r.refs < 32 then k
    else
      let v := recalValues b r k
      if r.refSum ≠ r.groundSum ∧ recalOk (convCorr k b i) v.1 then
        setDefaulted b (blockQuantity i) false
          (setReg (blockReg b (0x428 + 8 * i)) (BitVec.ofNat 32 (unsigned v.1.1 24))
            (setReg (blockReg b (0x42C + 8 * i)) (BitVec.ofNat 32 (unsigned v.1.2 24)) (setConv b i { x with recal := none } v.2)))
      else rejectRecal b i v.2

/-- Meaning of MON_RECAL (R235). -/
def execMonRecal (b : Block) (conv : Fin 2) (s : State) : Host.Outcome State Fault Refusal :=
  .next (onCore (opMonRecal b.val conv.val) s)

/-- MON_RECAL_TIMEOUT: the 64 conversions are not complete within 1 ms. -/
def opMonRecalTimeout (b i : Nat) (k : Core) : Core :=
  match (convOf k b i).recal with
  | some r => if r.refs < 32 ∧ r.due + msTicks 1 ≤ k.clock.uptime then rejectRecal b i k else k
  | none => k

/-- Meaning of MON_RECAL_TIMEOUT (R235). -/
def execMonRecalTimeout (b : Block) (conv : Fin 2) (s : State) : Host.Outcome State Fault Refusal :=
  .next (onCore (opMonRecalTimeout b.val conv.val) s)

/-! ### Opcodes (Table COMM-6) -/

/-- The block that a block command targets. -/
def targetBlock (c : Cmd) : Nat :=
  match pageOf c.target.toNat with
  | some (.block b) => b
  | _ => 0

/-- The pairs of a COMM_ROUTE_SET. -/
def commRoutePairs (c : Cmd) : List (Nat × Word) :=
  ([0x300, 0x304, 0x308, 0x30C, 0x310, 0x314, 0x360].map (blockReg (targetBlock c))).zip c.params

/-- COMM_ROUTE_SET (0x0701). -/
def opCommRouteSet : OpDef where
  opcode := 0x0701
  stage := true
  target := isBlock
  params := fun c s => firstSome [exactly 7 c, pairsRequest c s (commRoutePairs c)]
  covers := fun c _ => (commRoutePairs c).map Prod.fst
  state := fun c s => pairsState c s (commRoutePairs c)
  run := fun c n s => runPairs c n (commRoutePairs c) [] s

/-- Meaning of COMM_ROUTE_SET (R214, R237). -/
def execCommRouteSet (c : Cmd) (s : State) : Host.Outcome State Fault Refusal := .next (takeCmd opCommRouteSet c s)

/-- The pairs of a WDAC_SET. -/
def wdacPairs (c : Cmd) : List (Nat × Word) :=
  ([0, 4, 8, 0xC, 0x10].map (wdacReg (targetBlock c) (pn c.params 0))).zip (c.params.drop 1)

/-- WDAC_SET (0x0702). -/
def opWdacSet : OpDef where
  opcode := 0x0702
  stage := true
  target := isBlock
  params := fun c s => firstSome [exactly 6 c, inRange (pn c.params 0) 0 1, pairsRequest c s (wdacPairs c)]
  covers := fun c _ => (wdacPairs c).map Prod.fst
  state := fun c s => pairsState c s (wdacPairs c)
  run := fun c n s => runPairs c n (wdacPairs c) [] s

/-- Meaning of WDAC_SET (R219, R237). -/
def execWdacSet (c : Cmd) (s : State) : Host.Outcome State Fault Refusal := .next (takeCmd opWdacSet c s)

/-- The parameter checks of MON_SCHEDULE_SET: the converter, LEN entries, and their CLASS and INPUT. -/
def scheduleRequest (c : Cmd) (_ : State) : Option Status :=
  let len := fld (pw c.params 1) 21 16
  firstSome
    [ refuseIf (decide (c.params.length < 2)) stLength, inRange (pn c.params 0) 0 1, inRange len 1 32, exactly (2 + len) c
    , refuseIf ((c.params.drop 2).any (fun w => decide (3 < fld w 31 29) || !inputOk (fld w 8 0))) stParameter ]

/-- A converter's schedule replaced (Table COMM-6): it stops, its results reset to 0, and it restarts at entry 0 when EN is 1. -/
def replaceSchedule (b i : Nat) (w : Word) (l : List Word) (k : Core) : Core :=
  let k1 := setConv b i { convOf k b i with pending := none } (setReg (schedReg b i) (w &&& 0x803F3000#32) k)
  let k2 := l.zipIdx.foldl (fun acc e => setReg (entryReg b i e.2) (e.1 &&& 0xE00001FF#32) acc) k1
  startSchedule b i ((List.range 32).foldl (fun acc e => setReg (blockReg b (0x600 + 0x80 * i + 4 * e)) 0 acc) k2)

/-- MON_SCHEDULE_SET (0x0703). -/
def opMonScheduleSet : OpDef where
  opcode := 0x0703
  target := isBlock
  params := scheduleRequest
  state := fun c s => unitRefusal s.core c.target.toNat
  run := fun c _ s => .done stDone [] (onCore (replaceSchedule (targetBlock c) (pn c.params 0) (pw c.params 1) (c.params.drop 2)) s)

/-- Meaning of MON_SCHEDULE_SET (R227, R237). -/
def execMonScheduleSet (c : Cmd) (s : State) : Host.Outcome State Fault Refusal := .next (takeCmd opMonScheduleSet c s)

/-- MON_READ (0x0705). -/
def opMonRead : OpDef where
  opcode := 0x0705
  read := true
  target := isBlock
  params := fun c _ => firstSome
    [ exactly 3 c, inRange (pn c.params 0) 0 1, inRange (pn c.params 2) 1 32, inRange (pn c.params 1 + pn c.params 2) 1 32 ]
  state := fun c s => unitRefusal s.core c.target.toNat
  run := fun c _ s => .done stDone ((List.range (pn c.params 2)).map (fun i =>
    readReg s.core (blockReg (targetBlock c) (0x600 + 0x80 * pn c.params 0 + 4 * (pn c.params 1 + i))))) s

/-- Meaning of MON_READ (R237). -/
def execMonRead (c : Cmd) (s : State) : Host.Outcome State Fault Refusal := .next (takeCmd opMonRead c s)

end Sys2Proof.Machine
end

