-- ==== Sys2Proof/Machine/FabCmds.lean ====
section
/-! DEFINITION. Configuration images and their loads (R278 to R282), and the fabric opcodes (Table FAB-12). -/

namespace Sys2Proof.Machine

/-! ### Images (Tables FAB-6 to FAB-8) -/

/-- Where an image stands: the archive, or the QDR SRAM of a region, from a byte address. -/
structure ImageAt where
  kind : Nat
  region : Nat
  addr : Nat
deriving DecidableEq, Repr

/-- The memory and the key at which an image begins. -/
def imageBase (s : State) (im : ImageAt) : Memory × Nat :=
  if im.kind = 0 then (s.arc, im.addr) else (s.qdr, qdrKey im.region im.addr)

/-- A word of an image. -/
def imageWord (s : State) (im : ImageAt) (off : Nat) : Word := readWord (imageBase s im).1 ((imageBase s im).2 + off)

/-- Bytes of an image. -/
def imageBytes (s : State) (im : ImageAt) (off n : Nat) : List Byte := readBytes (imageBase s im).1 ((imageBase s im).2 + off) n

/-- The image length of its header. -/
def imageLen (s : State) (im : ImageAt) : Nat := (imageWord s im 8).toNat

/-- The regions present in an image, in ascending order. -/
def imageRegions (s : State) (im : ImageAt) : List Nat := bitList (imageWord s im 0xC).toNat 8

/-- The offset of the section of the `i`-th region present. -/
def sectionOff (i : Nat) : Nat := 0x100 + 134400 * i

/-- A section of an image as a plane: its bytes that are not zero, and the image's build ID. -/
def sectionPlane (s : State) (im : ImageAt) (i : Nat) : Plane :=
  let base := (imageBase s im).2 + sectionOff i
  { bytes := ((imageBase s im).1.filter (fun e => decide (base ≤ e.1) && decide (e.1 < base + 134400))).map (fun e => (e.1 - base, e.2))
    build := (imageWord s im 0x18).toNat + 2 ^ 32 * (imageWord s im 0x1C).toNat }

/-! ### Load checks (Table FAB-9) -/

/-- HEADER: the magic, format, FAMILY or MEMBER is wrong, or the length does not match the regions present. -/
def headerBad (s : State) (im : ImageAt) : Bool :=
  let order := reg s.core 0x81F00004
  imageWord s im 0 != 0x4E524931
    || imageWord s im 4 != BitVec.ofNat 32 (0x10000 + 2 ^ 8 * fld order 31 24 + fld order 23 16)
    || imageLen s im != 0x100 + 134400 * (imageRegions s im).length + 128

/-- SIGNATURE: the key index is above 3, the key is revoked, or the signature over every byte before it does not verify (R491). -/
def signatureBad (s : State) (im : ImageAt) : Bool :=
  let key := (imageWord s im 0x14).toNat
  decide (3 < key) || regBit s.core 0x8BF00000 (20 + key)
    || !Config.verify key (imageBytes s im 0 (imageLen s im - 128)) (imageBytes s im (imageLen s im - 128) 96)

/-- ROLLBACK: the security version is below the FABRIC counter (R491). -/
def rollbackBad (s : State) (im : ImageAt) : Bool :=
  decide ((imageWord s im 0x10).toNat < regFld s.core 0x8BF00010 22 16)

/-- SECTION_CRC: the CRC of a section does not match (Table FAB-7). -/
def sectionCrcBad (s : State) (im : ImageAt) (i : Nat) : Bool :=
  imageWord s im (sectionOff i + 4) != crc32c (imageBytes s im (sectionOff i + 0x100) (134400 - 0x100))

/-- A segment word with a reserved bit, a reserved candidate (from `n` on), or REG = 1 with no tree (R263, R265). -/
def segReserved (w : Word) (n : Nat) : Bool :=
  fld w 11 0 != 0 || decide (2 ^ n ≤ fld w 31 16) || (bit w 15 && fld w 14 13 == 0)

/-- A cell frame with a reserved bit or a reserved input code (Table FAB-1). -/
def frameReserved (p : Plane) (b c : Nat) : Bool :=
  let w1 := frameWord p b c 1
  fld (frameWord p b c 0) 11 0 != 0 || (w1 &&& 0xE0E0E0E0#32) != 0
    || (List.range 4).any (fun i => decide (21 < fld w1 (8 * i + 4) (8 * i)))
    || frameWord p b c 2 != 0 || frameWord p b c 3 != 0

/-- An output map entry with a reserved bit, or that names a long segment above 255 (Table FAB-8). -/
def mapReserved (m : Nat) : Bool := m != 0xFFFF && (m / 2 ^ 11 % 16 != 0 || (m.testBit 15 && decide (255 < m % 2048)))

/-- A block section with a reserved field or code set (Table FAB-8). -/
def blockReserved (p : Plane) (b : Nat) : Bool :=
  (treesWord p b &&& ~~~0x33#32) != 0
    || (List.range 31).any (fun i => secWord p (blockOff b + 0x84 + 4 * i) != 0)
    || (List.range 64).any (fun o => mapReserved (mapEntry p b o))
    || (List.range 512).any (frameReserved p b)
    || (List.range 2048).any (fun s => segReserved (segWord p b s) 13)

/-- A region section with a reserved field or code set (Table FAB-7). -/
def sectionReserved (p : Plane) : Bool :=
  fld (secWord p 0) 31 3 != 0
    || [1, 2, 3].any (fun i => fld (declWord p i) 31 30 == 3 || fld (declWord p i) 29 28 != 0)
    || (List.range 59).any (fun i => secWord p (0x14 + 4 * i) != 0)
    || (List.range 256).any (fun l => segReserved (longWord p l) 8)
    || (List.range 8).any (blockReserved p)

/-- RESERVED: a reserved field or code of the header, of a section or after the signature is set. -/
def reservedSet (s : State) (im : ImageAt) : Bool :=
  fld (imageWord s im 0xC) 31 8 != 0
    || (List.range 56).any (fun i => imageWord s im (0x20 + 4 * i) != 0)
    || (List.range 8).any (fun i => imageWord s im (imageLen s im - 32 + 4 * i) != 0)
    || (List.range (imageRegions s im).length).any (fun i => sectionReserved (sectionPlane s im i))

/-- Has a driver select two or more bits set (R264)? -/
def twoDrivers (w : Word) : Bool := decide (1 < (bitList (fld w 31 16) 16).length)

/-- TWO_DRIVERS in a section. -/
def sectionTwoDrivers (p : Plane) : Bool :=
  (List.range 256).any (fun l => twoDrivers (longWord p l))
    || (List.range 8).any (fun b => (List.range 2048).any (fun s => twoDrivers (segWord p b s)))

/-- COMB_LOOP in a section: a closed path through segments and LUTs without a flop or wire register. -/
def sectionLoop (p : Plane) : Bool :=
  !((List.range 256).all (fun l => fabAcyclic p fabFuel (.long l))
    && (List.range 8).all (fun b => (List.range 2048).all (fun s => fabAcyclic p fabFuel (.seg b s))
      && (List.range 512).all (fun c => fabAcyclic p fabFuel (.lut b c))))

/-- The first failed check of a load whose data have arrived, by its code; TRANSFER is no check of the data. -/
def loadFailure (s : State) (regions : Nat) (im : ImageAt) : Option Nat :=
  let present := imageRegions s im
  let parts := (List.range present.length).map (sectionPlane s im)
  if headerBad s im then some 1
  else if signatureBad s im then some 2
  else if rollbackBad s im then some 3
  else if (bitList regions 8).any (fun r => !present.contains r) then some 4
  else if (List.range present.length).any (sectionCrcBad s im) then some 6
  else if reservedSet s im then some 7
  else if parts.any sectionTwoDrivers then some 8
  else if parts.any sectionLoop then some 9
  else none

/-- TRANSFER: a block of the load has failed for good (R300), or its source holds a block that cannot be read (Table MEM-2). -/
def loadUnread (s : State) (ticket : Word) (im : ImageAt) : Bool :=
  (amGet? s.core.mem.xfers ticket.toNat).any (fun x => decide (4 ≤ x.attempts))
    || (if im.kind = 0 then arcBadIn s.core im.addr (imageLen s im) || arcFailed s.core im.addr (imageLen s im)
        else qdrBadIn s.core im.region im.addr (imageLen s im))

/-- Have all blocks of a load arrived? -/
def loadArrived (k : Core) (ticket : Word) : Bool :=
  (amGet? k.mem.xfers ticket.toNat).any (fun x => x.seq == x.blocks)

/-! ### The outcome of a load (R280, Table FAB-10) -/

/-- The section of an image for a region. -/
def regionPlane (s : State) (im : ImageAt) (r : Nat) : Plane := sectionPlane s im ((imageRegions s im).findIdx (fun x => x == r))

/-- A region's shadow becomes LOADED: OK is written to LOAD_RESULT and LOAD_DONE is recorded. -/
def shadowLoaded (r : Nat) (p : Plane) (k : Core) : Core :=
  match (fabOf k r).shadow with
  | some sh =>
    recordCause (treeReg r 0x218) 0 (setRegFld (fabStatus r) 23 16 0 (setShadow r 2
      (setFab r { fabOf k r with shadow := some { sh with plane := some p } } k)))
  | none => k

/-- LOAD_DONE: every check of the load passes, every masked region's shadow becomes LOADED, and the load's ticket is DONE. -/
def opLoadDone (ticket : Word) (s : State) : State :=
  match workOf s.core ticket with
  | some (.fabLoad regions kind source addr _) =>
    let im : ImageAt := ⟨kind, source, addr⟩
    if loadArrived s.core ticket ∧ ¬ loadUnread s ticket im ∧ loadFailure s regions im = none then
      onCore (fun k => completeTicket ticket stDone []
        ((bitList regions 8).foldl (fun acc r => shadowLoaded r (regionPlane s im r) acc) (dropXfer ticket k))) s
    else s
  | _ => s

/-- Meaning of LOAD_DONE (R280, R282). -/
def execLoadDone (ticket : Word) (s : State) : Host.Outcome State Fault Refusal := .next (opLoadDone ticket s)

/-- The status of a rejected load by its code: classes 0x01xx, 0x04xx and 0x05xx of Table FAB-9. -/
def loadStatus (code : Nat) : Status :=
  match code with
  | 2 => stSignature
  | 3 => stRollback
  | 5 => stTransfer
  | _ => stParameter

/-- A region's shadow is discarded with a load's code, and LOAD_REJECT is recorded. -/
def shadowRejected (code r : Nat) (k : Core) : Core :=
  recordCause (treeReg r 0x218) 1 (setRegFld (fabStatus r) 23 16 code (setShadow r 0
    (setFab r { fabOf k r with shadow := none } k)))

/-- Is a code the first failed check of a load (R280)? -/
def loadFailsWith (s : State) (ticket : Word) (regions : Nat) (im : ImageAt) (code : Nat) : Bool :=
  if loadUnread s ticket im then code == 5 else loadFailure s regions im == some code

/-- LOAD_REJECT: a check of the load fails; every masked region's shadow is discarded, a failed signature or rollback check
records IMAGE_REJECT (R491), and the load's ticket completes. Its folio refuses at its vote, where no shadow is LOADED. -/
def opLoadReject (ticket : Word) (code : Nat) (s : State) : State :=
  match workOf s.core ticket with
  | some (.fabLoad regions kind source addr _) =>
    if loadFailsWith s ticket regions ⟨kind, source, addr⟩ code then
      onCore (fun k =>
        let k1 := (bitList regions 8).foldl (fun acc r => shadowRejected code r acc) (dropXfer ticket k)
        completeTicket ticket (loadStatus code) [] (if code = 2 ∨ code = 3 then recordCause 0x8BF00030 2 k1 else k1)) s
    else s
  | _ => s

/-- Meaning of LOAD_REJECT (R280). -/
def execLoadReject (ticket : Word) (code : Fin 10) (s : State) : Host.Outcome State Fault Refusal :=
  .next (opLoadReject ticket code.val s)

/-! ### Opcodes -/

/-- An open folio takes part in a load or unload of regions; a reservation of the session that covers them binds it (R344). -/
def joinFab (folio : Word) (session regions : Nat) (k : Core) : Core :=
  match openFolio k folio with
  | some (slot, f) =>
    let covers := (k.stw.reservations.filter (fun e => e.2.session == session
      && (bitList regions 8).any (fun r => resCovers e.2 (fabStatus r)))).map Prod.fst
    setFolio slot { f with fab := f.fab ||| regions, bound := covers ++ f.bound.filter (fun x => !covers.contains x) } k
  | none => k

/-- Refusals by state of a load or unload: no folio ID, a folio that is not open, a region asleep or fenced, or a shadow that is
not EMPTY (R279). -/
def shadowRefusal (c : Cmd) (s : State) : Option Status :=
  firstSome
    [ refuseIf (c.folio == 0) stState, refuseIf (openFolio s.core c.folio).isNone stFolio
    , firstSome ((wordRegions (pw c.params 0)).map (fun r => unitRefusal s.core (fabStatus r)))
    , refuseIf ((wordRegions (pw c.params 0)).any (fun r => regFld s.core (fabStatus r) 3 2 != 0)) stState ]

/-- The image that a FAB_LOAD names: region mask; source kind; source region; address. -/
def loadImage (c : Cmd) : ImageAt := ⟨pn c.params 1, pn c.params 2, pn64 c.params 3⟩

/-- A load begins in a region: its shadow is LOADING. -/
def startShadow (folio ticket : Word) (r : Nat) (k : Core) : Core :=
  setShadow r 1 (setFab r { fabOf k r with shadow := some { folio := folio, ticket := ticket, plane := none } } k)

/-- A load begins: the shadows are LOADING, the folio takes part, and the image's blocks are on their way. -/
def startLoad (c : Cmd) (session : Nat) (id : Word) (s : State) : State :=
  onCore (fun k =>
    let k1 := (wordRegions (pw c.params 0)).foldl (fun acc r => startShadow c.folio id r acc) k
    joinFab c.folio session (pn c.params 0) { k1 with mem := { k1.mem with
      xfers := amSet k1.mem.xfers id.toNat { seq := 0, blocks := ceilDiv (imageLen s (loadImage c)) 256, attempts := 0 } } }) s

/-- The costs of a load's source under TD (R281, Table MEM-4). -/
def imageCosts (c : Cmd) (s : State) : List (Nat × Nat) :=
  if pn c.params 1 = 0 then [(arcPage, ceilDiv (imageLen s (loadImage c)) 256)]
  else [(arbReg (pn c.params 2) 0, ceilDiv (imageLen s (loadImage c)) 8)]

/-- FAB_LOAD (0x0801). -/
def opFabLoad : OpDef where
  opcode := 0x0801
  stage := true
  archive := fun c => pn c.params 1 == 0
  params := fun c s => firstSome [exactly 5 c, regionMask (pw c.params 0), inRange (pn c.params 1) 0 1,
    refuseIf (if pn c.params 1 = 0 then decide (arcCapacity s.core.order ≤ pn64 c.params 3)
      else decide (7 < pn c.params 2) || decide (2 ^ 26 ≤ pn64 c.params 3)) stParameter]
  covers := fun c _ => (wordRegions (pw c.params 0)).map fabStatus
  state := shadowRefusal
  run := fun c n s => .ticketed (.fabLoad (pn c.params 0) (pn c.params 1) (pn c.params 2) (pn64 c.params 3) c.folio)
    (readyTick s.core 3 (imageCosts c s)) [] (startLoad c n)

/-- Meaning of FAB_LOAD (R279, R280). -/
def execFabLoad (c : Cmd) (s : State) : Host.Outcome State Fault Refusal := .next (takeCmd opFabLoad c s)

/-- An unload is staged in a region: its shadow is LOADED and holds no configuration. -/
def stageUnload (folio : Word) (r : Nat) (k : Core) : Core :=
  setShadow r 2 (setFab r { fabOf k r with shadow := some { folio := folio, ticket := 0, plane := none } } k)

/-- FAB_UNLOAD (0x0802). -/
def opFabUnload : OpDef where
  opcode := 0x0802
  stage := true
  params := fun c _ => firstSome [exactly 1 c, regionMask (pw c.params 0)]
  covers := fun c _ => (wordRegions (pw c.params 0)).map fabStatus
  state := shadowRefusal
  run := fun c n s => .done stAccepted ticketZero (onCore (fun k =>
    joinFab c.folio n (pn c.params 0) ((wordRegions (pw c.params 0)).foldl (fun acc r => stageUnload c.folio r acc) k)) s)

/-- Meaning of FAB_UNLOAD (R282, R290). -/
def execFabUnload (c : Cmd) (s : State) : Host.Outcome State Fault Refusal := .next (takeCmd opFabUnload c s)

/-- FAB_STATUS_READ (0x0803). -/
def opFabStatusRead : OpDef where
  opcode := 0x0803
  read := true
  params := fun c _ => firstSome [exactly 1 c, regionMask (pw c.params 0)]
  state := fun c s => firstSome ((wordRegions (pw c.params 0)).map (fun r => unitRefusal s.core (fabStatus r)))
  run := fun c _ s => .done stDone ((wordRegions (pw c.params 0)).flatMap (fun r =>
    [0x200, 0x204, 0x208].map (fun o => readReg s.core (treeReg r o)))) s

/-- Meaning of FAB_STATUS_READ (R290). -/
def execFabStatusRead (c : Cmd) (s : State) : Host.Outcome State Fault Refusal := .next (takeCmd opFabStatusRead c s)

end Sys2Proof.Machine
end

