-- ==== Sys2Proof/Machine/Calib.lean ====
section
/-! DEFINITION. Calibration: quantities and their limits, SELFCAL, background turns, the calibration store, and the opcodes of
Table CAL-10 (R460 to R482). -/

namespace Sys2Proof.Machine

/-! ### Quantities (Tables CAL-1 and CAL-8) -/

/-- The register of word `j` of a block's data (Table CAL-8); none for valid and reserved words. -/
def dataReg (b j : Nat) : Option Nat :=
  if j < 544 then
    let c := cellOfBlock b (j / 32)
    let o := j % 32
    if o < 18 then some (cellReg c (0x400 + 4 * o))
    else if o = 18 then some (cellReg c 0x60)
    else if o < 31 then some (cellReg c (0xA0 + 4 * (o - 19)))
    else none
  else if j < 560 then some (cellReg (cellOfBlock b 16) (0x100 + 4 * (j - 544)))
  else if j < 564 then some (blockReg b (0x428 + 4 * (j - 560)))
  else if j = 564 then some (blockReg b 0xB34)
  else if j < 574 then some (blockReg b (0xB10 + 4 * (j - 565)))
  else none

/-- The words of a block's data that hold quantity `q`, numbered by valid bits: cells first, then the block's. -/
def quantWords (q : Nat) : List Nat :=
  if q < 544 then
    if q % 32 < 19 then [q]
    else [q / 32 * 32 + 19 + 2 * (q % 32 - 19), q / 32 * 32 + 20 + 2 * (q % 32 - 19)]
  else
    let i := q - 544
    if i < 2 then [560 + 2 * i, 561 + 2 * i]
    else if i < 12 then [564 + (i - 2)]
    else [544 + (i - 12)]

/-- The quantities of a block. -/
def blockQuantities : List Nat :=
  (List.range 17).flatMap (fun c => (List.range 25).map (cellQuantity c)) ++ (List.range 28).map blockQuantity

/-- The default of word `j` (R477). -/
def dataDefault (j : Nat) : Word :=
  if j < 544 then
    if j % 32 = 17 then 0x20
    else if 19 ≤ j % 32 ∧ j % 32 < 31 ∧ j % 32 % 2 = 0 then 0x400000
    else 0
  else if j = 561 ∨ j = 563 then 0x400000
  else if j = 564 then 0x4000
  else 0

/-- The number of a calibrated quantity. -/
def quantityNo (q : CalQuantity) : Nat :=
  match q with
  | .level c t => cellQuantity c.val t.val
  | .drive c => cellQuantity c.val 17
  | .deskew c => cellQuantity c.val 18
  | .spareDeskew p => blockQuantity (12 + p.val)
  | .meas c r => cellQuantity c.val (19 + r.val)
  | .conv i => blockQuantity i.val
  | .wtrim i => blockQuantity (3 + i.val)
  | .atrim => blockQuantity 7
  | .mtrim i => blockQuantity (8 + i.val)

/-- The cell of a block whose value a quantity is; the positions of SPARE_DESKEW are the spare's. -/
def quantityCell (q : CalQuantity) : Option Nat :=
  match q with
  | .level c _ | .drive c | .deskew c | .meas c _ => some c.val
  | .spareDeskew _ => some 16
  | .conv _ | .wtrim _ | .atrim | .mtrim _ => none

/-! ### Plausibility (Table CAL-3) -/

/-- GAIN of a trim word, signed. -/
def trimGain (w : Word) : Int := signed (fld w 31 20) 12

/-- OFFSET of a trim word, signed. -/
def trimOffset (w : Word) : Int := signed (fld w 15 0) 16

/-- Is a quantity's change at most `num / den` of 2^20 units? -/
def atMost (x : Int) (num den : Nat) : Bool := decide (x.natAbs * den ≤ num * 2 ^ 20)

/-- The shift at 0 V, in 2^−20 mV, from one trim to another of a DAC with a span of `width` mV that begins `low` mV below zero
(R461). -/
def trimShift (low width : Nat) (old new : Word) : Int :=
  16 * low * (trimGain new - trimGain old) + width * (trimOffset new - trimOffset old)

/-- The low end below zero and the width of the span of LEVEL_TRIM `t`, in mV, or in mA for IOH and IOL. -/
def trimSpan (t : Nat) : Nat × Nat :=
  if t < 12 then (if t % 2 = 0 then (1000, 5500) else (500, 2000))
  else if t < 14 then (0, 24)
  else if t = 14 then (0, 7000)
  else if t = 15 then (2000, 5000)
  else (2000, 9000)

/-- The limits of a level DAC's trim: 0.50 % or 0.05 % of gain, and its row of offset. -/
def levelOk (sel : Bool) (t : Nat) (old new : Word) : Bool :=
  let shift := trimShift (trimSpan t).1 (trimSpan t).2 old new
  decide (((trimGain new - trimGain old).natAbs * (if sel then 200 else 2000) : Int) ≤ 65536 + trimGain old)
    && (if t = 12 ∨ t = 13 then atMost shift 1 (if sel then 5 else 50)
        else if t = 14 ∨ t = 15 then atMost shift 50 1
        else atMost shift (if sel then 10 else 1) 1)

/-- A deskew within 25 ps or 2 ps, in units of 250 fs. -/
def deskewOk (sel : Bool) (old new : Word) : Bool :=
  decide ((signed (fld new 16 0) 17 - signed (fld old 16 0) 17).natAbs ≤ (if sel then 100 else 8))

/-- A difference of two OFFSET words. -/
def offsetStep (old new : Word) : Nat := (signed (fld new 23 0) 24 - signed (fld old 23 0) 24).natAbs

/-- A GAIN within 0.5 % or 0.05 % of another. -/
def gainOk (sel : Bool) (old new : Word) : Bool :=
  decide ((((fld new 23 0 : Nat) : Int) - (fld old 23 0 : Nat)).natAbs * (if sel then 200 else 2000) ≤ fld old 23 0)

/-- The amplifier offsets within 10.0 mV, byte by byte in units of 50 µV. -/
def atrimOk (old new : Word) : Bool :=
  (List.range 4).all (fun i =>
    decide ((signed (fld new (8 * i + 7) (8 * i)) 8 - signed (fld old (8 * i + 7) (8 * i)) 8).natAbs ≤ 200))

/-- Is a new value within the limits of Table CAL-3 against a word, and the GAIN word beside it? `sel` is SELFCAL's column; a
quantity that the background column leaves out has none there. -/
def plausible (sel : Bool) (q : CalQuantity) (old oldGain new gain : Word) : Bool :=
  match q with
  | .level _ t => (sel || (t.val != 14 && t.val != 15)) && levelOk sel t.val old new
  | .drive _ => decide (((fld new 5 0 : Int) - (fld old 5 0 : Nat)).natAbs ≤ (if sel then 15 else 2))
  | .deskew _ | .spareDeskew _ => deskewOk sel old new
  | .meas _ _ => decide (offsetStep old new * (if sel then 200 else 5000) ≤ 2 ^ 22) && gainOk sel oldGain gain
  | .conv _ => sel && decide (offsetStep old new ≤ 64) && gainOk true oldGain gain
  | .wtrim i => sel && atMost (trimShift (if i.val % 2 = 0 then 1000 else 500) (if i.val % 2 = 0 then 5500 else 2000) old new) 10 1
  | .atrim => sel && atrimOk old new
  | .mtrim _ => sel && atMost (trimShift 2500 10000 old new) 10 1

/-! ### The store (R473, R474) -/

/-- The words of a record. -/
def recordLen : Nat := 36992

/-- A valid word with every bit: 25 quantities of a cell, 28 of the block. -/
def validAll (j : Nat) : Word := if j = 574 then 0x0FFFFFFF else 0x01FFFFFF

/-- Is word `j` of a block's data a valid word? -/
def isValidWord (j : Nat) : Bool := (decide (j < 544) && j % 32 == 31) || j == 574

/-- A record's header: magic, format and slot, serial, tick and temperature. -/
def headerWord (k : Core) (slot tick : Nat) (temp : Word) (i : Nat) : Word :=
  match i with
  | 0 => 0x43414C31
  | 1 => BitVec.ofNat 32 (0x10000 + slot)
  | 2 => reg k 0x8BF00004
  | 3 => reg k 0x8BF00008
  | 4 => BitVec.ofNat 32 tick
  | 5 => BitVec.ofNat 32 (tick / 2 ^ 32)
  | 6 => temp
  | _ => 0

/-- A record of a header and block data, with its CRC and the reserved words after it (Table CAL-7). -/
def recordOf (header : Nat → Word) (data : Nat → Nat → Word) : List Word :=
  let body := (List.range 64).map header ++ (List.range 64).flatMap (fun b => (List.range 576).map (data b))
  body ++ crc32c (bytesOf body) :: List.replicate 63 0

/-- The factory record: every quantity valid, at its default value (log entry 7). -/
def factoryRecord (k : Core) : List Word :=
  recordOf (headerWord k 0 0 0) (fun _ j => if isValidWord j then validAll j else dataDefault j)

/-- A word of a slot's record as stored. -/
def slotWord (k : Core) (slot i : Nat) : Word :=
  match amGet? k.cal.words (65536 * slot + i) with
  | some w => w
  | none => if slot = 0 then (factoryRecord k).getD i 0 else 0

/-- A slot's record as stored. -/
def recordWords (k : Core) (slot : Nat) : List Word :=
  let base := if slot = 0 then factoryRecord k else List.replicate recordLen 0
  base.zipIdx.map (fun e => (amGet? k.cal.words (65536 * slot + e.2)).getD e.1)

/-- A slot's commit row: bit `i` is cell `i`. -/
def commitRow (k : Core) (slot : Nat) : Nat := amGetD k.cal.commits slot 0

/-- A slot's state (Table CAL-6): 0 BLANK, 1 CONSUMED, 2 COMMITTED, 3 BROKEN. -/
def classify (k : Core) (slot : Nat) : Nat :=
  let l := recordWords k slot
  if commitRow k slot ≠ 2 ^ 32 - 1 then (if commitRow k slot = 0 ∧ l.all (· == 0) then 0 else 1)
  else if l.getD 0 0 = 0x43414C31 ∧ l.getD 2 0 = reg k 0x8BF00004 ∧ l.getD 3 0 = reg k 0x8BF00008
    ∧ l.getD 36928 0 = crc32c (bytesOf (l.take 36928)) then 2
  else 3

/-- A slot's state in CAL_SLOT_STATE. -/
def slotState (k : Core) (slot : Nat) : Nat := regFld k 0x8DF00004 (2 * slot + 1) (2 * slot)

/-- The slots that are free by CAL_SLOT_STATE: BLANK, and above every slot that is not. -/
def freeSlots (k : Core) : List Nat :=
  (List.range 13).filter (fun s => (List.range 13).all (fun t => t < s || slotState k t == 0))

/-- FREE_SLOTS and NO_SLOT follow CAL_SLOT_STATE (R473, R480). -/
def refreshFree (k : Core) : Core :=
  setRegFld 0x8DF00000 11 8 (freeSlots k).length (setRegBit 0x8DF00000 28 (freeSlots k).isEmpty k)

/-- The slots are classified, at start-up and after each store. -/
def classifySlots (k : Core) : Core :=
  refreshFree ((List.range 13).foldl (fun acc s => setRegFld 0x8DF00004 (2 * s + 1) (2 * s) (classify acc s) acc) k)

/-- The word of a slot's record that holds word `j` of a block's data. -/
def recordIndex (b j : Nat) : Nat := 64 + 576 * b + j

/-- Is a quantity valid in a slot's record (R474)? -/
def slotValid (k : Core) (slot b q : Nat) : Bool :=
  if q < 544 then bit (slotWord k slot (recordIndex b (q / 32 * 32 + 31))) (q % 32)
  else bit (slotWord k slot (recordIndex b 574)) (q - 544)

/-- A register that holds a calibrated word takes a value; MEAS_STATUS follows the coefficients (R195). -/
def putData (b j : Nat) (v : Word) (k : Core) : Core :=
  match dataReg b j with
  | some a => if j < 544 ∧ 19 ≤ j % 32 then refreshMeas b (j / 32) (setReg a v k) else setReg a v k
  | none => k

/-- A quantity is loaded from a slot's record. -/
def loadQuantity (slot b q : Nat) (k : Core) : Core :=
  (quantWords q).foldl (fun acc j => putData b j (slotWord k slot (recordIndex b j)) acc) (setDefaulted b q false k)

/-- A quantity takes its default (R477). -/
def defaultQuantity (b q : Nat) (k : Core) : Core :=
  (quantWords q).foldl (fun acc j => putData b j (dataDefault j) acc) (setDefaulted b q true k)

/-- Selection at start-up (R477): every quantity from the highest COMMITTED slot in which it is valid, or its default. -/
def selectQuantities (k : Core) : Core :=
  (List.range 64).foldl (fun acc b => blockQuantities.foldl (fun acc2 q =>
    match (List.range 13).reverse.find? (fun s => slotState k s == 2 && slotValid k s b q) with
    | some s => loadQuantity s b q acc2
    | none => defaultQuantity b q acc2) acc) k

/-- SLOT_SELECTION (R477, step 3 of Table PWR-9): the slots are classified, the quantities loaded, and CAL_STATUS follows. -/
def slotSelection (k : Core) : Core :=
  let k1 := selectQuantities (classifySlots k)
  let top := ((List.range 13).reverse.find? (fun s => slotState k1 s == 2)).getD 0
  let k2 := setRegBit 0x8DF00000 29 false (setRegFld 0x8DF00000 19 16 top k1)
  let k3 := if (List.range 13).any (fun s => slotState k2 s % 2 == 1) then recordCause 0x8DF00010 7 k2 else k2
  if slotState k3 0 ≠ 2 then recordCause 0x8DF00010 6 (setRegBit 0x8DF00000 27 true k3) else setRegBit 0x8DF00000 27 false k3

/-! ### Accepted and rejected values (R465, R466) -/

/-- The two words of a quantity under a reading: its own and the GAIN beside it. -/
def wordsUnder (view : Nat → Word) (q : CalQuantity) : Word × Word :=
  ((((quantWords (quantityNo q))[0]?).map view).getD 0, (((quantWords (quantityNo q))[1]?).map view).getD 0)

/-- The words of slot 0 that a SELFCAL value is checked against (R465). -/
def factoryWords (k : Core) (b : Nat) (q : CalQuantity) : Word × Word := wordsUnder (fun j => slotWord k 0 (recordIndex b j)) q

/-- The words in effect that a background value is checked against. -/
def wordsInEffect (k : Core) (b : Nat) (q : CalQuantity) : Word × Word :=
  wordsUnder (fun j => ((dataReg b j).map (reg k)).getD 0) q

/-- A value of a cell has been accepted: CAL_LAST takes the tick, and the cell is stale no more (R472). -/
def noteAccepted (c : Nat) (k : Core) : Core :=
  refreshStale c (setReg64 (cellReg c 0x448) k.clock.chron
    { k with cal := { k.cal with acceptedAt := amSet k.cal.acceptedAt c k.clock.uptime } })

/-- The key of a quantity's rejections in a row. -/
def rejectKey (v : CalValue) : Nat := 1024 * v.block.val + quantityNo v.quantity

/-- An accepted value replaces the value in effect. -/
def acceptValue (v : CalValue) (k : Core) : Core :=
  let b := v.block.val
  let ws := quantWords (quantityNo v.quantity)
  let k1 := (ws.zip [v.word, v.gain]).foldl (fun acc e => putData b e.1 e.2 acc) (setDefaulted b (quantityNo v.quantity) false k)
  let k2 := { k1 with cal := { k1.cal with rejects := amErase k1.cal.rejects (rejectKey v) } }
  match quantityCell v.quantity with
  | some i => noteAccepted (cellOfBlock b i) k2
  | none => k2

/-- A rejection counts in its block and in the module, and CAL_REJECT is recorded (R466). -/
def countReject (b : Nat) (k : Core) : Core :=
  recordCause 0x8DF00010 1 (countFld 0x8DF0000C 31 0 1 (countFld (blockReg b 0xB08) 31 16 1 k))

/-! ### SELFCAL (R462 to R464) -/

/-- Is a block held, itself or by its region (R442)? -/
def blockHeld (k : Core) (b : Nat) : Bool :=
  regBit k (0x89F00008 + 4 * (b / 32)) (b % 32) || regBit k 0x89F00010 (b / 8)

/-- The blocks of a SELFCAL: those of its mask, or for a mask of 0 every block neither held nor asleep. -/
def selfcalBlocks (k : Core) (mask : Nat) : List Nat :=
  if mask = 0 then (List.range 64).filter (fun b => !blockHeld k b && (unitRefusal k (blockReg b 0) != some stAsleep)
    && decide (2 ≤ domState k (2 * b)))
  else bitList mask 64

/-- Does a SELFCAL, CAL_STORE or CAL_REVERT run? -/
def calRunning (k : Core) : Bool := k.cal.selfcal.isSome || k.cal.store.isSome

/-- Does a PREPARED folio stage into a block? -/
def preparedInto (k : Core) (b : Nat) : Bool :=
  k.car.folios.any (fun e => e.2.state == .prepared && e.2.words.any (fun w => match pageOf w.1 with
    | some (.cell c) => blockOfCell c == b
    | some (.block b') => b' == b
    | _ => false))

/-- What bars a SELFCAL with STATE (R462). -/
def selfcalBarred (k : Core) (l : List Nat) : Bool :=
  regFld k 0x89F00000 31 30 != 3 || regBit k 0x89F00000 24 || calRunning k
    || l.any (fun b => engineBusy k (b / 8) || tenRole k (b / 8) == 1 || tenRole k (b / 8) == 3 || preparedInto k b
        || !timingReady k (b / 8))

/-- A SELFCAL starts: SELFCAL_BUSY. -/
def startSelfcal (l : List Nat) (id : Word) (k : Core) : Core :=
  let r : SelfcalRun :=
    { ticket := id, blocks := listBits l, start := k.clock.chron, step := 0, bad := 0, rejected := 0, accepted := false
      passed := false, faulted := [] }
  setRegBit 0x8DF00000 30 true { k with cal := { k.cal with selfcal := some r } }

/-- SELFCAL (0x0D01). -/
def opSelfcal : OpDef where
  opcode := 0x0D01
  target := isPage .cal
  params := fun c _ => exactly 2 c
  covers := fun c s => (selfcalBlocks s.core (pn64 c.params 0)).map (fun b => blockReg b 0)
  state := fun c s =>
    let l := selfcalBlocks s.core (pn64 c.params 0)
    firstSome
      [ refuseIf (l.any (fun b => blockHeld s.core b || domState s.core (2 * b) != 3 || domState s.core (2 * b + 1) != 3)) stAsleep
      , firstSome (l.map (fun b => unitRefusal s.core (blockReg b 0)))
      , refuseIf (selfcalBarred s.core l) stState ]
  run := fun c _ s => .ticketed .selfcal (s.core.clock.chron + msTicks 48) []
    (fun id s' => onCore (startSelfcal (selfcalBlocks s.core (pn64 c.params 0)) id) s')

/-- Meaning of SELFCAL (R462, R463). -/
def execSelfcal (c : Cmd) (s : State) : Host.Outcome State Fault Refusal := .next (takeCmd opSelfcal c s)

/-- Step 1 in a block: background calibration stops, a pin handed over for it returns, SELFCAL is marked, and every pin and
commons connection opens. The values that its registers hold are those saved for step 8. -/
def openBlock (b : Nat) (k : Core) : Core :=
  let k1 := if (amGet? k.handoffs b).any (fun h => h.reason == .calibration) then dropHandoff b k else k
  let k2 := if spareReason k1 b = 1 then spareReturns b k1 else k1
  refreshCommons b (refreshBlockPins b (setRegBit (blockReg b 0xB00) 8 true (endTurn b k2)))

/-- The outcome of step 2 for a converter (R464): bad, or good again. -/
def convPassed (b i : Nat) (ok : Bool) (k : Core) : Core :=
  if ok then refreshConvs b (setRegBit (blockReg b 0x408) (5 + i) false k) else markBad b i k

/-- The converters of the blocks under SELFCAL, as block and converter. -/
def runConvs (r : SelfcalRun) : List (Nat × Nat) := (bitList r.blocks 64).flatMap (fun b => [(b, 0), (b, 1)])

/-- One converter of step 2: its value if one was measured, and whether it failed otherwise. -/
def selfcalConv (results : List CalValue) (convBad : List (Block × Fin 2)) (e : Nat × Nat) (k : Core) : Core :=
  let bad := convBad.any (fun x => x.1.val == e.1 && x.2.val == e.2)
  match results.find? (fun v => v.block.val == e.1 && quantityNo v.quantity == blockQuantity e.2) with
  | some v =>
    let f := factoryWords k e.1 v.quantity
    if !bad && plausible true v.quantity f.1 f.2 v.word v.gain then convPassed e.1 e.2 true (acceptValue v k)
    else convPassed e.1 e.2 false (countReject e.1 k)
  | none => if bad then convPassed e.1 e.2 false (countReject e.1 k) else k

/-- The run with one more value judged. -/
def noteRun (b : Nat) (ok : Bool) (r : SelfcalRun) : SelfcalRun :=
  if ok then { r with accepted := true } else { r with bad := r.bad ||| 2 ^ b, rejected := r.rejected + 1 }

/-- The run replaced. -/
def setSelfcal (r : SelfcalRun) (k : Core) : Core := { k with cal := { k.cal with selfcal := some r } }

/-- Step 2: the converters of every named block (Table CAL-2). -/
def selfcalConverters (results : List CalValue) (convBad : List (Block × Fin 2)) (r : SelfcalRun) (k : Core) : Core :=
  let k1 := (runConvs r).foldl (fun acc e => selfcalConv results convBad e acc) k
  let failed := (runConvs r).filter (fun e => Sys2Proof.Machine.convBad k1 e.1 e.2)
  let done := (runConvs r).filter (fun e => !Sys2Proof.Machine.convBad k1 e.1 e.2
    && results.any (fun v => v.block.val == e.1 && quantityNo v.quantity == blockQuantity e.2))
  setSelfcal (done.foldl (fun acc e => noteRun e.1 true acc) (failed.foldl (fun acc e => noteRun e.1 false acc) r)) k1

/-- Is a value one that step 7 judges: of a named block with a good converter, and no converter's own? -/
def judged (r : SelfcalRun) (k : Core) (v : CalValue) : Bool :=
  r.blocks.testBit v.block.val && !(convBad k v.block.val 0 && convBad k v.block.val 1)
    && decide (blockQuantity 1 < quantityNo v.quantity ∨ quantityNo v.quantity < 544)

/-- Is a SELFCAL value within the limits against slot 0? -/
def selfcalOk (k : Core) (v : CalValue) : Bool :=
  plausible true v.quantity (factoryWords k v.block.val v.quantity).1 (factoryWords k v.block.val v.quantity).2 v.word v.gain

/-- The cells of the named blocks that step 7 passes: a good converter, no rejected value and no failed read-back. -/
def passedCells (r : SelfcalRun) (k : Core) (results : List CalValue) (fails : List Nat) : List Nat :=
  (bitList r.blocks 64).flatMap (fun b => if convBad k b 0 ∧ convBad k b 1 then [] else
    ((List.range 17).filter (fun i => !fails.contains (cellOfBlock b i) && !results.any (fun v =>
      judged r k v && v.block.val == b && quantityCell v.quantity == some i && !selfcalOk k v))).map (cellOfBlock b))

/-- Step 7: each result is checked, accepted values are applied together, and the DACs are read back. -/
def selfcalApply (results : List CalValue) (fails : List Nat) (r : SelfcalRun) (k : Core) : Core :=
  let l := results.filter (judged r k)
  let k1 := l.foldl (fun acc v => if selfcalOk k v then acceptValue v acc else countReject v.block.val acc) k
  let own := fails.filter (fun c => r.blocks.testBit (blockOfCell c) && !(convBad k (blockOfCell c) 0 && convBad k (blockOfCell c) 1))
  setSelfcal { l.foldl (fun acc v => noteRun v.block.val (selfcalOk k v) acc) r with
    faulted := own.eraseDups, passed := !(passedCells r k results own).isEmpty } k1

/-- The run one step on. -/
def nextStep (k : Core) : Core :=
  match k.cal.selfcal with
  | some r => setSelfcal { r with step := r.step + 1 } k
  | none => k

/-- SELFCAL_STEP: steps 1 to 7 of Table CAL-2 complete in order; steps 3 to 6 measure, and their results are judged in step 7. -/
def opSelfcalStep (results : List CalValue) (fails : List Nat) (convBad : List (Block × Fin 2)) (k : Core) : Core :=
  match k.cal.selfcal with
  | none => k
  | some r =>
    match r.step with
    | 0 => nextStep ((bitList r.blocks 64).foldl (fun acc b => openBlock b acc) k)
    | 1 => nextStep (selfcalConverters results convBad r k)
    | 6 => nextStep (selfcalApply results fails r k)
    | n => if n < 6 then nextStep k else k

/-- Meaning of SELFCAL_STEP (R463 to R466). -/
def execSelfcalStep (results : List CalValue) (readbackFails : List Cell) (convBad : List (Block × Fin 2)) (s : State) :
    Host.Outcome State Fault Refusal :=
  .next (onCore (opSelfcalStep results (readbackFails.map (fun c => c.val)) convBad) s)

/-- Step 8 in a block: pins and commons are restored, and the level writes that waited take effect (R464). -/
def restoreBlock (b : Nat) (k : Core) : Core :=
  let k1 := refreshCommons b (refreshBlockPins b (setRegBit (blockReg b 0xB00) 8 false k))
  (List.range 17).foldl (fun acc i => (List.range 11).foldl (fun acc2 d =>
    levelWrite (cellOfBlock b i) d (reg acc2 (cellReg (cellOfBlock b i) (dacOff d))) acc2) acc) k1

/-- A cell faulted by a failed read-back, FAULT_CODE 0x02 (R464, R466). -/
def readbackFault (c : Nat) (k : Core) : Core := anyCellFault c 2 k

/-- The result of a SELFCAL (R464). -/
def selfcalResult (r : SelfcalRun) : List Word :=
  words64 (r.blocks &&& (r.blocks ^^^ r.bad)) ++ words64 r.bad ++ [BitVec.ofNat 32 r.rejected, BitVec.ofNat 32 r.faulted.length]

/-- SELFCAL_DONE: step 8. -/
def opSelfcalDone (k : Core) : Core :=
  match k.cal.selfcal with
  | some r =>
    if r.step ≠ 7 ∨ r.restore then k
    else
      let k1 := (bitList r.blocks 64).foldl (fun acc b => restoreBlock b acc) { k with cal := { k.cal with selfcal := none } }
      let k2 := r.faulted.foldl (fun acc c => readbackFault c acc) k1
      let k3 := setRegBit 0x8DF00000 30 false (if r.passed then setRegBit 0x8DF00000 26 true k2 else k2)
      completeTicket r.ticket stDone (selfcalResult r)
        (recordCause 0x8DF00010 0 (if r.accepted then setRegBit 0x8DF00000 29 true k3 else k3))
  | none => k

/-! ### Background calibration (R467 to R472) -/

/-- Is a cell of a block eligible for its turn (R468)? -/
def turnEligible (k : Core) (b i : Nat) : Bool :=
  let st := cellReg (cellOfBlock b i) 0x50
  domState k (2 * b) == 3 && domState k (2 * b + 1) == 3 && !blockHeld k b && !blockStopped k b && timingReady k (b / 8)
    && !(convBad k b 0 && convBad k b 1) && !selfcalRuns k b && spareReason k b == 0 && !handoffPending k b
    && !regBit k st 22 && !regBit k st 23

/-- The ticks from one turn of a block to the next (R467). -/
def turnTicks (k : Core) : Nat := regFld k 0x8DF00008 15 0 * 200000 / 17

/-- Is a cell calibrated in place: the spare, or a cell whose pin is at PARKED, CW0 or CW1 (R469)? -/
def inPlace (k : Core) (b i : Nat) : Bool :=
  i == 16 || [0, 2, 3].contains (regFld k (cellReg (cellOfBlock b i) 4) 2 0)

/-- A turn of a cell starts (Table CAL-4, step 1; R469). -/
def startTurn (b i : Nat) (k : Core) : Core :=
  let k1 := { k with cal := { k.cal with turns := amSet k.cal.turns b { cell := i, start := k.clock.uptime, handed := false } } }
  if inPlace k b i then setTurn b i 2 k1
  else
    setTurn b i 1
      (requestHandoff b { cell := i, toSpare := true, reason := .calibration, ticket := 0, since := k.clock.uptime } k1)

/-- BG_TURN: a block's turn falls, for the next cell in order that is eligible; it is held while the previous one goes on. -/
def opBgTurn (b : Nat) (k : Core) : Core :=
  let due := amGetD k.cal.nextTurn b 0
  if ¬ regBit k 0x8DF00008 31 ∨ k.clock.uptime < due ∨ (amGet? k.cal.turns b).isSome then k
  else
    let first := amGetD k.cal.nextCell b 0
    let k1 := { k with cal := { k.cal with nextTurn := amSet k.cal.nextTurn b (due + turnTicks k) } }
    match ((List.range 17).map (fun n => (first + n) % 17)).find? (turnEligible k b) with
    | some i => startTurn b i { k1 with cal := { k1.cal with nextCell := amSet k1.cal.nextCell b ((i + 1) % 17) } }
    | none => k1

/-- Meaning of BG_TURN (R467 to R469). -/
def execBgTurn (b : Block) (s : State) : Host.Outcome State Fault Refusal := .next (onCore (opBgTurn b.val) s)

/-- Is a value one that a turn of a cell calibrates (Table CAL-1)? VCLH and VCLL are not (R58). -/
def ofTurn (b i : Nat) (v : CalValue) : Bool :=
  v.block.val == b && quantityCell v.quantity == some i && (match v.quantity with
    | .level _ t => t.val != 14 && t.val != 15
    | _ => true)

/-- A background value is judged against the value in effect (R465, R466). -/
def judgeBackground (v : CalValue) (k : Core) : Core :=
  let old := wordsInEffect k v.block.val v.quantity
  if plausible false v.quantity old.1 old.2 v.word v.gain then acceptValue v k
  else
    let k1 := countReject v.block.val k
    { k1 with cal := { k1.cal with rejects := amSet k1.cal.rejects (rejectKey v) (amGetD k1.cal.rejects (rejectKey v) 0 + 1) } }

/-- Has a quantity of the turn's values been rejected three times in a row? -/
def threeRejects (k : Core) (l : List CalValue) : Bool := l.any (fun v => decide (3 ≤ amGetD k.cal.rejects (rejectKey v) 0))

/-- The hand-back of a turn (Table CAL-4, step 5); a turn in place ends. -/
def handBack (b : Nat) (t : BgTurn) (k : Core) : Core :=
  if t.handed then
    setTurn b t.cell 3
      (requestHandoff b { cell := t.cell, toSpare := false, reason := .calibration, ticket := 0, since := k.clock.uptime } k)
  else endTurn b k

/-- BG_CALIBRATION_DONE: step 4 of Table CAL-4. -/
def opBgCalibrationDone (b : Nat) (results : List CalValue) (readbackFails : Bool) (k : Core) : Core :=
  match amGet? k.cal.turns b with
  | some t =>
    if regFld k (blockReg b 0xB00) 1 0 ≠ 2 then k
    else
      let l := results.filter (ofTurn b t.cell)
      let k1 := l.foldl (fun acc v => judgeBackground v acc) k
      if threeRejects k1 l ∧ readbackFails then readbackFault (cellOfBlock b t.cell) (if t.handed then k1 else endTurn b k1)
      else handBack b t k1
  | none => k

/-- Meaning of BG_CALIBRATION_DONE (R466, R469). -/
def execBgCalibrationDone (b : Block) (results : List CalValue) (readbackFails : Bool) (s : State) :
    Host.Outcome State Fault Refusal :=
  .next (onCore (opBgCalibrationDone b.val results readbackFails) s)

/-- BG_STALE: in Awake a cell without an accepted value for 10 s becomes stale. -/
def opBgStale (c : Nat) (k : Core) : Core := if regFld k 0x89F00000 31 30 = 3 then refreshStale c k else k

/-- Meaning of BG_STALE (R472). -/
def execBgStale (cell : Cell) (s : State) : Host.Outcome State Fault Refusal := .next (onCore (opBgStale cell.val) s)

/-! ### Storing (R475, R476) -/

/-- The valid word `j` of a block's data from the quantities in effect: those that hold no default (R474). -/
def validWord (k : Core) (b j : Nat) : Word :=
  BitVec.ofNat 32 (listBits (if j = 574 then (List.range 28).filter (fun i => !defaulted k b (blockQuantity i))
    else (List.range 25).filter (fun i => !defaulted k b (cellQuantity (j / 32) i))))

/-- The record of the values in effect (Table CAL-9, step 1). -/
def snapshotRecord (k : Core) (slot : Nat) : List Word :=
  recordOf (headerWord k slot k.clock.chron (BitVec.ofNat 32 (unsigned k.clock.temperature 16)))
    (fun b j => if isValidWord j then validWord k b j else ((dataReg b j).map (reg k)).getD 0)

/-- A store starts: STORE_BUSY. -/
def startStore (slot : Nat) (id : Word) (k : Core) : Core :=
  let r : StoreRun := { ticket := id, slot := slot, start := k.clock.chron, words := snapshotRecord k slot, done := 0 }
  setRegBit 0x8DF00000 31 true { k with cal := { k.cal with store := some r } }

/-- CAL_STORE (0x0D05): a refusal with RESOURCE records NO_SLOT. -/
def opCalStore : OpDef where
  opcode := 0x0D05
  target := isPage .cal
  params := fun c _ => exactly 0 c
  state := fun _ s => refuseIf (!(freeSlots s.core).isEmpty && calRunning s.core) stState
  run := fun _ _ s =>
    match (freeSlots s.core).head? with
    | none => .done stResource [] (onCore (recordCause 0x8DF00010 5) s)
    | some slot => .ticketed .calStore (s.core.clock.chron + msTicks 301) [] (fun id s' => onCore (startStore slot id) s')

/-- Meaning of CAL_STORE (R475). -/
def execCalStore (c : Cmd) (s : State) : Host.Outcome State Fault Refusal := .next (takeCmd opCalStore c s)

/-- STORE_WORD_PROGRAMMED: the next word of the record is blown, 8 µs each; the slot reads CONSUMED from its first blown cell. -/
def opStoreWordProgrammed (k : Core) : Core :=
  match k.cal.store with
  | some r =>
    if r.done < recordLen ∧ r.start + 1600 * (r.done + 1) ≤ k.clock.chron then
      let w := r.words.getD r.done 0
      let k1 := { k with cal := { k.cal with
        store := some { r with done := r.done + 1 }
        words := if w = 0 then k.cal.words else amSet k.cal.words (65536 * r.slot + r.done) w } }
      if w = 0 then k1 else setRegFld 0x8DF00004 (2 * r.slot + 1) (2 * r.slot) 1 k1
    else k
  | none => k

/-- Meaning of STORE_WORD_PROGRAMMED (Table CAL-9, step 2). -/
def execStoreWordProgrammed (s : State) : Host.Outcome State Fault Refusal := .next (onCore opStoreWordProgrammed s)

/-- A store is over: STORE_BUSY clears and the slots are classified. -/
def endStore (k : Core) : Core :=
  classifySlots (setRegBit 0x8DF00000 31 false { k with cal := { k.cal with store := none } })

/-- STORE_DONE: the read-back passes, the commit row is blown, and the store ends (Table CAL-9, steps 3 to 5). -/
def opStoreDone (k : Core) : Core :=
  match k.cal.store with
  | some r =>
    if r.done = recordLen then
      let k1 := endStore { k with cal := { k.cal with commits := amSet k.cal.commits r.slot (2 ^ 32 - 1) } }
      completeTicket r.ticket stDone [BitVec.ofNat 32 r.slot]
        (recordCause 0x8DF00010 3 (setRegBit 0x8DF00000 29 false (setRegFld 0x8DF00000 19 16 r.slot k1)))
    else k
  | none => k

/-- Meaning of STORE_DONE (R475). -/
def execStoreDone (s : State) : Host.Outcome State Fault Refusal := .next (onCore opStoreDone s)

/-- STORE_FAIL: a word reads back other than the snapshot, which word and how is not stated (log entry 1); the slot stays
CONSUMED (Table CAL-9, step 3). -/
def opStoreFail (k : Core) : Core :=
  match k.cal.store with
  | some r =>
    if r.done = recordLen then
      let i := drawWord k
      let v := drawWord i.2
      let k1 := { v.2 with cal := { v.2.cal with words := amSet v.2.cal.words (65536 * r.slot + i.1.toNat % recordLen) v.1 } }
      completeTicket r.ticket stFault [] (recordCause 0x8DF00010 4 (endStore k1))
    else k
  | none => k

/-- Meaning of STORE_FAIL (R475). -/
def execStoreFail (s : State) : Host.Outcome State Fault Refusal := .next (onCore opStoreFail s)

/-- A store is interrupted before its commit row is wholly blown (R476): it stops at the end of a word, and a ticket that
survives completes ABORTED. -/
def interruptStore (k : Core) : Core :=
  match k.cal.store with
  | some r => completeTicket r.ticket stAborted [] (endStore k)
  | none => k

/-! ### Opcodes (Table CAL-10) -/

/-- CAL_STATUS_READ (0x0D02). -/
def opCalStatusRead : OpDef where
  opcode := 0x0D02
  read := true
  target := isPage .cal
  params := fun c _ => exactly 0 c
  state := fun _ s => unitRefusal s.core 0x8DF00000
  run := fun _ _ s => .done stDone ([0x8DF00000, 0x8DF00004, 0x8DF00008, 0x8DF0000C].map (readReg s.core)
    ++ (List.range 64).flatMap (fun b => [readReg s.core (blockReg b 0xB04), readReg s.core (blockReg b 0xB0C)])) s

/-- Meaning of CAL_STATUS_READ (R482). -/
def execCalStatusRead (c : Cmd) (s : State) : Host.Outcome State Fault Refusal := .next (takeCmd opCalStatusRead c s)

/-- The pair of a CAL_BG_SET. -/
def bgPairs (c : Cmd) : List (Nat × Word) := [(0x8DF00008, pw c.params 0)]

/-- CAL_BG_SET (0x0D03). -/
def opCalBgSet : OpDef where
  opcode := 0x0D03
  target := isPage .cal
  params := fun c s => firstSome [exactly 1 c, pairsRequest c s (bgPairs c)]
  state := fun c s => pairsState c s (bgPairs c)
  run := fun c n s => runPairs c n (bgPairs c) [] s

/-- Meaning of CAL_BG_SET (R467, R482). -/
def execCalBgSet (c : Cmd) (s : State) : Host.Outcome State Fault Refusal := .next (takeCmd opCalBgSet c s)

/-- The words that cover `n` bytes of a slot's record from a byte offset, the bytes after the last zero. -/
def recordPart (k : Core) (slot off n : Nat) : List Word :=
  wordsOf (ceilDiv n 4) ((bytesOf ((List.range (ceilDiv n 4)).map (fun i => slotWord k slot (off / 4 + i)))).take n)

/-- CAL_RECORD_READ (0x0D04). -/
def opCalRecordRead : OpDef where
  opcode := 0x0D04
  read := true
  target := isPage .cal
  params := fun c _ => firstSome [exactly 3 c, inRange (pn c.params 0) 0 12, inRange (pn c.params 2) 4 4096,
    refuseIf (pn c.params 1 % 4 != 0 || decide (147968 < pn c.params 1 + pn c.params 2)) stParameter]
  state := fun _ s => unitRefusal s.core 0x8DF00000
  run := fun c _ s => .done stDone (recordPart s.core (pn c.params 0) (pn c.params 1) (pn c.params 2)) s

/-- Meaning of CAL_RECORD_READ (R482). -/
def execCalRecordRead (c : Cmd) (s : State) : Host.Outcome State Fault Refusal := .next (takeCmd opCalRecordRead c s)

/-- The valid quantities of a slot are loaded in a block. -/
def revertBlock (slot b : Nat) (k : Core) : Core :=
  blockQuantities.foldl (fun acc q => if slotValid k slot b q then loadQuantity slot b q acc else acc) k

/-- CAL_REVERT (0x0D06). -/
def opCalRevert : OpDef where
  opcode := 0x0D06
  target := isPage .cal
  params := fun c s => firstSome [exactly 1 c,
    refuseIf (decide (12 < pn c.params 0) || slotState s.core (pn c.params 0) != 2) stParameter]
  state := fun _ s => firstSome [unitRefusal s.core 0x8DF00000, refuseIf (calRunning s.core) stState]
  run := fun c _ s => .done stDone [] (onCore (fun k =>
    setRegBit 0x8DF00000 29 false (setRegFld 0x8DF00000 19 16 (pn c.params 0)
      ((List.range 64).foldl (fun acc b => revertBlock (pn c.params 0) b acc) k))) s)

/-- Meaning of CAL_REVERT (R481). -/
def execCalRevert (c : Cmd) (s : State) : Host.Outcome State Fault Refusal := .next (takeCmd opCalRevert c s)

end Sys2Proof.Machine
end

