-- ==== Sys2Proof/Machine/Faults.lean ====
section
/-! DEFINITION. Faults and containment by level, and the ways back to service (R505 to R519, R540). -/

namespace Sys2Proof.Machine

/-! ### What a unit loses -/

/-- Does a page belong to a block, its own and its cells'? -/
def pageInBlock (b : Nat) (p : Page) : Bool :=
  match p with
  | .block x => x == b
  | .cell c => blockOfCell c == b
  | _ => false

/-- Does a page belong to a region die, less its blocks' pages? The region faults page is the hub's (R507). -/
def pageInRegion (r : Nat) (p : Page) : Bool :=
  match p with
  | .engine x | .fp x | .qdrPort x | .tree x | .arb x => x == r
  | _ => false

/-- The registers of some pages return to their reset values. -/
def wipePages (p : Page → Bool) (k : Core) : Core :=
  { k with
    regs := k.regs.filter (fun e => !(pageOf e.1).any p)
    hiLatch := k.hiLatch.filter (fun e => !(pageOf e.1).any p)
    mem := { k.mem with spent := k.mem.spent.filter (fun e => !(pageOf e.1).any p) } }

/-- The keys of a map that satisfy a test are dropped. -/
def amDrop {α : Type} (m : AMap α) (f : Nat → Bool) : AMap α := m.filter (fun e => !f e.1)

/-- The MON_CONVERTs whose conversions run on the converters of a list reply FAULT; the conversions go on unclaimed (R509). -/
def failConversions (l : List Nat) (k : Core) : Core :=
  l.foldl (fun acc n =>
    let x := amGetD acc.convs n {}
    match x.run with
    | some v => match v.what with
      | .host op c => answer op c stFault [] { acc with convs := amSet acc.convs n { x with run := some { v with what := .unclaimed } } }
      | _ => acc
    | none => acc) k

/-- A block as it is at reset, its registers and all that stands beside them; a pending substitution or hand-off and a turn go
with it, and a MON_CONVERT under way replies FAULT (DESIGN CHOICE, log entry 41). -/
def wipeBlock (b : Nat) (k : Core) : Core :=
  let cellKey (c : Nat) : Bool := blockOfCell c == b
  let k1 := wipePages (pageInBlock b) (failConversions [2 * b, 2 * b + 1] k)
  { k1 with
    cells := amDrop k1.cells cellKey
    dacs := amDrop k1.dacs (fun x => cellKey (x / 11))
    ppmus := amDrop k1.ppmus cellKey
    chans := amDrop k1.chans (fun x => x / 32 == b)
    wmons := amDrop k1.wmons (fun x => x / 32 == b)
    elemAt := amDrop k1.elemAt (fun x => x / 32 == b)
    wdacs := amDrop k1.wdacs (fun x => x / 2 == b)
    convs := amDrop k1.convs (fun x => x / 2 == b)
    plaus := amErase k1.plaus b
    handoffs := amErase k1.handoffs b
    faultSubs := amErase k1.faultSubs b
    wakeRaised := k1.wakeRaised.filter (· != b)
    cal := { k1.cal with turns := amErase k1.cal.turns b } }

/-- A region die as it is at reset, less its blocks. -/
def wipeRegion (r : Nat) (k : Core) : Core :=
  let k1 := wipePages (pageInRegion r) k
  { k1 with
    engines := amErase k1.engines r
    fps := amErase k1.fps r
    fabrics := amErase k1.fabrics r
    trees := amDrop k1.trees (fun x => x / 4 == r)
    mem := { k1.mem with
      arbs := amErase (amErase k1.mem.arbs (4000 + r)) (4100 + r)
      linkFaults := k1.mem.linkFaults.filter (fun e => e.1 != r)
      qdrBad := k1.mem.qdrBad.filter (fun a => a / 2 ^ 26 != r) } }

/-! ### What goes with a containment (R506, R507, R513) -/

/-- A folio voted or decided here that stages into some pages: its words there are discarded at A, and the fault record's detail
word holds its ID (R513). -/
def folioInto (k : Core) (p : Page → Bool) : Word :=
  match k.car.folios.find? (fun e => (e.2.state == .voted || e.2.state == .decided)
      && e.2.words.any (fun w => (pageOf w.1).any p)) with
  | some e => e.2.id
  | none => 0

/-- A pending substitution of a block is abandoned and logged SUPERSEDED; waiting hand-offs end (R513). A host's ticket
completes with STATE as under R73. -/
def supersede (b : Nat) (k : Core) : Core :=
  let k1 := cancelHandoff b k
  match amGet? k1.faultSubs b with
  | some f =>
    let c := cellOfBlock b f.cell
    let k2 := logFault 0 7 (regFld k1 (cellReg c 0x50) 31 24) (pageBase (.cell c)) 0
      { k1 with faultSubs := amErase k1.faultSubs b }
    if f.ticket ≠ 0 then completeTicket f.ticket stState [] k2 else k2
  | none => k1

/-- A SELFCAL ends for a block at once, with its old values kept, and the block appears in the rejection mask (R513); a background
turn in it ends (Table CAL-5). -/
def stopCalibration (b : Nat) (k : Core) : Core :=
  let k1 := endTurn b k
  match k1.cal.selfcal with
  | some r =>
    if r.blocks.testBit b ∧ ¬ r.restore then
      setRegBit (blockReg b 0xB00) 8 false
        (setSelfcal { r with blocks := r.blocks ^^^ 2 ^ b, bad := r.bad ||| 2 ^ b } k1)
    else k1
  | none => k1

/-- A block's pins, commons and fabric outputs follow what holds them (R506, R286). -/
def refreshBlock (b : Nat) (k : Core) : Core := presentBlock (b / 8) (b % 8) (refreshCommons b (refreshBlockPins b k))

/-- The fail processor writes PIN_INVALID records for every pin of a block (R506). -/
def blockPinsInvalid (b : Nat) (k : Core) : Core :=
  (List.range 16).foldl (fun acc i => pinInvalid (b / 8) (16 * b + i) acc) k

/-- Does a block hold a tenanted pin? -/
def blockTenanted (k : Core) (b : Nat) : Bool := (List.range 16).any (fun i => tenanted k (16 * b + i))

/-- A fault of a block with a code of BLOCK_FAULT (R505, R506, R513): codes 0x06 and 0x07 do not park it. -/
def blockFault (b code : Nat) (k : Core) : Core :=
  let base := pageBase (.block b)
  if code = 0 ∨ 7 < code then k
  else if blockStopped k b then logFault 1 0 code base 0 k
  else if 5 < code then logFault 1 0 code base 0 (setRegFld (blockReg b 0xC00) 23 16 code k)
  else
    let k1 := stopCalibration b (supersede b k)
    let k2 := setRegBit (pageBase (.rfault (b / 8))) (b % 8) true
      (setRegBit (blockReg b 0xC00) 31 true (setRegFld (blockReg b 0xC00) 23 16 code k1))
    let k3 := recordCause (pageBase (.rfault (b / 8)) + 4) 0 (blockPinsInvalid b (refreshBlock b k2))
    let k4 := if blockTenanted k3 b ∧ tenRole k3 (b / 8) = 1 then relinquish (b / 8) k3 else k3
    logFault 1 3 code base (folioInto k (pageInBlock b)) k4

/-- Meaning of BLOCK_FAULT_DETECT (R505, R506). -/
def execBlockFaultDetect (b : Block) (code : BitVec 8) (s : State) : Host.Outcome State Fault Refusal :=
  .next (onCore (blockFault b.val code.toNat) s)

/-- The region die's side of a fence (Table ERR-2, steps 1 and 2): the engine in PRIMING to WAITING is FAULTED with code 0x80
FENCED, and the fail processor and all that runs beside it stop; pins and commons follow by `regionStopped`. -/
def fenceDie (r : Nat) (k : Core) : Core :=
  let k1 := if engineBusy k r then setRegFld (engReg r 0x10) 31 24 0x80 (setRegBit (engReg r 0x10) 0 false (setEngState r 7 k)) else k
  let k2 := setFp r { fpOf k1 r with buf := [], catchQ := [], catQ := [] } k1
  (List.range 8).foldl (fun acc b => refreshBlock (8 * r + b) (stopCalibration (8 * r + b) (supersede (8 * r + b) acc))) k2

/-- BEAT of the records that the hub writes for a fence (R507): one more than the last beat number that the region reported. A
region reports at least once every 1 µs, so up to 1,600 of its last beats may not have been reported; how many is a free
value (log entry 1). -/
def fenceBeat (r : Nat) (k : Core) : Nat × Core :=
  let d := drawWord k
  (nextBeat k r - d.1.toNat % 1601, d.2)

/-- The hub's side of a fence (Table ERR-2, steps 3 and 4): the tenancy, the SITE_INVALID records, and the RUN_END record of a
run that was in progress. -/
def fenceHub (r : Nat) (ran : Bool) (k : Core) : Core :=
  let b := fenceBeat r (relinquish r k)
  let k1 := (bitList (regionSites k r) 128).foldl (fun acc s => siteInvalid r s b.1 acc) b.2
  let k2 := tellRegions r (20000 * k.clock.chron) k1
  if ran then endRunAt r 3 0x80 b.1 k2 else showEngine r (setEng r { beatBase := (engOf k2 r).beatBase } k2)

/-- Is a run of a region in progress? -/
def runInProgress (k : Core) (r : Nat) : Bool := inRun k r

/-- A fault of a region with a code of REGION_FAULT: the region is fenced (R507, R513). A region that has fenced itself gets what
is left (R508). -/
def regionFault (r code : Nat) (k : Core) : Core :=
  let base := pageBase (.rfault r)
  if code = 0 ∨ 7 < code then k
  else if regionShut k r ∨ moduleHalted k then logFault 2 0 code base 0 k
  else
    let ran := (amGet? k.pwr.selfFenced r).getD (runInProgress k r)
    let k1 := setRegBit base 31 true (setRegFld base 23 16 code
      { k with pwr := { k.pwr with selfFenced := amErase k.pwr.selfFenced r } })
    let k2 := recordCause (base + 4) 1 (fenceHub r ran (fenceDie r k1))
    logFault 2 4 code base (folioInto k (fun p => pageInRegion r p || (List.range 8).any (fun b => pageInBlock (8 * r + b) p))) k2

/-- Meaning of REGION_FAULT_DETECT (R505, R507). -/
def execRegionFaultDetect (r : Region) (code : BitVec 8) (s : State) : Host.Outcome State Fault Refusal :=
  .next (onCore (regionFault r.val code.toNat) s)

/-- LOCK_LOST: a locked reference multiplier loses lock while TREF is present (R81). -/
def opLockLost (r : Nat) (k : Core) : Core :=
  if trefPresent k ∧ regBit k (treeReg r 0x40) 1 then
    regionFault r 1 (setRegBit (treeReg r 0x40) 1 false (setRegBit (treeReg r 0x40) 2 false k))
  else k

/-- Meaning of LOCK_LOST (R81). -/
def execLockLost (r : Region) (s : State) : Host.Outcome State Fault Refusal := .next (onCore (opLockLost r.val) s)

/-- Meaning of LINK_FAULT: the hub declares a region link faulted (R302), and the region is contained (R24). -/
def execLinkFault (r : Region) (s : State) : Host.Outcome State Fault Refusal := .next (onCore (regionFault r.val 2) s)

/-- REGION_LINK_KEEPALIVE: no transfer block has crossed the link for 2 µs. -/
def opRegionLinkKeepalive (r : Nat) (k : Core) : Core :=
  if regionFenced k r then k else { k with car := { k.car with outbox := k.car.outbox ++ [⟨none, .keepAlive r⟩] } }

/-- Meaning of REGION_LINK_KEEPALIVE (R508). -/
def execRegionLinkKeepalive (r : Region) (s : State) : Host.Outcome State Fault Refusal :=
  .next (onCore (opRegionLinkKeepalive r.val) s)

/-- REGION_LINK_SILENT: the region die has received nothing for 15 µs and fences itself under steps 1 and 2 of Table ERR-2; the
hub knows of it when it declares the link faulted. -/
def opRegionLinkSilent (r : Nat) (k : Core) : Core :=
  if regionStopped k r then k
  else fenceDie r { k with pwr := { k.pwr with selfFenced := amSet k.pwr.selfFenced r (runInProgress k r) } }

/-- Meaning of REGION_LINK_SILENT (R508). -/
def execRegionLinkSilent (r : Region) (s : State) : Host.Outcome State Fault Refusal := .next (onCore (opRegionLinkSilent r.val) s)

/-! ### Chip faults (Table ERR-3) -/

/-- CHIP_FAULT.CODE, the cause and the record of a chip fault. -/
def noteChip (code action : Nat) (cause : Option Nat) (detail : Word) (k : Core) : Core :=
  let k1 := setRegFld 0x81F00100 23 16 code k
  let k2 := match cause with
    | some i => recordCause 0x81F00104 i k1
    | none => k1
  logFault 3 action code (pageBase .hub) detail k2

/-- Every engine stops on a module halt (R510): a run ends as STOPPED, and one that is being prepared is dropped. -/
def haltEngine (r : Nat) (k : Core) : Core :=
  if inRun k r then endRun r 2 0 (setEngState r 6 k) else withdrawRun r k

/-- The pins, commons and fabric of every block follow. -/
def refreshAllBlocks (k : Core) : Core := (List.range 64).foldl (fun acc b => refreshBlock b acc) k

/-- HOLDER regions send RELINQUISH where T is ACTIVE; elsewhere their tenancy expires under R410 (R510). -/
def haltTenancies (k : Core) : Core := if portState k 2 = 3 then relinquishAll k else k

/-- A module halt with chip code 0x04, 0x05 or 0x06 (R510). -/
def moduleHalt (code : Nat) (k : Core) : Core :=
  if ¬ (4 ≤ code ∧ code ≤ 6) then k
  else if moduleHalted k then logFault 3 0 code (pageBase .hub) 0 k
  else
    let k1 := haltTenancies ((List.range 8).foldl (fun acc r => haltEngine r acc) k)
    noteChip code 6 (some 3) 0 (refreshAllBlocks (setRegBit 0x81F00100 31 true k1))

/-- Meaning of MODULE_HALT (R509, R510). -/
def execModuleHalt (code : BitVec 8) (s : State) : Host.Outcome State Fault Refusal := .next (onCore (moduleHalt code.toNat) s)

/-- STEWARD_RESTART: commands in progress reply FAULT, and every session is faulted (R345, R509). -/
def opStewardRestart (k : Core) : Core :=
  if k.stw.restarting then k
  else
    let k1 := failConversions (List.range 128) k
    let k2 := (k1.stw.sessions.map Prod.fst).foldl (fun acc n => faultSession n acc) k1
    noteChip 1 5 (some 0) 0 { k2 with stw := { k2.stw with restarting := true } }

/-- Meaning of STEWARD_RESTART (R509). -/
def execStewardRestart (s : State) : Host.Outcome State Fault Refusal := .next (onCore opStewardRestart s)

/-- Meaning of STEWARD_RESTART_DONE (R509): Steward serves commands again. -/
def execStewardRestartDone (s : State) : Host.Outcome State Fault Refusal :=
  .next (onCore (fun k => { k with stw := { k.stw with restarting := false } }) s)

/-- HUB_MEMORY: an uncorrectable word in a Catalogue entry. The entry is made invalid and its site becomes uncatalogued with
reason 4. -/
def opHubMemory (entry : Nat) (k : Core) : Core :=
  match amGet? k.hub.entries entry with
  | some e =>
    let k1 := { k with hub := { k.hub with entries := amErase k.hub.entries entry } }
    noteChip 2 8 (some 1) 0 (makeUncat e.site 4 k1)
  | none => k

/-- Meaning of HUB_MEMORY (R509). -/
def execHubMemory (entry : Fin 524288) (s : State) : Host.Outcome State Fault Refusal := .next (onCore (opHubMemory entry.val) s)

/-- STRONGROOM_ERROR: an uncorrectable word in a page's record. VALID clears, and the page's next restore follows R446. -/
def opStrongroomError (page : Nat) (k : Core) : Core :=
  if regBit k 0x89F00080 31 then
    noteChip 3 0 (some 2) 0 (setRegBit 0x89F00080 31 false { k with pwr := { k.pwr with badPages := page :: k.pwr.badPages } })
  else k

/-- Meaning of STRONGROOM_ERROR (R509). -/
def execStrongroomError (page : Word) (s : State) : Host.Outcome State Fault Refusal := .next (onCore (opStrongroomError page.toNat) s)

/-- OVER_TEMP: a sensor crosses the threshold of its level (Table ELEC-12). -/
def opOverTemp (x : TempSensor) (k : Core) : Core :=
  match x with
  | .cell c => anyCellFault c.val 6 k
  | .block b => blockFault b.val 4 k
  | .region r => regionFault r.val 6 k
  | .chip => moduleHalt 6 k

/-- Meaning of OVER_TEMP (R540). -/
def execOverTemp (sensor : TempSensor) (s : State) : Host.Outcome State Fault Refusal := .next (onCore (opOverTemp sensor) s)

/-- CONTAINMENT_ESCALATE: a containment has missed its bound, and the fault is contained at the next level up with code ESCALATED
(R511): a cell whose substitution still waits 20 µs after its fault, a parked block, a fenced region. -/
def opContainmentEscalate (x : TempSensor) (k : Core) : Core :=
  match x with
  | .cell c =>
    if (amGet? k.faultSubs (blockOfCell c.val)).any (fun f => f.cell == c.val % 17 && decide (f.since + usTicks 20 ≤ k.clock.uptime))
      then blockFault (blockOfCell c.val) 5 k else k
  | .block b => if blockParked k b.val then regionFault (b.val / 8) 7 k else k
  | .region r => if regionFenced k r.val then moduleHalt 5 k else k
  | .chip => k

/-- Meaning of CONTAINMENT_ESCALATE (R511). -/
def execContainmentEscalate (unit : TempSensor) (s : State) : Host.Outcome State Fault Refusal :=
  .next (onCore (opContainmentEscalate unit) s)

/-! ### Rail faults (R512) -/

/-- A rail's fault or failed on request is contained as Table ERR-4 gives. -/
def railFault (rail : Nat) (k : Core) : Core :=
  match rail with
  | 0 | 1 => moduleHalt 4 k
  | 2 => (List.range (stacksFitted k.order)).foldl (fun acc n => if stackState acc n = 3 then acc else failStack n acc) k
  | 3 => (List.range 8).foldl (fun acc r => regionFault r 4 acc) k
  | _ => (List.range 64).foldl (fun acc b => blockFault b 2 acc) k

/-! ### The fault log and the restores (R515 to R519) -/

/-- Is a sequence number of the log kept: at least FAULT_LOG_WPOS − 256, and written? -/
def seqKept (k : Core) (n : Nat) : Bool := decide (k.faultSeq ≤ n + 256) && decide (n < k.faultSeq)

/-- FAULT_LOG_READ (0x0F10). -/
def opFaultLogRead : OpDef where
  opcode := 0x0F10
  read := true
  params := fun c s => firstSome [exactly 2 c, inRange (pn c.params 1) 1 127,
    refuseIf (!(List.range (pn c.params 1)).all (fun i => seqKept s.core (pn c.params 0 + i))) stParameter]
  run := fun c _ s => .done stDone (((s.core.faultLog.filter (fun e => decide (pn c.params 0 ≤ e.seq)
    && decide (e.seq < pn c.params 0 + pn c.params 1))).flatMap faultWords)) s

/-- Meaning of FAULT_LOG_READ (R515, R519). -/
def execFaultLogRead (c : Cmd) (s : State) : Host.Outcome State Fault Refusal := .next (takeCmd opFaultLogRead c s)

/-- The quantities of a block are loaded from ACTIVE_SLOT downward, or take their defaults (R516, R477). -/
def loadBlock (b : Nat) (k : Core) : Core :=
  let top := regFld k 0x8DF00000 19 16
  blockQuantities.foldl (fun acc q =>
    match (List.range (top + 1)).reverse.find? (fun s => slotState k s == 2 && slotValid k s b q) with
    | some s => loadQuantity s b q acc
    | none => defaultQuantity b q acc) k

/-- A block's registers return to reset, but for its fault record, and its calibration is loaded (R516, step 2). -/
def resetBlock (b : Nat) (k : Core) : Core :=
  refreshBlock b (loadBlock b (setReg (blockReg b 0xC00) (reg k (blockReg b 0xC00)) (wipeBlock b k)))

/-- The self-test of a restore starts: steps 2 to 7 of Table CAL-2 on its blocks (R516, step 3). -/
def startRestoreTest (blocks : Nat) (id : Word) (k : Core) : Core :=
  let r : SelfcalRun :=
    { ticket := id, blocks := blocks, start := k.clock.chron, step := 1, bad := 0, rejected := 0, accepted := false
      passed := false, faulted := [], restore := true }
  setRegBit 0x8DF00000 30 true { k with cal := { k.cal with selfcal := some r } }

/-- CAL_STATUS as the self-test of a restore leaves it. -/
def endRestoreTest (r : SelfcalRun) (k : Core) : Core :=
  let k1 := setRegBit 0x8DF00000 30 false { k with cal := { k.cal with selfcal := none } }
  let k2 := if r.passed then setRegBit 0x8DF00000 26 true k1 else k1
  if r.accepted then setRegBit 0x8DF00000 29 true k2 else k2

/-- Does a self-test pass for some blocks: no rejection and no failed read-back? -/
def testPassed (r : SelfcalRun) (blocks : Nat) : Bool :=
  r.bad &&& blocks == 0 && !r.faulted.any (fun c => blocks.testBit (blockOfCell c))

/-- What refuses a restore with STATE beside the unit's own state (R516, R517). -/
def restoreBarred (k : Core) (r : Nat) : Bool :=
  engineBusy k r || regFld k 0x89F00000 31 30 != 3 || regBit k 0x89F00000 24 || calRunning k

/-- BLOCK_RESTORE (0x0F11). -/
def opBlockRestore : OpDef where
  opcode := 0x0F11
  target := isBlock
  params := fun c _ => exactly 0 c
  state := fun c s =>
    let b := targetBlock c
    refuseIf (!blockParked s.core b || regionFenced s.core (b / 8) || restoreBarred s.core (b / 8)) stState
  run := fun c _ s =>
    let b := targetBlock c
    .ticketed (.blockRestore b) (s.core.clock.chron + msTicks 50) [] (fun id s' =>
      onCore (fun k => startRestoreTest (2 ^ b) id (resetBlock b k)) s')

/-- Meaning of BLOCK_RESTORE (R516). -/
def execBlockRestore (c : Cmd) (s : State) : Host.Outcome State Fault Refusal := .next (takeCmd opBlockRestore c s)

/-- Is a page a region faults page? -/
def isRfault (p : Page) : Bool :=
  match p with
  | .rfault _ => true
  | _ => false

/-- The region of a command that targets a region faults page. -/
def targetFault (c : Cmd) : Nat :=
  match pageOf c.target.toNat with
  | some (.rfault r) => r
  | _ => 0

/-- A region and its blocks return to reset, with the blocks' calibration loaded and the QDR SRAM zeroed (R517, steps 2 to 4).
Its blocks' parks end with it. -/
def resetRegion (r : Nat) (s : State) : State :=
  onCore (fun k =>
    let k1 := (List.range 8).foldl (fun acc b => wipeBlock (8 * r + b) acc) (wipeRegion r k)
    let k2 := setRegFld (pageBase (.rfault r)) 7 0 0 k1
    (List.range 8).foldl (fun acc b => refreshBlock (8 * r + b) (loadBlock (8 * r + b) acc)) k2) (zeroQdr r 0 (2 ^ 26) s)

/-- REGION_RESTORE (0x0F12). -/
def opRegionRestore : OpDef where
  opcode := 0x0F12
  target := isRfault
  params := fun c _ => exactly 0 c
  state := fun c s => refuseIf (!regionFenced s.core (targetFault c) || restoreBarred s.core (targetFault c)) stState
  run := fun c _ s =>
    let r := targetFault c
    .ticketed (.regionRestore r) (s.core.clock.chron + msTicks 100) [] (fun id s' =>
      onCore (startRestoreTest (0xFF * 2 ^ (8 * r)) id) (resetRegion r s'))

/-- Meaning of REGION_RESTORE (R517). -/
def execRegionRestore (c : Cmd) (s : State) : Host.Outcome State Fault Refusal := .next (takeCmd opRegionRestore c s)

/-- The outcome of a restore is logged and recorded in REGION_FAULT_EVENT. -/
def noteRestore (level code base r : Nat) (ok : Bool) (k : Core) : Core :=
  logFault level (if ok then 0xA else 0xB) code base 0 (recordCause (pageBase (.rfault r) + 4) (if ok then 2 else 3) k)

/-- A block's restore ends (R516, steps 4 and 5): PARKED clears on a pass. -/
def endBlockRestore (b : Nat) (ok : Bool) (k : Core) : Core :=
  let code := regFld k (blockReg b 0xC00) 23 16
  let k1 := if ok then refreshBlock b (setRegBit (pageBase (.rfault (b / 8))) (b % 8) false (setRegBit (blockReg b 0xC00) 31 false k)) else k
  noteRestore 1 code (pageBase (.block b)) (b / 8) ok k1

/-- A restored region's timing: its multiplier has locked again where TREF is present (R517, step 2). -/
def relockRegion (r : Nat) (k : Core) : Core :=
  if trefPresent k then
    setRegBit (treeReg r 0x40) 2 (k.clock.by_ == .tref) (setRegBit (treeReg r 0x40) 1 true (setRegBit (treeReg r 0x40) 0 true k))
  else k

/-- A region's restore ends (R517): FENCED clears on a pass. -/
def endRegionRestore (r : Nat) (ok : Bool) (k : Core) : Core :=
  let base := pageBase (.rfault r)
  let code := regFld k base 23 16
  let k1 := if ok then
      (List.range 8).foldl (fun acc b => refreshBlock (8 * r + b) acc) (relockRegion r (setRegBit base 31 false k))
    else k
  noteRestore 2 code base r ok k1

/-- A restore's ticket comes to its end (R516, R517): after step 7 by what the self-test found, or with FAULT when a link or a
supply of a region fails. -/
def finishRestore (id : Word) (w : Work) (failed : Bool) (k : Core) : Core :=
  match k.cal.selfcal with
  | some r =>
    if r.ticket ≠ id ∨ (r.step ≠ 7 ∧ ¬ failed) then k
    else
      let ok := !failed && testPassed r r.blocks
      let k1 := endRestoreTest r k
      match w with
      | .blockRestore b => completeTicket id (if ok then stDone else stSelfTest) [] (endBlockRestore b ok k1)
      | .regionRestore g =>
        completeTicket id (if ok then stDone else if failed then stFault else stSelfTest) [] (endRegionRestore g ok k1)
      | _ => k
  | none => k

/-! ### Restores after a module reset (R513) -/

/-- One unit of a module reset's restores ends: back in service, or contained again under a new record. -/
def endResetRestore (r : SelfcalRun) (e : Nat × Nat) (k : Core) : Core :=
  let k1 := { k with pwr := { k.pwr with restoring := amErase k.pwr.restoring e.1 } }
  if e.1 < 64 then
    if testPassed r (2 ^ e.1) then noteRestore 1 e.2 (pageBase (.block e.1)) (e.1 / 8) true (refreshBlock e.1 k1)
    else blockFault e.1 e.2 k1
  else
    let g := e.1 - 64
    if testPassed r (0xFF * 2 ^ (8 * g)) then
      noteRestore 2 e.2 (pageBase (.rfault g)) g true
        ((List.range 8).foldl (fun acc b => refreshBlock (8 * g + b) acc) (relockRegion g k1))
    else regionFault g e.2 k1

/-- The self-test of a module reset's restores ends: each unit by its own blocks. -/
def endResetRestores (r : SelfcalRun) (k : Core) : Core :=
  k.pwr.restoring.foldl (fun acc e => endResetRestore r e acc) (endRestoreTest r k)

/-- Meaning of SELFCAL_DONE (R463, R464): step 8 of a SELFCAL, or the end of the self-test that a module reset's restores run
(R513). -/
def execSelfcalDone (s : State) : Host.Outcome State Fault Refusal :=
  .next (onCore (fun k => match k.cal.selfcal with
    | some r => if r.restore then (if r.ticket = 0 ∧ r.step = 7 then endResetRestores r k else k) else opSelfcalDone k
    | none => k) s)

end Sys2Proof.Machine
end

