-- ==== Sys2Proof/Machine/Security.lean ====
section
/-! DEFINITION. Module identity and security: images and boot, keys and counters, attestation, debug unlock, the test access port
and Caravan admission (R486 to R504). -/

namespace Sys2Proof.Machine

/-! ### Images (R490 to R492) -/

/-- A register of the security page. -/
def secReg (off : Nat) : Nat := pageBase .sec + off

/-- The bank that booted: 0 A, 1 B. -/
def bootBank (k : Core) : Nat := regFld k (secReg 0) 27 26

/-- The bytes of an image bank: what was written to it, over what it held at reset. -/
def bankBytes (k : Core) (n : Nat) : List Byte :=
  let own := k.sec.banks.filter (fun e => e.1 / 2 ^ 32 == n)
  let len := max (Config.factoryImage n).length (maxOver id (own.map (fun e => e.1 % 2 ^ 32 + 1)))
  (List.range len).map (fun i => (amGet? k.sec.banks (2 ^ 32 * n + i)).getD ((Config.factoryImage n).getD i 0))

/-- Is an image key revoked? -/
def keyRevoked (k : Core) (i : Nat) : Bool := regBit k (secReg 0) (20 + i)

/-- The rollback counter STEWARD. -/
def stewardCounter (k : Core) : Nat := regFld k (secReg 0x10) 6 0

/-- The check of an image bank (R490, R491): SIGNATURE before ROLLBACK; an erased bank never passes (R492). -/
def bankCheck (k : Core) (n : Nat) : Option Status :=
  let l := bankBytes k n
  let key := Config.imageKey l
  if k.sec.erased.contains n ∨ 3 < key ∨ keyRevoked k key ∨ ¬ Config.verify key (Config.imageBody l) (Config.imageSignature l) then
    some stSignature
  else if Config.imageVersion l < stewardCounter k then some stRollback
  else none

/-- The bank that boots (R490, R492): one committed since the last start-up, or else the passing bank with the higher security
version, A when they are equal. -/
def bankToBoot (k : Core) : Option Nat :=
  let ok (n : Nat) : Bool := (bankCheck k n).isNone
  match k.sec.preferred with
  | some n => if ok n then some n else if ok (1 - n) then some (1 - n) else none
  | none =>
    if ok 0 ∧ ok 1 then
      some (if Config.imageVersion (bankBytes k 0) < Config.imageVersion (bankBytes k 1) then 1 else 0)
    else if ok 0 then some 0
    else if ok 1 then some 1
    else none

/-- STEWARD_BOOT (R490): a bank boots, or the module comes up in RECOVERY. -/
def bootSteward (k : Core) : Core :=
  let k0 := { k with sec := { k.sec with preferred := none } }
  match bankToBoot k with
  | some n =>
    setRegBit (secReg 0) 28 false (setRegFld (secReg 0) 27 26 n
      { k0 with sec := { k0.sec with
          runKey := Config.imageKey (bankBytes k n), runVersion := Config.imageVersion (bankBytes k n) } })
  | none => recordCause (secReg 0x30) 4 (setRegBit (secReg 0) 28 true k0)

/-- Bytes written to a bank. A write of its first word ends an erasure. -/
def writeBank (n off : Nat) (l : List Byte) (k : Core) : Core :=
  { k with sec := { k.sec with
    banks := (l.zipIdx).foldl (fun acc e => amSet acc (2 ^ 32 * n + off + e.2) e.1) k.sec.banks
    erased := if off = 0 then k.sec.erased.filter (· != n) else k.sec.erased } }

/-- SEC_IMAGE_WRITE (0x0E01): a chunk for the bank that did not boot. -/
def opSecImageWrite : OpDef where
  opcode := 0x0E01
  target := isPage .sec
  params := fun c _ => firstSome
    [ inRange c.params.length 2 1024 |>.map (fun _ => stLength)
    , refuseIf (pn c.params 0 % 4 != 0) stParameter ]
  state := fun c s => unitRefusal s.core c.target.toNat
  run := fun c _ s => .done stDone [] (onCore (fun k => writeBank (1 - bootBank k) (pn c.params 0) (bytesOf (c.params.drop 1)) k) s)

/-- Meaning of SEC_IMAGE_WRITE (R492). -/
def execSecImageWrite (c : Cmd) (s : State) : Host.Outcome State Fault Refusal := .next (takeCmd opSecImageWrite c s)

/-- SEC_IMAGE_COMMIT (0x0E02): the bank that did not boot is checked; it becomes the preferred bank, or its first word is
erased and IMAGE_REJECT recorded. -/
def opSecImageCommit : OpDef where
  opcode := 0x0E02
  target := isPage .sec
  params := fun c _ => exactly 0 c
  state := fun c s => unitRefusal s.core c.target.toNat
  run := fun _ _ s =>
    let n := 1 - bootBank s.core
    match bankCheck s.core n with
    | none => .done stDone [] (onCore (fun k => { k with sec := { k.sec with preferred := some n } }) s)
    | some st =>
      .done st [] (onCore (fun k => recordCause (secReg 0x30) 2 { k with sec := { k.sec with erased := n :: k.sec.erased } }) s)

/-- Meaning of SEC_IMAGE_COMMIT (R491, R492). -/
def execSecImageCommit (c : Cmd) (s : State) : Host.Outcome State Fault Refusal := .next (takeCmd opSecImageCommit c s)

/-! ### Counters and keys (R493, R494) -/

/-- The field of a rollback counter: 0 STEWARD, 1 FABRIC. -/
def counterOf (k : Core) (n : Nat) : Nat := if n = 0 then stewardCounter k else regFld k (secReg 0x10) 22 16

/-- SEC_ROLLBACK_ADVANCE (0x0E03). -/
def opSecRollbackAdvance : OpDef where
  opcode := 0x0E03
  target := isPage .sec
  params := fun c s => firstSome
    [ exactly 2 c, inRange (pn c.params 0) 0 1
    , refuseIf (decide (64 < pn c.params 1) || decide (pn c.params 1 < counterOf s.core (pn c.params 0))
        || (pn c.params 0 == 0 && decide (s.core.sec.runVersion < pn c.params 1))) stParameter ]
  state := fun c s => unitRefusal s.core c.target.toNat
  run := fun c _ s => .done stDone []
    (onCore (if pn c.params 0 = 0 then setRegFld (secReg 0x10) 6 0 (pn c.params 1) else setRegFld (secReg 0x10) 22 16 (pn c.params 1)) s)

/-- Meaning of SEC_ROLLBACK_ADVANCE (R493). -/
def execSecRollbackAdvance (c : Cmd) (s : State) : Host.Outcome State Fault Refusal := .next (takeCmd opSecRollbackAdvance c s)

/-- SEC_KEY_REVOKE (0x0E04). -/
def opSecKeyRevoke : OpDef where
  opcode := 0x0E04
  target := isPage .sec
  params := fun c _ => firstSome [exactly 1 c, inRange (pn c.params 0) 0 3]
  state := fun c s => firstSome
    [ unitRefusal s.core c.target.toNat
    , refuseIf (s.core.sec.runKey == pn c.params 0
        || (List.range 4).all (fun i => i == pn c.params 0 || keyRevoked s.core i)) stState ]
  run := fun c _ s => .done stDone [] (onCore (setRegBit (secReg 0) (20 + pn c.params 0) true) s)

/-- Meaning of SEC_KEY_REVOKE (R494). -/
def execSecKeyRevoke (c : Cmd) (s : State) : Host.Outcome State Fault Refusal := .next (takeCmd opSecKeyRevoke c s)

/-! ### Debug unlock (R501) -/

/-- `n` words that the spec does not state (log entry 1). -/
def drawWords (n : Nat) (k : Core) : List Word × Core :=
  match n with
  | 0 => ([], k)
  | m + 1 => let d := drawWord k; let r := drawWords m d.2; (d.1 :: r.1, r.2)

/-- The serial's two words. -/
def serialWords (k : Core) : List Word := [reg k (secReg 4), reg k (secReg 8)]

/-- A challenge: a nonce of 32 bytes and the serial; the nonce serves one attempt. -/
def debugChallenge (k : Core) : List Word × Core :=
  let r := drawWords 8 k
  (r.1 ++ serialWords k, { r.2 with sec := { r.2.sec with nonce := some { words := r.1, since := k.clock.uptime } } })

/-- An attempt to unlock: the nonce is spent, and DEBUG_UNLOCKED is set when the debug key's signature over the nonce and the
serial verifies. -/
def debugUnlock (nonce : Option (List Word)) (signature : List Byte) (k : Core) : Bool × Core :=
  let k1 := { k with sec := { k.sec with nonce := none } }
  match k.sec.nonce with
  | some n =>
    if nonce.all (fun l => l == n.words) ∧ Config.verify 4 (bytesOf (n.words ++ serialWords k)) signature then
      (true, recordCause (secReg 0x30) 3 (setRegBit (secReg 0) 29 true k1))
    else (false, k1)
  | none => (false, k1)

/-- SEC_DEBUG_CHALLENGE (0x0E05). -/
def opSecDebugChallenge : OpDef where
  opcode := 0x0E05
  target := isPage .sec
  params := fun c _ => exactly 0 c
  state := fun c s => unitRefusal s.core c.target.toNat
  run := fun _ _ s => let r := debugChallenge s.core; .done stDone r.1 { s with core := r.2 }

/-- Meaning of SEC_DEBUG_CHALLENGE (R501). -/
def execSecDebugChallenge (c : Cmd) (s : State) : Host.Outcome State Fault Refusal := .next (takeCmd opSecDebugChallenge c s)

/-- SEC_DEBUG_UNLOCK (0x0E06). -/
def opSecDebugUnlock : OpDef where
  opcode := 0x0E06
  target := isPage .sec
  params := fun c _ => exactly 32 c
  state := fun c s => unitRefusal s.core c.target.toNat
  run := fun c _ s =>
    let r := debugUnlock (some (c.params.take 8)) (bytesOf (c.params.drop 8)) s.core
    .done (if r.1 then stDone else stSignature) [] { s with core := r.2 }

/-- Meaning of SEC_DEBUG_UNLOCK (R501). -/
def execSecDebugUnlock (c : Cmd) (s : State) : Host.Outcome State Fault Refusal := .next (takeCmd opSecDebugUnlock c s)

/-- DEBUG_NONCE_LAPSE: 60 s after it was issued the nonce lapses. -/
def opDebugNonceLapse (k : Core) : Core :=
  if k.sec.nonce.any (fun n => decide (n.since + msTicks 60000 ≤ k.clock.uptime)) then
    { k with sec := { k.sec with nonce := none } }
  else k

/-- Meaning of DEBUG_NONCE_LAPSE (R501). -/
def execDebugNonceLapse (s : State) : Host.Outcome State Fault Refusal := .next (onCore opDebugNonceLapse s)

/-- The serials of an allow-list, two words each. -/
def serialsOf (l : List Word) : List (BitVec 64) :=
  match l with
  | lo :: hi :: t => (hi ++ lo) :: serialsOf t
  | _ => []

/-- SEC_ALLOWLIST_SET (0x0E07). -/
def opSecAllowlistSet : OpDef where
  opcode := 0x0E07
  target := isPage .sec
  params := fun c _ => refuseIf (c.params.length % 2 != 0 || decide (128 < c.params.length)) stLength
  state := fun c s => unitRefusal s.core c.target.toNat
  run := fun c _ s => .done stDone [] (onCore (fun k =>
    setRegFld (secReg 0x18) 14 8 (c.params.length / 2) { k with sec := { k.sec with allow := serialsOf c.params } }) s)

/-- Meaning of SEC_ALLOWLIST_SET (R503, R504). -/
def execSecAllowlistSet (c : Cmd) (s : State) : Host.Outcome State Fault Refusal := .next (takeCmd opSecAllowlistSet c s)

/-! ### Attestation (R495, R496) -/

/-- The content that measurement block `i` digests (Table SEC-3), its words least significant byte first. -/
def measuredBytes (k : Core) (i : Nat) : List Byte :=
  match i with
  | 1 => Config.bootRom
  | 2 => bankBytes k (bootBank k) ++ bytesOf [BitVec.ofNat 32 (bootBank k), BitVec.ofNat 32 k.sec.runVersion]
  | 3 => bytesOf [reg k (secReg 0x10), reg k (secReg 0) &&& 0xE0F00000]
  | 4 => bytesOf ([readReg k 0x81F00004] ++ serialWords k ++ [reg k (secReg 0xC)])
  | 5 => bytesOf ((List.range 8).flatMap (fun r => [reg k (treeReg r 0x204), reg k (treeReg r 0x208)]))
  | _ => bytesOf [BitVec.ofNat 32 (regFld k 0x8DF00000 19 16), BitVec.ofNat 32 (regFld k 0x8DF00000 29 29),
      slotWord k (regFld k 0x8DF00000 19 16) 36928]

/-- A measurement block: its index and SHA-384 digest at this moment. -/
def measurement (k : Core) (i : Nat) : Nat × List Byte := (i, Config.sha384 (measuredBytes k i))

/-- A 16-bit number in a request. -/
def half (l : List Byte) (i : Nat) : Nat := (l.getD i 0).toNat + 256 * (l.getD (i + 1) 0).toNat

/-- The answer to an SPDM request with the responder's handshake step after it, and whether it draws a nonce (Table SEC-2). The
request codes, the order of requests and the error codes are those of SPDM 1.2 (log entry 10). -/
def spdmAnswer (l : List Byte) (k : Core) : SpdmAnswer × Nat × Core :=
  let code := (l.getD 1 0).toNat
  let p1 := (l.getD 2 0).toNat
  let p2 := (l.getD 3 0).toNat
  let st := k.sec.spdm
  let heard := k.sec.transcript ++ l
  if code = 0x84 then (.version 0x12, 1, k)
  else if (l.getD 0 0).toNat ≠ 0x12 then (.error 0x41, st, k)
  else if ¬ [0xE1, 0xE3, 0x81, 0x82, 0x83, 0xE0].contains code then (.error 0x07, st, k)
  else if code = 0xE1 then (if st = 1 then (.capabilities 17 0x16, 2, k) else (.error 0x04, st, k))
  else if code = 0xE3 then (if st = 2 then (.algorithms, 3, k) else (.error 0x04, st, k))
  else if st ≠ 3 then (.error 0x04, st, k)
  else if code = 0x81 then (.digests (Config.sha384 Config.certChain), 3, k)
  else if code = 0x82 then
    if p1 ≠ 0 then (.error 0x01, 3, k)
    else
      let part := (Config.certChain.drop (half l 4)).take (half l 6)
      (.certificate part (Config.certChain.length - half l 4 - part.length), 3, k)
  else if code = 0x83 then
    if p1 ≠ 0 then (.error 0x01, 3, k)
    else
      let n := drawWords 8 k
      let sum := if p2 = 0 then [] else Config.sha384 (((List.range 6).map (fun i => (measurement k (i + 1)).2)).flatten)
      (.challengeAuth n.1 sum (Config.sign (Config.sha384 (heard ++ bytesOf n.1 ++ sum))), 3, n.2)
  else
    let blocks := if p2 = 0 then [] else if p2 = 0xFF then (List.range 6).map (fun i => measurement k (i + 1)) else [measurement k p2]
    if p2 ≠ 0xFF ∧ 6 < p2 then (.error 0x01, 3, k)
    else
      let n := drawWords 8 k
      let body := (blocks.flatMap (fun e => BitVec.ofNat 8 e.1 :: e.2)) ++ bytesOf n.1
      (.measurements 6 blocks n.1 (if p1 % 2 = 1 then Config.sign (Config.sha384 (heard ++ body)) else []), 3, n.2)

/-- SPDM_REQUEST: the responder answers on the DOE mailbox; Steward time is charged to TD. -/
def opSpdmRequest (l : List Byte) (k : Core) : Core :=
  if k.stw.restarting ∨ ¬ k.stw.linkUp ∨ powerHolds k 0 then k
  else
    let k0 := chargeClass 0x81F0F000 3 (Config.stewardTime 0 k.freeCtr) { k with freeCtr := k.freeCtr + 1 }
    let r := spdmAnswer l k0
    { r.2.2 with sec := { r.2.2.sec with
        spdm := r.2.1
        transcript := if (l.getD 1 0).toNat = 0x84 then l else k0.sec.transcript ++ l
        answers := r.2.2.sec.answers ++ [r.1] } }

/-- Meaning of SPDM_REQUEST (R495, R496). -/
def execSpdmRequest (request : List Byte) (s : State) : Host.Outcome State Fault Refusal :=
  .next (onCore (opSpdmRequest request) s)

/-! ### The test access port (R500, R501) -/

/-- Is debug unlocked? -/
def debugUnlocked (k : Core) : Bool := regBit k (secReg 0) 29

/-- IDCODE: part number 0x5501 in bits [27:12] and a 1 in bit 0 (log entry 10). -/
def idcode : Word := putBit (setFld Config.idcodeRest 27 12 0x5501) 0 true

/-- The instruction that the port selects: a locked one selects BYPASS. -/
def tapSelect (k : Core) (i : TapOp) : TapOp :=
  match i with
  | .extest _ _ | .debug _ => if debugUnlocked k then i else .bypass
  | _ => i

/-- What an instruction's data register gives, and what the instruction does. -/
def tapRun (i : TapOp) (k : Core) : List Word × Core :=
  match i with
  | .idcode => ([idcode], k)
  | .readPower off => ([readReg k (0x89F00000 + off % 2 ^ 20 / 4 * 4)], k)
  | .readOrder => ([readReg k 0x81F00004], k)
  | .challenge => debugChallenge k
  | .unlock sig => ([], (debugUnlock none sig k).2)
  | .extest pins commons => ([], { k with sec := { k.sec with extest := some (pins, commons) } })
  | .bypass | .samplePreload | .debug _ => ([], k)

/-- TAP_INSTRUCTION: an instruction is loaded. EXTEST ends as another is; TDO is at high impedance while VIO is down (R434). -/
def opTapInstruction (i : TapOp) (k : Core) : Core :=
  let sel := tapSelect k i
  let r := tapRun sel { k with sec := { k.sec with extest := none } }
  { r.2 with sec := { r.2.sec with tap := sel, tapData := if regFld k 0x89F00050 5 4 = 2 then r.1 else [] } }

/-- Meaning of TAP_INSTRUCTION (R500, R501). -/
def execTapInstruction (i : TapOp) (s : State) : Host.Outcome State Fault Refusal := .next (onCore (opTapInstruction i) s)

/-! ### Admission (R422, R423, R498, R499, R502) -/

/-- The T port of a paired module becomes ACTIVE: with the partner's serial the pair is PAIRED again and a full resend follows
(R422); with another serial the partner is replaced (R423). -/
def pairAdmitted (q : Partner) (k : Core) : Core :=
  if pairState k ≠ 2 ∧ pairState k ≠ 3 then k
  else if reg64 k (pairReg 0x410) = q.serial.toNat then
    setRegFld (pairReg 0x404) 31 28 2 { k with pair := { k.pair with replaced := false, mirrorQ := [], resync := true } }
  else
    recordCause (pairReg 0x560) 3 (setRegBit (pairReg 0x404) 22 true
      (setRegFld (pairReg 0x404) 31 28 3 { k with pair := { k.pair with replaced := true, mirrorQ := [] } }))

/-- PORT_ADMIT: the exchange of step 6 ends. -/
def opPortAdmit (p : Nat) (q : Partner) (k : Core) : Core :=
  if portState k p = 2 ∧ regFld k (portReg p 4) 27 24 = 6 then
    if admitOk k k.sec.allow q then
      let k1 := admitPort p q k
      if p = 2 then pairAdmitted q k1 else k1
    else failAdmission p k
  else k

/-- Meaning of PORT_ADMIT (R498, R499, R502). -/
def execPortAdmit (port : Port) (partner : Partner) (s : State) : Host.Outcome State Fault Refusal :=
  .next (onCore (opPortAdmit (portNo port) partner) s)

end Sys2Proof.Machine
end

