-- ==== Sys2Proof/Machine/Power.lean ====
section
/-! DEFINITION. Power states: held units, the save list, requests, and the entries to Doze, Slumber and Off with their abort points
(R431 to R445). -/

namespace Sys2Proof.Machine

/-! ### Domains (R431, R432) -/

/-- Is a region held by a power target? -/
def heldRegion (t : PowerTarget) (r : Nat) : Bool := t.regions.testBit r

/-- Is a block held by a power target, itself or with its region (R432)? -/
def heldBlock (t : PowerTarget) (b : Nat) : Bool := t.blocks.testBit b || heldRegion t (b / 8)

/-- The state of a domain under a power target (Table PWR-3, R257, R432). -/
def domWant (k : Core) (t : PowerTarget) (d : Nat) : Nat :=
  let kept (b : Nat) : Nat := if keptDoze k b then min 2 t.state else min 1 t.state
  if d < 128 then
    if heldBlock t (d / 2) ∨ t.state = 1 then (if d % 2 = 0 then kept (d / 2) else min 1 t.state) else t.state
  else if d < 144 then
    let r := (d - 128) / 2
    if d % 2 = 1 ∧ t.state = 1 then 0 else if heldRegion t r then min 1 t.state else t.state
  else if d < 148 then (if d - 144 < stacksFitted k.order then t.state else 0)
  else if d < 152 then (if t.state = 0 then 0 else if t.state = 1 then 2 else 3)
  else (if t.state < 2 then t.state else 3)

/-- Every domain takes its state under a power target. -/
def setDomains (t : PowerTarget) (k : Core) : Core := (List.range 156).foldl (fun acc d => setDom d (domWant k t d) acc) k

/-- The held masks in effect (R459): a held region's blocks are held with it. -/
def showHeld (t : PowerTarget) (k : Core) : Core :=
  setReg (pwrReg 0x10) (BitVec.ofNat 32 t.regions)
    (setReg64 (pwrReg 8) (listBits ((List.range 64).filter (heldBlock t))) k)

/-! ### The Strongroom (R445 to R447) -/

/-- The registers of the logic fabric (R291), which are not saved (Table PWR-8). -/
def fabricReg (p : Page) (off : Nat) : Bool :=
  match p with
  | .tree _ => decide (0x200 ≤ off) && decide (off < 0x228)
  | .block _ => decide (0xA00 ≤ off) && decide (off < 0xA10)
  | _ => false

/-- Calibration results (Table PWR-8, R472, R480), SUB_INCARNATION, and BLOCK_FAULT, since a park lasts through every power state
(R513). -/
def keptReg (p : Page) (off : Nat) : Bool :=
  match p with
  | .cell _ => off == 0x60 || (decide (0xA0 ≤ off) && decide (off < 0xD0)) || (decide (0x100 ≤ off) && decide (off < 0x140))
      || (decide (0x400 ≤ off) && decide (off < 0x450))
  | .block _ => off == 8 || (decide (0x428 ≤ off) && decide (off < 0x438)) || off == 0xB04 || off == 0xB0C
      || (decide (0xB10 ≤ off) && decide (off < 0xB38)) || off == 0xC00
  | _ => false

/-- Is a register on the save list (Table PWR-8): every one with an RW, FS or SQC field, and the results above? -/
def savable (a : Nat) : Bool :=
  match pageOf a, rowOf a with
  | some p, some r => !fabricReg p (pageOff a) && (r.rw ||| r.fs != 0 || r.event || keptReg p (pageOff a))
  | _, _ => false

/-- The registers of some pages as the save list holds them. -/
def savedRegs (p : Page → Bool) (k : Core) : AMap Word := k.regs.filter (fun e => (pageOf e.1).any p && savable e.1)

/-- Some pages are saved over what the Strongroom held for them; VALID is set. BYTES of STRONG_STATUS has no stated value (log
entry 1). -/
def savePages (p : Page → Bool) (k : Core) : Core :=
  let d := drawWord k
  let own := savedRegs p k
  let other := k.pwr.strong.filter (fun e => !(pageOf e.1).any p)
  setRegFld (pwrReg 0x80) 21 0 (d.1.toNat % 2097153) (setRegBit (pwrReg 0x80) 31 true
    { d.2 with pwr := { d.2.pwr with
      strong := own.foldl (fun acc e => amSet acc e.1 e.2) other
      badPages := d.2.pwr.badPages.filter (fun a => !(pageOf a).any p) } })

/-- Does a page belong to the domains that a held block leaves (R432)? -/
def blockPages (b : Nat) (p : Page) : Bool := pageInBlock b p

/-- Does a page belong to a region or one of its blocks? -/
def regionPages (r : Nat) (p : Page) : Bool := pageInRegion r p || (List.range 8).any (fun i => pageInBlock (8 * r + i) p)

/-- The pages of the region dies whose domains are not held. -/
def awakePages (t : PowerTarget) (p : Page) : Bool :=
  (List.range 8).any (fun r => !heldRegion t r
    && (pageInRegion r p || (List.range 8).any (fun i => !heldBlock t (8 * r + i) && pageInBlock (8 * r + i) p)))

/-- The pages of the switched hub domains and the archive, which only an entry to Off saves (R445). -/
def hubPages (p : Page) : Bool :=
  match p with
  | .hub | .port _ | .car | .cat | .evt | .sec | .cal | .chr | .stack _ | .arccom => true
  | _ => false

/-- A level or waveform DAC takes a restored code and span directly (Table PWR-7B, step 5). -/
def dacDirect (c i : Nat) (k : Core) : Core :=
  let w := reg k (cellReg c (dacOff i))
  setDac c i { dacReset i with out := fld w 15 0, fine := if i < 6 then bit w 31 else false, target := w } k

/-- The DACs of a block take their restored values. -/
def dacsDirect (b : Nat) (k : Core) : Core :=
  let k1 := (List.range 17).foldl (fun acc c => (List.range 11).foldl (fun a i => dacDirect (cellOfBlock b c) i a) acc) k
  [0, 1].foldl (fun acc i =>
    setWdac b i { wdacReset with
      target := wdacA acc b i, fresh := true
      dac := { wdacReset.dac with out := wdacA acc b i, fine := bit (reg acc (wdacReg b i 0)) 31, target := reg acc (wdacReg b i 0) } } acc) k1

/-- RESTORE_FAIL of a page (R446). -/
def restoreFail (base : Nat) (k : Core) : Core := recordCause (pwrReg 0x88) 5 (setReg (pwrReg 0x84) (BitVec.ofNat 32 base) k)

/-- STRONGROOM_RESTORE (R445): the saved registers of some pages are written as they were saved, without accession or event; a page
whose record fails keeps its reset values (R446). -/
def restorePages (src : AMap Word) (p : Page → Bool) (failed : List Word) (k : Core) : Core :=
  let bad := ((failed.map BitVec.toNat ++ k.pwr.badPages).filter (fun a => (pageOf a).any p && pageOff a == 0)).dedup
  let ok (a : Nat) : Bool := (pageOf a).any (fun q => p q && !bad.contains (pageBase q))
  let k1 := (src.filter (fun e => ok e.1)).foldl (fun acc e => setReg e.1 e.2 acc) k
  bad.foldl (fun acc a => restoreFail a acc) k1

/-- A block leaves its hold: its registers restored, its DACs and pins following (R432). -/
def releaseBlock (b : Nat) (k : Core) : Core :=
  let was := domState k (2 * b)
  let k1 := restorePages k.pwr.strong (blockPages b) [] (wipeBlock b k)
  let good := fun c => !(k.pwr.badPages.contains (pageBase (.cell c)))
  let k2 := if good (cellOfBlock b 0) then dacsDirect b k1 else k1
  if was < 2 then wmPowerUp b k2 else k2

/-- A region leaves its hold: its own registers restored, its multiplier locked again where TREF is present. -/
def releaseRegion (r : Nat) (k : Core) : Core :=
  relockRegion r (restorePages k.pwr.strong (pageInRegion r) [] (wipeRegion r k))

/-- The measurement channels of a block restart, with the tags of R190. -/
def restartChannels (b : Nat) (k : Core) : Core := (List.range 17).foldl (fun acc ch => noteChange true true b ch acc) k

/-- The turn of a block ends with an entry or a hold (Table CAL-5): a pin handed to the spare is forced back. -/
def forceTurn (b : Nat) (k : Core) : Core :=
  match amGet? k.cal.turns b with
  | some t => if t.handed then spareReturns b k else endTurn b k
  | none => k

/-- The held units change, in Awake or Doze (R432): what becomes held is saved and put to Slumber, what is released is restored. -/
def changeHeld (t : PowerTarget) (k : Core) : Core :=
  let old := k.pwr.present
  let addB := (List.range 64).filter (fun b => heldBlock t b && !heldBlock old b)
  let addR := (List.range 8).filter (fun r => heldRegion t r && !heldRegion old r)
  let relB := (List.range 64).filter (fun b => heldBlock old b && !heldBlock t b)
  let relR := (List.range 8).filter (fun r => heldRegion old r && !heldRegion t r)
  let k1 := if addB.isEmpty ∧ addR.isEmpty then k
    else savePages (fun p => addB.any (fun b => blockPages b p) || addR.any (fun r => pageInRegion r p))
      (addB.foldl (fun acc b => forceTurn b acc) k)
  let k2 := (addB.map (· / 8)).dedup.foldl (fun acc r => fabLose r acc) k1
  let k3 := relB.foldl (fun acc b => releaseBlock b acc) (relR.foldl (fun acc r => releaseRegion r acc) k2)
  let k4 := showHeld t (setDomains t { k3 with pwr := { k3.pwr with present := t } })
  relB.foldl (fun acc b => restartChannels b acc) (refreshAllBlocks k4)

/-! ### Requests (R436 to R438) -/

/-- The result word of a POWER_STATE ticket. -/
def powerResult (outcome : Nat) (t : PowerTarget) (st : Nat) (k : Core) : Word :=
  BitVec.ofNat 32 (outcome * 2 ^ 24 + powerState k * 2 ^ 22 + t.state * 2 ^ 20 + st)

/-- POWER_STATE tickets complete with an outcome. -/
def endPowerTickets (tickets : List Word) (outcome : Nat) (t : PowerTarget) (k : Core) : Core :=
  tickets.foldl (fun acc id => completeTicket id stDone [powerResult outcome t 0 acc] acc) k

/-- The target that a POWER_STATE names. -/
def powerTarget (c : Cmd) : PowerTarget :=
  { state := fld (pw c.params 0) 31 30, blocks := pn64 c.params 1, regions := fld (pw c.params 3) 7 0 }

/-- Is a region's engine affected by a target (Table PWR-6)? -/
def engineAffected (k : Core) (t : PowerTarget) (r : Nat) : Bool :=
  decide (t.state < 3) || heldRegion t r || (List.range 8).any (fun i => heldBlock t (8 * r + i) && !heldBlock k.pwr.present (8 * r + i))

/-- Is a work one that keeps a power change out (Table PWR-6)? -/
def barsPower (w : Work) : Bool :=
  match w with
  | .selfcal | .fabLoad .. | .pairRestore => true
  | _ => false

/-- The refusals of Table PWR-6 with STATE. -/
def powerRefused (k : Core) (t : PowerTarget) : Bool :=
  let changes := t.blocks != k.pwr.present.blocks || t.regions != k.pwr.present.regions
  ((decide (t.state < 3) || changes) &&
    ((List.range 8).any (fun r => engineBusy k r && engineAffected k t r)
      || k.car.folios.any (fun e => e.2.state != .opened)
      || (List.range 8).any (fun r => tenRole k r == 1 || tenRole k r == 3)
      || k.stw.tickets.any (fun e => e.2.status.isNone && barsPower e.2.work) || k.stw.orphans.any (fun e => barsPower e.2)))
  || (decide (t.state < 2) && (role k == 1 || pairState k != 0 || !k.pair.witness.isEmpty))

/-- The power target in effect is reached. -/
def reachTarget (t : PowerTarget) (k : Core) : Core :=
  showPower (setPowerStep 0 (setPowerState t.state { k with pwr := { k.pwr with present := t, run := none } }))

/-- The queued request starts (R437, R438): refused now, it completes REFUSED; a change of held units alone completes at once. -/
def startQueued (k : Core) : Core :=
  match k.pwr.queued with
  | some q =>
    let k1 := { k with pwr := { k.pwr with queued := none } }
    if powerRefused k q.target then
      showPower (recordCause (pwrReg 0x88) 2
        (completeTicket q.ticket stDone [powerResult 5 q.target stState.toNat k1] k1))
    else if q.target.state = powerState k then
      let k2 := if 2 ≤ q.target.state then changeHeld q.target k1 else k1
      endPowerTickets [q.ticket] 1 q.target (recordCause (pwrReg 0x88) 0 (reachTarget q.target k2))
    else beginTransition q.target [q.ticket] k1
  | none => k

/-- What follows a transition (R438, R439): a wake event that waits, unless its target holds already; then the queued request. A
module reset that waits takes effect first. -/
def nextTransition (k : Core) : Core :=
  let k1 := { k with pwr := { k.pwr with wake := none } }
  match k.pwr.wake with
  | some w => if w.target = k.pwr.present then (if k.pwr.reset.isSome then k1 else startQueued k1) else beginTransition w.target [] k1
  | none => if k.pwr.reset.isSome ∧ powerState k = 3 then k1 else startQueued k1

/-- A POWER_STATE request (R438). -/
def requestPower (t : PowerTarget) (id : Word) (k : Core) : Core :=
  if t = currentTarget k then
    let k1 := match k.pwr.queued with
      | some q => showPower (endPowerTickets [q.ticket] 3 q.target { k with pwr := { k.pwr with queued := none } })
      | none => k
    match k1.pwr.run with
    | some r => if r.passed then endPowerTickets [id] 1 t k1
        else { k1 with pwr := { k1.pwr with run := some { r with tickets := r.tickets ++ [id] } } }
    | none => endPowerTickets [id] 1 t k1
  else
    let k1 := match k.pwr.queued with
      | some q => endPowerTickets [q.ticket] 2 q.target k
      | none => k
    let k2 := showPower { k1 with pwr := { k1.pwr with queued := some { target := t, ticket := id } } }
    if k2.pwr.run.isNone ∧ k2.pwr.reset.isNone then startQueued k2 else k2

/-- POWER_STATE (0x0C01). -/
def opPowerState : OpDef where
  opcode := 0x0C01
  target := isPage .pwr
  params := fun c _ => firstSome [exactly 4 c, onlyBits (pw c.params 0) 0xC0000000, onlyBits (pw c.params 3) 0xFF]
  state := fun c s => refuseIf (powerRefused s.core (powerTarget c)) stState
  run := fun c _ _ => .ticketed .power noTick [] (fun id s' => onCore (requestPower (powerTarget c) id) s')

/-- Meaning of POWER_STATE (R436 to R439). -/
def execPowerState (c : Cmd) (s : State) : Host.Outcome State Fault Refusal := .next (takeCmd opPowerState c s)

/-- POWER_STATUS_READ (0x0C02). -/
def opPowerStatusRead : OpDef where
  opcode := 0x0C02
  read := true
  target := isPage .pwr
  params := fun c _ => exactly 0 c
  run := fun _ _ s => .done stDone
    (([0, 8, 0xC, 0x10] ++ (List.range 10).map (fun w => 0x20 + 4 * w) ++ [0x50, 0x80, 0x14]).map (fun o => readReg s.core (pwrReg o))) s

/-- Meaning of POWER_STATUS_READ (R458). -/
def execPowerStatusRead (c : Cmd) (s : State) : Host.Outcome State Fault Refusal := .next (takeCmd opPowerStatusRead c s)

/-- POWER_RAIL_MAP_SET (0x0C04): the map is written to the nonvolatile store, which the registers show; the map in effect stays
until the next start-up. -/
def opPowerRailMapSet : OpDef where
  opcode := 0x0C04
  target := isPage .pwr
  params := fun c s => firstSome (exactly 7 c
    :: refuseIf (s.core.order == .a000 && bit (pw c.params 2) 31) stParameter
    :: (List.range 7).map (fun i => onlyBits (pw c.params i) 0x817F00FF))
  run := fun c _ s => .done stDone []
    (onCore (fun k => (List.range 7).foldl (fun acc i => setReg (pwrReg (0x60 + 4 * i)) (pw c.params i) acc) k) s)

/-- Meaning of POWER_RAIL_MAP_SET (R449, R458). -/
def execPowerRailMapSet (c : Cmd) (s : State) : Host.Outcome State Fault Refusal := .next (takeCmd opPowerRailMapSet c s)

/-! ### Entries (R439 to R442) -/

/-- Does a wake-class request wait for an abort point of the running entry (R439): a wake event, or a queued request whose target
ranks above that of the entry? -/
def wakeWaits (k : Core) : Bool :=
  k.pwr.wake.isSome || k.pwr.run.any (fun t => k.pwr.queued.any (fun q => decide (t.target.state < q.target.state)))

/-- Step 1 of an entry: channels, generators and schedules stop, and calibration turns end (Table CAL-5). -/
def entryStopsChannels (gate : Bool) (k : Core) : Core :=
  let k1 := (List.range 64).foldl (fun acc b => forceTurn b acc) k
  let k2 := setPowerStep 1 { k1 with pwr := { k1.pwr with parked := 1, gated := gate } }
  refreshAllBlocks k2

/-- Step 2 of an entry: pins and commons take their Doze settings, or open. -/
def entryPins (level : Nat) (k : Core) : Core := refreshAllBlocks (setPowerStep 2 { k with pwr := { k.pwr with parked := level } })

/-- The entry's tickets complete REACHED at its last abort point (R436), and the cause is recorded. -/
def entryReached (t : Transition) (k : Core) : Core :=
  recordCause (pwrReg 0x88) 0 (endPowerTickets t.tickets 1 t.target
    { k with pwr := { k.pwr with run := some { t with passed := true, tickets := [] } } })

/-- The entry to Doze ends: the domains go to DOZE. -/
def dozeReached (t : Transition) (k : Core) : Core :=
  let k1 := changeHeld t.target (entryReached t k)
  refreshAllBlocks (nextTransition (reachTarget t.target { k1 with pwr := { k1.pwr with parked := 0 } }))

/-- DOZE_ENTRY_STEP: steps 1 and 2 of R440, with an abort point after each. A wake-class request that waits there is left to
ENTRY_ABORT. -/
def opDozeEntryStep (k : Core) : Core :=
  match k.pwr.run with
  | some t =>
    if t.target.state ≠ 2 ∨ powerState k ≠ 3 then k
    else if powerStep k = 0 then entryStopsChannels false k
    else if wakeWaits k then k
    else if powerStep k = 1 then
      let k1 := entryPins 2 k
      if wakeWaits k1 then k1 else dozeReached t k1
    else k
  | none => k

/-- Meaning of DOZE_ENTRY_STEP (R440). -/
def execDozeEntryStep (s : State) : Host.Outcome State Fault Refusal := .next (onCore opDozeEntryStep s)

/-- A transition that ends in Awake or Doze is REACHED, or FAILED where a rail it needs failed (R451). -/
def endWake (t : Transition) (k : Core) : Core :=
  let target := if t.failed then { t.target with state := 3 } else t.target
  let k1 := reachTarget target k
  let k2 := if t.failed then endPowerTickets t.tickets 6 t.target k1
    else endPowerTickets t.tickets 1 t.target (recordCause (pwrReg 0x88) 0 k1)
  nextTransition k2

/-- DOZE_EXIT: the domains return to AWAKE, the pins reconnect, and the channels and schedules go on. -/
def opDozeExit (k : Core) : Core :=
  match k.pwr.run with
  | some t =>
    if t.target.state = 3 ∧ powerState k = 2 then
      let k1 := changeHeld t.target k
      let k2 := (List.range 64).foldl (fun acc b => if heldBlock t.target b then acc else restartChannels b acc) k1
      endWake t k2
    else k
  | none => k

/-- Meaning of DOZE_EXIT (R440). -/
def execDozeExit (s : State) : Host.Outcome State Fault Refusal := .next (onCore opDozeExit s)

/-- The save of an entry (Table PWR-7A, step 3): the pages whose domains go to Slumber, and for Off those of the hub too. -/
def entrySave (t : Transition) (k : Core) : Core :=
  let off := t.target.state == 0
  setRegBit (pwrReg 0x80) 28 off (savePages (fun p => (decide (2 ≤ powerState k) && awakePages t.prior p) || (off && hubPages p)) k)

/-- Step 3 ends at AP3, the last abort point of an entry to Slumber, which is then REACHED. -/
def entryStep3 (t : Transition) (k : Core) : Core :=
  let k1 := setPowerStep 3 (entrySave t k)
  if t.target.state = 1 ∧ ¬ wakeWaits k1 then entryReached t k1 else k1

/-- The Chronicle's TREF path is unpowered (R107): the count passes to the keeper at C0, unless it rests there already or has not
started. -/
def sleepClock (k : Core) : Core :=
  let k1 := if k.clock.by_ = .tref then passToKeeper k
    else setRegBit 0x8FF0000C 0 false (timingBit 0 false (timingBit 1 false (timingBit 2 false k)))
  { k1 with clock := { k1.clock with sleeping := true, handbackAt := none, waking := false } }

/-! ### Regulator requests (R448 to R451) -/

/-- PWR_RAIL_STATUS of a rail: 0 off, 1 changing, 2 on, 3 reduced. -/
def railState (k : Core) (n : Nat) : Nat := regFld k (pwrReg 0x50) (4 * n + 1) (4 * n)

/-- The state of a rail set. -/
def setRail (n v : Nat) (k : Core) : Core := setRegFld (pwrReg 0x50) (4 * n + 1) (4 * n) v k

/-- Is a rail commanded under the rail map in effect (R448)? -/
def railCommanded (k : Core) (n : Nat) : Bool := k.pwr.railEn.testBit n

/-- The first request of the list is sent: the rail is changing, with FAULT and TIMEOUT clear, and VCORE takes its target. -/
def sendRail (k : Core) : Core :=
  match k.pwr.rails with
  | q :: t =>
    let k1 := setRail q.rail 1 (setRegFld (pwrReg 0x50) (4 * q.rail + 3) (4 * q.rail + 2) 0
      { k with pwr := { k.pwr with rails := { q with was := railState k q.rail, since := k.clock.uptime } :: t } })
    if q.rail = 0 ∧ q.want = 3 then setReg (pwrReg 0x54) 650 k1
    else if q.rail = 0 ∧ q.want = 2 ∧ k.pwr.startup.isSome then setReg (pwrReg 0x54) 800 k1
    else if q.rail = 0 ∧ q.want = 2 then setReg (pwrReg 0x54) (BitVec.ofNat 32 k.pwr.vcoreAwake) k1
    else k1
  | [] => k

/-- Requests for rails in order, each after the acknowledgement of the one before (R450). Rails that are not commanded, or are as
wanted, are left out. -/
def requestRails (l : List (Nat × Nat)) (k : Core) : Core :=
  let due := (l.filter (fun e => railCommanded k e.1 && railState k e.1 != e.2)).map (fun e =>
    ({ rail := e.1, want := e.2, was := 0, since := 0 } : RailReq))
  let k1 := { k with pwr := { k.pwr with rails := k.pwr.rails ++ due } }
  if k.pwr.rails.isEmpty then sendRail k1 else k1

/-- Slumber is reached (Table PWR-7A, step 6). -/
def slumberReached (t : Transition) (k : Core) : Core :=
  nextTransition (reachTarget t.target { k with pwr := { k.pwr with parked := 0, gated := false } })

/-- Step 4 of an entry to Slumber, and the requests of step 5: the count passes to the keeper, the domains take their Slumber
states, and configurations are lost (R288). -/
def entrySleeps (t : Transition) (k : Core) : Core :=
  let k1 := sleepClock k
  let k2 := (List.range 8).foldl (fun acc r => fabLose r acc) k1
  let k3 := refreshAllBlocks (showHeld t.target (setDomains t.target k2))
  let kept := (List.range 64).any (keptDoze k3)
  let k4 := requestRails ((if kept then [] else [(6, 0), (5, 0), (4, 0)]) ++ [(3, 0), (0, 3)]) (setPowerStep 4 k3)
  if k4.pwr.rails.isEmpty then slumberReached t k4 else k4

/-- SLUMBER_ENTRY_STEP: the next step of Table PWR-7A; an entry to Off takes the first three (R442). -/
def opSlumberEntryStep (k : Core) : Core :=
  match k.pwr.run with
  | some t =>
    if 1 < t.target.state ∨ ¬ entryRuns k then k
    else if powerStep k = 0 then entryStopsChannels true k
    else if wakeWaits k ∧ ¬ t.passed then k
    else if powerStep k = 1 then entryPins 3 k
    else if powerStep k = 2 then entryStep3 t k
    else if powerStep k = 3 ∧ t.target.state = 1 ∧ t.passed then entrySleeps t k
    else k
  | none => k

/-- Meaning of SLUMBER_ENTRY_STEP (R441, R442). -/
def execSlumberEntryStep (s : State) : Host.Outcome State Fault Refusal := .next (onCore opSlumberEntryStep s)

/-- The backing copy of the Strongroom, with the module's serial (R442, R447). PWR_CTRL goes with it, since OFF_RESTORE decides at
a start-up that has lost VAON. -/
def backingCopy (k : Core) : Core :=
  setRegBit (pwrReg 0x80) 30 true { k with pwr := { k.pwr with
    backing := amSet k.pwr.strong (pwrReg 4) (reg k (pwrReg 4))
    backingSerial := some (reg k (secReg 4), reg k (secReg 8)) } }

/-- OFF_ENTRY_BACKING_COPY: the copy ends at the last abort point of an entry to Off; the domains go OFF, the rails are requested
off in the reverse of the start-up order, and the host link goes down. -/
def opOffEntryBackingCopy (k : Core) : Core :=
  match k.pwr.run with
  | some t =>
    if t.target.state ≠ 0 ∨ powerStep k ≠ 3 ∨ t.passed ∨ wakeWaits k then k
    else
      let k1 := entryReached t (backingCopy k)
      let k2 := sleepClock (opPcieLinkDown k1)
      requestRails [(6, 0), (5, 0), (4, 0), (3, 0), (2, 0), (1, 0), (0, 0)]
        (refreshAllBlocks (setDomains t.target (setPowerStep 4 k2)))
  | none => k

/-- ENTRY_ABORT (R439): the completed steps are undone, the target before the entry is restored, the tickets complete ABORTED, and
the wake-class request runs next. A save that the entry made is discarded. -/
def opEntryAbort (k : Core) : Core :=
  match k.pwr.run with
  | some t =>
    if ¬ entryRuns k ∨ t.passed ∨ powerStep k = 0 ∨ ¬ wakeWaits k then k
    else
      let saved := decide (powerStep k = 3) && decide (2 ≤ powerState k)
      let k1 := { k with pwr := { k.pwr with
        parked := 0, gated := false, run := none
        strong := if saved then k.pwr.strong.filter (fun e => !(pageOf e.1).any (awakePages t.prior)) else k.pwr.strong } }
      let k2 := if saved then setRegBit (pwrReg 0x80) 28 false (setRegBit (pwrReg 0x80) 31 false k1) else k1
      let k3 := refreshAllBlocks (reachTarget t.prior k2)
      let k4 := if t.prior.state = 3 then
          (List.range 64).foldl (fun acc b => if heldBlock t.prior b then acc else restartChannels b acc) k3
        else k3
      nextTransition (recordCause (pwrReg 0x88) 1 (endPowerTickets t.tickets 4 t.target k4))
  | none => k

/-- Meaning of ENTRY_ABORT (R439). -/
def execEntryAbort (s : State) : Host.Outcome State Fault Refusal := .next (onCore opEntryAbort s)

/-- STORE_INTERRUPTED: a store stops at the end of a word as a module reset or an entry to Slumber or Off has begun (R476). -/
def opStoreInterrupted (k : Core) : Core :=
  if k.pwr.reset.isSome ∨ (entryRuns k ∧ k.pwr.run.any (fun t => decide (t.target.state < 2))) then interruptStore k else k

/-- Meaning of STORE_INTERRUPTED (R476). -/
def execStoreInterrupted (s : State) : Host.Outcome State Fault Refusal := .next (onCore opStoreInterrupted s)

/-- WAKE_QUALIFIED: the wake condition of a block has held for its QUAL (R256). In Awake the cause is recorded; otherwise, and during
an entry, the block raises a wake request. -/
def opWakeQualified (b : Nat) (k : Core) : Core :=
  if blockWake k b ∧ ¬ k.wakeRaised.contains b ∧ 2 ≤ domState k (2 * b) ∧ ¬ blockStopped k b then
    let k1 := { k with wakeRaised := b :: k.wakeRaised }
    if powerState k = 3 ∧ ¬ entryRuns k then recordCause (blockReg b 0x704) 2 k1 else raiseWake 1 b k1
  else k

/-- Meaning of WAKE_QUALIFIED (R256, R443). -/
def execWakeQualified (b : Block) (s : State) : Host.Outcome State Fault Refusal := .next (onCore (opWakeQualified b.val) s)

/-- Does what WAKE_EVENT reports stand: a block whose request has been raised, a command that waits, a queued POWER_STATE of the
wake class, a module reset that waits? -/
def wakeStands (k : Core) (w : WakeSource) : Bool :=
  match w with
  | .monitors b => k.wakeRaised.contains b.val
  | .hostCommand => k.stw.queues.any (fun e => !e.2.waiting.isEmpty)
  | .caravanCommand => !k.stw.chainWaiting.isEmpty
  | .powerState => wakeWaits k && k.pwr.wake.isNone
  | .moduleReset => k.pwr.reset.isSome

/-- WAKE_EVENT (R439, R443): commands wake from Slumber; a POWER_STATE acts by its own request, and only its source is recorded. -/
def opWakeEvent (w : WakeSource) (k : Core) : Core :=
  if ¬ wakeStands k w then k
  else
    match w with
    | .monitors b => if powerState k = 3 ∧ ¬ entryRuns k then k else raiseWake 1 b.val k
    | .hostCommand => wakeForCommand 2 k
    | .caravanCommand => wakeForCommand 3 k
    | .powerState => setReg (pwrReg 0x14) 0x40000000 k
    | .moduleReset => if powerState k = 3 ∧ ¬ entryRuns k then k else raiseWake 5 0 k

/-- Meaning of WAKE_EVENT (R439, R443). -/
def execWakeEvent (source : WakeSource) (s : State) : Host.Outcome State Fault Refusal := .next (onCore (opWakeEvent source) s)

end Sys2Proof.Machine
end

