-- ==== Sys2Proof/Machine/PowerOn.lean ====
section
/-! DEFINITION. The wake from Slumber, regulator acknowledgements and failures, start-up, and the loss of power (R444 to R456,
R512, R531). -/

namespace Sys2Proof.Machine

/-! ### Loss of power (R442, R456, R531) -/

/-- The registers that outlast a loss of power: those of the nonvolatile store and the fuses, PWR_RAIL_STATUS, which follows the
regulators, and, while VAON holds, those of the always-on domain (R448, R459, R486, R488, R493, R498). -/
def coldKeeps (vaon : Bool) (a : Nat) : Bool :=
  match pageOf a with
  | some .pwr => let o := pageOff a; (vaon && (o == 4 || o == 0x80 || o == 0x84)) || o == 0x50 || (decide (0x60 ≤ o) && decide (o < 0x7C))
  | some .sec => [0, 4, 8, 0xC, 0x10, 0x18].contains (pageOff a)
  | _ => false

/-- The clock of a module without power: the keeper counts on while VAON holds (R107, R109). -/
def coldClock (vaon : Bool) (c : Clock) : Clock :=
  if vaon then { c with sleeping := true, waking := false, handbackAt := none, lastBeacon := none, firstTick := none, reSetMark := false }
  else { uptime := c.uptime, temperature := c.temperature }

/-- A port as it starts anew: only what the module remembers of its last partner is left (R502). -/
def coldPort (x : PortInt) : PortInt := { lastNumber := x.lastNumber, lastSerial := x.lastSerial, lastInc := x.lastInc }

/-- What outlasts a loss of power (R19, R433, R459): with VAON, also the Strongroom and the keeper's count. What was sent outside
stays sent. -/
def coldCore (vaon : Bool) (k : Core) : Core :=
  let p := k.pwr
  let k1 : Core :=
    { freeCtr := k.freeCtr, order := k.order
      regs := k.regs.filter (fun e => coldKeeps vaon e.1)
      clock := coldClock vaon k.clock
      stw := { msix := k.stw.msix, perst := k.stw.perst, linkUp := false }
      mem := { hostWrites := k.mem.hostWrites }
      car := { ports := k.car.ports.map (fun e => (e.1, coldPort e.2)), outbox := k.car.outbox }
      cal := { words := k.cal.words, commits := k.cal.commits }
      sec := { banks := k.sec.banks, erased := k.sec.erased, preferred := k.sec.preferred, allow := k.sec.allow }
      pwr := { present := { state := 0 }, rails := p.rails, railEn := p.railEn, failedStarts := p.failedStarts, porst := p.porst
               strong := if vaon then p.strong else [], badPages := if vaon then p.badPages else []
               backing := p.backing, backingSerial := p.backingSerial, vaonLost := p.vaonLost || !vaon } }
  let k2 := setDomains { state := 0 } (setReg (pwrReg 0) 0 (setRegBit (secReg 0) 29 false k1))
  let k3 := if vaon then (if k.clock.by_ = .none then k2 else setRegBit 0x8FF0000C 2 true k2)
    else setReg (pwrReg 0x80) (putBit 0 30 p.backingSerial.isSome) k2
  refreshAllBlocks k3

/-- The module without power: both memories are lost with it (R433). -/
def cold (vaon : Bool) (s : State) : State := { s with qdr := [], arc := [], core := coldCore vaon s.core }

/-- Every commanded rail is requested off, in the reverse of the start-up order (R442, R455, R456). -/
def railsOff (k : Core) : Core := requestRails [(6, 0), (5, 0), (4, 0), (3, 0), (2, 0), (1, 0), (0, 0)] k

/-- What the last acknowledgement of a list of requests brings: good rails, Slumber, or Off. -/
def afterRails (s : State) : State :=
  let k := s.core
  if ¬ k.pwr.rails.isEmpty then s
  else
    match k.pwr.startup, k.pwr.run with
    | some x, _ => if x.step = 1 then onCore (fun k' => { k' with pwr := { k'.pwr with startup := some ⟨2, k'.clock.uptime⟩ } }) s else s
    | none, some t =>
      if ¬ entryRuns k ∨ powerStep k ≠ 4 then s
      else if t.target.state = 1 then onCore (slumberReached t) s
      else if t.target.state = 0 ∧ t.passed then cold true s
      else s
    | none, none => s

/-- Meaning of OFF_ENTRY_BACKING_COPY (R442). -/
def execOffEntryBackingCopy (s : State) : Host.Outcome State Fault Refusal := .next (afterRails (onCore opOffEntryBackingCopy s))

/-- PORST_FALL: drivers and switches open, every commanded rail is requested off without a save, and the module stays in Off. -/
def opPorstFall (s : State) : State :=
  if s.core.pwr.porst then
    let s1 := cold true s
    onCore (fun k => railsOff { k with pwr := { k.pwr with porst := false, rails := [] } }) s1
  else s

/-- Meaning of PORST_FALL (R456). -/
def execPorstFall (s : State) : Host.Outcome State Fault Refusal := .next (opPorstFall s)

/-- VAON_DROP: as PORST_N falling, with no rail requests; the Strongroom and the keeper's count are lost too. -/
def opVaonDrop (s : State) : State :=
  onCore (fun k => setReg (pwrReg 0x50) 0 { k with pwr := { k.pwr with porst := false, rails := [], vaonLost := true } }) (cold false s)

/-- Meaning of VAON_DROP (R531). -/
def execVaonDrop (s : State) : Host.Outcome State Fault Refusal := .next (opVaonDrop s)

/-! ### Regulators (R450 to R453) -/

/-- The first request of the list is done: the next is sent. -/
def popRail (k : Core) : Core := sendRail { k with pwr := { k.pwr with rails := k.pwr.rails.drop 1 } }

/-- RAIL_ACK: the request in progress is acknowledged. -/
def opRailAck (n : Nat) (s : State) : State :=
  match s.core.pwr.rails with
  | q :: _ => if q.rail = n then afterRails (onCore (fun k => popRail (setRail n q.want k)) s) else s
  | [] => s

/-- Meaning of RAIL_ACK (R450, R441, R444). -/
def execRailAck (rail : Fin 7) (s : State) : Host.Outcome State Fault Refusal := .next (opRailAck rail.val s)

/-- The domains that a rail feeds (Table PWR-1), less the hub's. -/
def railDomains (n : Nat) : List Nat :=
  if n = 0 then (List.range 64).map (fun b => 2 * b + 1) ++ (List.range 8).map (fun r => 128 + 2 * r)
  else if n = 1 then []
  else if n = 2 then [144, 145, 146, 147]
  else if n = 3 then (List.range 8).map (fun r => 129 + 2 * r)
  else (List.range 64).map (fun b => 2 * b)

/-- A rail has failed (R451, R452): its domains are unpowered and contained (R512), and a wake in progress will end FAILED. -/
def railLost (n : Nat) (k : Core) : Core :=
  let k1 := (railDomains n).foldl (fun acc d => setDom d 0 acc) k
  let k2 := match k1.pwr.run with
    | some t => if entryRuns k1 then k1 else { k1 with pwr := { k1.pwr with run := some { t with failed := true } } }
    | none => k1
  refreshAllBlocks (railFault n k2)

/-- A start-up rail has failed twice (R455): the rails on are requested off, and a wait of 1 s begins. -/
def startFails (k : Core) : Core :=
  railsOff { k with pwr := { k.pwr with
    rails := [], startup := some ⟨10, k.clock.uptime⟩, failedStarts := k.pwr.failedStarts + 1 } }

/-- RAIL_TIMEOUT: both attempts have gone without acknowledgement. An off or reduce request leaves the rail as it is; an on request
leaves its domains unpowered, or fails the start-up. -/
def opRailTimeout (n : Nat) (s : State) : State :=
  let k := s.core
  match k.pwr.rails with
  | q :: _ =>
    if q.rail ≠ n ∨ k.clock.uptime < q.since + 4000 * regFld k (pwrReg 0x58) 15 0 then s
    else
      let k1 := recordCause (pwrReg 0x88) 4 (setRegBit (pwrReg 0x50) (4 * n + 2) true (setRail n q.was k))
      if q.want ≠ 2 then afterRails { s with core := popRail k1 }
      else if k.pwr.startup.any (fun x => decide (x.step ≤ 2)) then { s with core := startFails k1 }
      else afterRails { s with core := popRail (railLost n k1) }
  | [] => s

/-- Meaning of RAIL_TIMEOUT (R451, R455). -/
def execRailTimeout (rail : Fin 7) (s : State) : Host.Outcome State Fault Refusal := .next (opRailTimeout rail.val s)

/-- PMB_ALERT: the rails that report a fault while on are marked and contained. VCORE is not on PMBus (R448). -/
def opPmbAlert (mask : Nat) (k : Core) : Core :=
  ((bitList mask 7).filter (fun n => n != 0 && railCommanded k n && railState k n != 0)).foldl (fun acc n =>
    railLost n (recordCause (pwrReg 0x88) 3 (setRegBit (pwrReg 0x50) (4 * n + 3) true acc))) k

/-- Meaning of PMB_ALERT (R452). -/
def execPmbAlert (faulted : BitVec 7) (s : State) : Host.Outcome State Fault Refusal := .next (onCore (opPmbAlert faulted.toNat) s)

/-- VCORE_ADJUST: in Awake, by at most 10 mV and at most once per ms, in steps of 5 mV between 0.65 V and 0.85 V. -/
def opVcoreAdjust (mv : Nat) (k : Core) : Core :=
  let now := regFld k (pwrReg 0x54) 9 0
  if powerState k = 3 ∧ k.pwr.run.isNone ∧ k.pwr.startup.isNone ∧ k.pwr.rails.isEmpty ∧ railCommanded k 0 ∧ 650 ≤ mv ∧ mv ≤ 850
      ∧ mv % 5 = 0 ∧ mv ≠ now ∧ mv ≤ now + 10 ∧ now ≤ mv + 10 ∧ k.pwr.vcoreAt + msTicks 1 ≤ k.clock.uptime then
    sendRail { k with pwr := { k.pwr with
      vcoreAwake := mv, vcoreAt := k.clock.uptime, rails := [{ rail := 0, want := 2, was := 2, since := 0 }] } }
  else k

/-- Meaning of VCORE_ADJUST (R453). -/
def execVcoreAdjust (millivolts : Nat) (s : State) : Host.Outcome State Fault Refusal := .next (onCore (opVcoreAdjust millivolts) s)

/-! ### The wake from Slumber (Table PWR-7B) -/

/-- Have the requests for some rails ended? -/
def railsSettled (k : Core) (l : List Nat) : Bool := !k.pwr.rails.any (fun q => l.contains q.rail)

/-- Are some rails on, or not commanded? -/
def railsOn (k : Core) (l : List Nat) : Bool := l.all (fun n => railState k n == 2 || !railCommanded k n)

/-- Some domains take their states under a power target, as after a wake from Slumber. -/
def wakeDomains (t : PowerTarget) (l : List Nat) (k : Core) : Core := l.foldl (fun acc d => setDom d (domWant acc t d) acc) k

/-- Step 1: the hub domains return, the TREF path is powered, and the rails of step 2 are requested. Pins stay parked until
step 7. -/
def wakeStep1 (t : Transition) (k : Core) : Core :=
  let k1 := wakeDomains t.target ((List.range 12).map (· + 144)) k
  let k2 := { k1 with
    pwr := { k1.pwr with parked := 3, gated := true }
    clock := { k1.clock with sleeping := false, waking := true, wakeAt := k1.clock.uptime, acceptLate := false } }
  requestRails [(0, 2), (3, 2), (4, 2), (5, 2), (6, 2)] (setPowerStep 1 k2)

/-- Step 3: region core and block digital domains return, and the registers of the units not held are restored. -/
def wakeStep3 (failed : List Word) (t : Transition) (k : Core) : Core :=
  if railsOn k [0] then
    let k1 := (List.range 8).foldl (fun acc r => if heldRegion t.target r then acc else
      setRegBit (treeReg r 0x40) 0 (trefPresent acc) (wipeRegion r acc)) k
    let k2 := (List.range 64).foldl (fun acc b => if heldBlock t.target b then acc else wipeBlock b acc) k1
    let k3 := restorePages k2.pwr.strong (awakePages t.target) failed k2
    wakeDomains t.target ((List.range 64).map (fun b => 2 * b + 1) ++ (List.range 8).map (fun r => 128 + 2 * r)) (setPowerStep 3 k3)
  else setPowerStep 3 k

/-- Step 4: the QDR ports return with their devices zeroed. -/
def wakeStep4 (t : Transition) (s : State) : State :=
  if railsOn s.core [3] then
    onCore (fun k => wakeDomains t.target ((List.range 8).map (fun r => 129 + 2 * r)) (setPowerStep 4 k))
      ((List.range 8).foldl (fun acc r => zeroQdr r 0 (2 ^ 26) acc) s)
  else onCore (setPowerStep 4) s

/-- Step 5: block analogue domains return; DACs take the restored codes and spans directly, and comparators decide where their
domain becomes good (R243). -/
def wakeStep5 (t : Transition) (k : Core) : Core :=
  if railsOn k [4, 5, 6] then
    let fresh := (List.range 64).filter (fun b => decide (domState k (2 * b) < 2))
    let k1 := wakeDomains t.target ((List.range 64).map (fun b => 2 * b)) (setPowerStep 5 k)
    let k2 := (List.range 64).foldl (fun acc b => if heldBlock t.target b then acc else dacsDirect b acc) k1
    refreshAllBlocks ((fresh.filter (fun b => decide (2 ≤ domState k2 (2 * b)))).foldl (fun acc b => wmPowerUp b acc) k2)
  else setPowerStep 5 k

/-- Is timing ready in every region that wakes and is not contained? -/
def timingBack (t : Transition) (k : Core) : Bool :=
  t.failed || (List.range 8).all (fun r => heldRegion t.target r || regionStopped k r || timingReady k r)

/-- Step 7: the pins reconnect, measurement channels and schedules restart, and the wake ends. -/
def wakeStep7 (t : Transition) (k : Core) : Core :=
  let k1 := refreshAllBlocks (showHeld t.target { k with pwr := { k.pwr with parked := 0, gated := false } })
  let k2 := (List.range 64).foldl (fun acc b =>
    if heldBlock t.target b then acc else startSchedule b 1 (startSchedule b 0 (restartChannels b acc))) k1
  endWake t (setPowerStep 7 k2)

/-- WAKE_STEP: the next step of Table PWR-7B; step 2, the requests, runs beside the others. -/
def opWakeStep (failed : List Word) (s : State) : State :=
  let k := s.core
  match k.pwr.run with
  | some t =>
    if t.target.state < 2 ∨ powerState k ≠ 1 then s
    else
      match powerStep k with
      | 0 => onCore (wakeStep1 t) s
      | 1 => if railsSettled k [0] then onCore (wakeStep3 failed t) s else s
      | 3 => if railsSettled k [3] then wakeStep4 t s else s
      | 4 => if railsSettled k [4, 5, 6] then onCore (wakeStep5 t) s else s
      | 5 => if timingBack t k then onCore (setPowerStep 6) s else s
      | 6 => onCore (wakeStep7 t) s
      | _ => s
  | none => s

/-- Meaning of WAKE_STEP (R444 to R446). -/
def execWakeStep (failed : List Word) (s : State) : Host.Outcome State Fault Refusal := .next (opWakeStep failed s)

/-! ### Start-up (Table PWR-9) -/

/-- Start-up stands at a step. -/
def startAt (n : Nat) (k : Core) : Core :=
  match k.pwr.startup with
  | some x => { k with pwr := { k.pwr with startup := some { x with step := n } } }
  | none => k

/-- PORST_RISE: start-up begins in a module that PORST_N has held in Off. -/
def opPorstRise (k : Core) : Core :=
  if k.pwr.porst then k
  else { k with pwr := { k.pwr with porst := true, rails := [], failedStarts := 0, startup := some ⟨0, k.clock.uptime⟩ } }

/-- Meaning of PORST_RISE (R454). -/
def execPorstRise (s : State) : Host.Outcome State Fault Refusal := .next (onCore opPorstRise s)

/-- Steps 1 and 2: the rail map is read, a rail with EN = 0 counts as present, and the others are requested in order. -/
def startRails (k : Core) : Core :=
  let en := (List.range 7).filter (fun n => regBit k (pwrReg (0x60 + 4 * n)) 31)
  let k1 := (List.range 7).foldl (fun acc n => if en.contains n then acc else setRail n 2 acc)
    { k with pwr := { k.pwr with railEn := listBits en } }
  requestRails ((List.range 7).map (fun n => (n, 2))) (startAt 1 k1)

/-- Step 4: the incarnation steps (R488), Steward boots, every domain is AWAKE, comparators decide, and the Chronicle resumes (R108)
or restarts (R109). -/
def startBoot (k : Core) : Core :=
  let k1 := bootSteward (setReg (secReg 0xC) (reg k (secReg 0xC) + 1) k)
  let k2 := setDomains {} (setReg (pwrReg 0) 0xF0000000 { k1 with
    clock := { k1.clock with sleeping := false, waking := decide (k1.clock.by_ = .keeper), wakeAt := k1.clock.uptime, acceptLate := false }
    pwr := { k1.pwr with present := {} } })
  refreshAllBlocks ((List.range 64).foldl (fun acc b => wmPowerUp b acc) (startAt 4 k2))

/-- Step 5: the archive and the Caravan ports start training. -/
def startTrain (k : Core) : Core :=
  let k1 := (List.range (stacksFitted k.order)).foldl (fun acc n => setRegFld (pageBase (.stack n)) 1 0 1 acc) k
  startAt 5 ((List.range 4).foldl (fun acc p => if regBit acc (portReg p 0) 31 then startTraining p acc else acc) k1)

/-- Step 7: every stack is READY or FAILED. -/
def startStacks (failed : List (Fin 4)) (k : Core) : Core :=
  startAt 7 ((List.range (stacksFitted k.order)).foldl (fun acc n =>
    if stackState acc n ≠ 1 then acc
    else if failed.any (fun x => x.val == n) then failStack n acc else setRegFld (pageBase (.stack n)) 1 0 2 acc) k)

/-- The registers that OFF_RESTORE brings back, and whether from the backing copy (R447): none without a source that qualifies. -/
def offSource (k : Core) : Option (AMap Word × Bool) :=
  if k.pwr.vaonLost then
    if bit (amGetD k.pwr.backing (pwrReg 4) 0) 8 ∧ regBit k (pwrReg 0x80) 30
        ∧ k.pwr.backingSerial = some (reg k (secReg 4), reg k (secReg 8)) then some (k.pwr.backing, true)
    else none
  else if regBit k (pwrReg 4) 8 ∧ regBit k (pwrReg 0x80) 31 ∧ regBit k (pwrReg 0x80) 28 then some (k.pwr.strong, false)
  else none

/-- Step 9: the restore of R447, with DACs at their restored codes and pins following. -/
def startRestore (failed : List Word) (k : Core) : Core :=
  let k1 := match offSource k with
    | some (src, backing) =>
      let k2 := restorePages src (fun _ => true) failed k
      let k3 := (List.range 64).foldl (fun acc b => restartChannels b (dacsDirect b acc)) k2
      setRegBit (pwrReg 0x80) 29 backing (refreshAllBlocks k3)
    | none => k
  startAt 9 k1

/-- STARTUP_STEP: the next step of Table PWR-9 that no event of its own ends. -/
def opStartupStep (x : StartupInputs) (s : State) : State :=
  match s.core.pwr.startup with
  | some y =>
    match y.step with
    | 0 => afterRails (onCore startRails s)
    | 2 => onCore (fun k => startAt 3 (slotSelection k)) s
    | 3 => onCore startBoot s
    | 4 => if y.since + msTicks 64 ≤ s.core.clock.uptime then onCore startTrain s else s
    | 6 => onCore (startStacks x.failedStacks) s
    | 7 => onCore (fun k => startAt 8 { k with stw := { k.stw with linkUp := k.stw.perst } }) s
    | 8 => onCore (startRestore x.failedPages) s
    | _ => s
  | none => s

/-- Meaning of STARTUP_STEP (R454). -/
def execStartupStep (inputs : StartupInputs) (s : State) : Host.Outcome State Fault Refusal := .next (opStartupStep inputs s)

/-- STARTUP_CARAVAN_WAIT_END (step 6): 314 ms after good rails, or once no port is training. -/
def opStartupCaravanWaitEnd (k : Core) : Core :=
  match k.pwr.startup with
  | some y =>
    if y.step = 5 ∧ (y.since + msTicks 314 ≤ k.clock.uptime ∨ ¬ (List.range 4).any (fun p => portState k p == 2)) then startAt 6 k else k
  | none => k

/-- Meaning of STARTUP_CARAVAN_WAIT_END (R454). -/
def execStartupCaravanWaitEnd (s : State) : Host.Outcome State Fault Refusal := .next (onCore opStartupCaravanWaitEnd s)

/-- READY (step 9): the module is ready for configuration. -/
def opReady (k : Core) : Core :=
  if k.pwr.startup.any (fun y => y.step == 9) then
    recordCause (pwrReg 0x88) 6 (setRegBit (pwrReg 0) 19 true { k with pwr := { k.pwr with startup := none, vaonLost := false } })
  else k

/-- Meaning of READY (R454). -/
def execReady (s : State) : Host.Outcome State Fault Refusal := .next (onCore opReady s)

/-- STARTUP_RETRY: 1 s after a failed start it begins again, but not after the third. -/
def opStartupRetry (k : Core) : Core :=
  match k.pwr.startup with
  | some y =>
    if y.step = 10 ∧ k.pwr.failedStarts < 3 ∧ k.pwr.rails.isEmpty ∧ y.since + msTicks 1000 ≤ k.clock.uptime then
      { k with pwr := { k.pwr with startup := some ⟨0, k.clock.uptime⟩ } }
    else k
  | none => k

/-- Meaning of STARTUP_RETRY (R455). -/
def execStartupRetry (s : State) : Host.Outcome State Fault Refusal := .next (onCore opStartupRetry s)

end Sys2Proof.Machine
end

