-- ==== Sys2Proof/Machine/ModuleReset.lean ====
section
/-! DEFINITION. The module reset (R397, R457, R510, R513). -/

namespace Sys2Proof.Machine

/-- A module reset is asked for (R443, R457): it acts as a wake event, and a queued power request is discarded. -/
def requestReset (id : Word) (k : Core) : Core :=
  let k1 := match k.pwr.queued with
    | some q => showPower (endPowerTickets [q.ticket] 4 q.target { k with pwr := { k.pwr with queued := none } })
    | none => k
  raiseWake 5 0 { k1 with pwr := { k1.pwr with reset := some ((k1.pwr.reset.getD []) ++ [id]) } }

/-- MODULE_RESET (0x0C03). -/
def opModuleReset : OpDef where
  opcode := 0x0C03
  target := isPage .pwr
  params := fun c _ => exactly 0 c
  run := fun _ _ _ => .ticketed .moduleReset noTick [] (fun id s' => onCore (requestReset id) s')

/-- Meaning of MODULE_RESET (R457). -/
def execModuleReset (c : Cmd) (s : State) : Host.Outcome State Fault Refusal := .next (takeCmd opModuleReset c s)

/-- The folios of the module are withdrawn, and its member entries discarded (R457, step 1): those OPEN here go with a withdrawal;
one past its prepare votes, or ends, as withdrawn for reason LOCAL. -/
def withdrawFolios (k : Core) : Core :=
  let k1 := k.car.folios.foldl (fun acc e =>
    match e.2.state with
    | .opened => if e.2.coord then withdrawLocally e.1 e.2 2 acc else resolveFolio e.1 acc
    | .prepared => withdrawLocally e.1 e.2 2 acc
    | .voted | .decided => setFolio e.1 { e.2 with state := .refusing, words := [], reason := 2 } (dropShadows e.2.id acc)
    | _ => acc) k
  { k1 with car := { k1.car with folios := k1.car.folios.filter (fun e => !e.2.tombstone) } }

/-- The rails requested again by a reset that ends a halt for a supply (R510): VCORE and VIO feed the hub domains. -/
def resetRails (k : Core) : Core :=
  if moduleHalted k ∧ regFld k 0x81F00100 23 16 = 4 then
    let l := [0, 1].filter (fun n => railCommanded k n && (railState k n != 2 || regFld k (pwrReg 0x50) (4 * n + 3) (4 * n + 2) != 0))
    sendRail { k with pwr := { k.pwr with rails := l.map (fun n => { rail := n, want := 2, was := 0, since := 0 }) } }
  else k

/-- Step 1 of R457. -/
def resetStep1 (k : Core) : Core :=
  let k1 := withdrawFolios ((List.range 8).foldl (fun acc r => haltEngine r acc) (relinquishAll k))
  let k2 := resetRails k1
  { k2 with pwr := { k2.pwr with resetStep := 1 } }

/-- The registers that a module reset leaves as they stand (R397, R457): ports, chain settings, Chronicle, stacks, calibration
results, fuses, Strongroom, PWR_CTRL and the power and rail states, and the fault log's position. -/
def resetKeeps (a : Nat) : Bool :=
  let o := pageOff a
  match pageOf a with
  | some (.port _) => decide (o < 0x400)
  | some .car => o == 0 || o == 4 || o == 8 || decide (0x1000 ≤ o)
  | some .chr => decide (o < 0x2C)
  | some (.tree _) => o == 0x40
  | some (.stack _) => o == 0
  | some (.cell c) => keptReg (.cell c) o
  | some (.block b) => keptReg (.block b) o && o != 8 && o != 0xC00
  | some .cal => o == 0 || o == 4
  | some .pwr => o == 0 || o == 4 || o == 0x14 || (decide (0x20 ≤ o) && decide (o < 0x58)) || (decide (0x60 ≤ o) && decide (o < 0x88))
  | some .sec => [0, 4, 8, 0xC, 0x10, 0x18].contains o
  | some .hub => o == 4 || o == 0x10C
  | _ => false

/-- The units in containment, with the code of each: blocks, and 64 + region (R513). -/
def containedUnits (k : Core) : AMap Nat :=
  ((List.range 64).filter (fun b => blockParked k b && !regionFenced k (b / 8))).map (fun b => (b, regFld k (blockReg b 0xC00) 23 16))
    ++ ((List.range 8).filter (regionFenced k)).map (fun r => (64 + r, regFld k (pageBase (.rfault r)) 23 16))

/-- Step 2 of R457: every register returns to its reset value but those kept; held units are released, the Catalogue is emptied
and the pair dissolved. A halt for a supply stays when its rail did not come (R510). -/
def resetCore (k : Core) : Core :=
  let fresh := (List.range 64).filter (fun b => decide (domState k (2 * b) < 2))
  let halted := moduleHalted k && regFld k 0x81F00100 23 16 == 4 && !railsOn k [0, 1]
  let d := dissolvePair k
  let run := match d.cal.selfcal with
    | some r => setRegBit 0x8DF00000 30 false (if r.restore then d else { d with cal := { d.cal with selfcal := none } })
    | none => d
  let p := run.pwr
  let k1 : Core :=
    { freeCtr := run.freeCtr, order := run.order
      regs := run.regs.filter (fun e => resetKeeps e.1)
      clock := run.clock, stw := run.stw
      mem := { qdrBad := run.mem.qdrBad, arcBad := run.mem.arcBad, hostWrites := run.mem.hostWrites }
      car := { run.car with
        folios := run.car.folios.filter (fun e => e.2.state != .opened), barriers := [], barrierTickets := []
        snapPending := [], snapRecords := [], snapWait := [], resetPending := [], resetWait := [], reports := [], bcast := []
        lastAcceded := 0 }
      cal := { run.cal with selfcal := none, turns := [], nextCell := [], nextTurn := [] }
      sec := { run.sec with spdm := 0, transcript := [], nonce := none }
      pwr := { p with present := {}, before := {}, resetStep := 2, parked := 0, gated := false, selfFenced := []
                      restoring := containedUnits k }
      faultLog := run.faultLog, faultSeq := run.faultSeq }
  let k2 := if halted then setRegBit 0x81F00100 31 true (setRegFld 0x81F00100 23 16 4 k1) else k1
  let k3 := refreshAllBlocks (showHeld {} (setDomains {} (showPower k2)))
  fresh.foldl (fun acc b => wmPowerUp b acc) k3

/-- Step 3 of R457: sessions end, tickets and reservations go, and the host queues are DISABLED; the replies due, and the notice of
the reset's own ticket, are written before. -/
def resetSessions (k : Core) : Core :=
  let k1 := (k.pwr.reset.getD []).foldl (fun acc id => completeTicket id stDone [] acc) k
  let k2 := mapQueues (fun x => { x with
    state := .disabled, qcfg := x.qcfg &&& 0x7FFFFFFF#32, session := 0, waiting := [], held := [] }) k1
  let w := k2.stw
  { k2 with
    stw := { queues := w.queues, ticketSerial := w.ticketSerial, reservationSerial := w.reservationSerial, msix := w.msix
             d3hot := w.d3hot, busMaster := w.busMaster, linkUp := w.linkUp, perst := w.perst }
    pwr := { k2.pwr with resetStep := 3 } }

/-- Step 4 of R457: RESET_DONE. The restores of the units that were contained start (R513): their registers are at reset, with
calibration loaded, and the self-test begins. -/
def resetDone (s : State) : State :=
  let units := s.core.pwr.restoring.map Prod.fst
  let s1 := onCore (fun k => recordCause (pwrReg 0x88) 7 { k with pwr := { k.pwr with reset := none, resetStep := 0 } }) s
  let s2 := units.foldl (fun acc u => if u < 64 then onCore (resetBlock u) acc else resetRegion (u - 64) acc) s1
  let blocks := units.foldl (fun acc u => acc ||| (if u < 64 then 2 ^ u else 0xFF * 2 ^ (8 * (u - 64)))) 0
  onCore startQueued (if blocks = 0 then s2 else onCore (startRestoreTest blocks 0) s2)

/-- MODULE_RESET_STEP: the next step of a module reset that has taken effect: at once in Awake, after an abort, or when a wake has
ended. -/
def opModuleResetStep (s : State) : State :=
  let k := s.core
  if k.pwr.reset.isNone ∨ powerState k ≠ 3 ∨ k.pwr.run.isSome ∨ k.pwr.startup.isSome then s
  else
    match k.pwr.resetStep with
    | 0 => onCore resetStep1 s
    | 1 => if k.pwr.rails.isEmpty then onCore resetCore s else s
    | 2 => onCore resetSessions s
    | _ => resetDone s

/-- Meaning of MODULE_RESET_STEP (R457, R513). -/
def execModuleResetStep (s : State) : Host.Outcome State Fault Refusal := .next (opModuleResetStep s)

end Sys2Proof.Machine
end

