-- ==== Sys2Proof/Machine/FolioCmds.lean ====
section
/-! DEFINITION. The folio opcodes (R364 to R368, R374, Table FOL-13) and the prepare of a folio (R368 to R370). -/

namespace Sys2Proof.Machine

/-! ### Preparation (R369, R370, Table ITIN-9) -/

/-- The regions whose ITIN_RUN a folio stages, with the action (ITIN_RUN.ACTION: 1 START, 2 RESUME, 3 STOP). -/
def runWords (f : Folio) : List (Nat × Nat) :=
  f.words.filterMap (fun e => match pageOf e.1 with
    | some (.engine r) => if pageOff e.1 = 4 then some (r, fld e.2 31 30) else none
    | _ => none)

/-- The engines of a prepared folio begin priming (Table ITIN-9), and the folio keeps those it primes. -/
def primeEngines (qdr : Memory) (slot : Nat) (f : Folio) (k : Core) : Core :=
  let l := ((runWords f).filter (fun e => e.2 == 1 || e.2 == 2)).map Prod.fst
  let started := l.filter (fun r => engState k r == 0 || decide (5 ≤ engState k r))
  setFolio slot { f with primes := started } (l.foldl (fun acc r => prepareRun qdr (folioView k f) r acc) k)

/-- A folio is prepared on this module at the present tick with the values of its prepare (R368, R369): it takes the next place in
the order of prepares (R373), and unit preparation begins. A tombstone stays REFUSING (Table FOL-4). -/
def prepareFolio (qdr : Memory) (slot : Nat) (p : Prepare) (ticket : Word) (f : Folio) (k : Core) : Core :=
  let f1 : Folio := { f with
    state := if f.tombstone then .refusing else .prepared
    tombstone := false, prepTick := k.clock.chron, acc := p.acc, hop := p.hop
    bSpan := bSpan f.chain p.tree p.size p.depth, wSpan := wSpan f.chain p.tree p.size p.depth
    members := p.members.map (·.toNat), ticket := ticket, order := k.car.prepares + 1 }
  primeEngines qdr slot f1 { k with car := { k.car with prepares := k.car.prepares + 1 } }

/-! ### FOLIO_OPEN (R365) -/

/-- The ID of the next folio of this module in a slot (R364). -/
def nextFolioId (k : Core) (chain : Bool) (slot : Nat) : Word :=
  BitVec.ofNat 32 ((if chain then ownNumber k * 2 ^ 20 else 0) + k.car.folioSerial * 2 ^ 6 + slot)

/-- The immediate part of FOLIO_OPEN: a slot is taken, and a chain folio is announced. -/
def runFolioOpen (c : Cmd) (n : Nat) (s : State) : CmdRes :=
  let k := s.core
  let chain := pw c.params 0 == 1
  match amFree k.car.folios 64 with
  | none => .refuse stResource []
  | some slot =>
    let id := nextFolioId k chain slot
    let deadline := k.clock.chron + 200 * pn c.params 1
    let f : Folio := { id := id, chain := chain, coord := true, state := .opened, words := [], deadline := deadline, session := n }
    .done stDone (id :: words64 deadline) (onCore (fun k' =>
      let k1 := setFolio slot f { k' with car := { k'.car with folioSerial := nextSerial k'.car.folioSerial (2 ^ 14) } }
      if chain then flood (.announce id deadline) k1 else k1) s)

/-- FOLIO_OPEN (0x0A01). -/
def opFolioOpen : OpDef where
  opcode := 0x0A01
  target := isPage .chr
  params := fun c _ => firstSome [exactly 2 c, onlyBits (pw c.params 0) 1, inRange (pn c.params 1) 1000 60000000]
  state := fun c s => refuseIf (pw c.params 0 == 1 && (!isRoot s.core || ownNumber s.core == 0)) stState
  run := runFolioOpen

/-- Meaning of FOLIO_OPEN (R364, R365). -/
def execFolioOpen (c : Cmd) (s : State) : Host.Outcome State Fault Refusal := .next (takeCmd opFolioOpen c s)

/-! ### FOLIO_STAGE (R366) -/

/-- Address and word pairs of a parameter list. -/
def pairList (l : List Word) : List (Nat × Word) :=
  match l with
  | a :: v :: t => (a.toNat, v) :: pairList t
  | _ => []

/-- FOLIO_STAGE (0x0A02): each pair is staged as a one-word REG_WRITE would be; FOLIO 0 names no open folio. -/
def opFolioStage : OpDef where
  opcode := 0x0A02
  stage := true
  target := isPage .chr
  params := fun c s => firstSome
    [ refuseIf (c.params.length % 2 != 0 || outside (c.params.length / 2) 1 511) stLength
    , pairsRequest c s (pairList c.params) ]
  covers := fun c _ => (pairList c.params).map Prod.fst
  state := fun c s => firstSome [refuseIf (c.folio == 0) stFolio, pairsState c s (pairList c.params)]
  run := fun c n s => runPairs c n (pairList c.params) [] s

/-- Meaning of FOLIO_STAGE (R366). -/
def execFolioStage (c : Cmd) (s : State) : Host.Outcome State Fault Refusal := .next (takeCmd opFolioStage c s)

/-! ### FOLIO_ACCEDE (R368) -/

/-- The folio that a slot of R364 holds under an ID. -/
def slotFolio (k : Core) (id : Word) : Option (Nat × Folio) := (folioBy k id).filter (fun e => decide (e.1 < 64))

/-- The spans of this module's prepares, for a local or a chain folio (Table FOL-1): B + W + 4, in ticks. -/
def accedeSpan (k : Core) (chain : Bool) : Nat :=
  (bSpan chain (glbTree k) (glbSize k) (glbDepth k) + wSpan chain (glbTree k) (glbSize k) (glbDepth k) + 4) * glbHop k

/-- The accession tick of a FOLIO_ACCEDE; 0 asks for the earliest (R368). -/
def accedeTick (k : Core) (chain : Bool) (a : Nat) : Nat := if a = 0 then k.clock.chron + accedeSpan k chain else a

/-- The participants of a FOLIO_ACCEDE: those of the bitmap, or the module itself for a local folio. -/
def accedeMembers (k : Core) (chain : Bool) (c : Cmd) : List Nat :=
  if chain then bitList (maskOf (c.params.drop 3) 128) 4096 else [ownNumber k]

/-- The refusals of check 7 of FOLIO_ACCEDE. -/
def accedeRequest (c : Cmd) (s : State) : Option Status :=
  let k := s.core
  let n := c.params.length
  match slotFolio k (pw c.params 0) with
  | some e =>
    let a := accedeTick k e.2.chain (pn64 c.params 1)
    let m := accedeMembers k e.2.chain c
    firstSome
      [ refuseIf (n != (if e.2.chain then 131 else 3)) stLength
      , refuseIf (decide (a < k.clock.chron + accedeSpan k e.2.chain) || decide (k.clock.chron + 2 ^ 30 < a)) stParameter
      , refuseIf (e.2.chain && (!m.contains (ownNumber k) || m.contains 0)) stParameter ]
  | none => refuseIf (n != 3 && n != 131) stLength

/-- STATE for a folio that is not OPEN here under this module's coordination, and past the open deadline. -/
def accedeState (c : Cmd) (s : State) : Option Status :=
  match slotFolio s.core (pw c.params 0) with
  | some e => refuseIf (e.2.state != .opened || !e.2.coord || decide (e.2.deadline < s.core.clock.chron)) stState
  | none => some stState

/-- The prepare that a FOLIO_ACCEDE sends. -/
def accedePrepare (c : Cmd) (f : Folio) (k : Core) : Prepare :=
  { id := f.id, acc := accedeTick k f.chain (pn64 c.params 1), hop := glbHop k, size := glbSize k, depth := glbDepth k
    tree := glbTree k, members := (accedeMembers k f.chain c).map (BitVec.ofNat 12) }

/-- The prepare tick: the folio is PREPARED, and a chain folio's prepare is flooded. -/
def startAccede (c : Cmd) (id : Word) (s : State) : State :=
  onCoreMem (fun qdr _ k => match slotFolio k (pw c.params 0) with
    | some e =>
      let p := accedePrepare c e.2 k
      let k1 := prepareFolio qdr e.1 p id e.2 k
      if e.2.chain then flood (.prepare p) k1 else k1
    | none => k) s

/-- The immediate part of FOLIO_ACCEDE: its result is ready at A, or with the other modules' outcomes. -/
def runFolioAccede (c : Cmd) (_ : Nat) (s : State) : CmdRes :=
  match slotFolio s.core (pw c.params 0) with
  | some e =>
    let a := accedeTick s.core e.2.chain (pn64 c.params 1)
    let others := decide (1 < (accedeMembers s.core e.2.chain c).length)
    .ticketed (.folio e.1) (if others then a + 20000 else a) [] (startAccede c)
  | none => .refuse stState []

/-- FOLIO_ACCEDE (0x0A03). -/
def opFolioAccede : OpDef where
  opcode := 0x0A03
  target := isPage .chr
  params := accedeRequest
  state := accedeState
  run := runFolioAccede

/-- Meaning of FOLIO_ACCEDE (R368, R369). -/
def execFolioAccede (c : Cmd) (s : State) : Host.Outcome State Fault Refusal := .next (takeCmd opFolioAccede c s)

/-! ### FOLIO_WITHDRAW (R374) and FOLIO_STATUS_READ (R398) -/

/-- Has this module voted on a folio? -/
def hasVoted (k : Core) (f : Folio) : Bool := (amGet? f.votes (ownNumber k)).isSome

/-- Is a prepared folio not yet past its vote (R374)? -/
def beforeVote (k : Core) (f : Folio) : Bool :=
  (f.state == .prepared || f.state == .refusing) && !f.tombstone && !hasVoted k f && decide (k.clock.chron ≤ voteTick f)

/-- A host's withdrawal of a folio (R374): before P it is discarded with a flooded withdrawal; before V the coordinator's vote is
HOST; a member entry is withdrawn locally. -/
def withdrawByHost (slot : Nat) (f : Folio) (k : Core) : Core :=
  if f.coord ∧ f.state ≠ .opened then setFolio slot { f with state := .refusing, reason := 1 } k
  else withdrawLocally slot f 2 k

/-- FOLIO_WITHDRAW (0x0A04). -/
def opFolioWithdraw : OpDef where
  opcode := 0x0A04
  target := isPage .chr
  params := fun c _ => exactly 1 c
  state := fun c s => match slotFolio s.core (pw c.params 0) with
    | none => some stFolio
    | some e => refuseIf (!(e.2.state == .opened || e.2.tombstone || beforeVote s.core e.2)) stState
  run := fun c _ s => .done stDone [] (onCore (fun k => match slotFolio k (pw c.params 0) with
    | some e => withdrawByHost e.1 e.2 k
    | none => k) s)

/-- Meaning of FOLIO_WITHDRAW (R374). -/
def execFolioWithdraw (c : Cmd) (s : State) : Host.Outcome State Fault Refusal := .next (takeCmd opFolioWithdraw c s)

/-- The state code of FOLIO_STATUS_READ. -/
def folioCode (st : FolState) : Nat :=
  match st with
  | .opened => 0
  | .prepared => 1
  | .voted => 2
  | .refusing => 3
  | .decided => 4

/-- The five words of a folio slot. -/
def folioWords (f : Folio) : List Word :=
  [f.id, BitVec.ofNat 32 (folioCode f.state * 2 ^ 28 + f.reason.toNat * 2 ^ 16), BitVec.ofNat 32 f.words.length] ++ words64 f.acc

/-- FOLIO_STATUS_READ (0x0A05). -/
def opFolioStatusRead : OpDef where
  opcode := 0x0A05
  read := true
  target := isPage .chr
  params := fun c _ => exactly 0 c
  run := fun _ _ s =>
    .done stDone ((s.core.car.folios.filter (fun e => decide (e.1 < 64))).flatMap (fun e => folioWords e.2)) s

/-- Meaning of FOLIO_STATUS_READ (R398). -/
def execFolioStatusRead (c : Cmd) (s : State) : Host.Outcome State Fault Refusal := .next (takeCmd opFolioStatusRead c s)

/-! ### Announcements and prepares received (R365, R367, R369) -/

/-- FOLIO_ANNOUNCE_RECEIVE: a member entry takes a slot; with none free MEMBER_FULL is recorded. An unnumbered module takes no
part. -/
def opFolioAnnounceReceive (id : Word) (deadline : Nat) (k : Core) : Core :=
  if ownNumber k = 0 ∨ (folioBy k id).isSome then k
  else match amFree k.car.folios 64 with
    | some slot => setFolio slot { id := id, chain := true, coord := false, state := .opened, words := [], deadline := deadline } k
    | none => recordCause 0x8FF00110 4 k

/-- Meaning of FOLIO_ANNOUNCE_RECEIVE (R365). -/
def execFolioAnnounceReceive (id : Word) (deadline : Nat) (s : State) : Host.Outcome State Fault Refusal :=
  .next (onCore (opFolioAnnounceReceive id deadline) s)

/-- A number from 64 on for a participation of a module that holds no entry (R371). -/
def freePart (k : Core) : Nat :=
  64 + ((List.range (k.car.folios.length + 1)).find? (fun i => (amGet? k.car.folios (64 + i)).isNone)).getD 0

/-- PREPARE_RECEIVE: a module named in the bitmap prepares its entry, or takes part without one; a module not named takes no
part (R369). -/
def opPrepareReceive (p : Prepare) (qdr _arc : Memory) (k : Core) : Core :=
  if ownNumber k = 0 ∨ ¬ p.members.contains (BitVec.ofNat 12 (ownNumber k)) then k
  else match folioBy k p.id with
    | some e => if ¬ e.2.coord ∧ (e.2.state = .opened ∨ e.2.tombstone) then prepareFolio qdr e.1 p 0 e.2 k else k
    | none => prepareFolio qdr (freePart k) p 0
        { id := p.id, chain := true, coord := false, state := .opened, words := [], deadline := 0 } k

/-- Meaning of PREPARE_RECEIVE (R369 to R371). -/
def execPrepareReceive (p : Prepare) (s : State) : Host.Outcome State Fault Refusal := .next (onCoreMem (opPrepareReceive p) s)

/-- Is an entry not yet prepared? -/
def unprepared (f : Folio) : Bool := f.state == .opened || f.tombstone

/-- FOLIO_OPEN_DEADLINE: an unprepared folio's open deadline has passed; it is withdrawn at its coordinator, and a member
discards its entry without a message (R367). -/
def opFolioOpenDeadline (slot : Nat) (k : Core) : Core :=
  match amGet? k.car.folios slot with
  | some f => if unprepared f ∧ f.deadline < k.clock.chron then resolveFolio slot k else k
  | none => k

/-- Meaning of FOLIO_OPEN_DEADLINE (R367). -/
def execFolioOpenDeadline (slot : Fin 64) (s : State) : Host.Outcome State Fault Refusal :=
  .next (onCore (opFolioOpenDeadline slot.val) s)

/-- FOLIO_WITHDRAWAL_RECEIVE: a member discards its entry, a tombstone included (R374). -/
def opFolioWithdrawalReceive (id : Word) (k : Core) : Core :=
  match folioBy k id with
  | some e => if ¬ e.2.coord ∧ unprepared e.2 then resolveFolio e.1 k else k
  | none => k

/-- Meaning of FOLIO_WITHDRAWAL_RECEIVE (R374). -/
def execFolioWithdrawalReceive (id : Word) (s : State) : Host.Outcome State Fault Refusal :=
  .next (onCore (opFolioWithdrawalReceive id) s)

end Sys2Proof.Machine
end

