-- ==== Sys2Proof/Machine/FolioEvents.lean ====
section
/-! DEFINITION. The vote, the decision, the accession and the outcome of a folio (R369 to R377). -/

namespace Sys2Proof.Machine

/-! ### Reasons to vote withdraw (Table FOL-3) -/

/-- Does a page belong to a region, its blocks' and cells' pages included? -/
def pageOfRegion (r : Nat) (p : Page) : Bool := pageInRegion r p || (List.range 8).any (fun b => pageInBlock (8 * r + b) p)

/-- Does a folio touch a region: stage a word into one of its pages, or load or unload its configuration? -/
def touches (f : Folio) (r : Nat) : Bool := f.fab.testBit r || f.words.any (fun w => (pageOf w.1).any (pageOfRegion r))

/-- The regions a folio touches. -/
def touchedRegions (f : Folio) : List Nat := (List.range 8).filter (touches f)

/-- HOP: the prepare's h lies below the hop floor of an ACTIVE domain port (R362). -/
def hopBad (k : Core) (f : Folio) : Bool :=
  f.chain && (domainPorts k).any (fun p => decide (f.hop < ceilDiv (regFld k (portReg p 0x10) 19 0 + 110000) 5000))

/-- ALIGNMENT: a follower that is not aligned, or estimates, and a folio of several modules (R102). -/
def alignBad (k : Core) (f : Folio) : Bool :=
  decide (1 < f.members.length) && role k == 2 && (!regBit k 0x8FF0000C 1 || regBit k 0x8FF0000C 2)

/-- The staged words of the region that holds the most (R370). -/
def mostWords (f : Folio) : Nat :=
  maxOver id ((List.range 8).map (fun r => (f.words.filter (fun w => (pageOf w.1).any (pageOfRegion r))).length))

/-- Is distribution complete at V? It is within 2 µs and 1 ns for each word of the fullest region; when V comes earlier the spec
does not state it (R370, log entry 1). -/
def distributed (f : Folio) (k : Core) : Bool × Core :=
  if f.words.isEmpty ∨ f.prepTick + 400 + ceilDiv (mostWords f) 5 ≤ voteTick f then (true, k)
  else (Config.freeBool k.freeCtr, { k with freeCtr := k.freeCtr + 1 })

/-- CONFLICT: a folio with the same accession tick that was prepared earlier stages one of its registers (R373). -/
def conflicts (k : Core) (f : Folio) : Bool :=
  k.car.folios.any (fun e => e.2.id != f.id && e.2.acc == f.acc && decide (0 < e.2.order) && decide (e.2.order < f.order)
    && f.words.any (fun w => (amGet? e.2.words w.1).isSome))

/-- The pages a folio acts on: those of its words, and the tree pages of its loads. -/
def folioAddrs (f : Folio) : List Nat := f.words.map Prod.fst ++ (bitList f.fab 8).map fabStatus

/-- DOMAIN: a unit of the folio is asleep, fenced or parked (R36, R37). -/
def domainBad (k : Core) (f : Folio) : Bool := (folioAddrs f).any (fun a => (unitRefusal k a).isSome)

/-- ITINERARY: a started or resumed engine is not PRIMED (Table ITIN-9, R149). -/
def itineraryBad (k : Core) (f : Folio) : Bool := (runWords f).any (fun e => (e.2 == 1 || e.2 == 2) && engState k e.1 != 2)

/-- The region and set of a timing-set edge register (TSET_EDGE). -/
def edgeOf (a : Nat) : Option (Nat × Nat) :=
  match pageOf a with
  | some (.cell c) =>
    if 0x1000 ≤ pageOff a ∧ pageOff a < 0x1200 ∧ pageOff a % 0x20 < 0x18 then some (regionOfCell c, (pageOff a - 0x1000) / 0x20)
    else none
  | _ => none

/-- Does a word of a folio bear on the edges of a region: an edge, or a beat period (R87)? -/
def edgesStaged (f : Folio) (r : Nat) : Bool :=
  f.words.any (fun w => (edgeOf w.1).any (fun e => e.1 == r) || (decide (treeReg r 0x100 ≤ w.1) && decide (w.1 < treeReg r 0x140)))

/-- Would an enabled edge lie at or beyond twice its period after the accession (R87)? -/
def edgeBad (k : Core) (f : Folio) (a : Nat) : Bool :=
  match edgeOf a with
  | some (r, set) =>
    let w := folioView k f a
    edgesStaged f r && bit w 31 && decide (2 * fld (folioView k f (treeReg r (0x100 + 4 * set))) 27 0 ≤ fld w 28 0)
  | none => false

/-- Does a folio stage a tree setting or a beat period of a region (R268)? -/
def treeStaged (f : Folio) (r : Nat) : Bool :=
  f.words.any (fun w => pageOf w.1 == some (.tree r) && (decide (pageOff w.1 < 0x40) || decide (0x100 ≤ pageOff w.1 ∧ pageOff w.1 < 0x140)))

/-- TIMING: an enabled edge would lie at or beyond twice its period, or a staged tree change would leave the fabric incompatible
(R87, R268). -/
def timingBad (k : Core) (f : Folio) : Bool :=
  (k.regs.map Prod.fst ++ f.words.map Prod.fst).any (edgeBad k f)
    || (List.range 8).any (fun r => treeStaged f r && !f.fab.testBit r && !treesOk k (folioView k f) r)

/-- The blocks whose routing a folio writes and would leave refused (R214): the connections that its words write close again
(R216). -/
def routeBlocks (k : Core) (f : Folio) : List Nat :=
  (List.range 64).filter (fun b => f.words.any (fun w => routingReg w.1 == some b)
    && routingBad (folioView k f) (fun n => connClosed k b n || (amGet? f.words (connReg b n)).isSome) b)

/-- The code that a region's configuration staged by a folio writes to LOAD_RESULT at the vote: NOT_LOADED, or TREE (Table
FAB-9). -/
def fabCode (k : Core) (f : Folio) (r : Nat) : Option Nat :=
  match (fabOf k r).shadow with
  | some sh =>
    if sh.folio ≠ f.id ∨ regFld k (fabStatus r) 3 2 ≠ 2 then some 0x0B
    else if planeTreesOk (folioView k f) r sh.plane then none else some 0x0A
  | none => some 0x0B

/-- A configuration is not fit to accede: its code is written where the folio holds the shadow. -/
def noteFab (f : Folio) (r : Nat) (k : Core) : Core :=
  match fabCode k f r, (fabOf k r).shadow with
  | some code, some sh =>
    if sh.folio = f.id then
      setRegFld (fabStatus r) 23 16 code (setFab r { fabOf k r with shadow := some { sh with failed := true } } k)
    else k
  | _, _ => k

/-- RESERVATION: a bound reservation expires before the accession tick (R346). -/
def leaseBad (k : Core) (f : Folio) : Bool :=
  f.bound.any (fun i => (amGet? k.stw.reservations i).any (fun r => decide (r.expiry < f.acc)))

/-- TIMING_READY is 0 in a region that the folio touches (R83). -/
def notTimed (k : Core) (f : Folio) : Bool := (touchedRegions f).any (fun r => !timingReady k r)

/-- The reason of the first row of Table FOL-3 that holds; 0 when none does. -/
def voteReason (k : Core) (f : Folio) (dist : Bool) : Nat :=
  let rows : List (Bool × Nat) :=
    [ (decide (voteTick f < f.prepTick + 2 * f.hop), 0x03), (hopBad k f, 0x04), (alignBad k f, 0x05), (!dist, 0x06)
    , (conflicts k f, 0x07), (domainBad k f, 0x08), (itineraryBad k f, 0x09), (timingBad k f, 0x0A)
    , (!(routeBlocks k f).isEmpty, 0x0B), ((bitList f.fab 8).any (fun r => (fabCode k f r).isSome), 0x0C)
    , (leaseBad k f, 0x0D), (notTimed k f, 0x0E) ]
  if f.state = .refusing then f.reason.toNat else ((rows.find? Prod.fst).map Prod.snd).getD 0

/-! ### The vote and the votes of others (R371, R372) -/

/-- ROUTE_REFUSED is recorded in every block whose routing the vote refuses (R214), and LOAD_RESULT is written in every region
whose configuration is not fit (Table FAB-9). -/
def noteRefusals (f : Folio) (k : Core) : Core :=
  let k1 := (routeBlocks k f).foldl (fun acc b => recordCause (blockReg b 0x36C) 1 acc) k
  (bitList f.fab 8).foldl (fun acc r => noteFab f r acc) k1

/-- FOLIO_VOTE: at V a participant votes, and a chain folio's vote is flooded. -/
def opFolioVote (slot : Nat) (k : Core) : Core :=
  match amGet? k.car.folios slot with
  | some f =>
    if (f.state = .prepared ∨ (f.state = .refusing ∧ ¬ f.tombstone)) ∧ ¬ hasVoted k f ∧ voteTick f ≤ k.clock.chron then
      let d := distributed f k
      let code := voteReason d.2 f d.1
      let reason := BitVec.ofNat 8 code
      let g : Folio := { f with
        state := if code = 0 then .voted else .refusing, reason := reason
        votes := amSet f.votes (ownNumber k) (code == 0, reason) }
      let k1 := setFolio slot g (noteRefusals f d.2)
      if f.chain then flood (.vote f.id (code == 0) reason) k1 else k1
    else k
  | none => k

/-- Meaning of FOLIO_VOTE (R371). -/
def execFolioVote (slot : Nat) (s : State) : Host.Outcome State Fault Refusal := .next (onCore (opFolioVote slot) s)

/-- VOTE_RECEIVE: a vote is held for the decision; one that arrives after Q is ignored (R372). -/
def opVoteReceive (id : Word) (m : Nat) (accede : Bool) (reason : Byte) (k : Core) : Core :=
  match folioBy k id with
  | some e =>
    if e.2.state = .decided ∨ (¬ unprepared e.2 ∧ decideTick e.2 < k.clock.chron) ∨ m = ownNumber k then k
    else setFolio e.1 { e.2 with votes := amSet e.2.votes m (accede, reason) } k
  | none => k

/-- Meaning of VOTE_RECEIVE (R372). -/
def execVoteReceive (id : Word) (module : BitVec 12) (accede : Bool) (reason : BitVec 8) (s : State) :
    Host.Outcome State Fault Refusal := .next (onCore (opVoteReceive id module.toNat accede reason) s)

/-! ### The outcome and the ticket's result (R376, R377) -/

/-- The outcomes of a folio's participants, in ascending order: acceded, withdrawn with its reason, or UNKNOWN. -/
def outcomeOf (f : Folio) (m : Nat) : Option (Bool × Byte) := amGet? f.outcomes m

/-- The members that withdrew or are UNKNOWN, as the entries of Table FOL-5. -/
def splitEntries (f : Folio) : List Word :=
  (f.members.filterMap (fun m => match outcomeOf f m with
    | some (true, _) => none
    | some (false, reason) => some (BitVec.ofNat 32 (2 ^ 30 + reason.toNat * 2 ^ 16 + m))
    | none => some (BitVec.ofNat 32 (2 ^ 31 + m)))).take 1017

/-- OUTCOME of a folio: 1 ACCEDED, 2 WITHDRAWN, 3 SPLIT (Table FOL-5). -/
def outcomeCode (f : Folio) : Nat :=
  if f.members.all (fun m => (outcomeOf f m).any (fun o => o.1)) then 1
  else if f.members.all (fun m => (outcomeOf f m).any (fun o => !o.1)) then 2
  else 3

/-- The reason of a result with the module that gave it: that of this module's own decision, else of the lowest-numbered module
that withdrew. -/
def resultReason (f : Folio) : Nat :=
  if outcomeCode f = 1 then 0
  else if f.reason ≠ 0 then f.reason.toNat * 2 ^ 16 + f.reasonFrom
  else match f.members.filterMap (fun m => (outcomeOf f m).bind (fun o => if o.1 then none else some (m, o.2))) with
    | (m, reason) :: _ => reason.toNat * 2 ^ 16 + m
    | [] => 0

/-- The result of a FOLIO_ACCEDE ticket (Table FOL-5). -/
def folioResult (f : Folio) : List Word :=
  let count (g : Option (Bool × Byte) → Bool) : Nat := (f.members.filter (fun m => g (outcomeOf f m))).length
  [BitVec.ofNat 32 (outcomeCode f * 2 ^ 24 + resultReason f), f.id] ++ words64 f.acc
    ++ [BitVec.ofNat 32 (count (fun o => o.any Prod.fst) * 2 ^ 16 + count (fun o => o.any (fun x => !x.1)))
       , BitVec.ofNat 32 (count Option.isNone)]
    ++ (if outcomeCode f = 3 then splitEntries f else [])

/-- A report is over: the ticket completes, and a SPLIT is counted and recorded (R376, R377). -/
def endReport (f : Folio) (k : Core) : Core :=
  let k1 := completeTicket f.ticket stDone (folioResult f)
    { k with car := { k.car with reports := k.car.reports.filter (fun g => g.id != f.id) } }
  if outcomeCode f = 3 then recordCause 0x8FF00110 2 (countFld 0x8FF0010C 31 0 1 k1) else k1

/-- A report ends once every participant's outcome has arrived. -/
def checkReport (id : Word) (k : Core) : Core :=
  match k.car.reports.find? (fun f => f.id == id) with
  | some f => if f.members.all (fun m => (outcomeOf f m).isSome) then endReport f k else k
  | none => k

/-- A participant's outcome is added to a report. -/
def addOutcome (id : Word) (m : Nat) (o : Bool × Byte) (k : Core) : Core :=
  { k with car := { k.car with
    reports := k.car.reports.map (fun f => if f.id = id then { f with outcomes := amSet f.outcomes m o } else f)
    folios := k.car.folios.map (fun e =>
      if e.2.id = id ∧ e.2.coord then (e.1, { e.2 with outcomes := amSet e.2.outcomes m o }) else e) } }

/-- A participation ends here (R376): its outcome is written and sent to the root; the coordinator keeps its report. -/
def endFolio (slot : Nat) (f : Folio) (acceded : Bool) (k : Core) : Core :=
  let k1 := resolveFolio slot (recordOutcome f.id acceded (if acceded then 0 else f.reason) (if acceded then 0 else f.reasonFrom) k)
  if f.coord then
    checkReport f.id { k1 with car := { k1.car with
      reports := k1.car.reports ++ [{ f with outcomes := amSet f.outcomes (ownNumber k) (acceded, f.reason), words := [] }] } }
  else sendRouted (.outcome f.id acceded f.reason) k1

/-- A participation withdraws with a reason (Table FOL-2, steps 5 and 6): engines return to their previous state and the shadows
are discarded. -/
def withdrawFolio (slot : Nat) (f : Folio) (reason : Byte) (from_ : Nat) (k : Core) : Core :=
  endFolio slot { f with reason := reason, reasonFrom := from_ } false (f.primes.foldl (fun acc r => withdrawRun r acc) k)

/-- OUTCOME_RECEIVE: a participant's outcome reaches the root. -/
def opOutcomeReceive (id : Word) (m : Nat) (acceded : Bool) (reason : Byte) (k : Core) : Core :=
  checkReport id (addOutcome id m (acceded, reason) k)

/-- Meaning of OUTCOME_RECEIVE (R376, R377). -/
def execOutcomeReceive (id : Word) (module : BitVec 12) (acceded : Bool) (reason : BitVec 8) (s : State) :
    Host.Outcome State Fault Refusal := .next (onCore (opOutcomeReceive id module.toNat acceded reason) s)

/-- FOLIO_TICKET_TIMEOUT: at A + 100 µs a participant without an outcome counts as UNKNOWN, and the ticket completes. -/
def opFolioTicketTimeout (id : Word) (k : Core) : Core :=
  match k.car.reports.find? (fun f => f.id == id) with
  | some f => if f.acc + 20000 ≤ k.clock.chron then endReport f k else k
  | none => k

/-- Meaning of FOLIO_TICKET_TIMEOUT (R377). -/
def execFolioTicketTimeout (id : Word) (s : State) : Host.Outcome State Fault Refusal :=
  .next (onCore (opFolioTicketTimeout id) s)

/-! ### The decision (R372) -/

/-- Does a participant accede: its own vote and every named module's were to accede? -/
def accedes (f : Folio) : Bool :=
  f.state == .voted && f.members.all (fun m => (amGet? f.votes m).any (fun v => v.1))

/-- The reason of a withdrawal at Q with the module that gave it: the withdraw vote of the lowest-numbered module; else this
module's own late refusal (R457), COORDINATOR_LOST, or VOTE_MISSING. -/
def decideReason (k : Core) (f : Folio) : Byte × Nat :=
  match f.members.filterMap (fun m => (amGet? f.votes m).bind (fun v => if v.1 then none else some (v.2, m))) with
  | e :: _ => e
  | [] => if f.state = .refusing then (f.reason, ownNumber k) else if f.coordLost then (0x10, 0) else (0x0F, 0)

/-- FOLIO_DECIDE: at Q a participant that has voted decides. -/
def opFolioDecide (slot : Nat) (k : Core) : Core :=
  match amGet? k.car.folios slot with
  | some f =>
    if (f.state = .voted ∨ f.state = .refusing) ∧ ¬ f.tombstone ∧ hasVoted k f ∧ decideTick f ≤ k.clock.chron then
      if accedes f then setFolio slot { f with state := .decided, decidedAccede := true } k
      else
        let e := decideReason k f
        withdrawFolio slot f e.1 e.2 k
    else k
  | none => k

/-- Meaning of FOLIO_DECIDE (R372). -/
def execFolioDecide (slot : Nat) (s : State) : Host.Outcome State Fault Refusal := .next (onCore (opFolioDecide slot) s)

/-! ### The accession (R373) -/

/-- A staged word takes effect where its unit can still be accessed. -/
def accedeStaged (e : Nat × Word) (k : Core) : Core := if (unitRefusal k e.1).isSome then k else accedeWord e.1 e.2 k

/-- A STANDBY region returns to SHADOW at an accession that starts or resumes its run on both members (R416, R425). -/
def rejoin (f : Folio) (r : Nat) (k : Core) : Core :=
  if tenRole k r = 4 ∧ f.chain ∧ f.members.contains (partnerNo k) ∧ engState k r = 3 then enterShadow r k else k

/-- The itinerary action that accedes in a region (Table ITIN-9). -/
def accedeAction (f : Folio) (e : Nat × Nat) (k : Core) : Core :=
  if e.2 = 1 ∨ e.2 = 2 then rejoin f e.1 (accedeRun e.1 k)
  else if e.2 = 3 then accedeStop e.1 k
  else k

/-- Every staged word, configuration and itinerary action of a folio takes effect. -/
def applyFolio (f : Folio) (k : Core) : Core :=
  let k1 := f.words.foldl (fun acc e => accedeStaged e acc) k
  let k2 := (bitList f.fab 8).foldl (fun acc r => fabAccede r f.id acc) k1
  (runWords f).foldl (fun acc e => accedeAction f e acc) k2

/-- Does another decided folio accede earlier: at an earlier tick, or prepared earlier for the same (R373)? -/
def accedesBefore (k : Core) (f : Folio) : Bool :=
  k.car.folios.any (fun e => e.2.state == .decided
    && (decide (e.2.acc < f.acc) || (e.2.acc == f.acc && decide (e.2.order < f.order))))

/-- FOLIO_ACCESSION: at A every staged word takes effect; with TIMING_READY 0 in a region it touches, the folio is withdrawn in
every unit instead (R83). -/
def opFolioAccession (slot : Nat) (k : Core) : Core :=
  match amGet? k.car.folios slot with
  | some f =>
    if f.state = .decided ∧ f.acc ≤ k.clock.chron ∧ ¬ accedesBefore k f then
      if notTimed k f then withdrawFolio slot f 0x0E (ownNumber k) k
      else
        let k1 := applyFolio f k
        endFolio slot f true { k1 with car := { k1.car with lastAcceded := f.id } }
    else k
  | none => k

/-- Meaning of FOLIO_ACCESSION (R373). -/
def execFolioAccession (slot : Nat) (s : State) : Host.Outcome State Fault Refusal := .next (onCore (opFolioAccession slot) s)

end Sys2Proof.Machine
end

