-- ==== Sys2Proof/Machine/Global.lean ====
section
/-! DEFINITION. Global operations (R392 to R397), the port and route opcodes (Table FOL-13), and the meanings of their events. -/

namespace Sys2Proof.Machine

/-- The earliest tick of a snapshot or reset, and the end of a broadcast: B·h + 0.6 µs after its issue (Table FOL-10). -/
def globalBound (k : Core) : Nat := k.clock.chron + bSpan true (glbTree k) (glbSize k) (glbDepth k) * glbHop k + 120

/-- Is a global operation that only the root issues refused: not the root, or unnumbered (R365, R396, R397)? -/
def notNumberedRoot (s : State) : Option Status := refuseIf (!isRoot s.core || ownNumber s.core == 0) stState

/-! ### Barriers (R394) -/

/-- This module's ticket of a barrier completes. -/
def endBarrier (n : Nat) (res : List Word) (k : Core) : Core :=
  match amGet? k.car.barrierTickets n with
  | some t => completeTicket t.1 stDone res { k with car := { k.car with barrierTickets := amErase k.car.barrierTickets n } }
  | none => k

/-- The arrivals of a barrier that count: those of the current incarnation of their module. -/
def currentArrivals (k : Core) (b : Barrier) : List (Nat × Word) :=
  b.arrivals.filter (fun a => (amGet? k.car.seen a.1).all (fun i => a.1 == ownNumber k || i == a.2))

/-- The root releases a barrier that every module has reached: the release is flooded with its tick. -/
def checkBarrier (n : Nat) (k : Core) : Core :=
  match amGet? k.car.barriers n with
  | some b =>
    if glbSize k ≤ (currentArrivals k b).length then
      endBarrier n (1 :: words64 k.clock.chron)
        (flood (.barrierRelease n true k.clock.chron) { k with car := { k.car with barriers := amErase k.car.barriers n } })
    else k
  | none => k

/-- An arrival at the root: one for each module, the newest incarnation; the first starts the timeout. -/
def arriveAt (n m : Nat) (inc : Word) (timeout : Nat) (k : Core) : Core :=
  let b := amGetD k.car.barriers n { arrivals := [], first := k.clock.uptime, timeout := timeout }
  checkBarrier n { k with car := { k.car with
    barriers := amSet k.car.barriers n { b with arrivals := (m, inc) :: b.arrivals.filter (fun a => a.1 != m) } } }

/-- A module arrives at a barrier: one flit to the root by ROUTE, or at the root itself. -/
def startBarrier (n timeout : Nat) (id : Word) (k : Core) : Core :=
  let k1 := { k with car := { k.car with barrierTickets := amSet k.car.barrierTickets n (id, k.clock.uptime, timeout) } }
  if isRoot k then arriveAt n (ownNumber k) (reg k 0x8BF0000C) timeout k1 else sendRouted (.barrierArrival n timeout) k1

/-- GLOBAL_BARRIER (0x0A10). -/
def opGlobalBarrier : OpDef where
  opcode := 0x0A10
  target := isPage .chr
  params := fun c _ => firstSome [exactly 2 c, inRange (pn c.params 0) 0 15, inRange (pn c.params 1) 10 60000000]
  state := fun c s => refuseIf (ownNumber s.core == 0 || (amGet? s.core.car.barrierTickets (pn c.params 0)).isSome) stState
  run := fun c _ _ => .ticketed (.barrier (pn c.params 0)) noTick []
    (fun id s' => onCore (startBarrier (pn c.params 0) (pn c.params 1) id) s')

/-- Meaning of GLOBAL_BARRIER (R394). -/
def execGlobalBarrier (c : Cmd) (s : State) : Host.Outcome State Fault Refusal := .next (takeCmd opGlobalBarrier c s)

/-- BARRIER_ARRIVAL_RECEIVE: an arrival of another module reaches the root. -/
def opBarrierArrivalReceive (n m : Nat) (inc : Word) (timeout : Nat) (k : Core) : Core :=
  if isRoot k ∧ m ≠ 0 then arriveAt n m inc timeout k else k

/-- Meaning of BARRIER_ARRIVAL_RECEIVE (R394). -/
def execBarrierArrivalReceive (n : Fin 16) (module : BitVec 12) (incarnation : Word) (timeout : Nat) (s : State) :
    Host.Outcome State Fault Refusal := .next (onCore (opBarrierArrivalReceive n.val module.toNat incarnation timeout) s)

/-- Meaning of BARRIER_RELEASE_RECEIVE (R394): a release or an abandon arrives, and the waiting ticket completes. -/
def execBarrierReleaseReceive (n : Fin 16) (released : Bool) (tick : Nat) (s : State) : Host.Outcome State Fault Refusal :=
  .next (onCore (endBarrier n.val (if released then 1 :: words64 tick else [2])) s)

/-- BARRIER_TIMEOUT: the timeout, counted from the root's first arrival, passes before release; the root floods an abandon. -/
def opBarrierTimeout (n : Nat) (k : Core) : Core :=
  match amGet? k.car.barriers n with
  | some b =>
    if b.first + usTicks b.timeout ≤ k.clock.uptime then
      endBarrier n [2] (flood (.barrierRelease n false 0) { k with car := { k.car with barriers := amErase k.car.barriers n } })
    else k
  | none => k

/-- Meaning of BARRIER_TIMEOUT (R394). -/
def execBarrierTimeout (n : Fin 16) (s : State) : Host.Outcome State Fault Refusal := .next (onCore (opBarrierTimeout n.val) s)

/-! ### Broadcasts (R395) -/

/-- The opcodes whose reply is DONE or ACCEPTED with ticket 0, by family (Table CMD-1): those of every opcode table that open no
ticket. -/
def immediateCodes (family : Nat) : List Nat :=
  match family with
  | 0x1 => [0x00, 0x01, 0x02, 0x03, 0x10, 0x11, 0x12, 0x20, 0x21, 0x22, 0x30, 0x31]
  | 0x2 => [0x01, 0x02, 0x04, 0x07, 0x08, 0x09, 0x0B]
  | 0x3 => [0x01, 0x02, 0x03, 0x04, 0x05, 0x06]
  | 0x4 => [0x02, 0x04, 0x05, 0x06, 0x07]
  | 0x5 => [0x01, 0x02, 0x03, 0x05, 0x06, 0x08, 0x0A, 0x0B, 0x0C]
  | 0x6 => [0x01, 0x02, 0x03, 0x04, 0x05, 0x06]
  | 0x7 => [0x01, 0x02, 0x03, 0x04, 0x05]
  | 0x8 => [0x02, 0x03]
  | 0x9 => [0x01, 0x02, 0x04, 0x05, 0x06, 0x07, 0x08, 0x09]
  | 0xA => [0x01, 0x02, 0x04, 0x05, 0x13, 0x20, 0x21, 0x22]
  | 0xB => [0x02, 0x04]
  | 0xC => [0x02, 0x04]
  | 0xD => [0x02, 0x03, 0x04, 0x06]
  | 0xE => [0x01, 0x02, 0x03, 0x04, 0x05, 0x06, 0x07]
  | 0xF => [0x01, 0x02, 0x03, 0x04, 0x10]
  | _ => []

/-- Is an inner command's reply DONE, or ACCEPTED with ticket 0? -/
def mayBroadcast (op : Nat) : Bool := (immediateCodes (op / 256)).contains (op % 256)

/-- The inner command's opcode. -/
def innerOp (c : Cmd) : BitVec 16 := (pw c.params 0).extractLsb' 0 16

/-- The session and module that an inner command acts for: a chain session of the issuing module and session. -/
def innerSource (k : Core) (c : Cmd) (n : Nat) : Source :=
  match c.src with
  | .host _ => .chain (BitVec.ofNat 12 (ownNumber k)) (BitVec.ofNat 8 n) (reg k 0x8BF0000C)
  | .chain m ss inc => .chain m ss inc

/-- The inner command of a broadcast, from its header (Table CMD-4) and parameters. -/
def innerCmd (k : Core) (c : Cmd) (n : Nat) : Cmd :=
  { src := innerSource k c n, tag := (pw c.params 0).extractLsb' 16 16, flags := (pw c.params 3).extractLsb' 16 8
    target := pw c.params 1, folio := pw c.params 2, params := c.params.drop 4 }

/-- The refusals of a broadcast's form: the inner header, its check, its length and its opcode. -/
def broadcastRequest (c : Cmd) : Option Status :=
  let h := bytesOf (c.params.take 4)
  firstSome
    [ refuseIf (outside c.params.length 4 1020) stLength
    , refuseIf (crc8 (h.take 15) != h.getD 15 0) stParameter
    , refuseIf (fld (pw c.params 3) 15 0 != 4 * (c.params.length - 4)) stLength
    , refuseIf (!mayBroadcast (innerOp c).toNat) stParameter ]

/-- A broadcast leaves: the root floods it and executes its own copy, which stands in the queue of broadcasts; another module
forwards it to the root. -/
def startBroadcast (op : BitVec 16) (inner : Cmd) (k : Core) : Core :=
  let serial := BitVec.ofNat 32 k.car.floodSerial
  if isRoot k then
    flood (.broadcast serial op inner) { k with car := { k.car with bcast := k.car.bcast ++ [(op, inner)] } }
  else sendRouted (.broadcast serial op inner)
    { k with car := { k.car with floodSerial := nextSerial k.car.floodSerial (2 ^ 32) } }

/-- GLOBAL_BROADCAST (0x0A11). -/
def opGlobalBroadcast : OpDef where
  opcode := 0x0A11
  target := isPage .chr
  params := fun c _ => broadcastRequest c
  state := fun _ s => refuseIf (ownNumber s.core == 0) stState
  run := fun c n s => .ticketed (.broadcast (globalBound s.core)) (globalBound s.core) []
    (fun _ s' => onCore (fun k => startBroadcast (innerOp c) (innerCmd k c n) k) s')

/-- Meaning of GLOBAL_BROADCAST (R395). -/
def execGlobalBroadcast (c : Cmd) (s : State) : Host.Outcome State Fault Refusal := .next (takeCmd opGlobalBroadcast c s)

/-! ### Snapshots (R396) -/

/-- The snapshot tick of a GLOBAL_SNAPSHOT; 0 asks for the earliest. -/
def snapTick (k : Core) (c : Cmd) : Nat := if pn64 c.params 0 = 0 then globalBound k else pn64 c.params 0

/-- A snapshot is announced: the root waits for the completions and its own capture. -/
def startSnapshot (tick : Nat) (id : Word) (k : Core) : Core :=
  let n := k.car.snapSerial
  flood (.snapshot n tick) { k with car := { k.car with
    snapSerial := nextSerial n (2 ^ 16), snapPending := k.car.snapPending ++ [(n, tick)]
    snapWait := k.car.snapWait ++ [{ serial := n, tick := tick, done := [], ticket := id }] } }

/-- GLOBAL_SNAPSHOT (0x0A12): the reply carries the ticket and the serial. -/
def opGlobalSnapshot : OpDef where
  opcode := 0x0A12
  target := isPage .chr
  params := fun c s => firstSome [exactly 2 c, refuseIf (decide (snapTick s.core c < globalBound s.core)) stParameter]
  state := fun _ s => notNumberedRoot s
  run := fun c _ s => .ticketed (.snapshot s.core.car.snapSerial) (snapTick s.core c + 20000) [BitVec.ofNat 32 s.core.car.snapSerial]
    (fun id s' => onCore (startSnapshot (snapTick s.core c) id) s')

/-- Meaning of GLOBAL_SNAPSHOT (R396). -/
def execGlobalSnapshot (c : Cmd) (s : State) : Host.Outcome State Fault Refusal := .next (takeCmd opGlobalSnapshot c s)

/-- The snapshot record of this module (Table FOL-11). -/
def snapshotWords (serial tick : Nat) (k : Core) : List Word :=
  let running := listBits (((List.range 8).filter (fun r => engState k r == 3 || engState k r == 4)).map (8 + ·))
  let beat (r : Nat) : List Word :=
    words64 (if engState k r = 3 ∨ engState k r = 4 then nextBeat k r + (2 ^ 64 - 1) else 2 ^ 64 - 1)
  let body := [BitVec.ofNat 32 (serial * 2 ^ 16 + ownNumber k), reg k 0x8BF0000C] ++ words64 tick
    ++ [BitVec.ofNat 32 (b2n (regBit k 0x8FF0000C 1) + 2 * b2n (regBit k 0x8FF0000C 2) + running), 0]
    ++ (List.range 8).flatMap beat ++ words64 (reg64 k (catReg 0x50)) ++ words64 (reg64 k (catReg 0x30))
    ++ [k.car.lastAcceded, 0, 0, 0, 0]
  body ++ [crc32c (bytesOf body)]

/-- The modules that a root can reach: those with a route, and itself. -/
def knownModules (k : Core) : List Nat :=
  (List.range 4096).filter (fun m => m == ownNumber k || (m != 0 && routeOf k m != 0))

/-- A snapshot's ticket completes: the records taken, and the modules that did not report. -/
def endSnapshot (w : SnapWait) (k : Core) : Core :=
  completeTicket w.ticket stDone
    (BitVec.ofNat 32 w.done.length :: maskWords (listBits ((knownModules k).filter (fun m => !w.done.contains m))) 128)
    { k with car := { k.car with snapWait := k.car.snapWait.filter (fun x => x.serial != w.serial) } }

/-- A snapshot is over when every completion has arrived, or at S + 100 µs. -/
def checkSnapshot (serial : Nat) (k : Core) : Core :=
  match k.car.snapWait.find? (fun w => w.serial == serial) with
  | some w => if glbSize k ≤ w.done.length ∨ w.tick + 20000 ≤ k.clock.chron then endSnapshot w k else k
  | none => k

/-- A module's completion at the root. -/
def noteSnapshot (serial m : Nat) (k : Core) : Core :=
  checkSnapshot serial (if m = 0 then k else { k with car := { k.car with
    snapWait := k.car.snapWait.map (fun w => if w.serial = serial then { w with done := m :: w.done.filter (· != m) } else w) } })

/-- SNAPSHOT_CAPTURE: at the boundary of S a module takes its record, keeps the last four, and reports to the root. The root takes
those it announced; another module has the serial and S from the packet. -/
def opSnapshotCapture (serial tick : Nat) (k : Core) : Core :=
  if k.clock.chron < tick ∨ ownNumber k = 0 ∨ (isRoot k ∧ ¬ k.car.snapPending.contains (serial, tick)) then k
  else
    let rec_ : SnapRec := { serial := serial, words := snapshotWords serial tick k }
    let k1 := { k with car := { k.car with
      snapPending := k.car.snapPending.filter (· != (serial, tick))
      snapRecords := (k.car.snapRecords ++ [rec_]).drop (k.car.snapRecords.length + 1 - 4) } }
    if isRoot k then noteSnapshot serial (ownNumber k) k1 else sendRouted (.snapshotDone serial) k1

/-- Meaning of SNAPSHOT_CAPTURE (R396). -/
def execSnapshotCapture (serial : BitVec 16) (tick : Nat) (s : State) : Host.Outcome State Fault Refusal :=
  .next (onCore (opSnapshotCapture serial.toNat tick) s)

/-- Meaning of SNAPSHOT_COMPLETION_RECEIVE (R396): a module's completion reaches the root; with module 0 no completion comes and
only S + 100 µs passes. -/
def execSnapshotCompletionReceive (serial : BitVec 16) (module : BitVec 12) (s : State) : Host.Outcome State Fault Refusal :=
  .next (onCore (noteSnapshot serial.toNat module.toNat) s)

/-- The record kept under a serial. -/
def keptSnapshot (k : Core) (serial : Nat) : Option SnapRec := k.car.snapRecords.reverse.find? (fun x => x.serial == serial)

/-- SNAPSHOT_READ (0x0A13). -/
def opSnapshotRead : OpDef where
  opcode := 0x0A13
  read := true
  target := isPage .chr
  params := fun c s => firstSome [exactly 1 c, refuseIf (keptSnapshot s.core (pn c.params 0)).isNone stParameter]
  run := fun c _ s => match keptSnapshot s.core (pn c.params 0) with
    | some x => .done stDone x.words s
    | none => .refuse stParameter []

/-- Meaning of SNAPSHOT_READ (R396). -/
def execSnapshotRead (c : Cmd) (s : State) : Host.Outcome State Fault Refusal := .next (takeCmd opSnapshotRead c s)

/-! ### The global reset (R397) -/

/-- A global reset is announced; the root resets itself at R when it is named. -/
def startGlobalReset (tick : Nat) (modules : List Nat) (id : Word) (k : Core) : Core :=
  flood (.globalReset tick modules) { k with car := { k.car with
    resetWait := k.car.resetWait ++ [(id, tick)]
    resetPending := if modules.contains (ownNumber k) then k.car.resetPending ++ [tick] else k.car.resetPending } }

/-- GLOBAL_RESET (0x0A14). -/
def opGlobalReset : OpDef where
  opcode := 0x0A14
  target := isPage .chr
  params := fun c s => firstSome [exactly 130 c, refuseIf (decide (pn64 c.params 0 < globalBound s.core)) stParameter]
  state := fun _ s => notNumberedRoot s
  run := fun c _ _ => .ticketed (.reset (pn64 c.params 0)) (pn64 c.params 0) []
    (fun id s' => onCore (startGlobalReset (pn64 c.params 0) (bitList (maskOf (c.params.drop 2) 128) 4096) id) s')

/-- Meaning of GLOBAL_RESET (R397). -/
def execGlobalReset (c : Cmd) (s : State) : Host.Outcome State Fault Refusal := .next (takeCmd opGlobalReset c s)

/-- The root's own part of a reset tick: the tickets of that tick complete with DONE, and the module reset begins when the root is
named. -/
def rootResetTick (tick : Nat) (k : Core) : Core :=
  let k1 := (k.car.resetWait.filter (fun e => e.2 == tick)).foldl (fun acc e => completeTicket e.1 stDone [] acc) k
  let k2 := { k1 with car := { k1.car with
    resetWait := k1.car.resetWait.filter (fun e => e.2 != tick), resetPending := k1.car.resetPending.filter (· != tick) } }
  if k.car.resetPending.contains tick then requestReset 0 k2 else k2

/-- GLOBAL_RESET_TICK: the boundary of R at a module that the reset names, or at the root. -/
def opGlobalResetTick (tick : Nat) (k : Core) : Core :=
  if k.clock.chron < tick ∨ ownNumber k = 0 then k
  else if isRoot k then rootResetTick tick k
  else requestReset 0 k

/-- Meaning of GLOBAL_RESET_TICK (R397). -/
def execGlobalResetTick (tick : Nat) (s : State) : Host.Outcome State Fault Refusal := .next (onCore (opGlobalResetTick tick) s)

/-! ### Ports and routes (R382, R383, R388, R398, R401) -/

/-- Is a page a port page? -/
def isPort (p : Page) : Bool :=
  match p with
  | .port _ => true
  | _ => false

/-- PORT_CTRL of the port page that a command targets. -/
def portCtrlOf (c : Cmd) : Nat := c.target.toNat / 2 ^ 20 * 2 ^ 20

/-- CARAVAN_PORT_SET (0x0A20). -/
def opCaravanPortSet : OpDef where
  opcode := 0x0A20
  target := isPort
  params := fun c s => firstSome [exactly 1 c, pairsRequest c s [(portCtrlOf c, pw c.params 0)]]
  covers := fun c _ => [portCtrlOf c]
  state := fun c s => pairsState c s [(portCtrlOf c, pw c.params 0)]
  run := fun c n s => runPairs c n [(portCtrlOf c, pw c.params 0)] [] s

/-- Meaning of CARAVAN_PORT_SET (R398, R401). -/
def execCaravanPortSet (c : Cmd) (s : State) : Host.Outcome State Fault Refusal := .next (takeCmd opCaravanPortSet c s)

/-- CARAVAN_PORT_READ (0x0A21). -/
def opCaravanPortRead : OpDef where
  opcode := 0x0A21
  read := true
  target := isPort
  params := fun c _ => exactly 0 c
  state := fun c s => unitRefusal s.core (portCtrlOf c)
  run := fun c _ s => .done stDone ([4, 8, 0xC, 0x10, 0x14, 0x18, 0x1C].map (fun o => readReg s.core (portCtrlOf c + o))) s

/-- Meaning of CARAVAN_PORT_READ (R398). -/
def execCaravanPortRead (c : Cmd) (s : State) : Host.Outcome State Fault Refusal := .next (takeCmd opCaravanPortRead c s)

/-- The ROUTE words of a CARAVAN_ROUTE_SET with their addresses. -/
def routeSetPairs (c : Cmd) : List (Nat × Word) :=
  (regRange (0x83F01000 + 4 * (pn c.params 0 / 8)) (c.params.length - 1)).zip (c.params.drop 1)

/-- CARAVAN_ROUTE_SET (0x0A22): refused as a whole when a nibble is refused. -/
def opCaravanRouteSet : OpDef where
  opcode := 0x0A22
  target := isPage .car
  params := fun c s => firstSome
    [ refuseIf (outside c.params.length 2 513) stLength
    , refuseIf (pn c.params 0 % 8 != 0 || decide (512 < pn c.params 0 / 8 + (c.params.length - 1))) stParameter
    , pairsRequest c s (routeSetPairs c) ]
  covers := fun c _ => (routeSetPairs c).map Prod.fst
  state := fun c s => pairsState c s (routeSetPairs c)
  run := fun c n s => runPairs c n (routeSetPairs c) [] s

/-- Meaning of CARAVAN_ROUTE_SET (R391, R398). -/
def execCaravanRouteSet (c : Cmd) (s : State) : Host.Outcome State Fault Refusal := .next (takeCmd opCaravanRouteSet c s)

/-- A write of one register by REG_WRITE, as the rows PORT_RETRAIN, UNBAR, PORT_DISABLE and MODULE_NUM_WRITE name it. -/
def opOneWrite (hits : Nat → Bool) : OpDef where
  opcode := 0x0111
  params := fun c s => firstSome [exactly 1 c, refuseIf (!hits c.target.toNat) stTarget, pairsRequest c s (regPairs c)]
  covers := fun c _ => [c.target.toNat]
  state := fun c s => pairsState c s (regPairs c)
  run := fun c n s => runPairs c n (regPairs c) [] s

/-- Is an address PORT_CTRL of a port? -/
def isPortCtrl (a : Nat) : Bool := (List.range 4).any (fun p => a == portReg p 0)

/-- A write of PORT_CTRL with RETRAIN. -/
def opPortRetrain : OpDef := opOneWrite isPortCtrl

/-- Meaning of PORT_RETRAIN (R380, R401). -/
def execPortRetrain (c : Cmd) (s : State) : Host.Outcome State Fault Refusal := .next (takeCmd opPortRetrain c s)

/-- A write of PORT_CTRL with UNBAR. -/
def opUnbar : OpDef := opOneWrite isPortCtrl

/-- Meaning of UNBAR (R382). -/
def execUnbar (c : Cmd) (s : State) : Host.Outcome State Fault Refusal := .next (takeCmd opUnbar c s)

/-- A write of PORT_CTRL with EN 0. -/
def opPortDisable : OpDef := opOneWrite isPortCtrl

/-- Meaning of PORT_DISABLE (R382). -/
def execPortDisable (c : Cmd) (s : State) : Host.Outcome State Fault Refusal := .next (takeCmd opPortDisable c s)

/-- A write of CARAVAN_ID. -/
def opModuleNumWrite : OpDef := opOneWrite (· == 0x83F00000)

/-- Meaning of MODULE_NUM_WRITE (R383). -/
def execModuleNumWrite (c : Cmd) (s : State) : Host.Outcome State Fault Refusal := .next (takeCmd opModuleNumWrite c s)

end Sys2Proof.Machine
end

