-- ==== Sys2Proof/Machine/WinCmds.lean ====
section
/-! DEFINITION. The window-monitor opcodes (Table CMP-5) and the comparator check (R254). -/

namespace Sys2Proof.Machine

/-- The pairs of a WM_CONFIG_SET. -/
def wmConfigPairs (c : Cmd) : List (Nat × Word) := pinGroup c [(0x200, pw c.params 32), (0x204, pw c.params 33)]

/-- WM_CONFIG_SET (0x0207). -/
def opWmConfigSet : OpDef where
  opcode := 0x0207
  stage := true
  target := isPage .hub
  params := fun c s => firstSome [exactly 34 c, pairsRequest c s (wmConfigPairs c)]
  covers := fun c _ => (wmConfigPairs c).map Prod.fst
  state := fun c s => pairsState c s (wmConfigPairs c)
  run := fun c n s => runPairs c n (wmConfigPairs c) [] s

/-- Meaning of WM_CONFIG_SET (R259). -/
def execWmConfigSet (c : Cmd) (s : State) : Host.Outcome State Fault Refusal := .next (takeCmd opWmConfigSet c s)

/-- The pairs of a WM_WAKE_SET. -/
def wmWakePairs (c : Cmd) : List (Nat × Word) := pinPairs c 0x208 (pw c.params 32)

/-- WM_WAKE_SET (0x0208). -/
def opWmWakeSet : OpDef where
  opcode := 0x0208
  target := isPage .hub
  params := fun c s => firstSome [exactly 33 c, pairsRequest c s (wmWakePairs c)]
  covers := fun c _ => (wmWakePairs c).map Prod.fst
  state := fun c s => pairsState c s (wmWakePairs c)
  run := fun c n s => runPairs c n (wmWakePairs c) [] s

/-- Meaning of WM_WAKE_SET (R255, R259). -/
def execWmWakeSet (c : Cmd) (s : State) : Host.Outcome State Fault Refusal := .next (takeCmd opWmWakeSet c s)

/-- The monitor that a WM_CAPTURE_READ names: a pin's by its cell address, a commons monitor by block address and number. -/
def captMonitor (c : Cmd) : Option (Nat × Nat) :=
  match cellAt (pw c.params 0), blockAt (pw c.params 0) with
  | some n, _ => if c.params.length = 1 ∧ n % 17 < 16 then some (blockOfCell n, n % 17) else none
  | none, some b => if pn c.params 1 = 16 ∨ pn c.params 1 = 17 then some (b, pn c.params 1) else none
  | none, none => none

/-- CAPT_WPOS, WM_STATUS and the eight entries of a monitor. -/
def captData (k : Core) (m : Nat × Nat) : List Word :=
  readReg k (wmReg m.1 m.2 0x210) :: readReg k (wmReg m.1 m.2 0x20C)
    :: (List.range 32).map (fun i => readReg k (wmReg m.1 m.2 (0x240 + 4 * i)))

/-- WM_CAPTURE_READ (0x0209). -/
def opWmCaptureRead : OpDef where
  opcode := 0x0209
  read := true
  params := fun c _ => firstSome [refuseIf (outside c.params.length 1 2) stLength, refuseIf (captMonitor c).isNone stParameter]
  state := fun c s => unitRefusal s.core (pn c.params 0 + 0x210)
  run := fun c _ s => .done stDone (captData s.core ((captMonitor c).getD (0, 0))) s

/-- Meaning of WM_CAPTURE_READ (R259). -/
def execWmCaptureRead (c : Cmd) (s : State) : Host.Outcome State Fault Refusal := .next (takeCmd opWmCaptureRead c s)

/-- The pairs of a CWM_SET: the control, capture and level words of a commons monitor. -/
def cwmPairs (c : Cmd) : List (Nat × Word) :=
  let base := wmReg ((blockAt (pw c.params 0)).getD 0) (pn c.params 1) 0x200
  [(base, pw c.params 2), (base + 4, pw c.params 3), (base + 0xC0, pw c.params 4), (base + 0xC4, pw c.params 5)]

/-- CWM_SET (0x020B). -/
def opCwmSet : OpDef where
  opcode := 0x020B
  stage := true
  target := isBlock
  params := fun c s => firstSome [exactly 6 c, refuseIf (blockAt (pw c.params 0)).isNone stParameter, inRange (pn c.params 1) 16 17,
    pairsRequest c s (cwmPairs c)]
  covers := fun c _ => (cwmPairs c).map Prod.fst
  state := fun c s => pairsState c s (cwmPairs c)
  run := fun c n s => runPairs c n (cwmPairs c) [] s

/-- Meaning of CWM_SET (R259). -/
def execCwmSet (c : Cmd) (s : State) : Host.Outcome State Fault Refusal := .next (takeCmd opCwmSet c s)

/-- WM_CHECK (0x020A): refused as PIN_CONTACT_CHECK is under R66; T0 is that of R545. -/
def opWmCheck : OpDef where
  opcode := 0x020A
  target := isPage .hub
  params := fun c _ => exactly 32 c
  covers := fun c _ => (maskPins c).map (fun p => pinReg p 0x200)
  state := fun c s => refuseIf (checkBusy s.core (maskPins c)) stState
  run := fun c _ s =>
    let tested := (maskPins c).filter (connectable s.core)
    .ticketed (.wmCheck (maskPins c) tested (checkStart s.core) none 0 0)
      (checkStart s.core + thresholdTicks s.core tested 0x68BA 0x68BA + 4 * usTicks 1 + usTicks 1) [] (fun _ s' => s')

/-- Meaning of WM_CHECK (R254). -/
def execWmCheck (c : Cmd) (s : State) : Host.Outcome State Fault Refusal := .next (takeCmd opWmCheck c s)

/-- The expected CH of a phase; CL is its complement (Table CMP-4). -/
def phaseHigh (phase : Nat) : Bool := phase == 1 || phase == 2

/-- The pass bits of a phase: bit 4 i + k of pin i (R254). -/
def phasePasses (tested : List Nat) (phase : Nat) (ch cl : PinMask) : Nat :=
  listBits ((tested.filter (fun p => ch.getLsbD p == phaseHigh phase && cl.getLsbD p == !phaseHigh phase)).map
    (fun p => 4 * p + phase))

/-- A pin leaves a comparator check: its registers and inputs are restored, and its comparators decide anew. -/
def endWmCheck (pin : Nat) (k : Core) : Core :=
  wmRestored (blockOfCell (cellOfPin pin)) (cellOfPin pin % 17) (restoreRegs pin k)

/-- WM_CHECK_PHASE: the phases come in order, each sampled 1 µs after its inputs are applied; after phase 3 the saved values
return, and the result is ready 1 µs later. -/
def opWmCheckPhase (t : Word) (phase : Nat) (ch cl : PinMask) (k : Core) : Core :=
  match workOf k t with
  | some (.wmCheck pins tested start (some ready) next passed) =>
    if phase = next ∧ ready + usTicks 1 * (phase + 1) ≤ k.clock.chron then
      let got := passed ||| phasePasses tested phase ch cl
      if phase = 3 then
        setWork t (.wmCheck pins tested start (some (k.clock.chron + usTicks 1)) 4 got) (tested.foldl (fun acc p => endWmCheck p acc) k)
      else setWork t (.wmCheck pins tested start (some ready) (next + 1) got) k
    else k
  | _ => k

/-- Meaning of WM_CHECK_PHASE (R254). -/
def execWmCheckPhase (ticket : Word) (phase : Fin 4) (ch cl : PinMask) (s : State) : Host.Outcome State Fault Refusal :=
  .next (onCore (opWmCheckPhase ticket phase.val ch cl) s)

/-- The end of a comparator check: cause CHECK_DONE in every block of the masked pins, and the result, 512 bytes of pass bits
and 128 bytes of tested pins. -/
def finishWmCheck (t : Word) (pins tested : List Nat) (passed : Nat) (k : Core) : Core :=
  completeTicket t stDone (maskWords passed 128 ++ maskWords (listBits tested) 32)
    (((pins.map (fun p => blockOfCell (cellOfPin p))).eraseDups).foldl (fun acc b => recordCause (blockReg b 0x704) 3 acc) k)

end Sys2Proof.Machine
end

