-- ==== Sys2Proof/Machine/Serve.lean ====
section
/-! DEFINITION. The table of opcodes, the serving of commands that wait (R322), commands of the chain and broadcasts (R339, R395),
the end of ticketed work (R347), and the passing of time. -/

namespace Sys2Proof.Machine

/-! ### The table of opcodes -/

/-- The opcodes 0x01xx (Table CMD-1). -/
def opcodes1 : List OpDef := [
  opNop, opModuleInfo, opSessionOpen, opSessionClose, opRegRead, opRegWrite, opRegModify, opReserve, opRelease,
  opReservationRead, opResultRead, opTicketRelease]

/-- The opcodes 0x02xx (Table CMD-1). -/
def opcodes2 : List OpDef := [
  opPinLevelsSet, opPinSwitchSet, opPinContactCheck, opPinStatusRead, opSpareSubstitute, opSpareReturn,
  opWmConfigSet, opWmWakeSet, opWmCaptureRead, opWmCheck, opCwmSet]

/-- The opcodes 0x03xx (Table CMD-1). -/
def opcodes3 : List OpDef := [
  opChronicleRead, opChronicleSet, opChronicleRoleSet, opTimingSetWrite, opBeatPeriodSet, opSleepAccountRead]

/-- The opcodes 0x04xx (Table CMD-1). -/
def opcodes4 : List OpDef := [
  opItinLoad, opItinRunSet, opItinStopNow, opItinStatusRead, opWaypointRead, opVstreamSet, opItinGenWrite]

/-- The opcodes 0x05xx (Table CMD-1). -/
def opcodes5 : List OpDef := [
  opFailCtrlSet, opCatchWindowSet, opCatchClear, opCatchDump, opLedgerSet, opLedgerAdvance, opCatClear,
  opRepairRegionWrite, opRepairSolve, opRepairResultRead, opFailSiteSummary, opCatRead]

/-- The opcodes 0x06xx (Table CMD-1). -/
def opcodes6 : List OpDef := [
  opMeasConfigSet, opMeasDetSet, opMeasRead, opMeasLastRead, opMeasDetRead, opMeasRingSet]

/-- The opcodes 0x07xx (Table CMD-1). -/
def opcodes7 : List OpDef := [
  opCommRouteSet, opWdacSet, opMonScheduleSet, opMonConvert, opMonRead, opDacReadback]

/-- The opcodes 0x08xx (Table CMD-1). -/
def opcodes8 : List OpDef := [
  opFabLoad, opFabUnload, opFabStatusRead]

/-- The opcodes 0x09xx (Table CMD-1). -/
def opcodes9 : List OpDef := [
  opArcRead, opArcWrite, opArcDma, opQdrRead, opQdrWrite, opTariffSet, opTariffRead, opArbSet, opMemErrorsRead]

/-- The opcodes 0x0Axx (Table CMD-1). -/
def opcodesA : List OpDef := [
  opFolioOpen, opFolioStage, opFolioAccede, opFolioWithdraw, opFolioStatusRead, opGlobalBarrier, opGlobalBroadcast,
  opGlobalSnapshot, opSnapshotRead, opGlobalReset, opCaravanPortSet, opCaravanPortRead, opCaravanRouteSet]

/-- The opcodes 0x0Bxx (Table CMD-1). -/
def opcodesB : List OpDef := [
  opPairForm, opPairDissolve, opPairHandover, opPairStatusRead, opPairRestore]

/-- The opcodes 0x0Cxx (Table CMD-1). -/
def opcodesC : List OpDef := [
  opPowerState, opPowerStatusRead, opModuleReset, opPowerRailMapSet]

/-- The opcodes 0x0Dxx (Table CMD-1). -/
def opcodesD : List OpDef := [
  opSelfcal, opCalStatusRead, opCalBgSet, opCalRecordRead, opCalStore, opCalRevert]

/-- The opcodes 0x0Exx (Table CMD-1). -/
def opcodesE : List OpDef := [
  opSecImageWrite, opSecImageCommit, opSecRollbackAdvance, opSecKeyRevoke, opSecDebugChallenge, opSecDebugUnlock,
  opSecAllowlistSet]

/-- The opcodes 0x0Fxx (Table CMD-1). -/
def opcodesF : List OpDef := [
  opEvtRouteSet, opEvtPendingRead, opEvtSourceRead, opEvtClear, opFaultLogRead, opBlockRestore, opRegionRestore]

/-- Every opcode of the module. -/
def opTable : List OpDef :=
  opcodes1 ++ opcodes2 ++ opcodes3 ++ opcodes4 ++ opcodes5 ++ opcodes6 ++ opcodes7 ++ opcodes8
    ++ opcodes9 ++ opcodesA ++ opcodesB ++ opcodesC ++ opcodesD ++ opcodesE ++ opcodesF

/-- The description of an opcode; none where it does not exist. -/
def opDefOf (op : BitVec 16) : Option OpDef := opTable.find? (fun d => d.opcode == op)

/-! ### Serving a command by its opcode (R321, R322, R332) -/

/-- An opcode that does not exist: what decides when it may start. -/
def unknownOp (op : BitVec 16) : OpDef where
  opcode := op
  params := fun _ _ => some stOpcode
  run := fun _ _ _ => .refuse stOpcode []

/-- May a command start, by its opcode? -/
def mayStart (op : BitVec 16) (c : Cmd) (s : State) : Bool := startable ((opDefOf op).getD (unknownOp op)) c s

/-- A command is served by its opcode; one that does not exist fails check 2, 3 or 4 of Table CMD-5. -/
def serveOp (op : BitVec 16) (c : Cmd) (s : State) : State :=
  let s1 := onCore (markStart op c) s
  match opDefOf op with
  | some d => serve d c s1
  | none =>
    onCore (answer op c ((firstSome [refuseIf (c.flags &&& 0xFC#8 != 0) stFlags,
      refuseIf (sessionOf s.core c == 0) stNoSession]).getD stOpcode) []) s1

/-- A command reaches Steward by its opcode: as `takeCmd`. -/
def takeOp (op : BitVec 16) (c : Cmd) (s : State) : State :=
  match joinChain c s.core with
  | none => onCore (countFld 0x81F0001C 31 0 1) s
  | some k =>
    let s1 := { s with core := k }
    if ¬ sourceWaits k c ∧ mayStart op c s1 then serveOp op c s1 else onCore (holdCmd op c) s1

/-- CHAIN_COMMAND_RECEIVE: a command of the chain wakes the module from Slumber (R443) and reaches Steward. -/
def opChainCommandReceive (op : BitVec 16) (c : Cmd) (s : State) : State :=
  if fromChain c then takeOp op c (onCore (wakeForCommand 3) s) else s

/-- Meaning of CHAIN_COMMAND_RECEIVE (R339, R443). -/
def execChainCommandReceive (_port : Port) (opcode : BitVec 16) (c : Cmd) (s : State) : Host.Outcome State Fault Refusal :=
  .next (opChainCommandReceive opcode c s)

/-! ### Broadcasts executed here (R395) -/

/-- A refused broadcast: BCAST_REFUSED, and the status in CAR_LAST. -/
def noteBroadcast (st : Status) (k : Core) : Core := recordCause 0x83F0001C 4 (setRegFld 0x83F00018 11 0 (st.toNat % 4096) k)

/-- What an inner command comes to: no reply is sent; a refusal is recorded. -/
def innerResult (r : CmdRes) (s : State) : State :=
  match r with
  | .done _ _ s' => s'
  | .refuse st _ => onCore (noteBroadcast st) s
  | .later s' => s'
  | .ticketed _ _ _ _ => s

/-- The inner command of a broadcast is executed as a command of its chain session. -/
def runInner (op : BitVec 16) (c : Cmd) (s : State) : State :=
  match joinChain c s.core with
  | none => onCore (countFld 0x81F0001C 31 0 1) s
  | some k =>
    let s1 := onCore (chargeSteward op c) { s with core := k }
    match opDefOf op with
    | none => onCore (noteBroadcast stOpcode) s1
    | some d =>
      match refusal d c s1 with
      | some e => onCore (noteBroadcast e.1) s1
      | none => innerResult (d.run c (sessionOf s1.core c) (chargeCost d c s1)) (chargeCost d c s1)

/-- BROADCAST_RECEIVE: a broadcast not yet taken is executed; the root first floods one that another module sent to it. -/
def opBroadcastReceive (origin : Nat) (serial : Word) (op : BitVec 16) (c : Cmd) (s : State) : State :=
  if ownNumber s.core = 0 ∨ s.core.car.bcastSeen.contains (origin, serial) then s
  else
    runInner op c (onCore (fun k =>
      let k1 := { k with car := { k.car with bcastSeen := (origin, serial) :: k.car.bcastSeen } }
      if isRoot k ∧ origin ≠ ownNumber k then flood (.broadcast (BitVec.ofNat 32 k1.car.floodSerial) op c) k1 else k1) s)

/-- Meaning of BROADCAST_RECEIVE (R395). -/
def execBroadcastReceive (origin : BitVec 12) (serial : Word) (opcode : BitVec 16) (c : Cmd) (s : State) :
    Host.Outcome State Fault Refusal := .next (opBroadcastReceive origin.toNat serial opcode c s)

/-! ### The end of ticketed work (R347, Table MEM-2) -/

/-- Did a SPARE_RETURN open a ticket? Work released early is known by the carry of its cell. -/
def isReturn (k : Core) (id : Word) (b i : Nat) : Bool :=
  match amGet? k.stw.tickets (fld id 9 0) with
  | some t => if t.id = id then t.opcode == 0x0206 else spareCarrying k b == i
  | none => spareCarrying k b == i

/-- The end of work that moved data: DONE once every block is written, with the CRC of an ITIN_LOAD from the archive checked; else
the failing block's status with the count of the bytes that stand (Table MEM-2). -/
def endMove (id : Word) (w : Work) (s : State) : State :=
  match amGet? s.core.mem.xfers id.toNat with
  | some x =>
    if x.seq = x.blocks then
      let bad := match w with
        | .itinLoad _ _ len (some a) _ crc => crc32c (readBytes s.arc a len) != crc
        | _ => false
      onCore (fun k => completeTicket id (if bad then stParameter else stDone) [] (dropXfer id k)) s
    else match blockUnread s.core w x.seq with
      | some st => onCore (fun k => completeTicket id st (words64 (256 * x.seq)) (dropXfer id k)) s
      | none => s
  | none => s

/-- Has work ended badly? -/
def endFailed (e : WorkEnd) : Bool :=
  match e with
  | .ok _ => false
  | .failed _ _ => true

/-- The end of a ticket's work, by the kind of work: at its tick, once its transfer is over, or as its self-test comes out. Work
that another event ends is left to that event. -/
def endWork (id : Word) (w : Work) (e : WorkEnd) (s : State) : State :=
  let now := s.core.clock.chron
  match w with
  | .ending tick st res => if tick ≤ now then onCore (completeTicket id st res) s else s
  | .wmCheck pins tested _ (some ready) 4 passed => if ready ≤ now then onCore (finishWmCheck id pins tested passed) s else s
  | .substitute b i =>
    if ¬ isReturn s.core id b i then s
    else if endFailed e then onCore (completeTicket id stSelfTest []) s
    else onCore (selfTestPassed b i id) s
  | .itinLoad _ _ _ _ _ _ | .catchDump _ _ _ _ _ | .dma _ _ _ _ _ _ => endMove id w s
  | .broadcast tick => if tick ≤ now then onCore (completeTicket id stDone []) s else s
  | .reset tick => if tick ≤ now then onCore (completeTicket id stDone []) s else s
  | .pairRestore => if endFailed e then onCore (completeTicket id stState []) s else s
  | .blockRestore _ | .regionRestore _ => onCore (finishRestore id w (endFailed e)) s
  | _ => s

/-- TICKET_COMPLETE: the work of a ticket ends. -/
def opTicketComplete (id : Word) (e : WorkEnd) (s : State) : State :=
  match workOf s.core id with
  | some w => endWork id w e s
  | none => s

/-- Meaning of TICKET_COMPLETE (R347). -/
def execTicketComplete (ticket : Word) (outcome : WorkEnd) (s : State) : Host.Outcome State Fault Refusal :=
  .next (opTicketComplete ticket outcome s)

/-! ### The passing of time -/

/-- The first waiting command of each source, with the source's place in the rotation (R322). -/
def heads (k : Core) : List (Nat × BitVec 16 × Cmd) :=
  (List.range 16).filterMap (fun q => (queueOf k q).waiting.head?.map (fun e => (q, e)))
    ++ (List.range 65).filterMap (fun n =>
      (k.stw.chainWaiting.find? (fun e => e.1 == n)).map (fun e => (if n = 0 then 80 else 15 + n, e.2)))

/-- A waiting command leaves its source. -/
def popWaiting (h : Nat × BitVec 16 × Cmd) (k : Core) : Core :=
  if h.1 < 16 then setQueue h.1 { queueOf k h.1 with waiting := (queueOf k h.1).waiting.drop 1 } k
  else
    let n := if h.1 = 80 then 0 else h.1 - 15
    { k with stw := { k.stw with chainWaiting := k.stw.chainWaiting.eraseP (fun e => e.1 == n) } }

/-- A waiting command starts: a command of the chain joins its session anew, in case that ended meanwhile. -/
def startWaiting (h : Nat × BitVec 16 × Cmd) (s : State) : State :=
  let s1 := onCore (popWaiting h) s
  match joinChain h.2.2 s1.core with
  | none => onCore (countFld 0x81F0001C 31 0 1) s1
  | some k => serveOp h.2.1 h.2.2 { s1 with core := k }

/-- Steward's next command of those that wait: its arbiter chooses the class, and the rotation the source (R322, Table MEM-3). -/
def serveNext (s : State) : State :=
  let l := (heads s.core).filter (fun h => mayStart h.2.1 h.2.2 s)
  let classes := (l.map (fun h => cmdClass h.2.1 h.2.2)).eraseDups
  match granted s.core .steward (eligible s.core .steward [] classes) with
  | none => s
  | some g =>
    let mine := l.filter (fun h => cmdClass h.2.1 h.2.2 == g)
    match firstInRotation s.core.stw.source 81 (mine.map Prod.fst) with
    | some i => match mine.find? (fun h => h.1 == i) with
      | some h => startWaiting h (onCore (opArbiterDecision .steward (classes.map (fun x => (x, 0))) []) s)
      | none => s
    | none => s

/-- One tick of TREF passes; the Chronicle counts it from TREF or, at the nominal rate, from the keeper (R96, R107). -/
def tick (k : Core) : Core :=
  { k with clock := { k.clock with
    uptime := k.clock.uptime + 1, chron := if k.clock.by_ = .none then k.clock.chron else (k.clock.chron + 1) % 2 ^ 64 } }

/-- What the block does when no command or event waits: a tick passes, and Steward executes the root's own copy of a broadcast, or
its next waiting command. -/
def idle (s : State) : State :=
  let s1 := onCore tick s
  match (if stewardBusy s1.core then [] else s1.core.car.bcast) with
  | (op, c) :: rest => runInner op c (onCore (fun k => { k with car := { k.car with bcast := rest } }) s1)
  | [] => serveNext s1

end Sys2Proof.Machine
end

