-- ==== Sys2Proof/Machine/Dispatch.lean ====
section
/-! DEFINITION. One arm for each command and event: its meaning. -/

namespace Sys2Proof.Machine

/-- The effect of a command or event on everything but the queue. -/
def exec (i : Instr) (s : State) : Host.Outcome State Fault Refusal :=
  match i with
  | .nop c => Sys2Proof.Machine.execNop c s
  | .moduleInfo c => Sys2Proof.Machine.execModuleInfo c s
  | .sessionOpen c => Sys2Proof.Machine.execSessionOpen c s
  | .sessionClose c => Sys2Proof.Machine.execSessionClose c s
  | .regRead c => Sys2Proof.Machine.execRegRead c s
  | .regWrite c => Sys2Proof.Machine.execRegWrite c s
  | .regModify c => Sys2Proof.Machine.execRegModify c s
  | .reserve c => Sys2Proof.Machine.execReserve c s
  | .release c => Sys2Proof.Machine.execRelease c s
  | .reservationRead c => Sys2Proof.Machine.execReservationRead c s
  | .resultRead c => Sys2Proof.Machine.execResultRead c s
  | .ticketRelease c => Sys2Proof.Machine.execTicketRelease c s
  | .evtRouteSet c => Sys2Proof.Machine.execEvtRouteSet c s
  | .evtPendingRead c => Sys2Proof.Machine.execEvtPendingRead c s
  | .evtSourceRead c => Sys2Proof.Machine.execEvtSourceRead c s
  | .evtClear c => Sys2Proof.Machine.execEvtClear c s
  | .sqcClearWrite c => Sys2Proof.Machine.execSqcClearWrite c s
  | .pinLevelsSet c => Sys2Proof.Machine.execPinLevelsSet c s
  | .pinSwitchSet c => Sys2Proof.Machine.execPinSwitchSet c s
  | .pinContactCheck c => Sys2Proof.Machine.execPinContactCheck c s
  | .contactCheckAccession ticket => Sys2Proof.Machine.execContactCheckAccession ticket s
  | .contactCheckSample ticket ch cl => Sys2Proof.Machine.execContactCheckSample ticket ch cl s
  | .pinStatusRead c => Sys2Proof.Machine.execPinStatusRead c s
  | .spareSubstitute c => Sys2Proof.Machine.execSpareSubstitute c s
  | .spareReturn c => Sys2Proof.Machine.execSpareReturn c s
  | .wmConfigSet c => Sys2Proof.Machine.execWmConfigSet c s
  | .wmWakeSet c => Sys2Proof.Machine.execWmWakeSet c s
  | .wmCaptureRead c => Sys2Proof.Machine.execWmCaptureRead c s
  | .wmCheck c => Sys2Proof.Machine.execWmCheck c s
  | .wmCheckPhase ticket phase ch cl => Sys2Proof.Machine.execWmCheckPhase ticket phase ch cl s
  | .cwmSet c => Sys2Proof.Machine.execCwmSet c s
  | .chronicleRead c => Sys2Proof.Machine.execChronicleRead c s
  | .chronicleSet c => Sys2Proof.Machine.execChronicleSet c s
  | .chronicleRoleSet c => Sys2Proof.Machine.execChronicleRoleSet c s
  | .timingSetWrite c => Sys2Proof.Machine.execTimingSetWrite c s
  | .beatPeriodSet c => Sys2Proof.Machine.execBeatPeriodSet c s
  | .sleepAccountRead c => Sys2Proof.Machine.execSleepAccountRead c s
  | .itinLoad c => Sys2Proof.Machine.execItinLoad c s
  | .itinRunSet c => Sys2Proof.Machine.execItinRunSet c s
  | .itinStopNow c => Sys2Proof.Machine.execItinStopNow c s
  | .itinStatusRead c => Sys2Proof.Machine.execItinStatusRead c s
  | .waypointRead c => Sys2Proof.Machine.execWaypointRead c s
  | .vstreamSet c => Sys2Proof.Machine.execVstreamSet c s
  | .itinGenWrite c => Sys2Proof.Machine.execItinGenWrite c s
  | .failCtrlSet c => Sys2Proof.Machine.execFailCtrlSet c s
  | .catchWindowSet c => Sys2Proof.Machine.execCatchWindowSet c s
  | .catchClear c => Sys2Proof.Machine.execCatchClear c s
  | .catchDump c => Sys2Proof.Machine.execCatchDump c s
  | .ledgerSet c => Sys2Proof.Machine.execLedgerSet c s
  | .ledgerAdvance c => Sys2Proof.Machine.execLedgerAdvance c s
  | .catClear c => Sys2Proof.Machine.execCatClear c s
  | .repairRegionWrite c => Sys2Proof.Machine.execRepairRegionWrite c s
  | .repairSolve c => Sys2Proof.Machine.execRepairSolve c s
  | .repairResultRead c => Sys2Proof.Machine.execRepairResultRead c s
  | .failSiteSummary c => Sys2Proof.Machine.execFailSiteSummary c s
  | .catRead c => Sys2Proof.Machine.execCatRead c s
  | .measConfigSet c => Sys2Proof.Machine.execMeasConfigSet c s
  | .measDetSet c => Sys2Proof.Machine.execMeasDetSet c s
  | .measRead c => Sys2Proof.Machine.execMeasRead c s
  | .measLastRead c => Sys2Proof.Machine.execMeasLastRead c s
  | .measDetRead c => Sys2Proof.Machine.execMeasDetRead c s
  | .measRingSet c => Sys2Proof.Machine.execMeasRingSet c s
  | .commRouteSet c => Sys2Proof.Machine.execCommRouteSet c s
  | .wdacSet c => Sys2Proof.Machine.execWdacSet c s
  | .monScheduleSet c => Sys2Proof.Machine.execMonScheduleSet c s
  | .monConvert c => Sys2Proof.Machine.execMonConvert c s
  | .monRead c => Sys2Proof.Machine.execMonRead c s
  | .dacReadback c => Sys2Proof.Machine.execDacReadback c s
  | .fabLoad c => Sys2Proof.Machine.execFabLoad c s
  | .fabUnload c => Sys2Proof.Machine.execFabUnload c s
  | .fabStatusRead c => Sys2Proof.Machine.execFabStatusRead c s
  | .arcRead c => Sys2Proof.Machine.execArcRead c s
  | .arcWrite c => Sys2Proof.Machine.execArcWrite c s
  | .arcDma c => Sys2Proof.Machine.execArcDma c s
  | .qdrRead c => Sys2Proof.Machine.execQdrRead c s
  | .qdrWrite c => Sys2Proof.Machine.execQdrWrite c s
  | .tariffSet c => Sys2Proof.Machine.execTariffSet c s
  | .tariffRead c => Sys2Proof.Machine.execTariffRead c s
  | .arbSet c => Sys2Proof.Machine.execArbSet c s
  | .memErrorsRead c => Sys2Proof.Machine.execMemErrorsRead c s
  | .folioOpen c => Sys2Proof.Machine.execFolioOpen c s
  | .folioStage c => Sys2Proof.Machine.execFolioStage c s
  | .folioAccede c => Sys2Proof.Machine.execFolioAccede c s
  | .folioWithdraw c => Sys2Proof.Machine.execFolioWithdraw c s
  | .folioStatusRead c => Sys2Proof.Machine.execFolioStatusRead c s
  | .globalBarrier c => Sys2Proof.Machine.execGlobalBarrier c s
  | .globalBroadcast c => Sys2Proof.Machine.execGlobalBroadcast c s
  | .globalSnapshot c => Sys2Proof.Machine.execGlobalSnapshot c s
  | .snapshotRead c => Sys2Proof.Machine.execSnapshotRead c s
  | .globalReset c => Sys2Proof.Machine.execGlobalReset c s
  | .caravanPortSet c => Sys2Proof.Machine.execCaravanPortSet c s
  | .caravanPortRead c => Sys2Proof.Machine.execCaravanPortRead c s
  | .caravanRouteSet c => Sys2Proof.Machine.execCaravanRouteSet c s
  | .portRetrain c => Sys2Proof.Machine.execPortRetrain c s
  | .unbar c => Sys2Proof.Machine.execUnbar c s
  | .portDisable c => Sys2Proof.Machine.execPortDisable c s
  | .moduleNumWrite c => Sys2Proof.Machine.execModuleNumWrite c s
  | .pairForm c => Sys2Proof.Machine.execPairForm c s
  | .pairDissolve c => Sys2Proof.Machine.execPairDissolve c s
  | .pairHandover c => Sys2Proof.Machine.execPairHandover c s
  | .pairStatusRead c => Sys2Proof.Machine.execPairStatusRead c s
  | .pairRestore c => Sys2Proof.Machine.execPairRestore c s
  | .powerState c => Sys2Proof.Machine.execPowerState c s
  | .powerStatusRead c => Sys2Proof.Machine.execPowerStatusRead c s
  | .moduleReset c => Sys2Proof.Machine.execModuleReset c s
  | .powerRailMapSet c => Sys2Proof.Machine.execPowerRailMapSet c s
  | .selfcal c => Sys2Proof.Machine.execSelfcal c s
  | .calStatusRead c => Sys2Proof.Machine.execCalStatusRead c s
  | .calBgSet c => Sys2Proof.Machine.execCalBgSet c s
  | .calRecordRead c => Sys2Proof.Machine.execCalRecordRead c s
  | .calStore c => Sys2Proof.Machine.execCalStore c s
  | .calRevert c => Sys2Proof.Machine.execCalRevert c s
  | .secImageWrite c => Sys2Proof.Machine.execSecImageWrite c s
  | .secImageCommit c => Sys2Proof.Machine.execSecImageCommit c s
  | .secRollbackAdvance c => Sys2Proof.Machine.execSecRollbackAdvance c s
  | .secKeyRevoke c => Sys2Proof.Machine.execSecKeyRevoke c s
  | .secDebugChallenge c => Sys2Proof.Machine.execSecDebugChallenge c s
  | .secDebugUnlock c => Sys2Proof.Machine.execSecDebugUnlock c s
  | .secAllowlistSet c => Sys2Proof.Machine.execSecAllowlistSet c s
  | .debugNonceLapse => Sys2Proof.Machine.execDebugNonceLapse s
  | .faultLogRead c => Sys2Proof.Machine.execFaultLogRead c s
  | .blockRestore c => Sys2Proof.Machine.execBlockRestore c s
  | .regionRestore c => Sys2Proof.Machine.execRegionRestore c s
  | .sqTailWrite q value packets => Sys2Proof.Machine.execSqTailWrite q value packets s
  | .rqHeadWrite q value => Sys2Proof.Machine.execRqHeadWrite q value s
  | .qcfgWrite q value => Sys2Proof.Machine.execQcfgWrite q value s
  | .queueRegisterWrite q reg value => Sys2Proof.Machine.execQueueRegisterWrite q reg value s
  | .hostDmaFault q => Sys2Proof.Machine.execHostDmaFault q s
  | .d3hotEntry => Sys2Proof.Machine.execD3hotEntry s
  | .d0Return => Sys2Proof.Machine.execD0Return s
  | .pcieLinkDown => Sys2Proof.Machine.execPcieLinkDown s
  | .functionLevelReset => Sys2Proof.Machine.execFunctionLevelReset s
  | .pciePerst level => Sys2Proof.Machine.execPciePerst level s
  | .spdmRequest request => Sys2Proof.Machine.execSpdmRequest request s
  | .tapInstruction op => Sys2Proof.Machine.execTapInstruction op s
  | .ticketComplete ticket outcome => Sys2Proof.Machine.execTicketComplete ticket outcome s
  | .leaseExpired slot => Sys2Proof.Machine.execLeaseExpired slot s
  | .holdoffEnd vector => Sys2Proof.Machine.execHoldoffEnd vector s
  | .chainCommandReceive port opcode c => Sys2Proof.Machine.execChainCommandReceive port opcode c s
  | .chainReplyReceive port tag opcode status queue data => Sys2Proof.Machine.execChainReplyReceive port tag opcode status queue data s
  | .commandTimeout queue tag => Sys2Proof.Machine.execCommandTimeout queue tag s
  | .trefLost => Sys2Proof.Machine.execTrefLost s
  | .trefAccepted => Sys2Proof.Machine.execTrefAccepted s
  | .keeperRatioMeasured ratio => Sys2Proof.Machine.execKeeperRatioMeasured ratio s
  | .chronicleHandback periods temperature => Sys2Proof.Machine.execChronicleHandback periods temperature s
  | .trefAcceptTimeout => Sys2Proof.Machine.execTrefAcceptTimeout s
  | .trefChanged => Sys2Proof.Machine.execTrefChanged s
  | .multiplierLocked r => Sys2Proof.Machine.execMultiplierLocked r s
  | .lockLost r => Sys2Proof.Machine.execLockLost r s
  | .keeperCalValid ratio => Sys2Proof.Machine.execKeeperCalValid ratio s
  | .beaconSend => Sys2Proof.Machine.execBeaconSend s
  | .beaconReceive port value hops reSet root => Sys2Proof.Machine.execBeaconReceive port value hops reSet root s
  | .beaconLost => Sys2Proof.Machine.execBeaconLost s
  | .tariffRefill => Sys2Proof.Machine.execTariffRefill s
  | .treeSwitchRelease r k forced => Sys2Proof.Machine.execTreeSwitchRelease r k forced s
  | .treeSwitchConnect r k => Sys2Proof.Machine.execTreeSwitchConnect r k s
  | .levelSlewInterval cell dac => Sys2Proof.Machine.execLevelSlewInterval cell dac s
  | .spanSafeReached cell dac => Sys2Proof.Machine.execSpanSafeReached cell dac s
  | .spanDwellEnd cell dac => Sys2Proof.Machine.execSpanDwellEnd cell dac s
  | .spanDone cell dac => Sys2Proof.Machine.execSpanDone cell dac s
  | .drvOc cell => Sys2Proof.Machine.execDrvOc cell s
  | .clamp cell => Sys2Proof.Machine.execClamp cell s
  | .handoff b => Sys2Proof.Machine.execHandoff b s
  | .handoffTimeout b => Sys2Proof.Machine.execHandoffTimeout b s
  | .cellFault pin code => Sys2Proof.Machine.execCellFault pin code s
  | .spareForcedReturn b => Sys2Proof.Machine.execSpareForcedReturn b s
  | .faultSubstitutionConnect b => Sys2Proof.Machine.execFaultSubstitutionConnect b s
  | .spareFault b code => Sys2Proof.Machine.execSpareFault b code s
  | .staleSwitchRequest cell incarnation => Sys2Proof.Machine.execStaleSwitchRequest cell incarnation s
  | .beatStart r samples => Sys2Proof.Machine.execBeatStart r samples s
  | .itinPrimed r => Sys2Proof.Machine.execItinPrimed r s
  | .itinStep r => Sys2Proof.Machine.execItinStep r s
  | .itinJump r => Sys2Proof.Machine.execItinJump r s
  | .itinCall r => Sys2Proof.Machine.execItinCall r s
  | .itinRet r => Sys2Proof.Machine.execItinRet r s
  | .itinLdreg r => Sys2Proof.Machine.execItinLdreg r s
  | .itinLoop r => Sys2Proof.Machine.execItinLoop r s
  | .itinBrc r => Sys2Proof.Machine.execItinBrc r s
  | .itinBrf r => Sys2Proof.Machine.execItinBrf r s
  | .brfResolve r => Sys2Proof.Machine.execBrfResolve r s
  | .itinMatch r => Sys2Proof.Machine.execItinMatch r s
  | .matchIterationEnd r => Sys2Proof.Machine.execMatchIterationEnd r s
  | .itinWaypoint r => Sys2Proof.Machine.execItinWaypoint r s
  | .waypointStageWrite r stored => Sys2Proof.Machine.execWaypointStageWrite r stored s
  | .itinVstream r => Sys2Proof.Machine.execItinVstream r s
  | .itinHalt r => Sys2Proof.Machine.execItinHalt r s
  | .itinDone r => Sys2Proof.Machine.execItinDone r s
  | .illegalInstruction r => Sys2Proof.Machine.execIllegalInstruction r s
  | .itineraryStarved r => Sys2Proof.Machine.execItineraryStarved r s
  | .streamFault r code => Sys2Proof.Machine.execStreamFault r code s
  | .stopBeat r => Sys2Proof.Machine.execStopBeat r s
  | .ledgerBlockWrite r written => Sys2Proof.Machine.execLedgerBlockWrite r written s
  | .ledgerBlockPad r => Sys2Proof.Machine.execLedgerBlockPad r s
  | .catchUpdate r => Sys2Proof.Machine.execCatchUpdate r s
  | .catalogueUpdate r => Sys2Proof.Machine.execCatalogueUpdate r s
  | .purgeDone => Sys2Proof.Machine.execPurgeDone s
  | .mustRepairEval d => Sys2Proof.Machine.execMustRepairEval d s
  | .autoSolve site => Sys2Proof.Machine.execAutoSolve site s
  | .solveDone => Sys2Proof.Machine.execSolveDone s
  | .rangeChangeComplete cell => Sys2Proof.Machine.execRangeChangeComplete cell s
  | .measOutput b ch raw lost => Sys2Proof.Machine.execMeasOutput b ch raw lost s
  | .coarseValue b ch raw => Sys2Proof.Machine.execCoarseValue b ch raw s
  | .ovrStart b ch positive => Sys2Proof.Machine.execOvrStart b ch positive s
  | .ovrRelease b ch => Sys2Proof.Machine.execOvrRelease b ch s
  | .ovrRecoveryEnd b ch => Sys2Proof.Machine.execOvrRecoveryEnd b ch s
  | .contention b inward outward => Sys2Proof.Machine.execContention b inward outward s
  | .wdacUpdate b k => Sys2Proof.Machine.execWdacUpdate b k s
  | .wdacSlewStep b k => Sys2Proof.Machine.execWdacSlewStep b k s
  | .monSchedTrigger b conv => Sys2Proof.Machine.execMonSchedTrigger b conv s
  | .monConversionStart b conv => Sys2Proof.Machine.execMonConversionStart b conv s
  | .monConversionDone b conv raw => Sys2Proof.Machine.execMonConversionDone b conv raw s
  | .plausCheck b => Sys2Proof.Machine.execPlausCheck b s
  | .plausResult b rawA rawB => Sys2Proof.Machine.execPlausResult b rawA rawB s
  | .monRecal b conv => Sys2Proof.Machine.execMonRecal b conv s
  | .wmEdge b mon kind fine => Sys2Proof.Machine.execWmEdge b mon kind fine s
  | .blankEnd b mon => Sys2Proof.Machine.execBlankEnd b mon s
  | .undecidedExit b mon isHigh above => Sys2Proof.Machine.execUndecidedExit b mon isHigh above s
  | .wakeQualified b => Sys2Proof.Machine.execWakeQualified b s
  | .wakeConditionBreak b => Sys2Proof.Machine.execWakeConditionBreak b s
  | .fabConvertRequest b conv => Sys2Proof.Machine.execFabConvertRequest b conv s
  | .user b event => Sys2Proof.Machine.execUser b event s
  | .loadDone ticket => Sys2Proof.Machine.execLoadDone ticket s
  | .loadReject ticket code => Sys2Proof.Machine.execLoadReject ticket code s
  | .fabFault b => Sys2Proof.Machine.execFabFault b s
  | .qdrScrub r check => Sys2Proof.Machine.execQdrScrub r check s
  | .arcScrub check => Sys2Proof.Machine.execArcScrub check s
  | .transferBlockReceive ticket intact hostData => Sys2Proof.Machine.execTransferBlockReceive ticket intact hostData s
  | .transferAckTimeout ticket => Sys2Proof.Machine.execTransferAckTimeout ticket s
  | .linkFault r => Sys2Proof.Machine.execLinkFault r s
  | .stackFailed stack => Sys2Proof.Machine.execStackFailed stack s
  | .arbiterDecision a isWrite requests taRegions => Sys2Proof.Machine.execArbiterDecision a isWrite requests taRegions s
  | .prepareReceive p => Sys2Proof.Machine.execPrepareReceive p s
  | .folioAnnounceReceive id deadline => Sys2Proof.Machine.execFolioAnnounceReceive id deadline s
  | .folioOpenDeadline slot => Sys2Proof.Machine.execFolioOpenDeadline slot s
  | .folioVote slot => Sys2Proof.Machine.execFolioVote slot s
  | .voteReceive id module accede reason => Sys2Proof.Machine.execVoteReceive id module accede reason s
  | .folioDecide slot => Sys2Proof.Machine.execFolioDecide slot s
  | .folioAccession slot => Sys2Proof.Machine.execFolioAccession slot s
  | .folioWithdrawalReceive id => Sys2Proof.Machine.execFolioWithdrawalReceive id s
  | .outcomeReceive id module acceded reason => Sys2Proof.Machine.execOutcomeReceive id module acceded reason s
  | .folioTicketTimeout id => Sys2Proof.Machine.execFolioTicketTimeout id s
  | .frameReceive port f => Sys2Proof.Machine.execFrameReceive port f s
  | .frameResendTimeout port => Sys2Proof.Machine.execFrameResendTimeout port s
  | .portSilent port => Sys2Proof.Machine.execPortSilent port s
  | .linkTraining port info => Sys2Proof.Machine.execLinkTraining port info s
  | .trainingAttemptFail port failed => Sys2Proof.Machine.execTrainingAttemptFail port failed s
  | .portAdmit port partner => Sys2Proof.Machine.execPortAdmit port partner s
  | .trainingRetry port => Sys2Proof.Machine.execTrainingRetry port s
  | .portLeaveActive port cause => Sys2Proof.Machine.execPortLeaveActive port cause s
  | .packetReceive port p => Sys2Proof.Machine.execPacketReceive port p s
  | .stallDrop index => Sys2Proof.Machine.execStallDrop index s
  | .barrierArrivalReceive n module incarnation timeout => Sys2Proof.Machine.execBarrierArrivalReceive n module incarnation timeout s
  | .barrierReleaseReceive n released tick => Sys2Proof.Machine.execBarrierReleaseReceive n released tick s
  | .barrierTimeout n => Sys2Proof.Machine.execBarrierTimeout n s
  | .broadcastReceive origin serial opcode c => Sys2Proof.Machine.execBroadcastReceive origin serial opcode c s
  | .snapshotCapture serial tick => Sys2Proof.Machine.execSnapshotCapture serial tick s
  | .snapshotCompletionReceive serial module => Sys2Proof.Machine.execSnapshotCompletionReceive serial module s
  | .globalResetTick tick => Sys2Proof.Machine.execGlobalResetTick tick s
  | .formReceive f roles order witness aligned => Sys2Proof.Machine.execFormReceive f roles order witness aligned s
  | .formTimeout => Sys2Proof.Machine.execFormTimeout s
  | .pairFormation => Sys2Proof.Machine.execPairFormation s
  | .renewSend => Sys2Proof.Machine.execRenewSend s
  | .renewReceive f asWitness => Sys2Proof.Machine.execRenewReceive f asWitness s
  | .grantReceive f => Sys2Proof.Machine.execGrantReceive f s
  | .refuseReceive f => Sys2Proof.Machine.execRefuseReceive f s
  | .tenancyExpiry r => Sys2Proof.Machine.execTenancyExpiry r s
  | .relinquishReceive f => Sys2Proof.Machine.execRelinquishReceive f s
  | .takeoverTimer r => Sys2Proof.Machine.execTakeoverTimer r s
  | .takeoverReqReceive f => Sys2Proof.Machine.execTakeoverReqReceive f s
  | .takeoverGrantReceive f => Sys2Proof.Machine.execTakeoverGrantReceive f s
  | .takenReceive f asWitness => Sys2Proof.Machine.execTakenReceive f asWitness s
  | .registerReceive f other => Sys2Proof.Machine.execRegisterReceive f other s
  | .handoverBoundary r => Sys2Proof.Machine.execHandoverBoundary r s
  | .handoverReceive f => Sys2Proof.Machine.execHandoverReceive f s
  | .resynchronisation r tag beat tick diverged => Sys2Proof.Machine.execResynchronisation r tag beat tick diverged s
  | .checkpointCopy r stored => Sys2Proof.Machine.execCheckpointCopy r stored s
  | .mirrorReceive srcInc offset data => Sys2Proof.Machine.execMirrorReceive srcInc offset data s
  | .mirrorSend => Sys2Proof.Machine.execMirrorSend s
  | .mirrorResync isReceiver => Sys2Proof.Machine.execMirrorResync isReceiver s
  | .restoreDone => Sys2Proof.Machine.execRestoreDone s
  | .dozeEntryStep => Sys2Proof.Machine.execDozeEntryStep s
  | .dozeExit => Sys2Proof.Machine.execDozeExit s
  | .slumberEntryStep => Sys2Proof.Machine.execSlumberEntryStep s
  | .offEntryBackingCopy => Sys2Proof.Machine.execOffEntryBackingCopy s
  | .wakeEvent source => Sys2Proof.Machine.execWakeEvent source s
  | .entryAbort => Sys2Proof.Machine.execEntryAbort s
  | .wakeStep failed => Sys2Proof.Machine.execWakeStep failed s
  | .railAck rail => Sys2Proof.Machine.execRailAck rail s
  | .railTimeout rail => Sys2Proof.Machine.execRailTimeout rail s
  | .pmbAlert faulted => Sys2Proof.Machine.execPmbAlert faulted s
  | .vcoreAdjust millivolts => Sys2Proof.Machine.execVcoreAdjust millivolts s
  | .porstRise => Sys2Proof.Machine.execPorstRise s
  | .startupStep inputs => Sys2Proof.Machine.execStartupStep inputs s
  | .startupCaravanWaitEnd => Sys2Proof.Machine.execStartupCaravanWaitEnd s
  | .ready => Sys2Proof.Machine.execReady s
  | .startupRetry => Sys2Proof.Machine.execStartupRetry s
  | .porstFall => Sys2Proof.Machine.execPorstFall s
  | .vaonDrop => Sys2Proof.Machine.execVaonDrop s
  | .moduleResetStep => Sys2Proof.Machine.execModuleResetStep s
  | .selfcalStep results readbackFails convBad => Sys2Proof.Machine.execSelfcalStep results readbackFails convBad s
  | .selfcalDone => Sys2Proof.Machine.execSelfcalDone s
  | .bgTurn b => Sys2Proof.Machine.execBgTurn b s
  | .bgCalibrationDone b results readbackFails => Sys2Proof.Machine.execBgCalibrationDone b results readbackFails s
  | .bgStale cell => Sys2Proof.Machine.execBgStale cell s
  | .storeWordProgrammed => Sys2Proof.Machine.execStoreWordProgrammed s
  | .storeDone => Sys2Proof.Machine.execStoreDone s
  | .storeFail => Sys2Proof.Machine.execStoreFail s
  | .storeInterrupted => Sys2Proof.Machine.execStoreInterrupted s
  | .blockFaultDetect b code => Sys2Proof.Machine.execBlockFaultDetect b code s
  | .regionFaultDetect r code => Sys2Proof.Machine.execRegionFaultDetect r code s
  | .regionLinkKeepalive r => Sys2Proof.Machine.execRegionLinkKeepalive r s
  | .regionLinkSilent r => Sys2Proof.Machine.execRegionLinkSilent r s
  | .stewardRestart => Sys2Proof.Machine.execStewardRestart s
  | .hubMemory entry => Sys2Proof.Machine.execHubMemory entry s
  | .strongroomError page => Sys2Proof.Machine.execStrongroomError page s
  | .overTemp sensor => Sys2Proof.Machine.execOverTemp sensor s
  | .moduleHalt code => Sys2Proof.Machine.execModuleHalt code s
  | .containmentEscalate unit => Sys2Proof.Machine.execContainmentEscalate unit s
  | .blankStart b mon => Sys2Proof.Machine.execBlankStart b mon s
  | .fabricClockEdge r tree => Sys2Proof.Machine.execFabricClockEdge r tree s
  | .monRecalDue b conv => Sys2Proof.Machine.execMonRecalDue b conv s
  | .monRecalTimeout b conv => Sys2Proof.Machine.execMonRecalTimeout b conv s
  | .backoffCountReset port => Sys2Proof.Machine.execBackoffCountReset port s
  | .busMasteringEnabled => Sys2Proof.Machine.execBusMasteringEnabled s
  | .stewardRestartDone => Sys2Proof.Machine.execStewardRestartDone s

end Sys2Proof.Machine
end

