-- ==== Sys2Proof/Safety.lean ====
section
/-! DEFINITION. What counts as a sound state, and what it means that a host or chain command is accepted, in the terms that
statements use. -/

namespace Sys2Proof.Machine

/-- Both memories in canonical form: strictly rising addresses and no zero byte listed. -/
abbrev State.memOk (s : State) : Prop := s.qdr.wf = true ∧ s.arc.wf = true

/-- Does an outcome give a next state? -/
def Outcome.goesOn (o : Host.Outcome State Fault Refusal) : Bool :=
  match o with
  | .next _ => true
  | .fault _ => false
  | .refused _ => false

/-- The state once a command of the chain has joined its session (R339); a host command's own state. -/
def joined (c : Cmd) (s : State) : State :=
  match joinChain c s.core with
  | some k => { s with core := k }
  | none => s

/-- The session that a command comes from, 0 for none. -/
def sender (c : Cmd) (s : State) : Nat := sessionOf (joined c s).core c

/-- A command that Steward may start now and that passes every check of Table CMD-5 (R321, R322, R332): it is not older than its
chain session, no earlier command of its source waits, its source and tariff class are ready, and no check refuses it. -/
def accepted (d : OpDef) (c : Cmd) (s : State) : Bool :=
  (joinChain c s.core).isSome && !sourceWaits (joined c s).core c && startable d c (joined c s)
    && (refusal d c (onCore (markStart d.opcode c) (joined c s))).isNone

/-- The state in which an accepted command's immediate part runs: it has started, and a cost that R544 charges as a whole is
charged. -/
def begun (d : OpDef) (c : Cmd) (s : State) : State := chargeCost d c (onCore (markStart d.opcode c) (joined c s))

/-- A state with the reply to a command given. -/
def replied (d : OpDef) (c : Cmd) (st : Status) (data : List Word) (s : State) : State := onCore (answer d.opcode c st data) s

/-- A state with a command's ticket open, its work started, and ACCEPTED with the ticket's word and ready tick replied (R347). -/
def ticketed (d : OpDef) (c : Cmd) (w : Work) (tick : Nat) (extra : List Word) (go : Word → State → State) (s : State) : State :=
  replied d c stAccepted (nextTicket s.core :: words64 tick ++ extra)
    (go (nextTicket s.core) (onCore (openTicket c d.opcode (sessionOf s.core c) w tick) s))

/-- The session of a command and the module have a ticket slot free as its immediate part runs (R347). -/
def ticketLeft (d : OpDef) (c : Cmd) (s : State) : Bool := ticketFree (begun d c s).core (sessionOf (begun d c s).core c)

/-- The state and reply of an accepted command that writes register words: applied at once where FOLIO is 0, staged into the
folio otherwise (R335, R337). -/
def written (d : OpDef) (c : Cmd) (l : List (Nat × Word)) (data : List Word) (s : State) : State :=
  if c.folio = 0 then replied d c stDone data (onCore (applyWords l) (begun d c s))
  else replied d c stAccepted ([0, 0, 0] ++ data) (onCore (stageWords c.folio (sender c s) l) (begun d c s))

/-- A result read of a session answered (R349, R350): DONE with a result new to the session, REPEAT with one that it has read. -/
def resultReplied (d : OpDef) (c : Cmd) (stamp : List Nat) (data : List Word) (s : State) : State :=
  match amGet? (begun d c s).core.stw.sessions (sender c s) with
  | some x =>
    replied d c (if (readOnce d.opcode c stamp x).1 then stDone else stRepeat) data (onCore (fun k => { k with
      stw := { k.stw with sessions := amSet k.stw.sessions (sender c s) (readOnce d.opcode c stamp x).2 } }) (begun d c s))
  | none => replied d c stDone data (begun d c s)

/-- The next instruction of a region's itinerary engine. -/
def nextIns (r : Nat) (s : State) : ItinIns := fetchIns s.qdr r (engOf s.core r) (engOf s.core r).pc

/-- A region's engine may execute its next instruction, of an opcode: it is ready, the instruction is legal and its words and its
stream's are readable (R124, R131, R145). -/
def runnable (op r : Nat) (s : State) : Bool :=
  engineReady s.core r && (nextIns r s).op == op && insLegal s.core r (engOf s.core r) (nextIns r s)
    && !qdrBadIn s.core r ((engOf s.core r).cfg.codeBase + 16 * (engOf s.core r).pc) 16
    && (op != 0x0A || !arcBadIn s.core ((engOf s.core r).cfg.vsBase + (engOf s.core r).streamPos)
      (recordSize s.core r * frameBeats (engOf s.core r)))

/-- The FIFO has room for all the frames that are left of the next instruction (R113). -/
def roomForAll (r : Nat) (s : State) : Prop :=
  (engOf s.core r).emitted ≤ insFrames (nextIns r s)
    ∧ insFrames (nextIns r s) - (engOf s.core r).emitted ≤ fifoRoom (engOf s.core r)

/-- The engine with the frames that are left of its next instruction in the FIFO. -/
def framesOut (r : Nat) (s : State) : Engine :=
  emitFrames s.arc (recordSize s.core r) (nextIns r s) (insFrames (nextIns r s) - (engOf s.core r).emitted) (engOf s.core r)

/-- A state with a region's engine replaced, and the registers that show it (R151). -/
def engineTo (r : Nat) (e : Engine) (s : State) : State := onCore (fun k => showEngine r (commitGen r (setEng r e k))) s

/-- Does cause `i` of the event register at `a` stand (R352)? -/
def causeSet (s : State) (a i : Nat) : Bool := regBit s.core a (16 + i)

/-- Two states differ in nothing but what lies outside the memories and the queue. -/
def sameMemory (s t : State) : Prop := t.qdr = s.qdr ∧ t.arc = s.arc ∧ t.pending = s.pending

/-- A slot whose wait has reached its limit (R305). -/
def forcedSlot (k : Core) (a : ArbiterId) (x : Nat) : Prop := slotWlim k a x ≠ 0 ∧ slotWlim k a x ≤ slotWait k a x

/-- A slot among those that a decision may grant (R305): of the forced eligible slots, where there are any, one that has waited
longest, and otherwise an eligible slot of the highest priority. -/
def mayWin (k : Core) (a : ArbiterId) (e : List Nat) (x : Nat) : Prop :=
  x ∈ e ∧ (((∃ y ∈ e, forcedSlot k a y) ∧ forcedSlot k a x ∧ ∀ y ∈ e, forcedSlot k a y → slotWait k a y ≤ slotWait k a x)
    ∨ ((∀ y ∈ e, ¬ forcedSlot k a y) ∧ ∀ y ∈ e, slotPrio k a y ≤ slotPrio k a x))

/-- Does a command's own effect store to a memory, or may it: through an opcode that it carries, or a loss of power? -/
def mayStore (i : Instr) : Bool :=
  match i with
  | .arcWrite _ | .qdrWrite _ | .catchClear _ | .regionRestore _ => true
  | .catchUpdate _ | .ledgerBlockWrite _ _ | .measOutput _ _ _ _ | .coarseValue _ _ _ | .waypointStageWrite _ _ => true
  | .transferBlockReceive _ _ _ | .checkpointCopy _ _ | .mirrorReceive _ _ _ => true
  | .broadcastReceive _ _ _ _ | .chainCommandReceive _ _ _ => true
  | .railAck _ | .railTimeout _ | .porstFall | .vaonDrop | .offEntryBackingCopy | .wakeStep _ | .moduleResetStep => true
  | _ => false

/-- The opcode's description and the command that a row of the opcode tables carries; none for an event. -/
def commandOf (i : Instr) : Option (OpDef × Cmd) :=
  match i with
  | .nop c => some (opNop, c)
  | .moduleInfo c => some (opModuleInfo, c)
  | .sessionOpen c => some (opSessionOpen, c)
  | .sessionClose c => some (opSessionClose, c)
  | .regRead c => some (opRegRead, c)
  | .regWrite c => some (opRegWrite, c)
  | .regModify c => some (opRegModify, c)
  | .reserve c => some (opReserve, c)
  | .release c => some (opRelease, c)
  | .reservationRead c => some (opReservationRead, c)
  | .resultRead c => some (opResultRead, c)
  | .ticketRelease c => some (opTicketRelease, c)
  | .evtRouteSet c => some (opEvtRouteSet, c)
  | .evtPendingRead c => some (opEvtPendingRead, c)
  | .evtSourceRead c => some (opEvtSourceRead, c)
  | .evtClear c => some (opEvtClear, c)
  | .sqcClearWrite c => some (opSqcClearWrite, c)
  | .pinLevelsSet c => some (opPinLevelsSet, c)
  | .pinSwitchSet c => some (opPinSwitchSet, c)
  | .pinContactCheck c => some (opPinContactCheck, c)
  | .pinStatusRead c => some (opPinStatusRead, c)
  | .spareSubstitute c => some (opSpareSubstitute, c)
  | .spareReturn c => some (opSpareReturn, c)
  | .wmConfigSet c => some (opWmConfigSet, c)
  | .wmWakeSet c => some (opWmWakeSet, c)
  | .wmCaptureRead c => some (opWmCaptureRead, c)
  | .wmCheck c => some (opWmCheck, c)
  | .cwmSet c => some (opCwmSet, c)
  | .chronicleRead c => some (opChronicleRead, c)
  | .chronicleSet c => some (opChronicleSet, c)
  | .chronicleRoleSet c => some (opChronicleRoleSet, c)
  | .timingSetWrite c => some (opTimingSetWrite, c)
  | .beatPeriodSet c => some (opBeatPeriodSet, c)
  | .sleepAccountRead c => some (opSleepAccountRead, c)
  | .itinLoad c => some (opItinLoad, c)
  | .itinRunSet c => some (opItinRunSet, c)
  | .itinStopNow c => some (opItinStopNow, c)
  | .itinStatusRead c => some (opItinStatusRead, c)
  | .waypointRead c => some (opWaypointRead, c)
  | .vstreamSet c => some (opVstreamSet, c)
  | .itinGenWrite c => some (opItinGenWrite, c)
  | .failCtrlSet c => some (opFailCtrlSet, c)
  | .catchWindowSet c => some (opCatchWindowSet, c)
  | .catchClear c => some (opCatchClear, c)
  | .catchDump c => some (opCatchDump, c)
  | .ledgerSet c => some (opLedgerSet, c)
  | .ledgerAdvance c => some (opLedgerAdvance, c)
  | .catClear c => some (opCatClear, c)
  | .repairRegionWrite c => some (opRepairRegionWrite, c)
  | .repairSolve c => some (opRepairSolve, c)
  | .repairResultRead c => some (opRepairResultRead, c)
  | .failSiteSummary c => some (opFailSiteSummary, c)
  | .catRead c => some (opCatRead, c)
  | .measConfigSet c => some (opMeasConfigSet, c)
  | .measDetSet c => some (opMeasDetSet, c)
  | .measRead c => some (opMeasRead, c)
  | .measLastRead c => some (opMeasLastRead, c)
  | .measDetRead c => some (opMeasDetRead, c)
  | .measRingSet c => some (opMeasRingSet, c)
  | .commRouteSet c => some (opCommRouteSet, c)
  | .wdacSet c => some (opWdacSet, c)
  | .monScheduleSet c => some (opMonScheduleSet, c)
  | .monConvert c => some (opMonConvert, c)
  | .monRead c => some (opMonRead, c)
  | .dacReadback c => some (opDacReadback, c)
  | .fabLoad c => some (opFabLoad, c)
  | .fabUnload c => some (opFabUnload, c)
  | .fabStatusRead c => some (opFabStatusRead, c)
  | .arcRead c => some (opArcRead, c)
  | .arcWrite c => some (opArcWrite, c)
  | .arcDma c => some (opArcDma, c)
  | .qdrRead c => some (opQdrRead, c)
  | .qdrWrite c => some (opQdrWrite, c)
  | .tariffSet c => some (opTariffSet, c)
  | .tariffRead c => some (opTariffRead, c)
  | .arbSet c => some (opArbSet, c)
  | .memErrorsRead c => some (opMemErrorsRead, c)
  | .folioOpen c => some (opFolioOpen, c)
  | .folioStage c => some (opFolioStage, c)
  | .folioAccede c => some (opFolioAccede, c)
  | .folioWithdraw c => some (opFolioWithdraw, c)
  | .folioStatusRead c => some (opFolioStatusRead, c)
  | .globalBarrier c => some (opGlobalBarrier, c)
  | .globalBroadcast c => some (opGlobalBroadcast, c)
  | .globalSnapshot c => some (opGlobalSnapshot, c)
  | .snapshotRead c => some (opSnapshotRead, c)
  | .globalReset c => some (opGlobalReset, c)
  | .caravanPortSet c => some (opCaravanPortSet, c)
  | .caravanPortRead c => some (opCaravanPortRead, c)
  | .caravanRouteSet c => some (opCaravanRouteSet, c)
  | .portRetrain c => some (opPortRetrain, c)
  | .unbar c => some (opUnbar, c)
  | .portDisable c => some (opPortDisable, c)
  | .moduleNumWrite c => some (opModuleNumWrite, c)
  | .pairForm c => some (opPairForm, c)
  | .pairDissolve c => some (opPairDissolve, c)
  | .pairHandover c => some (opPairHandover, c)
  | .pairStatusRead c => some (opPairStatusRead, c)
  | .pairRestore c => some (opPairRestore, c)
  | .powerState c => some (opPowerState, c)
  | .powerStatusRead c => some (opPowerStatusRead, c)
  | .moduleReset c => some (opModuleReset, c)
  | .powerRailMapSet c => some (opPowerRailMapSet, c)
  | .selfcal c => some (opSelfcal, c)
  | .calStatusRead c => some (opCalStatusRead, c)
  | .calBgSet c => some (opCalBgSet, c)
  | .calRecordRead c => some (opCalRecordRead, c)
  | .calStore c => some (opCalStore, c)
  | .calRevert c => some (opCalRevert, c)
  | .secImageWrite c => some (opSecImageWrite, c)
  | .secImageCommit c => some (opSecImageCommit, c)
  | .secRollbackAdvance c => some (opSecRollbackAdvance, c)
  | .secKeyRevoke c => some (opSecKeyRevoke, c)
  | .secDebugChallenge c => some (opSecDebugChallenge, c)
  | .secDebugUnlock c => some (opSecDebugUnlock, c)
  | .secAllowlistSet c => some (opSecAllowlistSet, c)
  | .faultLogRead c => some (opFaultLogRead, c)
  | .blockRestore c => some (opBlockRestore, c)
  | .regionRestore c => some (opRegionRestore, c)
  | _ => none

/-- A page whose registers do nothing but hold what is written to them: the engine, fail processor, QDR port, region arbiters,
region faults, power, hub and security pages. -/
def plainPage (p : Page) : Bool :=
  match p with
  | .engine _ | .fp _ | .qdrPort _ | .arb _ | .rfault _ | .pwr | .hub | .sec => true
  | _ => false

end Sys2Proof.Machine
end

