-- ==== Sys2Proof/Certificates/Slice0/Obligations.lean ====
section
/-! DEFINITION. The statements for the provers: what the spec's rules say a command does, one section of the spec after the
other. A statement whose conclusion is `exec … = .next t` says where that command completes and, since `t` is written out, what it
leaves unchanged. `begun`, `replied`, `written` and `ticketed` (Safety.lean) name the state a host command starts from and the replies
it can end with. -/

open Sys2Proof Sys2Proof.Machine

/-- O1. A step of a state with a command at the front of its queue is exec of that command on the state with the
queue's rest. On an empty queue the block takes one tick as idle does. No table word spells a command, so the state
with a fetch word is the state itself. (Rests on: spec/11_commands_and_events.md, parts of R321, R322;
notes/assumptions/53.md (the queue is the model's own field).) -/
def Obligations.StepTakesTheFront : Prop :=
  (∀ (c : Instr) (l : List Instr) (s : State), s.pending = c :: l → step s = exec c { s with pending := l }) ∧
  (∀ s : State, s.pending = [] → step s = .next (idle s)) ∧
  (∀ (s : State) (n w : Nat), decodeTableWord n w = none ∧ s.withFetchWord n w = s)

/-- O2. On an empty queue the clock counts one tick, and the Chronicle counts it unless nothing drives it. With no
broadcast of this root to execute and no waiting command that may start, nothing else happens. With a broadcast and
Steward free, its command is executed and leaves the list. With one waiting command that may start, of a class that
Steward's arbiter grants, the arbiter counts the decision and that command is served. (Rests on:
spec/03_timing_and_chronicle.md, parts of R96, R107; spec/10_memory_and_arbitration.md, parts of R305, Table MEM-3;
spec/11_commands_and_events.md, parts of R321, R322; spec/12_folios_caravan_global.md, parts of R395;
notes/assumptions/2.md (a tick on an empty queue is the model's choice).) -/
def Obligations.IdleServes : Prop :=
  (∀ s : State, (tick s.core).clock.uptime = s.core.clock.uptime + 1 ∧ (tick s.core).clock.chron =
    if s.core.clock.by_ = .none then s.core.clock.chron else (s.core.clock.chron + 1) % 2 ^ 64) ∧
  (∀ s : State, s.pending = [] → s.core.car.bcast = [] → (∀ h ∈ heads (tick s.core), mayStart h.2.1 h.2.2 (onCore tick s) = false) →
    step s = .next (onCore tick s)) ∧
  (∀ (s : State) (op : BitVec 16) (c : Cmd) (l : List (BitVec 16 × Cmd)), s.pending = [] → stewardBusy s.core = false → s.core.car.bcast = (op, c) :: l →
    step s = .next (runInner op c (onCore (fun k => { k with car := { k.car with bcast := l } }) (onCore tick s)))) ∧
  (∀ (s : State) (h : Nat × BitVec 16 × Cmd), s.pending = [] → s.core.car.bcast = [] → heads (tick s.core) = [h] → h.1 < 81 →
    s.core.stw.source < 81 → mayStart h.2.1 h.2.2 (onCore tick s) = true →
    granted (tick s.core) .steward (eligible (tick s.core) .steward [] [cmdClass h.2.1 h.2.2]) = some (cmdClass h.2.1 h.2.2) →
    step s = .next (startWaiting h (onCore (opArbiterDecision .steward [(cmdClass h.2.1 h.2.2, 0)] []) (onCore tick s))))

/-- O3. Whatever the state, each command of the table is executed or answered: exec gives a next state, never a fault
and never a refusal of the model, and it leaves the queue of waiting commands. (Rests on:
spec/11_commands_and_events.md, parts of R332, R333; notes/assumptions/53.md (the queue is the model's).) -/
def Obligations.EveryCommandGoesOn : Prop :=
  ∀ (i : Instr) (s : State), ∃ t, exec i s = .next t ∧ t.pending = s.pending

/-- O4. From every state whose two memories list strictly rising addresses and no zero byte, a step that answers a
next state gives one whose memories do so too, whatever command stands at the front of the queue and whatever waits at
Steward. (Rests on: spec/10_memory_and_arbitration.md, parts of R292, R295; notes/assumptions/5.md (bytes not written
read 0: the model's choice).) -/
def Obligations.StepKeepsMemory : Prop :=
  ∀ s t : State, s.memOk → step s = .next t → t.memOk

/-- O5. Every command outside the list mayStore (the writes of QDR SRAM and archive, CATCH_CLEAR and REGION_RESTORE;
the hardware's own stores of captures, Ledger blocks, words measured, waypoints, transfers, checkpoints and mirror
data; a command carried by the chain or a broadcast; and the power events that may end in a loss of power) leaves
every byte of the QDR SRAM and of the archive as it was. (Rests on: spec/10_memory_and_arbitration.md, parts of R292,
R295, R296.) -/
def Obligations.MemoryFrame : Prop :=
  ∀ (i : Instr) (s t : State), mayStore i = false → exec i s = .next t →
    ∀ a, readByte t.qdr a = readByte s.qdr a ∧ readByte t.arc a = readByte s.arc a

/-- O6. An accepted QDR_WRITE or ARC_WRITE stores its bytes from its address, a catch update the one bit, a measured
word its four bytes at the channel's ring position, a waypoint its record in its stage, a checkpoint the stage's 256
bytes, a block of an archive transfer its bytes, and CATCH_CLEAR or a loss of power zeros; every other byte of both
memories reads as before. (Rests on: spec/04_itinerary_engine.md, parts of R137, R138;
spec/05_fail_capture_and_catalogue.md, parts of R161; spec/06_parametric_measurement.md, parts of R197;
spec/10_memory_and_arbitration.md, parts of R292, R293, R296, R300; spec/13_pair_operation.md, parts of R418;
spec/14_power_and_startup.md, parts of R456.) -/
def Obligations.StoresWriteTheirBytes : Prop :=
  (∀ c s, accepted opQdrWrite c s = true → ∃ t, exec (.qdrWrite c) s = .next t ∧ t.arc = s.arc ∧ ∀ a, readByte t.qdr a =
    if qdrKey (pn c.params 0) (pn c.params 1) ≤ a ∧ a < qdrKey (pn c.params 0) (pn c.params 1) + (bytesOf (c.params.drop 2)).length
    then (bytesOf (c.params.drop 2)).getD (a - qdrKey (pn c.params 0) (pn c.params 1)) 0 else readByte s.qdr a) ∧
  (∀ c s, accepted opArcWrite c s = true → arcWriteFail (begun opArcWrite c s).core (pn64 c.params 0) (dataBytes c) = none → ∃ t, exec (.arcWrite c) s = .next t ∧ t.qdr = s.qdr ∧
    ∀ a, readByte t.arc a = if pn64 c.params 0 ≤ a ∧ a < pn64 c.params 0 + (bytesOf (c.params.drop 2)).length
    then (bytesOf (c.params.drop 2)).getD (a - pn64 c.params 0) 0 else readByte s.arc a) ∧
  (∀ (r : Region) (s : State) (n x b : Nat) (l : List (Nat × Nat × Nat)), regionStopped s.core r.val = false → (fpOf s.core r.val).catchQ = (n, x, b) :: l →
    qdrBadIn s.core r.val x 1 = false → ∃ t, exec (.catchUpdate r) s = .next t ∧ t.arc = s.arc ∧ ∀ a, readByte t.qdr a =
    if a = qdrKey r.val x then readByte s.qdr a ||| BitVec.ofNat 8 (2 ^ b) else readByte s.qdr a) ∧
  (∀ (b : Block) (ch : Fin 17) (raw : Int) (s : State), chanRuns s.core b.val ch.val = true → chanSilent s.core b.val ch.val = false →
    ∃ t, exec (.measOutput b ch raw false) s = .next t ∧ t.arc = s.arc ∧ ∀ a x, x = qdrKey (b.val / 8) (ringAddr s.core b.val ch.val (chanWpos s.core b.val ch.val)) →
    readByte t.qdr a = if x ≤ a ∧ a < x + 4 then (wordBytes (chanWord s.core b.val ch.val raw false)).getD (a - x) 0 else readByte s.qdr a) ∧
  (∀ (r : Region) (s : State) (w : WpSnap) (m : Nat × Nat × Nat × Nat) (x : Nat), (engOf s.core r.val).shadow = some w → w.taken = some m →
    x = qdrKey r.val (stageAddr s.core r.val (b2n (regBit s.core (engReg r.val 0x10) 1))) →
    ∃ t, exec (.waypointStageWrite r true) s = .next t ∧ t.arc = s.arc ∧ ∀ a, readByte t.qdr a =
    if x ≤ a ∧ a < x + (waypointRecord s.core r.val w m).length then (waypointRecord s.core r.val w m).getD (a - x) 0 else readByte s.qdr a) ∧
  (∀ (r : Region) (s : State) (e : Nat × Nat) (x : Nat), s.core.pair.ckpt.find? (fun e => e.1 == r.val) = some e →
    x = ckptAddr s.core r.val (reg s.core (pairReg (0x520 + 4 * r.val))).toNat → ∃ t, exec (.checkpointCopy r true) s = .next t ∧ t.qdr = s.qdr ∧
    ∀ a, readByte t.arc a = if x ≤ a ∧ a < x + 256 then readByte s.qdr (qdrKey r.val (stageAddr s.core r.val e.2) + (a - x)) else readByte s.arc a) ∧
  (∀ c s, accepted opCatchClear c s = true → ∃ t, exec (.catchClear c) s = .next t ∧ t.arc = s.arc ∧ ∀ a, readByte t.qdr a =
    if ∃ n ∈ bitList (pn c.params 1) 16, qdrKey (pn c.params 0) (windowRange (begun opCatchClear c s).core (pn c.params 0) n).1 ≤ a
      ∧ a < qdrKey (pn c.params 0) (windowRange (begun opCatchClear c s).core (pn c.params 0) n).1 + (windowRange (begun opCatchClear c s).core (pn c.params 0) n).2
    then 0 else readByte s.qdr a) ∧
  (∀ s : State, ∃ t, exec .vaonDrop s = .next t ∧ ∀ a, readByte t.qdr a = 0 ∧ readByte t.arc a = 0)

/-- O7. Of every command of the opcode tables: one of the chain that is older than its session is discarded and
counted; one behind another of its source, or whose source, class or resource is not ready, waits at its source; one
that a check refuses gets one reply with that check's status and data, and changes nothing else but the Steward time
and rotation; a ticketed one with no slot left gets TICKETS. (Rests on: spec/10_memory_and_arbitration.md, parts of
R312, R544; spec/11_commands_and_events.md, parts of R321, R322, R332, R333, R339, R347.) -/
def Obligations.RefusedOrHeld : Prop :=
  (∀ (i : Instr) (d : OpDef) (c : Cmd) (s : State), commandOf i = some (d, c) → joinChain c s.core = none →
    exec i s = .next (onCore (countFld 0x81F0001C 31 0 1) s)) ∧
  (∀ (i : Instr) (d : OpDef) (c : Cmd) (s : State) (k : Core), commandOf i = some (d, c) → joinChain c s.core = some k →
    (sourceWaits k c = true ∨ startable d c { s with core := k } = false) → exec i s = .next (onCore (holdCmd d.opcode c) { s with core := k })) ∧
  (∀ (i : Instr) (d : OpDef) (c : Cmd) (s : State) (k : Core) (e : Status × List Word), commandOf i = some (d, c) → joinChain c s.core = some k →
    sourceWaits k c = false → startable d c { s with core := k } = true → refusal d c (onCore (markStart d.opcode c) { s with core := k }) = some e →
    exec i s = .next (replied d c e.1 e.2 (onCore (markStart d.opcode c) { s with core := k }))) ∧
  (∀ (i : Instr) (d : OpDef) (c : Cmd) (s : State) (w : Work) (n : Nat) (l : List Word) (g : Word → State → State), commandOf i = some (d, c) →
    accepted d c s = true → d.run c (sender c s) (begun d c s) = .ticketed w n l g → ticketLeft d c s = false →
    exec i s = .next (replied d c stTickets [] (begun d c s)))

/-- O8. The checks of a command run in order: reserved flags, a session, the source's permission, the target, the
parameters, a FOLIO on an opcode that cannot be staged, another session's reservation, and then the state of the units
and the cost. The first that fails gives the status of the reply, and the reservation its three words of data; a
command that fails none is not refused. (Rests on: spec/11_commands_and_events.md, parts of R332, R341, R342, Table
CMD-5.) -/
def Obligations.CheckOrder : Prop :=
  ∀ (d : OpDef) (c : Cmd) (s : State),
    (c.flags &&& 0xFC#8 ≠ 0 → refusal d c s = some (stFlags, [])) ∧
    (c.flags &&& 0xFC#8 = 0 → (d.exempt = false ∧ sessionOf s.core c = 0 → refusal d c s = some (stNoSession, [])) ∧
    (d.exempt = true ∨ sessionOf s.core c ≠ 0 → (∀ st, permission d c s = some st → refusal d c s = some (st, [])) ∧
    (permission d c s = none → (∀ st, targetCheck d c s = some st → refusal d c s = some (st, [])) ∧
    (targetCheck d c s = none → (∀ st, d.params c s = some st → refusal d c s = some (st, [])) ∧
    (d.params c s = none → (d.stage = false ∧ c.folio ≠ 0 → refusal d c s = some (stNotStageable, [])) ∧
    (d.stage = true ∨ c.folio = 0 → (∀ r, reservationCheck d c s = some r → refusal d c s = some (stReserved, reservedData r)) ∧
    (reservationCheck d c s = none → (∀ st, d.state c s = some st → refusal d c s = some (st, [])) ∧
    (d.state c s = none → (∀ st, costCheck d c s = some st → refusal d c s = some (st, [])) ∧
    (costCheck d c s = none → refusal d c s = none)))))))))

/-- O9. A word applied at an address that holds no register is discarded. To an event register it is a clear. In the
engine, fail processor, QDR port, arbiter, region faults, power, hub and security pages, every bit of the register
that is RW or FS takes the bit written and every other bit stays, and every other register stays. In the other pages
the register takes the same value before the effects of its page follow. (Rests on: spec/00_scope.md, parts of R17,
R18; spec/01_architecture.md, parts of R35; spec/11_commands_and_events.md, parts of R336, R337, R353.) -/
def Obligations.WordApplied : Prop :=
  (∀ (a : Nat) (v : Word) (k : Core), rowOf a = none → applyWord a v k = k) ∧
  (∀ (a : Nat) (v : Word) (k : Core) (r : RegRow), rowOf a = some r → r.event = true → applyWord a v k = (clearEvent a (fld v 7 0) k).2) ∧
  (∀ (a : Nat) (v : Word) (k : Core) (r : RegRow) (p : Page), rowOf a = some r → r.event = false → a ≠ 0x8FF0000C → pageOf a = some p → plainPage p = true →
    (∀ i, (reg (applyWord a v k) a).getLsbD i = if (r.rw ||| r.fs).getLsbD i then v.getLsbD i else (reg k a).getLsbD i)
    ∧ ∀ b, b ≠ a → reg (applyWord a v k) b = reg k b) ∧
  (∀ (a : Nat) (v : Word) (k : Core) (r : RegRow) (b : Nat), rowOf a = some r → r.event = false → pageOf a = some (.block b) →
    applyWord a v k = blockWritten b (pageOff a) (reg k a) ((reg k a &&& ~~~(r.rw ||| r.fs)) ||| (v &&& (r.rw ||| r.fs)))
      (setReg a ((reg k a &&& ~~~(r.rw ||| r.fs)) ||| (v &&& (r.rw ||| r.fs))) { k with hiLatch := amErase k.hiLatch a })) ∧
  (∀ (a : Nat) (v : Word) (k : Core) (r : RegRow) (c : Nat), rowOf a = some r → r.event = false → pageOf a = some (.cell c) →
    applyWord a v k = cellWritten c (pageOff a) (reg k a) ((reg k a &&& ~~~(r.rw ||| r.fs)) ||| (v &&& (r.rw ||| r.fs)))
      (writeCellReg c (pageOff a) ((reg k a &&& ~~~(r.rw ||| r.fs)) ||| (v &&& (r.rw ||| r.fs))) k))

/-- O10. The descriptions of the opcodes carry numbers that are all different, each is found under its own number, and
a number that no description carries is answered OPCODE once its flags and session pass. (Rests on:
spec/11_commands_and_events.md, parts of R332, R335, Table CMD-8.) -/
def Obligations.OpcodeNumbers : Prop :=
  (opTable.map (fun d => d.opcode)).Nodup ∧
  (∀ d ∈ opTable, (opDefOf d.opcode).map (fun e => e.opcode) = some d.opcode) ∧
  (opDefOf 0x100).map (fun d => d.opcode) = some 0x100 ∧ (opDefOf 0x0F12).map (fun d => d.opcode) = some 0x0F12 ∧ (opDefOf 0x0104).isNone = true ∧
  (∀ (op : BitVec 16) (c : Cmd) (s : State), opDefOf op = none → c.flags &&& 0xFC#8 = 0 → sessionOf s.core c ≠ 0 →
    serveOp op c s = onCore (answer op c stOpcode []) (onCore (markStart op c) s))

/-- O11. After reset both memories list nothing, which is their canonical form, and no command waits. The calibration
control and event enables, CAL_BLK_STATE.CELL, CAL_BLK_STALE, PIN_SWITCH and the power state read as their tables give
them, and no session, ticket, reservation, folio or fault record exists. (That bytes not written read 0, and that the
queue is empty, are the model's choices, log entries 5 and 53.) (Rests on: spec/02_pin_cells.md, parts of R78;
spec/14_power_and_startup.md, parts of R459; spec/15_calibration.md, parts of R483, R485; notes/assumptions/5.md,
notes/assumptions/53.md (the empty memories and queue, the model's choice).) -/
def Obligations.ResetValues : Prop :=
  State.reset.memOk ∧ State.reset.qdr = [] ∧ State.reset.arc = [] ∧ State.reset.pending = []
    ∧ reg State.reset.core 0x8DF00008 = 0x800007D0 ∧ reg State.reset.core 0x8DF00014 = 0xFF ∧ regFld State.reset.core 0x01F00B00 20 16 = 0x1F
    ∧ reg State.reset.core 0x01F00B04 = 0x0001FFFF ∧ reg State.reset.core 4 = 0 ∧ regFld State.reset.core 0x89F00000 31 30 = 3
    ∧ State.reset.core.stw.sessions = [] ∧ State.reset.core.stw.tickets = [] ∧ State.reset.core.stw.reservations = []
    ∧ State.reset.core.car.folios = [] ∧ State.reset.core.faultLog = [] ∧ State.reset.core.faultSeq = 0

/-- O12. At every address that lies in a valid page and holds no register, and that no latched upper half shadows, an
accepted REG_READ of one word replies DONE with 0 and an accepted immediate REG_WRITE of one word replies DONE, and
neither changes anything but by its start and its reply. (States: R35.) -/
def Obligations.HoleAccess : Prop :=
  (∀ c s p, accepted opRegRead c s = true → pn c.params 0 = 1 → pageOf c.target.toNat = some p → rowOf c.target.toNat = none →
    amGet? (begun opRegRead c s).core.hiLatch c.target.toNat = none → exec (.regRead c) s = .next (replied opRegRead c stDone [0] (begun opRegRead c s))) ∧
  (∀ c s p v, accepted opRegWrite c s = true → c.folio = 0 → c.params = [v] → pageOf c.target.toNat = some p → rowOf c.target.toNat = none →
    exec (.regWrite c) s = .next (replied opRegWrite c stDone [] (begun opRegWrite c s)))

/-- O13. An accepted SEC_KEY_REVOKE sets the revoke bit of the key it names and nothing else but its reply. One that
comes as far as the state of the units and names the key that signed the running image, or the last key not revoked,
is refused with STATE and changes nothing but its start. (States: R494.) -/
def Obligations.KeyRevocation : Prop :=
  (∀ c s, accepted opSecKeyRevoke c s = true → pn c.params 0 ≤ 3 ∧ (∀ k : Core, keyRevoked (setRegBit (secReg 0) (20 + pn c.params 0) true k) (pn c.params 0) = true
      ∧ ∀ i, i ≤ 3 → i ≠ pn c.params 0 → keyRevoked (setRegBit (secReg 0) (20 + pn c.params 0) true k) i = keyRevoked k i)
    ∧ exec (.secKeyRevoke c) s = .next (replied opSecKeyRevoke c stDone [] (onCore (setRegBit (secReg 0) (20 + pn c.params 0) true) (begun opSecKeyRevoke c s)))) ∧
  (∀ (c : Cmd) (s t : State) (k : Core), joinChain c s.core = some k → sourceWaits k c = false → startable opSecKeyRevoke c { s with core := k } = true →
    t = onCore (markStart 0x0E04 c) { s with core := k } → c.flags &&& 0xFC#8 = 0 → sessionOf t.core c ≠ 0 → permission opSecKeyRevoke c t = none →
    targetCheck opSecKeyRevoke c t = none → c.params.length = 1 → pn c.params 0 ≤ 3 → c.folio = 0 → reservationCheck opSecKeyRevoke c t = none →
    unitRefusal t.core c.target.toNat = none →
    (t.core.sec.runKey = pn c.params 0 ∨ ∀ i, i ≤ 3 → i ≠ pn c.params 0 → keyRevoked t.core i = true) →
    exec (.secKeyRevoke c) s = .next (replied opSecKeyRevoke c stState [] t))

/-- O14. A REG_WRITE of one word to a level register of a voltage, at once or into a folio, that passes the checks of
its source, session and target and carries SAFE_MV below −500 or above 1,500, is refused with PARAMETER, a request
error, and changes no field: nothing changes but by the start of the command and its reply. (States: R48.) -/
def Obligations.SafeMillivoltsRefused : Prop :=
  ∀ (c : Cmd) (s t : State) (k : Core) (v : Word) (x : Nat), joinChain c s.core = some k → sourceWaits k c = false → startable opRegWrite c { s with core := k } = true →
    t = onCore (markStart 0x0111 c) { s with core := k } → c.flags &&& 0xFC#8 = 0 → sessionOf t.core c ≠ 0 → permission opRegWrite c t = none →
    targetCheck opRegWrite c t = none → c.params = [v] → pageOf c.target.toNat = some (.cell x) →
    0x20 ≤ pageOff c.target.toNat → pageOff c.target.toNat < 0x38 → (safeMv v < -500 ∨ 1500 < safeMv v) →
    exec (.regWrite c) s = .next (replied opRegWrite c stParameter [] t) ∧ isRequest stParameter = true

/-- O15. An accepted PIN_LEVELS_SET writes its level word to the selected level register of every masked pin's cell,
and PIN_SWITCH_SET its word to SWITCH_CTRL, at once or staged. PIN_STATUS_READ replies CELL_STATUS of every masked pin
in ascending order. PIN_CONTACT_CHECK opens a ticket for the check of the connectable masked pins, its readiness tick
1 us after the sample; nothing of the pins changes yet. SPARE_SUBSTITUTE opens a ticket and asks for a hand-off, or
for a fault substitution where the cell is faulted and its pin is left without a spare. SPARE_RETURN opens a ticket
for the owner's self-test. The 4 us that the contact check starts after its reply is R545; the readiness tick is
computed as log entries say. LEVEL_SLEW_INTERVAL of a change under way takes one step of it. SPAN_SAFE_REACHED at the
safe level starts the dwell of 2.00 us; SPAN_DWELL_END after it switches the span, keeping the level, and starts the
change to the target; SPAN_DONE at the target clears SEQ_ACTIVE and records cause 4. DRV_OC of a driver that drives
sets OC, takes it to high impedance and records cause 1. CLAMP of a pin's cell records cause 0. (Rests on:
spec/02_pin_cells.md, parts of R49, R50, R51, R54, R57, R64, R65, R66, R71, R73, R77; spec/11_commands_and_events.md,
parts of R347.) -/
def Obligations.PinCommands : Prop :=
  (
  (∀ c s, accepted opPinLevelsSet c s = true → exec (.pinLevelsSet c) s = .next (written opPinLevelsSet c
    ((maskPins c).map (fun p => (pinReg p (0x20 + 4 * pn c.params 32), pw c.params 33))) [] s)) ∧
  (∀ c s, accepted opPinSwitchSet c s = true → exec (.pinSwitchSet c) s = .next (written opPinSwitchSet c
    ((maskPins c).map (fun p => (pinReg p 4, pw c.params 32))) [] s)) ∧
  (∀ c s, accepted opPinStatusRead c s = true → exec (.pinStatusRead c) s = .next (replied opPinStatusRead c stDone
    ((maskPins c).map (fun p => readReg (begun opPinStatusRead c s).core (pinReg p 0x50))) (begun opPinStatusRead c s))) ∧
  (∀ c s, accepted opPinContactCheck c s = true → ticketLeft opPinContactCheck c s = true → exec (.pinContactCheck c) s = .next (ticketed opPinContactCheck c
    (.contactCheck (maskPins c) ((maskPins c).filter (connectable (begun opPinContactCheck c s).core)) (pw c.params 32) (pw c.params 33)
      (pw c.params 34) ((begun opPinContactCheck c s).core.clock.chron + 800) 0 false)
    ((begun opPinContactCheck c s).core.clock.chron + 800 + sampleTicks (begun opPinContactCheck c s).core
      ((maskPins c).filter (connectable (begun opPinContactCheck c s).core)) (pw c.params 32) (pw c.params 33) (pw c.params 34) + 200)
    [] (fun _ t => t) (begun opPinContactCheck c s))) ∧
  (∀ c s, accepted opSpareSubstitute c s = true → ticketLeft opSpareSubstitute c s = true → exec (.spareSubstitute c) s = .next (ticketed opSpareSubstitute c
    (.substitute (spareBlock c) (pn c.params 1)) noTick []
    (fun id => onCore (fun k =>
      if regBit k (cellReg (cellOfBlock (spareBlock c) (pn c.params 1)) 0x50) 22 = true
        ∧ regBit k (blockReg (spareBlock c) 4) (16 + pn c.params 1) = true then
        { k with faultSubs := amSet k.faultSubs (spareBlock c) { cell := pn c.params 1, since := k.clock.uptime, ticket := id } }
      else setRegBit (blockReg (spareBlock c) 4) 8 true
        { k with handoffs := amSet k.handoffs (spareBlock c) (Handoff.mk (pn c.params 1) true .host id k.clock.uptime) }))
    (begun opSpareSubstitute c s))) ∧
  (∀ c s, accepted opSpareReturn c s = true → ticketLeft opSpareReturn c s = true → exec (.spareReturn c) s = .next (ticketed opSpareReturn c
    (.substitute (spareBlock c) (pn c.params 1)) noTick [] (fun _ t => t) (begun opSpareReturn c s)))) ∧ (
  (∀ (c : Cell) (i : Fin 11) (s : State), (dacOf s.core c.val i.val).k < (dacOf s.core c.val i.val).n →
    exec (.levelSlewInterval c i) s = .next (onCore (setDac c.val i.val
      { dacOf s.core c.val i.val with
        k := (dacOf s.core c.val i.val).k + 1
        out := ((dacOf s.core c.val i.val).a + roundDiv (((dacOf s.core c.val i.val).k + 1 : Nat) *
        ((dacOf s.core c.val i.val).b - (dacOf s.core c.val i.val).a : Int)) (dacOf s.core c.val i.val).n).toNat }) s)) ∧
  (∀ (c : Cell) (i : Fin 6) (s : State), (dacOf s.core c.val i.val).phase = .toSafe →
    (dacOf s.core c.val i.val).n ≤ (dacOf s.core c.val i.val).k → exec (.spanSafeReached c i) s =
      .next (onCore (setDac c.val i.val { dacOf s.core c.val i.val with phase := .dwell, dwellEnd := s.core.clock.uptime + 400 }) s)) ∧
  (∀ (c : Cell) (i : Fin 6) (s : State), (dacOf s.core c.val i.val).phase = .dwell →
    (dacOf s.core c.val i.val).dwellEnd ≤ s.core.clock.uptime →
    bit (dacOf s.core c.val i.val).target 31 ≠ (dacOf s.core c.val i.val).fine → exec (.spanDwellEnd c i) s =
      .next (onCore (setDac c.val i.val (startSlew i.val (stepMv s.core c.val) (fld (dacOf s.core c.val i.val).target 15 0)
        { dacOf s.core c.val i.val with
          fine := bit (dacOf s.core c.val i.val).target 31
          phase := .toTarget
          out := safeCode (bit (dacOf s.core c.val i.val).target 31)
            (codeMv (dacOf s.core c.val i.val).fine (dacOf s.core c.val i.val).out) })) s)) ∧
  (∀ (c : Cell) (i : Fin 6) (s : State), (dacOf s.core c.val i.val).phase = .toTarget →
    (dacOf s.core c.val i.val).n ≤ (dacOf s.core c.val i.val).k → exec (.spanDone c i) s =
      .next (onCore (fun k => recordCause (cellReg c.val 0x54) 4 (setRegBit (cellReg c.val 0x50) i.val false
        (setDac c.val i.val { dacOf k c.val i.val with phase := .idle } k))) s)) ∧
  (∀ (c : Cell) (s : State), (cellOf s.core c.val).drive ≠ .z → exec (.drvOc c) s =
    .next (onCore (fun k => recordCause (cellReg c.val 0x54) 1 (refreshDrive c.val (setRegBit (cellReg c.val 0x50) 18 true k))) s)) ∧
  (∀ (c : Nat) (k : Core), (cellOf (refreshDrive c (setRegBit (cellReg c 0x50) 18 true k)) c).drive = .z) ∧
  (∀ (c : Cell) (s : State), c.val % 17 ≠ 16 → exec (.clamp c) s = .next (onCore (recordCause (cellReg c.val 0x54) 0) s)))

/-- O16. CONTACT_CHECK_ACCESSION saves and sets every tested pin at its tick and CONTACT_CHECK_SAMPLE restores them
and ends the ticket with the result 1 us later. HANDOFF moves the pin, records SUBSTITUTION and completes the ticket
DONE; HANDOFF_TIMEOUT after QUIET_LIMIT completes it WAITING with nothing moved. CELL_FAULT of a cell not contained
whose spare is free marks it, parks the pin, and starts a fault substitution; in a stopped block it is only logged.
SPARE_FAULT marks the spare. SPARE_FORCED_RETURN after 10 us returns the pin that the spare carries;
FAULT_SUBSTITUTION_CONNECT connects the spare. STALE_SWITCH_REQUEST with an old incarnation puts the cell in standby
and records cause 5. (Rests on: spec/02_pin_cells.md, parts of R64, R65, R70, R71, R72, R73, R74, R545;
spec/17_errors_and_containment.md, parts of R513.) -/
def Obligations.SubstitutionEvents : Prop :=
  (∀ (id : Word) (pins t0 : List Nat) (ctl voh vol : Word) (start x : Nat) (s : State),
    workOf s.core id = some (.contactCheck pins t0 ctl voh vol start x false) → start ≤ s.core.clock.chron →
    exec (.contactCheckAccession id) s = .next (onCore (fun k => setWork id
      (.contactCheck pins (pins.filter (connectable k)) ctl voh vol start
        (k.clock.chron + sampleTicks k (pins.filter (connectable k)) ctl voh vol) true)
      ((pins.filter (connectable k)).foldl (fun acc p => applyCheck ctl voh vol p acc) k)) s)) ∧
  (∀ (id : Word) (pins t0 : List Nat) (start nx ps : Nat) (s : State),
    workOf s.core id = some (.wmCheck pins t0 start none nx ps) → start ≤ s.core.clock.chron →
    exec (.contactCheckAccession id) s = .next (onCore (fun k => setWork id
      (.wmCheck pins (pins.filter (connectable k)) start
        (some (k.clock.chron + thresholdTicks k (pins.filter (connectable k)) 0x68BA 0x68BA)) nx ps)
      ((pins.filter (connectable k)).foldl (fun acc p => applyWmCheck p acc) k)) s)) ∧
  (∀ (id : Word) (ch cl : PinMask) (pins tested : List Nat) (ctl voh vol : Word) (start at_ : Nat) (s : State),
    workOf s.core id = some (.contactCheck pins tested ctl voh vol start at_ true) → at_ ≤ s.core.clock.chron →
    exec (.contactCheckSample id ch cl) s = .next (onCore (fun k => setWork id
      (.ending (k.clock.chron + 200) stDone (contactResult tested ch cl)) (tested.foldl (fun acc p => restoreRegs p acc) k)) s)) ∧
  (∀ (b : Block) (h : Handoff) (s : State), amGet? s.core.handoffs b.val = some h → h.toSpare = true → h.reason = .host →
    h.ticket ≠ 0 → exec (.handoff b) s = .next (onCore (fun k => completeTicket h.ticket stDone []
      (recordCause (cellReg (cellOfBlock b.val h.cell) 0x54) 3 (spareTakes b.val h.cell 3 (dropHandoff b.val k)))) s)) ∧
  (∀ (b : Block) (h : Handoff) (s : State), amGet? s.core.handoffs b.val = some h → h.toSpare = false → h.reason = .host →
    h.ticket ≠ 0 → spareCarrying s.core b.val = h.cell → exec (.handoff b) s =
      .next (onCore (fun k => completeTicket h.ticket stDone [] (spareReturns b.val (dropHandoff b.val k))) s)) ∧
  (∀ (b : Block) (h : Handoff) (s : State), amGet? s.core.handoffs b.val = some h → h.ticket ≠ 0 →
    h.since + quietLimit s.core b.val ≤ s.core.clock.uptime → exec (.handoffTimeout b) s =
      .next (onCore (fun k => completeTicket h.ticket stWaiting [] (dropHandoff b.val k)) s)) ∧
  (∀ (p : Pin) (n : Fin 6) (s : State), blockStopped s.core (blockOfCell (cellOfPin p.val)) = false →
    regBit s.core (cellReg (cellOfPin p.val) 0x50) 22 = false → 16 ≤ spareCarrying s.core (blockOfCell (cellOfPin p.val)) →
    spareCarrying s.core (blockOfCell (cellOfPin p.val)) ≠ cellOfPin p.val % 17 →
    regBit s.core (blockReg (blockOfCell (cellOfPin p.val)) 0) 0 = true → spareReason s.core (blockOfCell (cellOfPin p.val)) = 0 →
    amGet? s.core.faultSubs (blockOfCell (cellOfPin p.val)) = none → amGet? s.core.handoffs (blockOfCell (cellOfPin p.val)) = none →
    exec (.cellFault p n) s = .next (onCore (fun k => relinquishUnspared (p.val / 16) k
      (logFault 0 1 (n.val + 1) (pageBase (.cell (cellOfPin p.val))) 0
        { parkPin (cellOfPin p.val) (endTurnOf (blockOfCell (cellOfPin p.val)) (cellOfPin p.val % 17)
            (markFault (cellOfPin p.val) (n.val + 1) k)) with
          faultSubs := amSet (parkPin (cellOfPin p.val) (endTurnOf (blockOfCell (cellOfPin p.val)) (cellOfPin p.val % 17)
            (markFault (cellOfPin p.val) (n.val + 1) k))).faultSubs (blockOfCell (cellOfPin p.val))
              { cell := cellOfPin p.val % 17, since := k.clock.uptime } })) s)) ∧
  (∀ (p : Pin) (n : Fin 6) (s : State), blockStopped s.core (blockOfCell (cellOfPin p.val)) = true →
    exec (.cellFault p n) s = .next (onCore (fun k => relinquishUnspared (p.val / 16) k
      (logFault 0 0 (n.val + 1) (pageBase (.cell (cellOfPin p.val))) 0 k)) s)) ∧
  (∀ (b : Block) (n : Fin 6) (s : State), blockStopped s.core (blockOfCell (cellOfBlock b.val 16)) = false →
    spareReason s.core b.val ≠ 4 → 16 ≤ spareCarrying s.core b.val → amGet? s.core.faultSubs b.val = none →
    amGet? s.core.handoffs b.val = none → exec (.spareFault b n) s = .next (onCore (fun k => relinquishUnspared b.val k
      (logFault 0 0 (n.val + 1) (pageBase (.cell (cellOfBlock b.val 16))) 0 (setSpare b.val 4 0x1F
        (recordCause (cellReg (cellOfBlock b.val 16) 0x54) 2 (markFault (cellOfBlock b.val 16) (n.val + 1) k))))) s)) ∧
  (∀ (b : Block) (f : FaultSub) (s : State), amGet? s.core.faultSubs b.val = some f → spareCarrying s.core b.val < 16 →
    spareCarrying s.core b.val ≠ f.cell → f.since + 2000 ≤ s.core.clock.uptime → exec (.spareForcedReturn b) s =
      .next (onCore (fun k => spareReturns b.val (dropHandoff b.val k)) s)) ∧
  (∀ (b : Block) (f : FaultSub) (s : State), amGet? s.core.faultSubs b.val = some f → 16 ≤ spareCarrying s.core b.val →
    f.ticket = 0 → ∃ t, exec (.faultSubstitutionConnect b) s = .next t
      ∧ (cellOf t.core (cellOfBlock b.val f.cell)).faultOpen = false
      ∧ causeSet t (cellReg (cellOfBlock b.val f.cell) 0x54) 5 = true ∧ sameMemory s t) ∧
  (∀ (c : Cell) (inc : Word) (s : State), olderInc inc (reg s.core (blockReg (blockOfCell c.val) 8)) = true →
    regBit s.core (cellReg c.val 0x50) 23 = false → exec (.staleSwitchRequest c inc) s =
      .next (onCore (fun k => recordCause (cellReg c.val 0x54) 5 (setRegBit (cellReg c.val 0x50) 23 true k)) s))

/-- O17. CHRONICLE_READ replies the Chronicle and CHR_STATUS. CHRONICLE_SET sets the Chronicle to its value.
CHRONICLE_ROLE_SET writes CHR_CTRL, TIMING_SET_WRITE the six edge words of a timing set for every masked pin, and
BEAT_PERIOD_SET one beat period of a region, at once or into the folio. SLEEP_ACCOUNT_READ replies the five words of
the sleep account. On TREF, CHRONICLE_SET makes the count the value and clears ESTIMATED; on the keeper the value
becomes C0 and the periods count again from now. (Rests on: spec/03_timing_and_chronicle.md, parts of R85, R89, R99,
R105, R107, R111, Table TIME-7.) -/
def Obligations.TimingCommands : Prop :=
  (∀ c s, accepted opChronicleRead c s = true → exec (.chronicleRead c) s = .next (replied opChronicleRead c stDone
    (words64 (begun opChronicleRead c s).core.clock.chron ++ [readReg (begun opChronicleRead c s).core 0x8FF0000C]) (begun opChronicleRead c s))) ∧
  (∀ c s, accepted opChronicleSet c s = true → exec (.chronicleSet c) s = .next (replied opChronicleSet c stDone []
    (onCore (setChronicle (pn64 c.params 0)) (begun opChronicleSet c s)))) ∧
  (∀ v k, (setChronicle v k).clock.chron = v) ∧
  (∀ v k, k.clock.by_ = .keeper → (setChronicle v k).clock.c0 = v ∧ (setChronicle v k).clock.entrySince = k.clock.uptime) ∧
  (∀ v k, k.clock.by_ ≠ .keeper → regBit (setChronicle v k) 0x8FF0000C 2 = false) ∧
  (∀ c s, accepted opChronicleRoleSet c s = true → exec (.chronicleRoleSet c) s = .next (written opChronicleRoleSet c
    [(0x8FF00008, pw c.params 0)] [] s)) ∧
  (∀ c s, accepted opTimingSetWrite c s = true → exec (.timingSetWrite c) s = .next (written opTimingSetWrite c
    ((maskPins c).flatMap (fun p => (List.range 6).map (fun e =>
      (pinReg p (0x1000 + 0x20 * pn c.params 32 + 4 * e), pw c.params (33 + e))))) [] s)) ∧
  (∀ c s r, accepted opBeatPeriodSet c s = true → treePage (pw c.params 0) = some r → exec (.beatPeriodSet c) s = .next (written opBeatPeriodSet c
    [(treeReg r (0x100 + 4 * pn c.params 1), pw c.params 2)] [] s)) ∧
  (∀ c s, accepted opSleepAccountRead c s = true → exec (.sleepAccountRead c) s = .next (replied opSleepAccountRead c stDone
    ([0x8FF00018, 0x8FF0001C, 0x8FF00020, 0x8FF00024, 0x8FF00028].map (readReg (begun opSleepAccountRead c s).core)) (begun opSleepAccountRead c s)))

/-- O18. TREF_LOST stops every engine, ends timing readiness and passes the Chronicle to the keeper, with cause 0.
TREF_ACCEPTED makes TREF present, and after a start-up without VAON the Chronicle counts it. KEEPER_RATIO_MEASURED
when due takes the ratio and opens the hand-back, 5.24 ms later after a change above 100 ppm, which is recorded.
CHRONICLE_HANDBACK makes the count C0 + E, on TREF. TREF_ACCEPT_TIMEOUT, TREF_CHANGED, MULTIPLIER_LOCKED and
KEEPER_CAL_VALID set what they report. A master sends a beacon on every forwarding port at each multiple of 2,048, and
records a conflict when one arrives; a follower takes one from its upstream port and sends it on with one more hop;
BEACON_LOST records 8 intervals without. A tree switch releases its output, and connects it once released. (Rests on:
spec/03_timing_and_chronicle.md, parts of R80, R82, R84, R94, R95, R100, R101, R103, R106, R107, R108, R109;
spec/03_timing_and_chronicle.md, parts of Table TIME-2, Table TIME-3, Table TIME-4, Table TIME-5.) -/
def Obligations.ChronicleEvents : Prop :=
  (∀ (s : State) (k : Core), trefPresent s.core = true → k = (List.range 8).foldl (fun acc r => faultStop r 7 acc) s.core →
    k.clock.by_ ≠ .keeper → exec .trefLost s = .next (onCore (fun _ => recordCause 0x8FF0002C 0 (passToKeeper k)) s)) ∧
  (∀ s : State, trefPresent s.core = false → s.core.clock.sleeping = false → s.core.clock.by_ = .none → ∃ t, exec .trefAccepted s = .next t
    ∧ t.core.clock.by_ = .tref ∧ t.core.clock.firstTick = some s.core.clock.chron ∧ t.core.clock.chron = s.core.clock.chron
    ∧ t.core.clock.acceptedAt = s.core.clock.uptime ∧ sameMemory s t) ∧
  (∀ s : State, trefPresent s.core = false → s.core.clock.sleeping = false → s.core.clock.by_ ≠ .none → exec .trefAccepted s =
    .next (onCore (fun k => timingBit 0 true (setRegBit 0x8FF0000C 0 true
      { k with clock := { k.clock with acceptedAt := k.clock.uptime } })) s)) ∧
  (∀ (v : Word) (s : State), s.core.clock.by_ = .keeper → trefPresent s.core = true → s.core.clock.handbackAt = none →
    s.core.clock.acceptedAt + 262144 + (if s.core.clock.waking = true then 0 else msTicks 1) ≤ s.core.clock.uptime →
    (-10000 ≤ ratioChange v.toNat s.core.clock.ratioAtEntry.toNat ∧ ratioChange v.toNat s.core.clock.ratioAtEntry.toNat ≤ 10000) →
    exec (.keeperRatioMeasured v) s = .next (onCore (fun k => { setReg 0x8FF00014 v k with clock :=
      { k.clock with handbackAt := some k.clock.uptime } }) s)) ∧
  (∀ (v : Word) (s : State), s.core.clock.by_ = .keeper → trefPresent s.core = true → s.core.clock.handbackAt = none →
    s.core.clock.acceptedAt + 262144 + (if s.core.clock.waking = true then 0 else msTicks 1) ≤ s.core.clock.uptime →
    10000 < ratioChange v.toNat s.core.clock.ratioAtEntry.toNat →
    exec (.keeperRatioMeasured v) s = .next (onCore (fun k => recordCause 0x8FF0002C 2 (setReg 0x8FF00028
      (BitVec.ofNat 32 (unsigned (ratioChange v.toNat k.clock.ratioAtEntry.toNat) 32)) { setReg 0x8FF00014 v k with clock :=
      { k.clock with handbackAt := some (k.clock.uptime + 1048576) } })) s)) ∧
  (∀ (n : Nat) (temp : Int) (s : State) (d : Nat), s.core.clock.by_ = .keeper → trefPresent s.core = true → s.core.clock.handbackAt = some d →
    d ≤ s.core.clock.uptime → s.core.clock.waking = true → exec (.chronicleHandback n temp) s = .next (onCore (fun k =>
      readyLocked (setRegBit 0x8FF0000C 2 true (setReg 0x8FF00020 (BitVec.ofNat 32 (uncertainty k (elapsedTicks k n) temp))
        (setReg64 0x8FF00018 (elapsedTicks k n) (refillAfterStep { k with clock := { k.clock with
          chron := k.clock.c0 + elapsedTicks k n, by_ := .tref, handbackAt := none, temperature := temp, waking := false, acceptLate := false } }))))) s)) ∧
  (∀ s : State, s.core.clock.waking = true → trefPresent s.core = false → s.core.clock.acceptLate = false →
    s.core.clock.wakeAt + msTicks 100 ≤ s.core.clock.uptime → exec .trefAcceptTimeout s = .next (onCore (fun k =>
      recordCause 0x8FF0002C 0 { k with clock := { k.clock with acceptLate := true } }) s)) ∧
  (∀ s : State, trefPresent s.core = true → exec .trefChanged s =
    .next (onCore (fun k => recordCause 0x8FF0002C 2 (setRegBit 0x8FF0000C 7 true k)) s)) ∧
  (∀ (r : Region) (s : State), trefPresent s.core = true → 2 ≤ domState s.core (128 + 2 * r.val) → s.core.clock.by_ = .tref →
    exec (.multiplierLocked r) s = .next (onCore (fun k => setRegBit (treeReg r.val 0x40) 2 true (setRegBit (treeReg r.val 0x40) 1 true k)) s)) ∧
  (∀ (v : Word) (s : State) (d : Nat), s.core.clock.by_ = .tref → s.core.clock.firstTick = some d → d + 2 ^ 24 ≤ s.core.clock.chron →
    exec (.keeperCalValid v) s = .next (onCore (fun k => setRegBit 0x8FF0000C 4 true (setReg 0x8FF00014 v k)) s)) ∧
  (∀ s : State, role s.core = 1 → s.core.clock.chron % 2048 = 0 → exec .beaconSend s = .next (onCore (fun k =>
    (fwdPorts k).foldl (fun acc p => sendPort p (.beacon k.clock.chron 0 k.clock.reSetMark (ownNumber k)) acc)
      { k with clock := { k.clock with reSetMark := false } }) s)) ∧
  (∀ s : State, ¬ (role s.core = 1 ∧ s.core.clock.chron % 2048 = 0) → exec .beaconSend s = .next s) ∧
  (∀ (p : Port) (v h : Nat) (m : Bool) (root : BitVec 12) (s : State), s.core.clock.sleeping = false → role s.core = 1 →
    exec (.beaconReceive p v h m root) s = .next (onCore (fun k => recordCause 0x8FF0002C 6 (setRegBit 0x8FF0000C 5 true k)) s)) ∧
  (∀ (p : Port) (v h : Nat) (m : Bool) (root : BitVec 12) (s : State) (k1 k2 : Core), s.core.clock.sleeping = false → role s.core = 2 →
    regFld s.core 0x8FF00008 5 4 = portNo p → h ≤ 63 → k1 = measurePhase (takeBeacon (v + linkDelayTicks s.core (portNo p)) m s.core) →
    k2 = setRegFld 0x83F00008 11 0 root.toNat (setRegBit 0x8FF0000C 3 false { k1 with clock := { k1.clock with lastBeacon := some k1.clock.chron } }) →
    exec (.beaconReceive p v h m root) s = .next (onCore (fun _ =>
      (fwdPorts k2).foldl (fun acc q => sendPort q (.beacon k2.clock.chron (h + 1) m root.toNat) acc) k2) s)) ∧
  (∀ (s : State) (d : Nat), role s.core = 2 → s.core.clock.sleeping = false → s.core.clock.lastBeacon = some d → d + 16384 ≤ s.core.clock.chron →
    regBit s.core 0x8FF0000C 3 = false → exec .beaconLost s =
    .next (onCore (fun k => recordCause 0x8FF0002C 3 (setRegBit 0x8FF0000C 3 true k)) s)) ∧
  (∀ (r : Region) (i : Fin 4) (x : TreeSwitch) (s : State), amGet? s.core.trees (4 * r.val + i.val) = some x → x.released = false →
    exec (.treeSwitchRelease r i false) s = .next (onCore (fun k => { k with
      trees := amSet k.trees (4 * r.val + i.val) { x with released := true } }) s)) ∧
  (∀ (r : Region) (i : Fin 4) (x : TreeSwitch) (s : State), amGet? s.core.trees (4 * r.val + i.val) = some x → x.released = false →
    x.since + 200 ≤ s.core.clock.uptime → exec (.treeSwitchRelease r i true) s = .next (onCore (fun k =>
      setRegBit (treeReg r.val (0x10 * i.val + 4)) 1 true { k with
        trees := amSet k.trees (4 * r.val + i.val) { x with released := true } }) s)) ∧
  (∀ (r : Region) (i : Fin 4) (x : TreeSwitch) (s : State), amGet? s.core.trees (4 * r.val + i.val) = some x → x.released = true →
    exec (.treeSwitchConnect r i) s = .next (onCore (fun k => setRegBit (treeReg r.val (0x10 * i.val + 4)) 0 false { k with
      trees := amErase k.trees (4 * r.val + i.val) }) s))

/-- O19. An accepted ITIN_LOAD opens a ticket and starts its transfer. ITIN_RUN_SET, VSTREAM_SET and ITIN_GEN_WRITE
write or stage their words in every masked region. ITIN_STOP_NOW opens a ticket; every running engine of the mask
takes as its stop time the first beat more than 1 us ahead, and with none running the ticket completes at once.
ITIN_STATUS_READ replies five status words per region. WAYPOINT_READ of a readable staging slot replies its 64 words
as a result read. (Rests on: spec/04_itinerary_engine.md, parts of R136, R142, R150; spec/11_commands_and_events.md,
parts of R347, R349.) -/
def Obligations.ItineraryCommands : Prop :=
  (∀ c s, accepted opItinLoad c s = true → ticketLeft opItinLoad c s = true → exec (.itinLoad c) s = .next (ticketed opItinLoad c
    (.itinLoad (pn c.params 0) (pn c.params 4) (16 * pn c.params 5) (if pn c.params 1 = 0 then some (pn64 c.params 2) else none)
      (bytesOf (c.params.drop 7)) (pw c.params 6))
    (readyTick (begun opItinLoad c s).core 3 (loadCosts c)) [] (fun id => onCore (startXfer id (loadWork c))) (begun opItinLoad c s))) ∧
  (∀ c s, accepted opItinRunSet c s = true → exec (.itinRunSet c) s = .next (written opItinRunSet c
    ((wordRegions (pw c.params 0)).map (fun r => (engReg r 4, pw c.params 1))) [] s)) ∧
  (∀ c s, accepted opItinStopNow c s = true → ticketLeft opItinStopNow c s = true → exec (.itinStopNow c) s = .next (ticketed opItinStopNow c
    (.itinStop (pn c.params 0)) noTick [] (fun id => onCore (stopNow (wordRegions (pw c.params 0)) (pn c.params 0) id)) (begun opItinStopNow c s))) ∧
  (∀ (r m : Nat) (id : Word) (k : Core), inRun k r = true → (engOf k r).stopAt = none →
    engOf (stopNow [r] m id k) r = { engOf k r with
      stopAt := some (20000 * k.clock.chron + 4000001), stopTickets := (engOf k r).stopTickets ++ [id] }) ∧
  (∀ (l : List Nat) (m : Nat) (id : Word) (k : Core), (∀ r ∈ l, inRun k r = false) →
    stopNow l m id k = completeTicket id stDone ((bitList m 8).map (fun r => readReg k (engReg r 0x10))) k) ∧
  (∀ c s, accepted opItinStatusRead c s = true → exec (.itinStatusRead c) s = .next (replied opItinStatusRead c stDone
    ((wordRegions (pw c.params 0)).flatMap (fun r => [0x10, 0x14, 0x18, 0x1C, 0x20].map (fun o => readReg (begun opItinStatusRead c s).core (engReg r o))))
    (begun opItinStatusRead c s))) ∧
  (∀ c s slot, accepted opWaypointRead c s = true → slot = readSlot (begun opWaypointRead c s).core (pn c.params 0) (pn c.params 1) →
    qdrBadIn (begun opWaypointRead c s).core (pn c.params 0) (stageAddr (begun opWaypointRead c s).core (pn c.params 0) slot) 256 = false →
    exec (.waypointRead c) s = .next (resultReplied opWaypointRead c
      [version (begun opWaypointRead c s).core (verWaypoint (pn c.params 0) slot)]
      (slotWords s.qdr (begun opWaypointRead c s).core (pn c.params 0) slot) s)) ∧
  (∀ c s, accepted opVstreamSet c s = true → exec (.vstreamSet c) s = .next (written opVstreamSet c
    ((wordRegions (pw c.params 0)).flatMap (fun r => [(engReg r 0x40, pw c.params 1), (engReg r 0x48, pw c.params 2),
      (engReg r 0x4C, pw c.params 3), (engReg r 0x50, pw c.params 4)])) [] s)) ∧
  (∀ c s, accepted opItinGenWrite c s = true → exec (.itinGenWrite c) s = .next (written opItinGenWrite c
    ((wordRegions (pw c.params 0)).flatMap (fun r => ((List.range (c.params.length - 2)).map (fun i =>
      engReg r (0x100 + 4 * (pn c.params 1 + i)))).zip (c.params.drop 2))) [] s))

/-- O20. A runnable instruction whose frames fit in the FIFO emits them all. STEP and VSTREAM then go to the next
index, JUMP to the target; CALL pushes index + 1 and goes to the target, or with 16 entries raises STACK; RET goes to
the popped index, or raises STACK; LDREG loads its generator register, masked to its width; LOOP with counter 0 or 1
goes on, the 1 decremented to 0, and otherwise decrements it and branches; BRC branches when its condition differs
from NEG; BRF and MATCH wait; WAYPOINT takes a snapshot when the shadow bank is free and otherwise counts and records
WP_SKIPPED; HALT ends the frames. When the frames do not all fit, those that fit enter the FIFO and the instruction is
not finished. (Rests on: spec/04_itinerary_engine.md, parts of R113, R125, R131, R133, R134, R135, R143, R146, R147.)
-/
def Obligations.InstructionFlow : Prop :=
  (∀ (r : Region) (s : State), runnable 0x00 r.val s = true → roomForAll r.val s →
    exec (.itinStep r) s = .next (engineTo r.val (goTo ((engOf s.core r.val).pc + 1) (framesOut r.val s)) s)) ∧
  (∀ (r : Region) (s : State), runnable 0x01 r.val s = true → roomForAll r.val s →
    exec (.itinJump r) s = .next (engineTo r.val (goTo (nextIns r.val s).operand (framesOut r.val s)) s)) ∧
  (∀ (r : Region) (s : State), runnable 0x02 r.val s = true → roomForAll r.val s → (engOf s.core r.val).stack.length < 16 →
    exec (.itinCall r) s = .next (engineTo r.val (goTo (nextIns r.val s).operand
      { framesOut r.val s with stack := ((engOf s.core r.val).pc + 1) :: (engOf s.core r.val).stack }) s)) ∧
  (∀ (r : Region) (s : State), runnable 0x02 r.val s = true → roomForAll r.val s → 16 ≤ (engOf s.core r.val).stack.length →
    exec (.itinCall r) s = .next (engineTo r.val { framesOut r.val s with err := 3 } s)) ∧
  (∀ (r : Region) (n : Nat) (l : List Nat) (s : State), runnable 0x03 r.val s = true → roomForAll r.val s →
    (engOf s.core r.val).stack = n :: l → exec (.itinRet r) s = .next (engineTo r.val (goTo n { framesOut r.val s with stack := l }) s)) ∧
  (∀ (r : Region) (s : State), runnable 0x03 r.val s = true → roomForAll r.val s → (engOf s.core r.val).stack = [] →
    exec (.itinRet r) s = .next (engineTo r.val { framesOut r.val s with err := 3 } s)) ∧
  (∀ (r : Region) (s : State), runnable 0x04 r.val s = true → roomForAll r.val s →
    exec (.itinLdreg r) s = .next (engineTo r.val (goTo ((engOf s.core r.val).pc + 1)
      (setGen (nextIns r.val s).arg ((nextIns r.val s).operand &&& genMask (nextIns r.val s).arg) (framesOut r.val s))) s)) ∧
  (∀ (r : Region) (s : State), runnable 0x05 r.val s = true → roomForAll r.val s →
    gen (framesOut r.val s) (40 + (nextIns r.val s).arg % 8) = 0 →
    exec (.itinLoop r) s = .next (engineTo r.val (goTo ((engOf s.core r.val).pc + 1) (framesOut r.val s)) s)) ∧
  (∀ (r : Region) (n : Nat) (s : State), runnable 0x05 r.val s = true → roomForAll r.val s → n ≠ 0 →
    (framesOut r.val s).gen.length = 48 → gen (framesOut r.val s) (40 + (nextIns r.val s).arg % 8) = n + 1 →
    exec (.itinLoop r) s = .next (engineTo r.val (goTo (nextIns r.val s).operand
      (setGen (40 + (nextIns r.val s).arg % 8) n (framesOut r.val s))) s)) ∧
  (∀ (r : Region) (s : State), runnable 0x05 r.val s = true → roomForAll r.val s → (framesOut r.val s).gen.length = 48 →
    gen (framesOut r.val s) (40 + (nextIns r.val s).arg % 8) = 1 →
    exec (.itinLoop r) s = .next (engineTo r.val (goTo ((engOf s.core r.val).pc + 1)
      (setGen (40 + (nextIns r.val s).arg % 8) 0 (framesOut r.val s))) s)) ∧
  (∀ (r : Region) (s : State), runnable 0x06 r.val s = true → roomForAll r.val s →
    exec (.itinBrc r) s = .next (engineTo r.val (goTo
      (if brcHolds s.core r.val (framesOut r.val s) (nfld (nextIns r.val s).arg 7 0) ≠ (nextIns r.val s).arg.testBit 16
        then (nextIns r.val s).operand else (engOf s.core r.val).pc + 1) (framesOut r.val s)) s)) ∧
  (∀ (r : Region) (s : State), runnable 0x07 r.val s = true → roomForAll r.val s →
    exec (.itinBrf r) s = .next (engineTo r.val { framesOut r.val s with blocked := true } s)) ∧
  (∀ (r : Region) (s : State), runnable 0x08 r.val s = true → roomForAll r.val s →
    exec (.itinMatch r) s = .next (engineTo r.val { framesOut r.val s with blocked := true } s)) ∧
  (∀ (r : Region) (s : State), runnable 0x09 r.val s = true → roomForAll r.val s → (engOf s.core r.val).shadow = none →
    exec (.itinWaypoint r) s = .next (engineTo r.val (goTo ((engOf s.core r.val).pc + 1)
      { framesOut r.val s with shadow := some (snapOf (framesOut r.val s) (nextIns r.val s)) }) s)) ∧
  (∀ (r : Region) (w : WpSnap) (s : State), runnable 0x09 r.val s = true → roomForAll r.val s →
    (engOf s.core r.val).shadow = some w → exec (.itinWaypoint r) s = .next (onCore (fun k => showEngine r.val (commitGen r.val
      (recordCause (engReg r.val 0x30) 5 (countFld (engReg r.val 0x38) 31 16 1
        (setEng r.val (goTo ((engOf s.core r.val).pc + 1) (framesOut r.val s)) k))))) s)) ∧
  (∀ (r : Region) (s : State), runnable 0x0A r.val s = true → roomForAll r.val s →
    exec (.itinVstream r) s = .next (engineTo r.val (goTo ((engOf s.core r.val).pc + 1) (framesOut r.val s)) s)) ∧
  (∀ (r : Region) (s : State), runnable 0x0B r.val s = true → roomForAll r.val s →
    exec (.itinHalt r) s = .next (engineTo r.val { framesOut r.val s with ended := true } s)) ∧
  (∀ (r : Region) (s : State), runnable 0x00 r.val s = true →
    (engOf s.core r.val).emitted + fifoRoom (engOf s.core r.val) < insFrames (nextIns r.val s) →
    exec (.itinStep r) s = .next (engineTo r.val (emitFrames s.arc (recordSize s.core r.val) (nextIns r.val s)
      (fifoRoom (engOf s.core r.val)) (engOf s.core r.val)) s))

/-- O21. ITIN_PRIMED of a priming engine that can go no further makes it PRIMED with its bit set. BEAT_START in a run
whose stop beat has not come plays the beat of the next frame. BRF_RESOLVE once its compares have resolved sends the
engine along the chosen path. MATCH_ITERATION_END ends the wait when the condition is met, goes to the timeout target
with cause 4 when the counter is 0, and otherwise decrements the counter and repeats the iteration. (Rests on:
spec/03_timing_and_chronicle.md, parts of R86; spec/04_itinerary_engine.md, parts of R115, R132, R133, R134, R137.) -/
def Obligations.BeatsAndWaits : Prop :=
  (∀ (r : Region) (s : State), engState s.core r.val = 1 → ((engOf s.core r.val).ended = true ∨ fifoRoom (engOf s.core r.val) = 0) →
    (engOf s.core r.val).err = 0 →
    exec (.itinPrimed r) s = .next (onCore (fun k => setRegBit (engReg r.val 0x10) 0 true (setRegFld (engReg r.val 0x10) 18 16 2 k)) s)) ∧
  (∀ (r : Region) (l : List PinSample) (e : Engine) (f : ItinFrame) (s : State), inRun s.core r.val = true →
    stopDue (engOf s.core r.val) = false → nextFrame s.core r.val (engOf s.core r.val) = some e → e.cur = some f →
    exec (.beatStart r l) s = .next (onCore (fun k => playBeat r.val l f (dueSites r.val (enableTenants r.val (setEng r.val e k)))) s)) ∧
  (∀ (r : Region) (s : State), brfReady s.core r.val (engOf s.core r.val) = true →
    exec (.brfResolve r) s = .next (onCore (setEng r.val (goTo
      (if brfHolds s.core r.val (engOf s.core r.val) (nextIns r.val s).arg != (nextIns r.val s).arg.testBit 16
        then (nextIns r.val s).operand else (engOf s.core r.val).pc + 1)
      { engOf s.core r.val with blocked := false, wait := some (.brf true) })) s)) ∧
  (∀ (r : Region) (frames : List ItinFrame) (iter m : Nat) (fails : AMap Nat) (s : State),
    (engOf s.core r.val).wait = some (.match_ frames frames.length iter m fails false) → inRun s.core r.val = true →
    (engOf s.core r.val).lane = 0 → iterComplete frames = true →
    matchMet ((nextIns r.val s).arg.testBit 3) (matchSites s.core r.val)
      (matchedBy s.core r.val (engOf s.core r.val) iter m fails) = true →
    exec (.matchIterationEnd r) s = .next (onCore (setEng r.val (goTo ((engOf s.core r.val).pc + 1)
      { engOf s.core r.val with
        blocked := false
        wait := some (.match_ frames frames.length iter (matchedBy s.core r.val (engOf s.core r.val) iter m fails) fails true) })) s)) ∧
  (∀ (r : Region) (frames : List ItinFrame) (iter m : Nat) (fails : AMap Nat) (s : State),
    (engOf s.core r.val).wait = some (.match_ frames frames.length iter m fails false) → inRun s.core r.val = true →
    (engOf s.core r.val).lane = 0 → iterComplete frames = true →
    matchMet ((nextIns r.val s).arg.testBit 3) (matchSites s.core r.val)
      (matchedBy s.core r.val (engOf s.core r.val) iter m fails) = false →
    gen (engOf s.core r.val) (40 + (nextIns r.val s).arg % 8) = 0 →
    exec (.matchIterationEnd r) s = .next (onCore (fun k => markTimeouts r.val (engOf k r.val).pc
      ((matchSites k r.val).filter (fun x => !(matchedBy k r.val (engOf k r.val) iter m fails).testBit x))
      (recordCause (engReg r.val 0x30) 4 (setEng r.val (goTo (nextIns r.val s).operand
      { engOf k r.val with
        blocked := false
        wait := some (.match_ frames frames.length iter (matchedBy k r.val (engOf k r.val) iter m fails) fails true) }) k))) s)) ∧
  (∀ (r : Region) (frames : List ItinFrame) (iter m n : Nat) (fails : AMap Nat) (s : State),
    (engOf s.core r.val).wait = some (.match_ frames frames.length iter m fails false) → inRun s.core r.val = true →
    (engOf s.core r.val).lane = 0 → iterComplete frames = true →
    matchMet ((nextIns r.val s).arg.testBit 3) (matchSites s.core r.val)
      (matchedBy s.core r.val (engOf s.core r.val) iter m fails) = false →
    gen (engOf s.core r.val) (40 + (nextIns r.val s).arg % 8) = n + 1 →
    exec (.matchIterationEnd r) s = .next (onCore (fun k => commitGen r.val (setEng r.val
      (setGen (40 + (nextIns r.val s).arg % 8) n { engOf k r.val with
        wait := some (.match_ frames 0 (iter + 1) (matchedBy k r.val (engOf k r.val) iter m fails) fails false) }) k)) s))

/-- O22. ITIN_DONE after the last frame of HALT fires the late edges, keeps the late fails, makes the engine HALTED
and records cause 0. STOP_BEAT makes it STOPPED and records cause 8. ITINERARY_STARVED stops the run with the pending
fault code, UNDERRUN with none. ILLEGAL_INSTRUCTION and STREAM_FAULT set the pending fault codes 2, and 4 or 5, while
the FIFO has frames, and stop the run when the pin side needs one at once. WAYPOINT_STAGE_WRITE stores the record in
the staging slot and moves to the other slot, and a snapshot that could not be stored is lost. (Rests on:
spec/04_itinerary_engine.md, parts of R124, R135, R141, R142, R145, R146.) -/
def Obligations.RunEnds : Prop :=
  (∀ (r : Region) (s : State), inRun s.core r.val = true → stopDue (engOf s.core r.val) = false → (engOf s.core r.val).wait = none →
    (engOf s.core r.val).lane = 0 → curEnds (engOf s.core r.val) 0xB = true → lagPending s.core r.val (engOf s.core r.val) = false →
    exec (.itinDone r) s = .next (onCore (fun k => recordCause (engReg r.val 0x30) 0 (endRun r.val 1 0 (setEngState r.val 5
      (captureBeat r.val (beatTime (engOf k r.val) / 4000) (nextBeat k r.val) ((engOf k r.val).lateFails.filter (fun b => !isMatch k b))
        (fireEdges (engOf k r.val).lateEdges (setEng r.val { engOf k r.val with
          flags := flagFails k (engOf k r.val) ((engOf k r.val).lateFails.filter (fun b => !isMatch k b)) } k)))))) s)) ∧
  (∀ (r : Region) (s : State), inRun s.core r.val = true → stopDue (engOf s.core r.val) = true →
    exec (.stopBeat r) s = .next (onCore (fun k => recordCause (engReg r.val 0x30) 8 (endRun r.val 2 0 (setEngState r.val 6 k))) s)) ∧
  (∀ (r : Region) (s : State), inRun s.core r.val = true → stopDue (engOf s.core r.val) = false → starved (engOf s.core r.val) = true →
    (engOf s.core r.val).err = 0 → exec (.itineraryStarved r) s = .next (onCore (faultStop r.val 1) s)) ∧
  (∀ (r : Region) (n : Nat) (s : State), inRun s.core r.val = true → stopDue (engOf s.core r.val) = false →
    starved (engOf s.core r.val) = true → (engOf s.core r.val).err = n + 1 →
    exec (.itineraryStarved r) s = .next (onCore (faultStop r.val (n + 1)) s)) ∧
  (∀ (r : Region) (s : State), engineReady s.core r.val = true → insLegal s.core r.val (engOf s.core r.val) (nextIns r.val s) = false →
    starved (engOf s.core r.val) = false →
    exec (.illegalInstruction r) s = .next (onCore (fun k => setEng r.val { engOf k r.val with err := 2 } k) s)) ∧
  (∀ (r : Region) (s : State), engineReady s.core r.val = true → insLegal s.core r.val (engOf s.core r.val) (nextIns r.val s) = false →
    inRun s.core r.val = true → stopDue (engOf s.core r.val) = false → starved (engOf s.core r.val) = true →
    exec (.illegalInstruction r) s = .next (onCore (fun k => faultStop r.val 2 (setEng r.val { engOf k r.val with err := 2 } k)) s)) ∧
  (∀ (r : Region) (code : Bool) (s : State), engineReady s.core r.val = true → starved (engOf s.core r.val) = false →
    exec (.streamFault r code) s =
      .next (onCore (fun k => setEng r.val { engOf k r.val with err := if code then 5 else 4 } k) s)) ∧
  (∀ (r : Region) (w : WpSnap) (t : Nat × Nat × Nat × Nat) (s : State), (engOf s.core r.val).shadow = some w → w.taken = some t →
    exec (.waypointStageWrite r true) s = .next (onCore (noteStaged r.val (waypointRecord s.core r.val w t))
      (writeQdr r.val (stageAddr s.core r.val (b2n (regBit s.core (engReg r.val 0x10) 1))) (waypointRecord s.core r.val w t) s))) ∧
  (∀ (r : Region) (w : WpSnap) (t : Nat × Nat × Nat × Nat) (s : State), (engOf s.core r.val).shadow = some w → w.taken = some t →
    exec (.waypointStageWrite r false) s = .next (onCore (fun k => setEng r.val { engOf k r.val with shadow := none } k) s))

/-- O23. FAIL_CTRL_SET and CATCH_WINDOW_SET write or stage their words. CATCH_CLEAR zeroes the named windows and
clears their CATCH_INCOMPLETE bits. CATCH_DUMP opens a ticket and starts its transfer. LEDGER_SET sets base and length
and both positions 0; LEDGER_ADVANCE moves LEDGER_RD. CAT_CLEAR opens a ticket, clears the named sites and starts the
sweep. REPAIR_REGION_WRITE writes its descriptors. REPAIR_SOLVE opens a ticket with the bound of the solve and starts
it. REPAIR_RESULT_READ and FAIL_SITE_SUMMARY answer NOT_READY with the bound while a solve covers their sites, and
else as result reads. CAT_READ replies four words per entry. (Rests on: spec/05_fail_capture_and_catalogue.md, parts
of R157, R161, R163, R164, R170, R172, R175, R177, R178; spec/11_commands_and_events.md, parts of R347, R349.) -/
def Obligations.FailCommands : Prop :=
  (∀ c s, accepted opFailCtrlSet c s = true → exec (.failCtrlSet c) s = .next (written opFailCtrlSet c
    ((wordRegions (pw c.params 0)).map (fun r => (fpReg r 0, pw c.params 1))) [] s)) ∧
  (∀ c s, accepted opCatchWindowSet c s = true → exec (.catchWindowSet c) s = .next (written opCatchWindowSet c
    ((List.range 4).map (fun w => (fpReg (pn c.params 0) (0x400 + 0x10 * pn c.params 1 + 4 * w), pw c.params (2 + w)))) [] s)) ∧
  (∀ c s, accepted opCatchClear c s = true → exec (.catchClear c) s = .next (replied opCatchClear c stDone []
    (clearWindows (pn c.params 0) (pn c.params 1) (begun opCatchClear c s)))) ∧
  (∀ c s, accepted opCatchDump c s = true → ticketLeft opCatchDump c s = true → exec (.catchDump c) s = .next (ticketed opCatchDump c
    (dumpWork c (begun opCatchDump c s).core) (readyTick (begun opCatchDump c s).core 1 [(arbReg (pn c.params 0) 0, workLen (dumpWork c (begun opCatchDump c s).core) / 8),
      (0x99F00000, workLen (dumpWork c (begun opCatchDump c s).core) / 256)]) []
    (fun id => onCore (startXfer id (dumpWork c (begun opCatchDump c s).core))) (begun opCatchDump c s))) ∧
  (∀ c s, accepted opLedgerSet c s = true → exec (.ledgerSet c) s = .next (replied opLedgerSet c stDone [] (onCore (fun k =>
    setReg64 (catReg 0x58) 0 (setReg64 (catReg 0x50) 0 (setReg64 (catReg 0x48) (pn64 c.params 2) (setReg64 (catReg 0x40) (pn64 c.params 0)
      { k with hub := { k.hub with ringFull := false } })))) (begun opLedgerSet c s)))) ∧
  (∀ c s, accepted opLedgerAdvance c s = true → exec (.ledgerAdvance c) s = .next (replied opLedgerAdvance c stDone [] (onCore (fun k =>
    noteRingRoom (setReg64 (catReg 0x58) (pn64 c.params 0) k)) (begun opLedgerAdvance c s)))) ∧
  (∀ c s, accepted opCatClear c s = true → ticketLeft opCatClear c s = true → exec (.catClear c) s = .next (ticketed opCatClear c (.other 0x0507) noTick []
    (fun id => onCore (clearSites (maskSites c) id)) (begun opCatClear c s))) ∧
  (∀ c s, accepted opRepairRegionWrite c s = true → exec (.repairRegionWrite c) s = .next (replied opRepairRegionWrite c stDone [] (onCore (fun k =>
    (List.range (pn c.params 1)).foldl (fun acc i => putDesc (pn c.params 0 + i) ((c.params.drop (2 + 8 * i)).take 8) acc) k)
    (begun opRepairRegionWrite c s)))) ∧
  (∀ c s, accepted opRepairSolve c s = true → ticketLeft opRepairSolve c s = true → exec (.repairSolve c) s = .next (ticketed opRepairSolve c
    (.solve (bitList (maskSites c) 128)) (solveBound (begun opRepairSolve c s).core (maskSites c)) []
    (fun id => onCore (fun k => setRegBit (catReg 4) 31 true { k with hub := { k.hub with
      solves := k.hub.solves ++ [Solve.mk (maskSites c) (solveBound k (maskSites c)) id] } })) (begun opRepairSolve c s))) ∧
  (∀ c s, accepted opRepairResultRead c s = true → solveUntil (begun opRepairResultRead c s).core
      (listBits (((writtenRegions c).filter (descEn (begun opRepairResultRead c s).core)).map (descSite (begun opRepairResultRead c s).core))) = none →
    exec (.repairResultRead c) s = .next (resultReplied opRepairResultRead c
      ((writtenRegions c).map (fun d => version (begun opRepairResultRead c s).core (verRepair d)))
      ((writtenRegions c).flatMap (repairRecord (begun opRepairResultRead c s).core)) s)) ∧
  (∀ c s t, accepted opRepairResultRead c s = true → solveUntil (begun opRepairResultRead c s).core
      (listBits (((writtenRegions c).filter (descEn (begun opRepairResultRead c s).core)).map (descSite (begun opRepairResultRead c s).core))) = some t →
    exec (.repairResultRead c) s = .next (replied opRepairResultRead c stNotReady (words64 t) (begun opRepairResultRead c s))) ∧
  (∀ c s, accepted opFailSiteSummary c s = true → solveUntil (begun opFailSiteSummary c s).core (maskSites c) = none →
    exec (.failSiteSummary c) s = .next (resultReplied opFailSiteSummary c
      ((bitList (maskSites c) 128).map (fun x => version (begun opFailSiteSummary c s).core (verSite x)))
      ((bitList (maskSites c) 128).map (siteSummary (begun opFailSiteSummary c s).core)) s)) ∧
  (∀ c s, accepted opCatRead c s = true → exec (.catRead c) s = .next (replied opCatRead c stDone
    ((List.range (pn c.params 1)).flatMap (fun i => readEntry (begun opCatRead c s).core (pn c.params 0 + i))) (begun opCatRead c s)))

/-- O24. Of a site that is not uncatalogued: an update whose key has an entry in its set ORs its IO numbers into it
and adds 1 to its count, up to 255. One whose key has none makes the site uncatalogued with the allowance reason when
the site's entries are as many as CAT_SITE_ALLOW, takes the first free way of the set with count 1, or makes the site
uncatalogued when the set is full. An update of an uncatalogued site is ignored. CATALOGUE_UPDATE applies the oldest
update of the region's queue. The reason codes of the model, 2 for the allowance and 1 for the full set, are those of
FAIL_SITE_SUMMARY. (Rests on: spec/05_fail_capture_and_catalogue.md, parts of R165, R166, R167, R168.) -/
def Obligations.CatalogueUpdate : Prop :=
  (∀ (r : Region) (u : CatUpd) (l : List CatUpd) (s : State), (fpOf s.core r.val).catQ = u :: l →
    exec (.catalogueUpdate r) s = .next (onCore (fun k => catalogueUpdate u (setFp r.val { fpOf k r.val with catQ := l } k)) s)) ∧
  (∀ (u : CatUpd) (k : Core), uncat k u.site = true → catalogueUpdate u k = k) ∧
  (∀ (u : CatUpd) (w : Nat) (e : CatEntry) (k : Core), uncat k u.site = false → w < 4 →
    amGet? k.hub.entries (catSet k u.site u.x u.y * 4 + w) = some e → e.site = u.site → e.x = u.x → e.y = u.y →
    (∀ (v : Nat) (f : CatEntry), v < w → amGet? k.hub.entries (catSet k u.site u.x u.y * 4 + v) = some f →
      ¬ (f.site = u.site ∧ f.x = u.x ∧ f.y = u.y)) →
    catalogueUpdate u k = changeSite u.site
      (putEntry (catSet k u.site u.x u.y * 4 + w) { e with io := e.io ||| u.io, count := min (e.count + 1) 255 } u) k) ∧
  (∀ (u : CatUpd) (k : Core), uncat k u.site = false →
    (∀ (v : Nat) (f : CatEntry), v < 4 → amGet? k.hub.entries (catSet k u.site u.x u.y * 4 + v) = some f →
      ¬ (f.site = u.site ∧ f.x = u.x ∧ f.y = u.y)) →
    (k.hub.entries.filter (fun e => e.2.site == u.site)).length = regFld k (catReg 8) 19 0 →
    catalogueUpdate u k = makeUncat u.site 2 k) ∧
  (∀ (u : CatUpd) (w : Nat) (k : Core), uncat k u.site = false → w < 4 →
    (∀ (v : Nat) (f : CatEntry), v < 4 → amGet? k.hub.entries (catSet k u.site u.x u.y * 4 + v) = some f →
      ¬ (f.site = u.site ∧ f.x = u.x ∧ f.y = u.y)) →
    (k.hub.entries.filter (fun e => e.2.site == u.site)).length ≠ regFld k (catReg 8) 19 0 →
    amGet? k.hub.entries (catSet k u.site u.x u.y * 4 + w) = none →
    (∀ v, v < w → (amGet? k.hub.entries (catSet k u.site u.x u.y * 4 + v)).isSome = true) →
    catalogueUpdate u k = changeSite u.site
      (putEntry (catSet k u.site u.x u.y * 4 + w) { site := u.site, y := u.y, x := u.x, count := 1, io := u.io } u) k) ∧
  (∀ (u : CatUpd) (k : Core), uncat k u.site = false →
    (∀ v, v < 4 → ∃ f, amGet? k.hub.entries (catSet k u.site u.x u.y * 4 + v) = some f ∧ ¬ (f.site = u.site ∧ f.x = u.x ∧ f.y = u.y)) →
    (k.hub.entries.filter (fun e => e.2.site == u.site)).length ≠ regFld k (catReg 8) 19 0 →
    catalogueUpdate u k = makeUncat u.site 1 k)

/-- O25. LEDGER_BLOCK_WRITE with a block of 8 records, room in the ring and a working place for it writes the block at
LEDGER_BASE + LEDGER_WR mod LEDGER_LEN and advances LEDGER_WR by 256; a full ring is noted and nothing else; a block
whose transfer faults is dropped. LEDGER_BLOCK_PAD 20 us after a block's first record completes it with PAD records.
CATCH_UPDATE sets the bit of the oldest catch update. PURGE_DONE empties the sweep, completes its tickets and records
cause 5. MUST_REPAIR_EVAL takes a region from the delta queue and derives it again. AUTO_SOLVE when due starts a solve
of the site. SOLVE_DONE ends the oldest solve, records cause 2 and completes its ticket. (Rests on:
spec/05_fail_capture_and_catalogue.md, parts of R158, R159, R160, R162, R164, R168, R170, R174, R175, R176.) -/
def Obligations.LedgerAndCatalogueEvents : Prop :=
  (∀ (r : Region) (s : State), 8 ≤ (fpOf s.core r.val).buf.length → ringRoom s.core = true →
    (s.core.order = .a000 ∨ arcFailed s.core (ledgerBase s.core + ledgerWr s.core % ledgerLen s.core) 256 = false) →
    exec (.ledgerBlockWrite r true) s = .next (onCore (fun k =>
      if ringRoom (setReg64 (catReg 0x50) (ledgerWr k + 256) (takeBlock r.val k)) then
        setReg64 (catReg 0x50) (ledgerWr k + 256) (takeBlock r.val k)
      else noteRingFull (setReg64 (catReg 0x50) (ledgerWr k + 256) (takeBlock r.val k)))
      (ledgerWrite (ledgerBase s.core + ledgerWr s.core % ledgerLen s.core)
        (((fpOf s.core r.val).buf.take 8).flatMap (recordBytes r.val)) s))) ∧
  (∀ (r : Region) (w : Bool) (s : State), 8 ≤ (fpOf s.core r.val).buf.length → ringRoom s.core = false →
    exec (.ledgerBlockWrite r w) s = .next (onCore noteRingFull s)) ∧
  (∀ (r : Region) (s : State), 8 ≤ (fpOf s.core r.val).buf.length → ringRoom s.core = true →
    exec (.ledgerBlockWrite r false) s =
      .next (onCore (fun k => showFill r.val (enterGap r.val (inInterval r.val (nsNow k) (dropBlock r.val k)))) s)) ∧
  (∀ (r : Region) (s : State), (fpOf s.core r.val).buf.length % 8 ≠ 0 → (fpOf s.core r.val).firstAt + 4000 ≤ s.core.clock.uptime →
    exec (.ledgerBlockPad r) s = .next (onCore (padBlock r.val) s)) ∧
  (∀ (r : Region) (n a b : Nat) (l : List (Nat × Nat × Nat)) (s : State), regionStopped s.core r.val = false →
    (fpOf s.core r.val).catchQ = (n, a, b) :: l → qdrBadIn s.core r.val a 1 = false →
    exec (.catchUpdate r) s = .next (writeQdr r.val a [readByte s.qdr (qdrKey r.val a) ||| BitVec.ofNat 8 (2 ^ b)]
      (onCore (fun k => setFp r.val { fpOf k r.val with catchQ := l } k) s))) ∧
  (∀ s : State, regBit s.core (catReg 4) 30 = true → exec .purgeDone s = .next (onCore (fun k => recordCause (catReg 0x60) 5
    (k.hub.purgeTickets.foldl (fun acc t => completeTicket t stDone [] acc) (setRegBit (catReg 4) 30 false (showCat
      { k.hub.purge.foldl (fun acc e => queueMirror (0x100000 + 16 * e.1) (bytesOf [0, 0, 0, 0]) acc) k with
        hub := { (k.hub.purge.foldl (fun acc e => queueMirror (0x100000 + 16 * e.1) (bytesOf [0, 0, 0, 0]) acc) k).hub with
          purge := [], purgeTickets := [] } })))) s)) ∧
  (∀ (d : Fin 4096) (s : State), d.val ∈ s.core.hub.deltas → exec (.mustRepairEval d) s =
    .next (onCore (fun k => changeSite (descSite k d.val) (evalRepair d.val)
      { k with hub := { k.hub with deltas := k.hub.deltas.erase d.val } }) s)) ∧
  (∀ (x : Fin 128) (s : State), autoSolveDue s.core x.val = true → exec (.autoSolve x) s =
    .next (onCore (fun k => startSolve (2 ^ x.val) 0
      { k with hub := { k.hub with due := k.hub.due &&& (2 ^ 128 - 1 - 2 ^ x.val) } }) s)) ∧
  (∀ (x : Solve) (l : List Solve) (s : State), s.core.hub.solves = x :: l → x.ticket ≠ 0 → exec .solveDone s =
    .next (onCore (fun k => completeTicket x.ticket stDone [] (recordCause (catReg 0x60) 2 (setRegBit (catReg 4) 31 (!l.isEmpty)
      ((bitList x.sites 128).foldl (fun acc n => changeSite n (fun a => (repairsOf a n).foldl (fun b d => solveRegion d b) a) acc)
        { rescanAll k with hub := { (rescanAll k).hub with solves := l } })))) s)) ∧
  (∀ (x : Solve) (l : List Solve) (s : State), s.core.hub.solves = x :: l → x.ticket = 0 → ∃ t, exec .solveDone s = .next t
    ∧ causeSet t (catReg 0x60) 2 = true ∧ sameMemory s t)

/-- O26. MEAS_CONFIG_SET and MEAS_DET_SET write or stage their words for the cell of every masked pin, and
MEAS_RING_SET the two ring registers of its block. MEAS_READ of positions all below MEAS_WPOS replies their words from
the ring as a result read, and otherwise NOT_READY with the tick of the last position. MEAS_LAST_READ and
MEAS_DET_READ reply MEAS_LAST, and the six detector words, of every masked pin as result reads. (Rests on:
spec/06_parametric_measurement.md, parts of R198, R199, R206, R207; spec/11_commands_and_events.md, parts of R349,
R350.) -/
def Obligations.MeasurementCommands : Prop :=
  (∀ c s, accepted opMeasConfigSet c s = true → exec (.measConfigSet c) s = .next (written opMeasConfigSet c
    ((maskPins c).flatMap (fun p => [(pinReg p 0x80, pw c.params 32), (pinReg p 0x84, pw c.params 33),
      (pinReg p 0x88, pw c.params 34), (pinReg p 0x8C, pw c.params 35)])) [] s)) ∧
  (∀ c s, accepted opMeasDetSet c s = true → exec (.measDetSet c) s = .next (written opMeasDetSet c
    ((maskPins c).flatMap (fun p => [(pinReg p 0x90, pw c.params 32), (pinReg p 0x94, pw c.params 33)])) [] s)) ∧
  (∀ c s, accepted opMeasRingSet c s = true → exec (.measRingSet c) s = .next (written opMeasRingSet c
    [(blockReg ((blockAt (pw c.params 0)).getD 0) 0x200, pw c.params 1),
      (blockReg ((blockAt (pw c.params 0)).getD 0) 0x204, pw c.params 2)] [] s)) ∧
  (∀ c s b ch, accepted opMeasRead c s = true → readChan c = (b, ch) → pn64 c.params 1 + pn c.params 3 ≤ chanWpos (begun opMeasRead c s).core b ch →
    exec (.measRead c) s = .next (resultReplied opMeasRead c [] ((List.range (pn c.params 3)).map (fun i =>
      readWord s.qdr (qdrKey (b / 8) (ringAddr (begun opMeasRead c s).core b ch (pn64 c.params 1 + i))))) s)) ∧
  (∀ c s b ch, accepted opMeasRead c s = true → readChan c = (b, ch) → chanWpos (begun opMeasRead c s).core b ch < pn64 c.params 1 + pn c.params 3 →
    exec (.measRead c) s = .next (replied opMeasRead c stNotReady
      (words64 (positionTick (begun opMeasRead c s).core b ch (pn64 c.params 1 + pn c.params 3 - 1))) (begun opMeasRead c s))) ∧
  (∀ c s, accepted opMeasLastRead c s = true → exec (.measLastRead c) s = .next (resultReplied opMeasLastRead c
    ((maskPins c).map (fun p => version (begun opMeasLastRead c s).core (verLast (cellOfPin p))))
    ((maskPins c).map (fun p => readReg (begun opMeasLastRead c s).core (pinReg p 0xD8))) s)) ∧
  (∀ c s, accepted opMeasDetRead c s = true → exec (.measDetRead c) s = .next (resultReplied opMeasDetRead c
    ((maskPins c).map (fun p => version (begun opMeasDetRead c s).core (verDet (cellOfPin p))))
    ((maskPins c).flatMap (fun p => (List.range 6).map (fun i => readReg (begun opMeasDetRead c s).core (pinReg p (0xE0 + 4 * i))))) s))

/-- O27. MEAS_OUTPUT of a running channel that is not silent delivers its word to the ring position of MEAS_WPOS and
to MEAS_LAST, and advances MEAS_WPOS; a lost one counts an overrun and records cause 1, and of a channel that does not
run nothing changes. COARSE_VALUE checks the limits, and delivers a COARSE word where one is due. OVR_START asserts
OVR and records cause 0 the first time after a clean output. OVR_RELEASE starts the recovery of 4 us, and
OVR_RECOVERY_END after it restarts the channel. RANGE_CHANGE_COMPLETE at its time ends the range change. (Rests on:
spec/06_parametric_measurement.md, parts of R184, R187, R189, R191, R192, R193, R197, R198, R201.) -/
def Obligations.MeasurementEvents : Prop :=
  (∀ (b : Block) (ch : Fin 17) (raw : Int) (s : State), chanRuns s.core b.val ch.val = true → chanSilent s.core b.val ch.val = false →
    exec (.measOutput b ch raw false) s = .next (onCore (fun k => refreshMeas b.val ch.val
      (detectOutput b.val ch.val (chanWord s.core b.val ch.val raw false) (passOutput b.val ch.val
        (!bit (chanWord s.core b.val ch.val raw false) 7 && !bit (chanWord s.core b.val ch.val raw false) 6)
        (setChan b.val ch.val { chanOf k b.val ch.val with overrun := false } k))))
      (onCore (fun k => bumpVersion (verLast (cellOfBlock b.val ch.val))
          (setReg (chanReg b.val ch.val 0xD8) (chanWord s.core b.val ch.val raw false)
            (setReg64 (chanReg b.val ch.val 0xD0) (chanWpos s.core b.val ch.val + 1) k)))
        (writeQdr (b.val / 8) (ringAddr s.core b.val ch.val (chanWpos s.core b.val ch.val))
          (wordBytes (chanWord s.core b.val ch.val raw false)) s)))) ∧
  (∀ (b : Block) (ch : Fin 17) (raw : Int) (s : State), chanRuns s.core b.val ch.val = true →
    exec (.measOutput b ch raw true) s = .next (onCore (fun k => refreshMeas b.val ch.val (passOutput b.val ch.val false
      (recordCause (blockReg b.val 0x210) 1 (countFld (blockReg b.val 0x20C) 31 0 1
        (setChan b.val ch.val { chanOf k b.val ch.val with overrun := true } k))))) s)) ∧
  (∀ (b : Block) (ch : Fin 17) (raw : Int) (l : Bool) (s : State), chanRuns s.core b.val ch.val = false →
    exec (.measOutput b ch raw l) s = .next s) ∧
  (∀ (b : Block) (ch : Fin 17) (raw : Int) (s : State), chanRuns s.core b.val ch.val = true →
    (chanOf s.core b.val ch.val).coarseDue = false →
    exec (.coarseValue b ch raw) s = .next (onCore (fun k => checkLimit b.val ch.val (chanValue k b.val ch.val raw).1
      (setChan b.val ch.val { chanOf k b.val ch.val with windows := (chanOf k b.val ch.val).windows + 1 } k)) s)) ∧
  (∀ (b : Block) (ch : Fin 17) (raw : Int) (s : State), chanRuns s.core b.val ch.val = true →
    (chanOf s.core b.val ch.val).coarseDue = true → chanSilent s.core b.val ch.val = false →
    (chanOf s.core b.val ch.val).since ≤ chanP0 s.core b.val ch.val + 128 * (chanOf s.core b.val ch.val).windows →
    exec (.coarseValue b ch raw) s = .next (onCore (fun k => setChan b.val ch.val
        { chanOf k b.val ch.val with coarseDue := false, overrun := false } k)
      (deliverWord b.val ch.val (chanWord s.core b.val ch.val raw true)
        (onCore (fun k => checkLimit b.val ch.val (chanValue k b.val ch.val raw).1
          (setChan b.val ch.val { chanOf k b.val ch.val with windows := (chanOf k b.val ch.val).windows + 1 } k)) s)))) ∧
  (∀ (b : Block) (ch : Fin 17) (pos : Bool) (s : State), chanRuns s.core b.val ch.val = true → (chanOf s.core b.val ch.val).ovr = false →
    (chanOf s.core b.val ch.val).overNoted = false → exec (.ovrStart b ch pos) s = .next (onCore (fun k =>
      recordCause (blockReg b.val 0x210) 0 (setRegBit (blockReg b.val 0x218) ch.val true (refreshMeas b.val ch.val
        (setChan b.val ch.val { chanOf k b.val ch.val with
          ovr := true, positive := pos, recovering := false, overSeen := true, overNoted := true } k)))) s)) ∧
  (∀ (b : Block) (ch : Fin 17) (s : State), (chanOf s.core b.val ch.val).ovr = true → exec (.ovrRelease b ch) s =
    .next (onCore (fun k => refreshMeas b.val ch.val (setChan b.val ch.val { chanOf k b.val ch.val with
      ovr := false, recovering := true, recoverAt := k.clock.uptime + 800 } k)) s)) ∧
  (∀ (b : Block) (ch : Fin 17) (s : State), (chanOf s.core b.val ch.val).recovering = true →
    (chanOf s.core b.val ch.val).recoverAt ≤ s.core.clock.uptime → exec (.ovrRecoveryEnd b ch) s =
    .next (onCore (fun k => noteChange true false b.val ch.val
      (setChan b.val ch.val { chanOf k b.val ch.val with recovering := false } k)) s)) ∧
  (∀ (c : Cell) (x : PpmuChange) (s : State), amGet? s.core.ppmus c.val = some x → x.due ≤ s.core.clock.uptime →
    exec (.rangeChangeComplete c) s = .next (onCore (fun k => { k with ppmus := amErase k.ppmus c.val }) s))

/-- O28. COMM_ROUTE_SET and WDAC_SET write or stage their words. MON_SCHEDULE_SET replaces the converter's schedule.
MON_CONVERT starts an urgent conversion on an idle good converter with budget, and its reply waits for the result;
with no good converter it is refused CONVERTER_BAD, with none idle UNIT_BUSY and without budget TARIFF, counting the
drop. MON_READ replies the results of its entries. DAC_READBACK opens a ticket and queues one conversion on each good
converter. (Rests on: spec/07_analog_commons.md, parts of R214, R219, R225, R226, R227, R228, R232, R234, R237;
spec/11_commands_and_events.md, parts of R347.) -/
def Obligations.MonitorCommands : Prop :=
  (∀ c s, accepted opCommRouteSet c s = true → exec (.commRouteSet c) s = .next (written opCommRouteSet c
    (([0x300, 0x304, 0x308, 0x30C, 0x310, 0x314, 0x360].map (blockReg (targetBlock c))).zip c.params) [] s)) ∧
  (∀ c s, accepted opWdacSet c s = true → exec (.wdacSet c) s = .next (written opWdacSet c
    (([0, 4, 8, 0xC, 0x10].map (wdacReg (targetBlock c) (pn c.params 0))).zip (c.params.drop 1)) [] s)) ∧
  (∀ c s, accepted opMonScheduleSet c s = true → exec (.monScheduleSet c) s = .next (replied opMonScheduleSet c stDone [] (onCore
    (replaceSchedule (targetBlock c) (pn c.params 0) (pw c.params 1) (c.params.drop 2)) (begun opMonScheduleSet c s)))) ∧
  (∀ c s i, accepted opMonConvert c s = true → urgentConv (begun opMonConvert c s).core (targetBlock c) (pn c.params 0) = some i →
    convFunded (begun opMonConvert c s).core (targetBlock c) 3 = true →
    exec (.monConvert c) s = .next (onCore (startConv (targetBlock c) i (.host 0x0704 c) (pn c.params 1) 3) (begun opMonConvert c s))) ∧
  (∀ c s, accepted opMonConvert c s = true → urgentGood (begun opMonConvert c s).core (targetBlock c) (pn c.params 0) = [] →
    exec (.monConvert c) s = .next (replied opMonConvert c stConverterBad [] (begun opMonConvert c s))) ∧
  (∀ c s, accepted opMonConvert c s = true → urgentGood (begun opMonConvert c s).core (targetBlock c) (pn c.params 0) ≠ [] →
    urgentConv (begun opMonConvert c s).core (targetBlock c) (pn c.params 0) = none →
    exec (.monConvert c) s = .next (replied opMonConvert c stUnitBusy [] (onCore (fun k =>
      (urgentGood (begun opMonConvert c s).core (targetBlock c) (pn c.params 0)).foldl (fun acc i => dropUrgent (targetBlock c) i acc) k) (begun opMonConvert c s)))) ∧
  (∀ c s, accepted opMonRead c s = true → exec (.monRead c) s = .next (replied opMonRead c stDone ((List.range (pn c.params 2)).map (fun i =>
    readReg (begun opMonRead c s).core (blockReg (targetBlock c) (0x600 + 0x80 * pn c.params 0 + 4 * (pn c.params 1 + i))))) (begun opMonRead c s))) ∧
  (∀ c s n, accepted opDacReadback c s = true → ticketLeft opDacReadback c s = true → pageOf c.target.toNat = some (.cell n) →
    goodConvs (begun opDacReadback c s).core (blockOfCell n) ≠ [] → exec (.dacReadback c) s = .next (ticketed opDacReadback c
      (.dacReadback n (pn c.params 0) none none (goodConvs (begun opDacReadback c s).core (blockOfCell n)).length) noTick []
      (fun id => onCore (fun k => (goodConvs (begun opDacReadback c s).core (blockOfCell n)).foldl (fun acc i =>
        enqueueConv (blockOfCell n) i (.readback id) (16 * (n % 17) + pn c.params 0) acc) k)) (begun opDacReadback c s)))

/-- O29. MON_SCHED_TRIGGER of an enabled tree schedule makes the next entry pending. MON_CONVERSION_START of an idle
good converter starts its pending entry where its class has budget and skips it where not; with none pending it starts
the oldest queued request under TE. MON_CONVERSION_DONE of a schedule entry writes its word and counts it, of a host's
request answers it, and of the fabric's toggles the fabric's input. FAB_CONVERT_REQUEST of a rise starts an urgent
conversion of its input. (Rests on: spec/07_analog_commons.md, parts of R225, R226, R227, R228, R230;
spec/09_logic_fabric.md, parts of R276.) -/
def Obligations.ConversionEvents : Prop :=
  (∀ (b : Block) (i : Fin 2) (s : State), schedOn s.core b.val i.val = true → regFld s.core (schedReg b.val i.val) 13 12 ≠ 0 →
    selfcalRuns s.core b.val = false → analogRuns s.core b.val = true → convBad s.core b.val i.val = false →
    exec (.monSchedTrigger b i) s = .next (onCore (triggerEntry b.val i.val) s)) ∧
  (∀ (b : Block) (i : Fin 2) (e : Nat) (s : State), convBad s.core b.val i.val = false → convBusy s.core b.val i.val = false →
    blockStopped s.core b.val = false → (convOf s.core b.val i.val).pending = some e →
    convFunded s.core b.val (entryClass (regFld s.core (entryReg b.val i.val e) 31 29)) = true →
    exec (.monConversionStart b i) s = .next (onCore (fun k =>
      startConv b.val i.val (.entry e) (regFld k (entryReg b.val i.val e) 8 0) (entryClass (regFld k (entryReg b.val i.val e) 31 29))
        (setConv b.val i.val { convOf k b.val i.val with pending := none } k)) s)) ∧
  (∀ (b : Block) (i : Fin 2) (e : Nat) (s : State), convBad s.core b.val i.val = false → convBusy s.core b.val i.val = false →
    blockStopped s.core b.val = false → (convOf s.core b.val i.val).pending = some e →
    convFunded s.core b.val (entryClass (regFld s.core (entryReg b.val i.val e) 31 29)) = false →
    exec (.monConversionStart b i) s = .next (onCore (fun k => skipEntry b.val i.val e
      (setConv b.val i.val { convOf k b.val i.val with pending := none } k)) s)) ∧
  (∀ (b : Block) (i : Fin 2) (q : ConvFor × Nat) (l : List (ConvFor × Nat)) (s : State), convBad s.core b.val i.val = false →
    convBusy s.core b.val i.val = false → blockStopped s.core b.val = false → (convOf s.core b.val i.val).pending = none →
    (convOf s.core b.val i.val).queue = q :: l → convFunded s.core b.val 4 = true →
    exec (.monConversionStart b i) s = .next (onCore (fun k => startConv b.val i.val q.1 q.2 4
      (setConv b.val i.val { convOf k b.val i.val with queue := l } k)) s)) ∧
  (∀ (b : Block) (i : Fin 2) (n : BitVec 16) (run : ConvRun) (e : Nat) (s : State), (convOf s.core b.val i.val).run = some run →
    run.what = .entry e → n.toNat ≠ 0 → n.toNat ≠ 65535 → exec (.monConversionDone b i n) s = .next (onCore (fun k =>
      startPlaus b.val (entryDone b.val i.val e run n.toNat (setConv b.val i.val { convOf k b.val i.val with run := none } k))) s)) ∧
  (∀ (b : Block) (i : Fin 2) (n : BitVec 16) (run : ConvRun) (op : BitVec 16) (c : Cmd) (s : State),
    (convOf s.core b.val i.val).run = some run → run.what = .host op c → n.toNat ≠ 0 → n.toNat ≠ 65535 →
    exec (.monConversionDone b i n) s = .next (onCore (fun k => startPlaus b.val (answer op c stDone
      [(urgentDone b.val i.val run n.toNat (setConv b.val i.val { convOf k b.val i.val with run := none } k)).1]
      (urgentDone b.val i.val run n.toNat (setConv b.val i.val { convOf k b.val i.val with run := none } k)).2)) s)) ∧
  (∀ (b : Block) (i : Fin 2) (n : BitVec 16) (run : ConvRun) (s : State),
    (convOf s.core b.val i.val).run = some run → run.what = .fabric → n.toNat ≠ 0 → n.toNat ≠ 65535 →
    exec (.monConversionDone b i n) s = .next (onCore (fun k => startPlaus b.val (toggleFab b.val i.val
      (urgentDone b.val i.val run n.toNat (setConv b.val i.val { convOf k b.val i.val with run := none } k)).2)) s)) ∧
  (∀ (b : Block) (i : Fin 2) (s : State),
    (amGetD (fabOf s.core (b.val / 8)).rises (b.val % 8) 0).testBit (52 + i.val) = true → convBad s.core b.val i.val = false →
    convBusy s.core b.val i.val = false → convFunded s.core b.val 7 = true →
    exec (.fabConvertRequest b i) s = .next (onCore (fun k => startConv b.val i.val .fabric
      (regFld k (blockReg b.val 0xA04) (16 * i.val + 8) (16 * i.val)) 7
      (takeRise (b.val / 8) (b.val % 8) (52 + i.val) k).2) s))

/-- O30. CONTENTION of two connections made to one wire opens both and records cause 0. PLAUS_CHECK at its period
boundary with budget waits for the converters, and PLAUS_RESULT stores the raw codes and applies Table COMM-4.
MON_RECAL_DUE of a good converter starts a recalibration with a conversion of ground; MON_RECAL rejects or writes the
coefficients once 64 conversions are complete, and MON_RECAL_TIMEOUT after 1 ms rejects. WDAC_UPDATE of a waveform DAC
at rest computes its next target; WDAC_SLEW_STEP moves the output towards it by at most a step. (Rests on:
spec/07_analog_commons.md, parts of R215, R219, R220, R221, R222, R233, R234, R235.) -/
def Obligations.CommonsEvents : Prop :=
  (∀ (b : Block) (x y : Fin 26) (w : Nat) (s : State), x.val ≠ y.val → connMade s.core b.val x.val = true →
    connMade s.core b.val y.val = true → connWire (reg s.core) b.val x.val = some w → connWire (reg s.core) b.val y.val = some w →
    ∃ t, exec (.contention b x y) s = .next t ∧ causeSet t (blockReg b.val 0x36C) 0 = true ∧ sameMemory s t) ∧
  (∀ (b : Block) (s : State), s.core.clock.chron % 2048 = 0 →
    s.core.clock.chron / 2048 % regFld s.core (blockReg b.val 0x404) 31 16 = 0 → amGetD s.core.plaus b.val .none = .none →
    goodConvs s.core b.val ≠ [] → convFunded s.core b.val 4 = true → exec (.plausCheck b) s = .next (onCore (fun k =>
      startPlaus b.val (refreshConvs b.val { k with plaus := amSet k.plaus b.val .waiting })) s)) ∧
  (∀ (b : Block) (m n : BitVec 16) (s : State), amGetD s.core.plaus b.val .none = .running → convBad s.core b.val 0 = true →
    convBad s.core b.val 1 = false → n.toNat ≠ 0 → n.toNat ≠ 65535 → exec (.plausResult b m n) s = .next (onCore (fun k =>
      refreshConvs b.val (plausOutcome b.val
        (correct ((m.toNat : Int) - 16384) (convCorr k b.val 0).1 (convCorr k b.val 0).2).1
        (correct ((n.toNat : Int) - 16384) (convCorr k b.val 1).1 (convCorr k b.val 1).2).1
        (setRegFld (blockReg b.val 0x424) 15 0 n.toNat { k with plaus := amErase k.plaus b.val }))) s)) ∧
  (∀ (b : Block) (i : Fin 2) (s : State), convBad s.core b.val i.val = false → (convOf s.core b.val i.val).recal = none →
    selfcalRuns s.core b.val = false → blockStopped s.core b.val = false → exec (.monRecalDue b i) s = .next (onCore (fun k =>
      enqueueConv b.val i.val (.recal false) 0x11B (setConv b.val i.val { convOf k b.val i.val with
        recal := some (Recal.mk k.clock.uptime 0 0 0 0) } k)) s)) ∧
  (∀ (b : Block) (i : Fin 2) (r : Recal) (s : State), (convOf s.core b.val i.val).recal = some r → 32 ≤ r.refs →
    r.refSum = r.groundSum → exec (.monRecal b i) s = .next (onCore (fun k => rejectRecal b.val i.val (recalValues b.val r k).2) s)) ∧
  (∀ (b : Block) (i : Fin 2) (r : Recal) (s : State), (convOf s.core b.val i.val).recal = some r → 32 ≤ r.refs →
    r.refSum ≠ r.groundSum → recalOk (convCorr s.core b.val i.val) (recalValues b.val r s.core).1 = true →
    exec (.monRecal b i) s = .next (onCore (fun k => setDefaulted b.val (blockQuantity i.val) false
      (setReg (blockReg b.val (0x428 + 8 * i.val)) (BitVec.ofNat 32 (unsigned (recalValues b.val r k).1.1 24))
        (setReg (blockReg b.val (0x42C + 8 * i.val)) (BitVec.ofNat 32 (unsigned (recalValues b.val r k).1.2 24))
          (setConv b.val i.val { convOf k b.val i.val with recal := none } (recalValues b.val r k).2)))) s)) ∧
  (∀ (b : Block) (i : Fin 2) (r : Recal) (s : State), (convOf s.core b.val i.val).recal = some r → r.refs < 32 →
    r.due + 200000 ≤ s.core.clock.uptime → exec (.monRecalTimeout b i) s = .next (onCore (rejectRecal b.val i.val) s)) ∧
  (∀ (b : Block) (i : Fin 2) (s : State), analogRuns s.core b.val = true → (wdacOf s.core b.val i.val).dac.phase = .idle →
    wdacStep s.core b.val i.val ≠ 0 → exec (.wdacUpdate b i) s = .next (onCore (fun k => followWdac b.val i.val (setWdac b.val i.val
      (generatorUpdate (wdacShape k b.val i.val) (wdacA k b.val i.val) (wdacB k b.val i.val)
        (regFld k (wdacReg b.val i.val 8) 15 0) (wdacOf k b.val i.val)) k)) s)) ∧
  (∀ (b : Block) (i : Fin 2) (s : State), domState s.core (2 * b.val) = 3 → (wdacOf s.core b.val i.val).dac.phase = .idle →
    exec (.wdacSlewStep b i) s = .next (onCore (setWdac b.val i.val { wdacOf s.core b.val i.val with
      dac := { (wdacOf s.core b.val i.val).dac with
        out := slewTo (wdacStep s.core b.val i.val) (wdacOf s.core b.val i.val).dac.out (wdacOf s.core b.val i.val).target } }) s))

/-- O31. WM_CONFIG_SET, WM_WAKE_SET and CWM_SET write or stage their words; WM_CAPTURE_READ replies CAPT_WPOS,
WM_STATUS and the eight entries; WM_CHECK opens a ticket for its check. WM_EDGE of a decided comparator whose output
differs sets the output and, when not blanked, reports the edge. BLANK_START of a monitor that a tree blanks keeps
both outputs; BLANK_END reports nothing when they are unchanged and otherwise reports CH before CL. UNDECIDED_EXIT
gives the comparator its value of R242. WM_CHECK_PHASE takes its phase in order, and after phase 3 restores every pin.
WAKE_CONDITION_BREAK lets the block raise a request again. The fine time of an undecided comparator's edge is a free
value (log entry 1). (Rests on: spec/08_comparator_network.md, parts of R242, R243, R244, R247, R248, R249, R254,
R255, R256, R259.) -/
def Obligations.WindowMonitors : Prop :=
  (∀ c s, accepted opWmConfigSet c s = true → exec (.wmConfigSet c) s = .next (written opWmConfigSet c
    ((maskPins c).flatMap (fun p => [(pinReg p 0x200, pw c.params 32), (pinReg p 0x204, pw c.params 33)])) [] s)) ∧
  (∀ c s, accepted opWmWakeSet c s = true → exec (.wmWakeSet c) s = .next (written opWmWakeSet c
    ((maskPins c).map (fun p => (pinReg p 0x208, pw c.params 32))) [] s)) ∧
  (∀ c s, accepted opCwmSet c s = true → exec (.cwmSet c) s = .next (written opCwmSet c
    [(wmReg ((blockAt (pw c.params 0)).getD 0) (pn c.params 1) 0x200, pw c.params 2),
      (wmReg ((blockAt (pw c.params 0)).getD 0) (pn c.params 1) 0x200 + 4, pw c.params 3),
      (wmReg ((blockAt (pw c.params 0)).getD 0) (pn c.params 1) 0x200 + 0xC0, pw c.params 4),
      (wmReg ((blockAt (pw c.params 0)).getD 0) (pn c.params 1) 0x200 + 0xC4, pw c.params 5)] [] s)) ∧
  (∀ c s b m, accepted opWmCaptureRead c s = true → captMonitor c = some (b, m) → exec (.wmCaptureRead c) s = .next (replied opWmCaptureRead c stDone
    (readReg (begun opWmCaptureRead c s).core (wmReg b m 0x210) :: readReg (begun opWmCaptureRead c s).core (wmReg b m 0x20C)
      :: (List.range 32).map (fun i => readReg (begun opWmCaptureRead c s).core (wmReg b m (0x240 + 4 * i)))) (begun opWmCaptureRead c s))) ∧
  (∀ c s, accepted opWmCheck c s = true → ticketLeft opWmCheck c s = true → exec (.wmCheck c) s = .next (ticketed opWmCheck c
    (.wmCheck (maskPins c) ((maskPins c).filter (connectable (begun opWmCheck c s).core)) ((begun opWmCheck c s).core.clock.chron + 800) none 0 0)
    ((begun opWmCheck c s).core.clock.chron + 800 + thresholdTicks (begun opWmCheck c s).core ((maskPins c).filter (connectable (begun opWmCheck c s).core)) 0x68BA 0x68BA + 4 * usTicks 1 + usTicks 1)
    [] (fun _ t => t) (begun opWmCheck c s))) ∧
  (∀ (b : Block) (m : Fin 18) (kind : Fin 4) (fine : Fin 20000) (s : State),
    wmBit s.core b.val m.val (kind.val / 2) ≠ (kind.val % 2 == 0) → wmBit s.core b.val m.val (6 + kind.val / 2) = false →
    wmBit s.core b.val m.val 3 = false → exec (.wmEdge b m kind fine) s = .next (onCore (fun k =>
      reportEdge b.val m.val kind.val fine.val {} (setRegBit (wmReg b.val m.val 0x20C) (kind.val / 2) (kind.val % 2 == 0) k)) s)) ∧
  (∀ (b : Block) (m : Fin 18) (s : State), regFld s.core (wmReg b.val m.val 0x200) 13 12 ≠ 0 → wmBit s.core b.val m.val 3 = false →
    exec (.blankStart b m) s = .next (onCore (fun k => setRegBit (wmReg b.val m.val 0x20C) 3 true
      (setWmon b.val m.val { wmonOf k b.val m.val with memH := wmBit k b.val m.val 0, memL := wmBit k b.val m.val 1 } k)) s)) ∧
  (∀ (b : Block) (m : Fin 18) (s : State), wmBit s.core b.val m.val 3 = true →
    wmBit s.core b.val m.val 0 = (wmonOf s.core b.val m.val).memH → wmBit s.core b.val m.val 1 = (wmonOf s.core b.val m.val).memL →
    exec (.blankEnd b m) s = .next (onCore (fun k => setRegBit (wmReg b.val m.val 0x20C) 3 false (blankFine b.val m.val k).2) s)) ∧
  (∀ (b : Block) (m : Fin 18) (s : State), wmBit s.core b.val m.val 3 = true →
    wmBit s.core b.val m.val 0 ≠ (wmonOf s.core b.val m.val).memH → wmBit s.core b.val m.val 6 = false →
    wmBit s.core b.val m.val 1 ≠ (wmonOf s.core b.val m.val).memL → wmBit s.core b.val m.val 7 = false →
    exec (.blankEnd b m) s = .next (onCore (fun k =>
      reportEdge b.val m.val (edgeKind false (wmBit k b.val m.val 1)) (blankFine b.val m.val k).1 { blanked := true }
        (reportEdge b.val m.val (edgeKind true (wmBit k b.val m.val 0)) (blankFine b.val m.val k).1 { blanked := true }
          (setRegBit (wmReg b.val m.val 0x20C) 3 false (blankFine b.val m.val k).2))) s)) ∧
  (∀ (b : Block) (m : Fin 18) (high above : Bool) (s : State), wmBit s.core b.val m.val (6 + (if high then 0 else 1)) = true →
    wmBit s.core b.val m.val 3 = true → exec (.undecidedExit b m high above) s = .next (onCore (fun k =>
      setRegBit (wmReg b.val m.val 0x20C) (if high then 0 else 1) (high == above)
        (setRegBit (wmReg b.val m.val 0x20C) (6 + (if high then 0 else 1)) false (drawWord k).2)) s)) ∧
  (∀ (id : Word) (n : Fin 4) (ch cl : PinMask) (pins tested : List Nat) (start ready ps : Nat) (s : State),
    workOf s.core id = some (.wmCheck pins tested start (some ready) n.val ps) → n.val ≠ 3 →
    ready + 200 * (n.val + 1) ≤ s.core.clock.chron → exec (.wmCheckPhase id n ch cl) s = .next (onCore (setWork id
      (.wmCheck pins tested start (some ready) (n.val + 1) (ps ||| phasePasses tested n.val ch cl))) s)) ∧
  (∀ (id : Word) (n : Fin 4) (ch cl : PinMask) (pins tested : List Nat) (start ready ps : Nat) (s : State),
    workOf s.core id = some (.wmCheck pins tested start (some ready) 3 ps) → n.val = 3 →
    ready + 800 ≤ s.core.clock.chron → exec (.wmCheckPhase id n ch cl) s = .next (onCore (fun k => setWork id
      (.wmCheck pins tested start (some (k.clock.chron + 200)) 4 (ps ||| phasePasses tested 3 ch cl))
      (tested.foldl (fun acc p => endWmCheck p acc) k)) s)) ∧
  (∀ (b : Block) (s : State), exec (.wakeConditionBreak b) s = .next (onCore (fun k =>
    { k with wakeRaised := k.wakeRaised.filter (fun x => x != b.val) }) s))

/-- O32. An accepted FAB_LOAD opens a ticket, makes the shadow of every masked region LOADING and starts the transfer;
FAB_UNLOAD makes them LOADED without a configuration under ACCEPTED with ticket 0. FAB_STATUS_READ replies three words
per region. LOAD_DONE of a load whose blocks have arrived and whose checks all pass makes every shadow LOADED and
completes the ticket DONE. LOAD_REJECT with the code of its first failed check discards the shadows and completes the
ticket with the code's status, a failed signature or rollback recording IMAGE_REJECT. FABRIC_CLOCK_EDGE of a declared
tree loads flops, wire registers and input taps from the values before it and presents the outputs. USER of a rise
sets its bit and records cause 3. FAB_FAULT holds the block and records cause 2, and is logged. (Rests on:
spec/09_logic_fabric.md, parts of R262, R265, R269, R272, R274, R277, R279, R280, R282, R286, R290;
spec/17_errors_and_containment.md, parts of R515.) -/
def Obligations.LogicFabric : Prop :=
  (∀ c s, accepted opFabLoad c s = true → ticketLeft opFabLoad c s = true → exec (.fabLoad c) s = .next (ticketed opFabLoad c
    (.fabLoad (pn c.params 0) (pn c.params 1) (pn c.params 2) (pn64 c.params 3) c.folio)
    (readyTick (begun opFabLoad c s).core 3 (imageCosts c (begun opFabLoad c s))) [] (startLoad c (sender c s)) (begun opFabLoad c s))) ∧
  (∀ c s, accepted opFabUnload c s = true → exec (.fabUnload c) s = .next (replied opFabUnload c stAccepted [0, 0, 0] (onCore (fun k =>
    joinFab c.folio (sender c s) (pn c.params 0) ((wordRegions (pw c.params 0)).foldl (fun acc r => stageUnload c.folio r acc) k))
    (begun opFabUnload c s)))) ∧
  (∀ c s, accepted opFabStatusRead c s = true → exec (.fabStatusRead c) s = .next (replied opFabStatusRead c stDone ((wordRegions (pw c.params 0)).flatMap (fun r =>
    [0x200, 0x204, 0x208].map (fun o => readReg (begun opFabStatusRead c s).core (treeReg r o)))) (begun opFabStatusRead c s))) ∧
  (∀ (id : Word) (m n i a : Nat) (f : Word) (s : State), workOf s.core id = some (.fabLoad m n i a f) → loadArrived s.core id = true →
    loadUnread s id ⟨n, i, a⟩ = false → loadFailure s m ⟨n, i, a⟩ = none →
    exec (.loadDone id) s = .next (onCore (fun k => completeTicket id stDone []
      ((bitList m 8).foldl (fun acc r => shadowLoaded r (regionPlane s ⟨n, i, a⟩ r) acc) (dropXfer id k))) s)) ∧
  (∀ (id : Word) (m n i a : Nat) (f : Word) (code : Fin 10) (s : State), workOf s.core id = some (.fabLoad m n i a f) →
    loadUnread s id ⟨n, i, a⟩ = false → loadFailure s m ⟨n, i, a⟩ = some code.val → code.val ≠ 2 → code.val ≠ 3 →
    exec (.loadReject id code) s = .next (onCore (fun k => completeTicket id (loadStatus code.val) []
      ((bitList m 8).foldl (fun acc r => shadowRejected code.val r acc) (dropXfer id k))) s)) ∧
  (∀ (id : Word) (m n i a : Nat) (f : Word) (code : Fin 10) (s : State), workOf s.core id = some (.fabLoad m n i a f) →
    loadUnread s id ⟨n, i, a⟩ = false → loadFailure s m ⟨n, i, a⟩ = some code.val → (code.val = 2 ∨ code.val = 3) →
    exec (.loadReject id code) s = .next (onCore (fun k => completeTicket id (loadStatus code.val) [] (recordCause 0x8BF00030 2
      ((bitList m 8).foldl (fun acc r => shadowRejected code.val r acc) (dropXfer id k)))) s)) ∧
  (∀ (r : Region) (tree : Fin 4) (p : Plane) (s : State), (fabOf s.core r.val).active = some p → tree.val ≠ 0 →
    fld (declWord p tree.val) 31 30 ≠ 0 → regionStopped s.core r.val = false →
    exec (.fabricClockEdge r tree) s = .next (onCore (fun k => presentRegion r.val (setFab r.val
      { fabOf k r.val with
        flops := updateBits (fabOf k r.val).flops ((openBlocks k r.val).flatMap (flopLoads p (fabOf k r.val) tree.val))
        wires := updateBits (fabOf k r.val).wires
          ((openBlocks k r.val).flatMap (wireLoads p (fabOf k r.val) tree.val) ++ longLoads p (fabOf k r.val) tree.val)
        taps1 := updateBits (fabOf k r.val).taps1 (((openBlocks k r.val).filter (fun b => fld (treesWord p b) 1 0 == tree.val)).flatMap
          (fun b => (List.range 64).map (fun t => (64 * b + t, (tapInputs k r.val b).testBit t))))
        taps2 := updateBits (fabOf k r.val).taps2 (((openBlocks k r.val).filter (fun b => fld (treesWord p b) 1 0 == tree.val)).flatMap
          (fun b => (List.range 64).map (fun t => (64 * b + t, (fabOf k r.val).taps1.testBit (64 * b + t))))) }
      (((openBlocks k r.val).filter (fun b => fld (treesWord p b) 5 4 == tree.val)).foldl (fun acc b => fabWave r.val b acc) k))) s)) ∧
  (∀ (b : Block) (e : Fin 8) (s : State), (amGetD (fabOf s.core (b.val / 8)).rises (b.val % 8) 0).testBit (54 + e.val) = true →
    amGet? (fabOf (takeRise (b.val / 8) (b.val % 8) (54 + e.val) s.core).2 (b.val / 8)).lastUser (8 * (b.val % 8) + e.val) = none →
    ∃ t, exec (.user b e) s = .next t ∧ causeSet t (treeReg (b.val / 8) 0x218) 3 = true ∧ sameMemory s t) ∧
  (∀ (b : Block) (p : Plane) (s : State), (fabOf s.core (b.val / 8)).active = some p → fabHeld s.core (b.val / 8) (b.val % 8) = false →
    exec (.fabFault b) s = .next (onCore (fun k => logFault 1 0 7 (pageBase (.block b.val)) 0 (setRegFld (blockReg b.val 0xC00) 23 16 7
      (recordCause (treeReg (b.val / 8) 0x218) 2 (presentRegion (b.val / 8)
        (setRegBit (fabStatus (b.val / 8)) (24 + b.val % 8) true k))))) s))

/-- O33. QDR_READ replies the bytes of its range, and where the range holds an uncorrectable word UNCORRECTABLE with
the bytes before that word's block. QDR_WRITE writes its words to the region's QDR SRAM. ARC_READ replies the bytes of
its range, and where a block fails the status of that block with the bytes before it. ARC_WRITE writes its words, and
where a block lies on a FAILED stack only those before it, with TRANSFER. ARC_DMA is ACCEPTED with a ticket and starts
its transfer of blocks of 256 bytes. TARIFF_SET and ARB_SET write their words, at once or into the folio, to the
tariff register sets and ARB words of the instances named. TARIFF_READ replies the refill total, and BUDGET, TSTAT,
SPENT and DENIED of each class, with the shares for the archive. MEM_ERRORS_READ replies the error registers of each
region of the mask, of the archive and of its stacks. (Rests on: spec/10_memory_and_arbitration.md, parts of R292,
R293, R295, R296, R298, R299, R300, R307, R316, R317, R318; spec/10_memory_and_arbitration.md, parts of Table MEM-2,
Table MEM-5, Table MEM-6, Table MEM-7.) -/
def Obligations.MemoryCommands : Prop :=
  (
  (∀ c s, accepted opQdrRead c s = true → firstBad (begun opQdrRead c s).core.mem.qdrBad (qdrKey (pn c.params 0) (pn c.params 1)) (pn c.params 2) = none →
    exec (.qdrRead c) s = .next (replied opQdrRead c stDone (wordsOf (pn c.params 2 / 4)
      (readBytes s.qdr (qdrKey (pn c.params 0) (pn c.params 1)) (pn c.params 2))) (begun opQdrRead c s))) ∧
  (∀ c s w n, accepted opQdrRead c s = true → firstBad (begun opQdrRead c s).core.mem.qdrBad (qdrKey (pn c.params 0) (pn c.params 1)) (pn c.params 2) = some w →
    n = (w - qdrKey (pn c.params 0) (pn c.params 1)) / 256 * 256 → exec (.qdrRead c) s = .next (replied opQdrRead c stUncorrectable
      (words64 n ++ wordsOf (n / 4) (readBytes s.qdr (qdrKey (pn c.params 0) (pn c.params 1)) n)) (begun opQdrRead c s))) ∧
  (∀ c s, accepted opQdrWrite c s = true → exec (.qdrWrite c) s = .next (replied opQdrWrite c stDone []
    (writeQdr (pn c.params 0) (pn c.params 1) (bytesOf (c.params.drop 2)) (begun opQdrWrite c s)))) ∧
  (∀ c s, accepted opArcRead c s = true → arcFirstFail (begun opArcRead c s).core (pn64 c.params 0) (pn c.params 2) = none →
    exec (.arcRead c) s = .next (replied opArcRead c stDone (wordsOf (pn c.params 2 / 4)
      (readBytes s.arc (pn64 c.params 0) (pn c.params 2))) (begun opArcRead c s))) ∧
  (∀ c s n st, accepted opArcRead c s = true → arcFirstFail (begun opArcRead c s).core (pn64 c.params 0) (pn c.params 2) = some (n, st) →
    exec (.arcRead c) s = .next (replied opArcRead c st
      (words64 n ++ wordsOf (n / 4) (readBytes s.arc (pn64 c.params 0) n)) (begun opArcRead c s))) ∧
  (∀ c s, accepted opArcWrite c s = true → arcWriteFail (begun opArcWrite c s).core (pn64 c.params 0) (4 * (c.params.length - 2)) = none →
    exec (.arcWrite c) s = .next (replied opArcWrite c stDone [] (writeArc (pn64 c.params 0) (bytesOf (c.params.drop 2)) (begun opArcWrite c s)))) ∧
  (∀ c s n, accepted opArcWrite c s = true → arcWriteFail (begun opArcWrite c s).core (pn64 c.params 0) (4 * (c.params.length - 2)) = some n →
    exec (.arcWrite c) s = .next (replied opArcWrite c stTransfer (words64 n)
      (writeArc (pn64 c.params 0) ((bytesOf (c.params.drop 2)).take n) (begun opArcWrite c s)))) ∧
  (∀ c s, accepted opArcDma c s = true → ticketLeft opArcDma c s = true → exec (.arcDma c) s = .next (ticketed opArcDma c (dmaWork c)
    (readyTick (begun opArcDma c s).core 3 ((0x99F00000, ceilDiv (pn64 c.params 5) 256)
      :: (if pn c.params 0 < 2 then [(arbReg (pn c.params 3) 0, ceilDiv (pn64 c.params 5) 8)] else []))) []
    (fun id => onCore (startXfer id (dmaWork c))) (begun opArcDma c s)))) ∧ (
  (∀ c s, accepted opTariffSet c s = true → exec (.tariffSet c) s = .next (written opTariffSet c (tariffPairs c) [] s)) ∧
  (∀ c s b, accepted opTariffRead c s = true → tariffBase (pn c.params 0) (pn c.params 1) = some b → exec (.tariffRead c) s =
    .next (replied opTariffRead c stDone (readReg (begun opTariffRead c s).core (b + 0x24)
      :: ((List.range 8).flatMap (fun i => [4 * i, 0x40 + 4 * i, 0xA0 + 4 * i, 0x60 + 4 * i].map (fun o => readReg (begun opTariffRead c s).core (b + o)))
        ++ (if pn c.params 0 = 0 then (List.range 8).map (fun r => readReg (begun opTariffRead c s).core (b + 0xC0 + 4 * r)) else []))) (begun opTariffRead c s))) ∧
  (∀ c s, accepted opArbSet c s = true → exec (.arbSet c) s = .next (written opArbSet c (arbPairs c) [] s)) ∧
  (∀ c s, accepted opMemErrorsRead c s = true → exec (.memErrorsRead c) s = .next (replied opMemErrorsRead c stDone
    ((wordRegions (pw c.params 0)).flatMap (fun r => [0x200, 0x204, 0x20C].map (fun o => readReg (begun opMemErrorsRead c s).core (arbReg r o)))
      ++ [0x99F00200, 0x99F00204, 0x99F00208, 0x99F0020C].map (readFitted (begun opMemErrorsRead c s).core)
      ++ (List.range 4).map (fun n => readFitted (begun opMemErrorsRead c s).core (pageBase (.stack n)))) (begun opMemErrorsRead c s))))

/-- O34. Whenever some slot is eligible, a decision completes: it grants the first slot, in rotation order from the
pointer, of those that may win, which are the forced eligible slots with the largest wait where any slot is forced and
the eligible slots of the highest priority otherwise. Every other eligible slot's wait steps by 1 up to 255, the
granted slot's wait is 0, the pointer stands at the granted slot, and a slot that is not eligible keeps its wait. The
memories and the queue stay as they were. (States: R305.) -/
def Obligations.ArbiterDecides : Prop :=
  ∀ (a : ArbiterId) (w : Bool) (l : List (Fin 17 × Nat)) (ta : List Region) (s : State) (e : List Nat),
    e = eligible s.core a (ta.map Fin.val) ((l.map (fun q => q.1.val)).filter (fun x => decide (x < arbSlots a))) → e ≠ [] →
    ∃ g i t, exec (.arbiterDecision a w l ta) s = .next t ∧ mayWin s.core a e g ∧ i < arbSlots a
      ∧ g = ((arbState s.core a).pointer + 1 + i) % arbSlots a
      ∧ (∀ j < i, ¬ mayWin s.core a e (((arbState s.core a).pointer + 1 + j) % arbSlots a))
      ∧ (∀ x ∈ e, x ≠ g → slotWait t.core a x = min (slotWait s.core a x + 1) 255)
      ∧ slotWait t.core a g = 0 ∧ (arbState t.core a).pointer = g
      ∧ (∀ x, x ∉ e → slotWait t.core a x = slotWait s.core a x) ∧ sameMemory s t

/-- O35. The refill of a class sets REMAIN to BUDGET less its debt, where the debt is the amount by which REMAIN was
below 0, so that an unused remainder is discarded; it writes the amount spent in the period, saturating, to
SPENT_LAST, and it changes no other register. A charge lowers REMAIN by its cost as long as the result is a 17-bit
number. (Rests on: spec/10_memory_and_arbitration.md, parts of R311, R312, R318, Table MEM-7.) -/
def Obligations.RefillRule : Prop :=
  (∀ (b cls : Nat) (k : Core), remain (refillClass b cls k) b cls
    = if 0 ≤ remain k b cls then (budget k b cls : Int) else budget k b cls + remain k b cls) ∧
  (∀ (b cls : Nat) (k : Core), regFld (refillClass b cls k) (b + 0xA0 + 4 * cls) 15 0
    = min (amGetD k.mem.spent (b + 0x40 + 4 * cls) 0) 0xFFFF) ∧
  (∀ (b cls x : Nat) (k : Core), x ≠ b + 0x40 + 4 * cls → x ≠ b + 0xA0 + 4 * cls → reg (refillClass b cls k) x = reg k x) ∧
  (∀ (b cls n : Nat) (k : Core), (n : Int) ≤ remain k b cls + 65536 →
    remain (chargeClass b cls n k) b cls = remain k b cls - n)

/-- O36. QDR_SCRUB and ARC_SCRUB of an enabled scrub with budget read the next word or block, charge TH one unit and
advance the scrub position; a corrected error is counted, and an uncorrectable one is counted, recorded and marked,
also one marked before. TRANSFER_BLOCK_RECEIVE of an intact block that can be read moves its bytes and steps the
sequence. A failed attempt, by a block not intact or TRANSFER_ACK_TIMEOUT, is counted and tried again; the fourth
faults the transfer, whose ticket completes with TRANSFER and the bytes that stand. STACK_FAILED of a stack that fails
its training, or over a limit, fails the stack. TARIFF_REFILL at a refill refills every class and lets packets that
wait leave. (Rests on: spec/10_memory_and_arbitration.md, parts of R293, R294, R298, R299, R300, R301, R311, Table
MEM-2.) -/
def Obligations.MemoryEvents : Prop :=
  (∀ (r : Region) (s : State), regBit s.core (arbReg r.val 0x208) 31 = true → regionStopped s.core r.val = false →
    2 ≤ domState s.core (129 + 2 * r.val) → 0 < remain s.core (arbReg r.val 0) 7 →
    qdrBadIn s.core r.val (8 * regFld s.core (arbReg r.val 0x208) 25 3) 8 = false →
    exec (.qdrScrub r .clean) s = .next (onCore (fun k => setRegFld (arbReg r.val 0x208) 25 3
      (regFld k (arbReg r.val 0x208) 25 3 + 1) (chargeClass (arbReg r.val 0) 7 1 k)) s)
    ∧ exec (.qdrScrub r .corrected) s = .next (onCore (fun k => countFld (arbReg r.val 0x200) 15 0 1
      (setRegFld (arbReg r.val 0x208) 25 3 (regFld k (arbReg r.val 0x208) 25 3 + 1) (chargeClass (arbReg r.val 0) 7 1 k))) s)) ∧
  (∀ (r : Region) (s : State), regBit s.core (arbReg r.val 0x208) 31 = true → regionStopped s.core r.val = false →
    2 ≤ domState s.core (129 + 2 * r.val) → 0 < remain s.core (arbReg r.val 0) 7 →
    exec (.qdrScrub r .uncorrectable) s = .next (onCore (fun k => noteQdrUncorr r.val (8 * regFld k (arbReg r.val 0x208) 25 3)
      (setRegFld (arbReg r.val 0x208) 25 3 (regFld k (arbReg r.val 0x208) 25 3 + 1) (chargeClass (arbReg r.val 0) 7 1 k))) s)) ∧
  (∀ (x : ScrubResult) (s : State) (p : Nat), p = regFld s.core 0x99F00210 28 0 → regBit s.core 0x99F00210 31 = true →
    0 < remain s.core 0x99F00000 7 → 0 < arcCapacity s.core.order → 2 ≤ domState s.core (144 + stackOf s.core.order (256 * p)) →
    exec (.arcScrub x) s = .next (onCore (fun k => (fun k' => if arcBadIn k (256 * p) 256 = true ∨ x = .uncorrectable
        then noteArcUncorr (256 * p) k' else if x = .corrected then countFld 0x99F00200 15 0 1 k' else k')
      (setRegFld 0x99F00210 28 0 ((p + 1) % (arcCapacity k.order / 256)) (chargeClass 0x99F00000 7 1 k))) s)) ∧
  (∀ (id : Word) (l : List Word) (s : State) (x : Xfer) (w : Work), amGet? s.core.mem.xfers id.toNat = some x → workOf s.core id = some w →
    (workRegion w).any (regionStopped s.core) = false → x.seq < x.blocks → (blockUnread s.core w x.seq).isNone = true →
    exec (.transferBlockReceive id true l) s = .next (onCore (fun k => { k with mem := { k.mem with
        xfers := amSet k.mem.xfers id.toNat { x with seq := x.seq + 1, attempts := 0 } } })
      (moveBytes w (256 * x.seq) (min 256 (workLen w - 256 * x.seq)) (bytesOf l) s))) ∧
  (∀ (id : Word) (l : List Word) (s : State) (x : Xfer) (w : Work), amGet? s.core.mem.xfers id.toNat = some x → workOf s.core id = some w →
    x.seq < x.blocks → x.attempts + 1 < 4 → ∃ t, exec (.transferAckTimeout id) s = .next t
      ∧ exec (.transferBlockReceive id false l) s = .next t
      ∧ t = onCore (fun k => countXfer w false { k with mem := { k.mem with
          xfers := amSet k.mem.xfers id.toNat { x with attempts := x.attempts + 1 } } }) s) ∧
  (∀ (id : Word) (s : State) (x : Xfer) (w : Work), amGet? s.core.mem.xfers id.toNat = some x → workOf s.core id = some w →
    x.seq < x.blocks → 4 ≤ x.attempts + 1 → isLoad w = false → exec (.transferAckTimeout id) s = .next (onCore (fun k =>
      completeTicket id stTransfer (words64 (256 * x.seq)) (countStackFault w x.seq (countXfer w true
        { k with mem := { k.mem with xfers := amErase k.mem.xfers id.toNat } }))) s)) ∧
  (∀ (n : Fin 4) (s : State), n.val < stacksFitted s.core.order → stackState s.core n.val ≠ 3 →
    (stackState s.core n.val = 1 ∨ 8 ≤ recent s.core n.val (msTicks 1000) s.core.mem.stackFaults
      ∨ 64 ≤ recent s.core n.val (msTicks 1000) s.core.mem.stackLines) →
    exec (.stackFailed n) s = .next (onCore (failStack n.val) s)) ∧
  (∀ n k, failStack n k = logFault 3 9 7 (pageBase (.stack n)) 0
    (setRegFld 0x81F00100 23 16 7 (recordCause 0x99F00214 2 (setRegFld (pageBase (.stack n)) 1 0 3 k)))) ∧
  (∀ s : State, refillNow s.core = true → exec .tariffRefill s = .next (onCore (fun k =>
    (List.range 4).foldl (fun acc p => drainHeld p acc) (refillAll k)) s)) ∧
  (∀ s : State, refillNow s.core = false → exec .tariffRefill s = .next s)

/-- O37. For every accepted NOP, MODULE_INFO, RESERVATION_READ, EVT_PENDING_READ and EVT_SOURCE_READ, exec answers the
next state in which the reply is DONE with the data of Tables CMD-8 and CMD-17 and nothing else has changed since the
command started. REG_READ of registers that latch nothing replies with their values in ascending order of address. An
accepted REG_WRITE or EVT_ROUTE_SET with FOLIO 0 answers DONE with every word applied to its register in ascending
order, and with a FOLIO answers ACCEPTED with ticket 0 and the words staged into that folio. An accepted REG_MODIFY
writes or stages (old and not mask) or (data and mask), one register, and replies with the value before. What a word
applied does to its register is the subject of WordApplied. (Rests on: spec/11_commands_and_events.md, parts of R335,
R336, R337, R338, R347, R359.) -/
def Obligations.GeneralCommands : Prop :=
  (
  (∀ c s, accepted opNop c s = true → exec (.nop c) s = .next (replied opNop c stDone [] (begun opNop c s))) ∧
  (∀ c s, accepted opModuleInfo c s = true → exec (.moduleInfo c) s = .next (replied opModuleInfo c stDone
    [readReg (begun opModuleInfo c s).core 0x81F00004, reg (begun opModuleInfo c s).core 0x8BF00004, reg (begun opModuleInfo c s).core 0x8BF00008,
      readReg (begun opModuleInfo c s).core 0x81F00010, reg (begun opModuleInfo c s).core 0x8BF0000C, BitVec.ofNat 32 (ownNumber (begun opModuleInfo c s).core),
      BitVec.ofNat 32 (begun opModuleInfo c s).core.clock.chron, BitVec.ofNat 32 ((begun opModuleInfo c s).core.clock.chron / 2 ^ 32)] (begun opModuleInfo c s))) ∧
  (∀ c s, accepted opReservationRead c s = true → exec (.reservationRead c) s = .next (replied opReservationRead c stDone
    ((begun opReservationRead c s).core.stw.reservations.flatMap (fun e =>
      [e.2.id, e.2.scope, BitVec.ofNat 32 e.2.target, BitVec.ofNat 32 e.2.session, BitVec.ofNat 32 e.2.expiry,
        BitVec.ofNat 32 (e.2.expiry / 2 ^ 32)])) (begun opReservationRead c s))) ∧
  (∀ c s, accepted opEvtPendingRead c s = true → exec (.evtPendingRead c) s = .next (replied opEvtPendingRead c stDone
    (summaryWord (begun opEvtPendingRead c s).core 0 :: summaryWord (begun opEvtPendingRead c s).core 1
      :: (List.range 48).map (pendingWord (begun opEvtPendingRead c s).core)) (begun opEvtPendingRead c s))) ∧
  (∀ c s, accepted opEvtSourceRead c s = true → exec (.evtSourceRead c) s = .next (replied opEvtSourceRead c stDone
    ((List.range (pn c.params 1)).map (fun i => sourceWord (begun opEvtSourceRead c s).core (pn c.params 0 + i))) (begun opEvtSourceRead c s))) ∧
  (∀ c s, accepted opRegRead c s = true →
    (∀ i < pn c.params 0, latchesHi (c.target.toNat + 4 * i) = false
      ∧ amGet? (begun opRegRead c s).core.hiLatch (c.target.toNat + 4 * i) = none) →
    exec (.regRead c) s = .next (replied opRegRead c stDone
      ((List.range (pn c.params 0)).map (fun i => readReg (begun opRegRead c s).core (c.target.toNat + 4 * i))) (begun opRegRead c s)))) ∧ (
  (∀ c s, accepted opRegWrite c s = true → c.folio = 0 → exec (.regWrite c) s = .next (replied opRegWrite c stDone []
    (onCore (applyWords (((List.range c.params.length).map (fun i => c.target.toNat + 4 * i)).zip c.params)) (begun opRegWrite c s)))) ∧
  (∀ c s, accepted opRegWrite c s = true → c.folio ≠ 0 → exec (.regWrite c) s = .next (replied opRegWrite c stAccepted [0, 0, 0]
    (onCore (stageWords c.folio (sender c s)
      (((List.range c.params.length).map (fun i => c.target.toNat + 4 * i)).zip c.params)) (begun opRegWrite c s)))) ∧
  (∀ c s, accepted opRegModify c s = true → c.folio = 0 → exec (.regModify c) s = .next (replied opRegModify c stDone
    [readReg (begun opRegModify c s).core c.target.toNat]
    (onCore (applyWord c.target.toNat ((reg (begun opRegModify c s).core c.target.toNat &&& ~~~(pw c.params 0)) ||| (pw c.params 1 &&& pw c.params 0)))
      (begun opRegModify c s)))) ∧
  (∀ c s, accepted opRegModify c s = true → c.folio ≠ 0 → exec (.regModify c) s = .next (replied opRegModify c stAccepted
    [0, 0, 0, readReg (begun opRegModify c s).core c.target.toNat]
    (onCore (stageWords c.folio (sender c s) [(c.target.toNat,
      (viewOf (begun opRegModify c s).core c.folio c.target.toNat &&& ~~~(pw c.params 0)) ||| (pw c.params 1 &&& pw c.params 0))]) (begun opRegModify c s)))) ∧
  (∀ c s, accepted opEvtRouteSet c s = true → c.folio = 0 → exec (.evtRouteSet c) s = .next (replied opEvtRouteSet c stDone []
    (onCore (applyWords (((List.range (c.params.length - 2)).map (fun i => 0x87F01000 + 4 * (pn c.params 0 + i))).zip (c.params.drop 2)))
      (begun opEvtRouteSet c s)))))

/-- O38. SESSION_OPEN on an unbound queue with a session free binds the queue to the least free session with the next
session incarnation and replies both. SESSION_CLOSE closes the sender's session. RESERVE with ID 0 makes a reservation
in the least free slot with the next serial and replies its ID and expiry; with the sender's own ID it renews the
expiry. RELEASE frees an own reservation with no bound folio, or with WITHDRAW. RESULT_READ of a completed own ticket,
not read before, replies its final status and result. TICKET_RELEASE frees the slot and leaves running work running.
(Rests on: spec/11_commands_and_events.md, parts of R339, R340, R341, R343, R344, R348, R349.) -/
def Obligations.SessionAndReservationCommands : Prop :=
  (∀ c s q n, accepted opSessionOpen c s = true → c.src = .host q → (queueOf (begun opSessionOpen c s).core q.val).session = 0 →
    freeSession (begun opSessionOpen c s).core = some n →
    exec (.sessionOpen c) s = .next (replied opSessionOpen c stDone [BitVec.ofNat 32 n, reg (begun opSessionOpen c s).core 0x81F00018]
      (onCore (fun k => setReg 0x81F00018 (reg k 0x81F00018 + 1)
        (setQueue q.val { queueOf k q.val with session := n } { k with stw := { k.stw with
          sessions := amSet k.stw.sessions n { owner := .queue q.val, incarnation := reg k 0x81F00018, reads := [] } } }))
        (begun opSessionOpen c s)))) ∧
  (∀ c s, accepted opSessionClose c s = true → exec (.sessionClose c) s =
    .next (replied opSessionClose c stDone [] (onCore (closeSession (sender c s)) (begun opSessionClose c s)))) ∧
  (∀ c s slot, accepted opReserve c s = true → pw c.params 2 = 0 →
    overlapping (begun opReserve c s).core (sender c s) (pw c.params 0) c.target.toNat = none →
    amFree (begun opReserve c s).core.stw.reservations 128 = some slot →
    exec (.reserve c) s = .next (replied opReserve c stDone
      (BitVec.ofNat 32 ((begun opReserve c s).core.stw.reservationSerial * 2 ^ 8 + slot) :: words64 ((begun opReserve c s).core.clock.chron + 200 * pn c.params 1))
      (onCore (fun k => { k with stw := { k.stw with
        reservations := amSet k.stw.reservations slot
          { id := BitVec.ofNat 32 ((begun opReserve c s).core.stw.reservationSerial * 2 ^ 8 + slot), scope := pw c.params 0
            target := c.target.toNat, session := sender c s, expiry := (begun opReserve c s).core.clock.chron + 200 * pn c.params 1, ending := false }
        reservationSerial := nextSerial k.stw.reservationSerial (2 ^ 24) } }) (begun opReserve c s)))) ∧
  (∀ c s slot r, accepted opReserve c s = true → pw c.params 2 ≠ 0 → ownReservation (begun opReserve c s).core (sender c s) (pw c.params 2) = some (slot, r) →
    r.scope = pw c.params 0 → r.target = c.target.toNat → r.ending = false →
    exec (.reserve c) s = .next (replied opReserve c stDone (r.id :: words64 ((begun opReserve c s).core.clock.chron + 200 * pn c.params 1))
      (onCore (setReservation slot { r with expiry := (begun opReserve c s).core.clock.chron + 200 * pn c.params 1 }) (begun opReserve c s)))) ∧
  (∀ c s slot r, accepted opRelease c s = true → ownReservation (begun opRelease c s).core (sender c s) (pw c.params 0) = some (slot, r) → r.ending = false →
    (bit (pw c.params 1) 0 = true ∨ hasBound (begun opRelease c s).core slot = false) →
    exec (.release c) s = .next (replied opRelease c stDone [] (onCore (releaseReservation slot) (begun opRelease c s)))) ∧
  (∀ c s t st x, accepted opResultRead c s = true → ownTicket (begun opResultRead c s).core (sender c s) (pw c.params 0) = some t → t.status = some st →
    amGet? (begun opResultRead c s).core.stw.sessions (sender c s) = some x → x.reads = [] →
    exec (.resultRead c) s = .next (replied opResultRead c stDone (st.setWidth 32 :: t.result)
      (onCore (fun k => { k with stw := { k.stw with
        sessions := amSet k.stw.sessions (sender c s) { x with reads := [{ opcode := 0x130, target := c.target, params := c.params, stamp := [] }] } } }) (begun opResultRead c s)))) ∧
  (∀ c s t, accepted opTicketRelease c s = true → ownTicket (begun opTicketRelease c s).core (sender c s) (pw c.params 0) = some t →
    exec (.ticketRelease c) s = .next (replied opTicketRelease c stDone [] (onCore (fun k => { k with stw := { k.stw with
      tickets := amErase k.stw.tickets (fld t.id 9 0)
      orphans := if t.status.isNone then amSet k.stw.orphans t.id.toNat t.work else k.stw.orphans } }) (begun opTicketRelease c s))))

/-- O39. At any event register a clear with a count equal to COUNT is accepted and leaves the register with FLAG and
every CAUSE bit 0 and COUNT as it was; a clear with another count is not accepted and changes no register. EVT_CLEAR
and the direct write clear by that one operation, and EVT_CLEAR of one source answers the word after the clear with
bit 31 for acceptance. (Rests on: spec/11_commands_and_events.md, parts of R353, R354.) -/
def Obligations.EventClears : Prop :=
  (∀ (a count : Nat) (k : Core), fld (reg k a) 7 0 = count % 256 →
    (clearEvent a count k).1 = true ∧ reg (clearEvent a count k).2 a = reg k a &&& 0xFF#32
      ∧ regBit (clearEvent a count k).2 a 8 = false ∧ (∀ i < 16, regBit (clearEvent a count k).2 a (16 + i) = false)
      ∧ regFld (clearEvent a count k).2 a 7 0 = regFld k a 7 0) ∧
  (∀ (a count : Nat) (k : Core), fld (reg k a) 7 0 ≠ count % 256 →
    (clearEvent a count k).1 = false ∧ ∀ b, reg (clearEvent a count k).2 b = reg k b) ∧
  (∀ c s, accepted opSqcClearWrite c s = true → exec (.sqcClearWrite c) s = .next (replied opSqcClearWrite c stDone []
    (onCore (fun k => (clearEvent c.target.toNat (fld (pw c.params 0) 7 0) k).2) (begun opSqcClearWrite c s)))) ∧
  (∀ c s n count a, accepted opEvtClear c s = true → c.params = [n, count] → evtReg n.toNat = some a → unitRefusal (begun opEvtClear c s).core a = none →
    exec (.evtClear c) s = .next (replied opEvtClear c stDone
      [putBit (readReg (clearEvent a count.toNat (begun opEvtClear c s).core).2 a) 31 (clearEvent a count.toNat (begun opEvtClear c s).core).1]
      (onCore (fun k => (clearEvent a count.toNat k).2) (begun opEvtClear c s))))

/-- O40. SQ_TAIL_WRITE of a running queue fetches a packet with a good header for this module into the queue; a bad
header, an ill tail and a failed host access put it in ERROR and record QUEUE_ERROR. RQ_HEAD_WRITE, QCFG_WRITE and
QUEUE_REGISTER_WRITE set the registers of R356 as it allows. D3HOT_ENTRY stops running queues and D0_RETURN resumes
them. PCIE_LINK_DOWN and FUNCTION_LEVEL_RESET fault the host sessions and disable the queues, the reset recording
FLR_DONE. PCIE_PERST_N falling does both; rising outside start-up with VIO on trains the link. BUS_MASTERING_ENABLED
turns bus mastering on. (Rests on: spec/11_commands_and_events.md, parts of R325, R327, R328, R329, R330, R356;
spec/18_electrical_mechanical.md, parts of R534.) -/
def Obligations.HostPortEvents : Prop :=
  (∀ (q : QueueNo) (v : Word) (p : RawPacket) (s : State), (queueOf s.core q.val).state = .running → fld v 23 0 % 16 = 0 →
    fld v 23 0 < sqSize (queueOf s.core q.val) → headerCheck p = p.hchk → p.plen.toNat ≤ 4096 → p.plen.toNat % 4 = 0 →
    (queueOf s.core q.val).qdest = 0 → powerState s.core ≠ 1 →
    exec (.sqTailWrite q v [p]) s = .next (onCore (setQueue q.val { queueOf s.core q.val with
      sqTail := fld v 23 0
      sqHead := ((queueOf s.core q.val).sqHead + padded (16 + p.plen.toNat)) % sqSize (queueOf s.core q.val)
      waiting := (queueOf s.core q.val).waiting ++ [(p.opcode, Cmd.mk (.host q) p.tag p.flags p.target p.folio
        (p.params.take (p.plen.toNat / 4)))] })
      (onCore (setQueue q.val { queueOf s.core q.val with sqTail := fld v 23 0 }) s))) ∧
  (∀ (q : QueueNo) (v : Word) (l : List RawPacket) (s : State), (queueOf s.core q.val).state = .running →
    (fld v 23 0 % 16 ≠ 0 ∨ sqSize (queueOf s.core q.val) ≤ fld v 23 0) → ∃ t, exec (.sqTailWrite q v l) s = .next t
      ∧ (queueOf t.core q.val).state = .error ∧ (queueOf t.core q.val).err = 3 ∧ causeSet t 0x81F00020 2 = true ∧ sameMemory s t) ∧
  (∀ (q : QueueNo) (s : State), (queueOf s.core q.val).state = .running → (queueOf s.core q.val).session = 0 →
    amGet? s.core.stw.sessions 0 = none → ∃ t, exec (.hostDmaFault q) s = .next t
      ∧ (queueOf t.core q.val).state = .error ∧ (queueOf t.core q.val).err = 4 ∧ causeSet t 0x81F00020 2 = true ∧ sameMemory s t) ∧
  (∀ (q : QueueNo) (v : Word) (s : State),
    exec (.rqHeadWrite q v) s = .next (onCore (setQueue q.val { queueOf s.core q.val with rqHead := fld v 23 0 }) s)) ∧
  (∀ (q : QueueNo) (v : Word) (s : State), bit (queueOf s.core q.val).qcfg 31 = false → qcfgOk (v &&& 0x9F1F000F) = true →
    bit (v &&& 0x9F1F000F) 31 = true → exec (.qcfgWrite q v) s = .next (onCore (setQueue q.val { queueOf s.core q.val with
      qcfg := v &&& 0x9F1F000F, sqTail := 0, sqHead := 0, rqHead := 0, rqTail := 0, err := 0, waiting := [], replies := []
      held := [], state := .running }) s)) ∧
  (∀ (q : QueueNo) (v : Word) (s : State), bit (queueOf s.core q.val).qcfg 31 = true → bit (v &&& 0x9F1F000F) 31 = true →
    exec (.qcfgWrite q v) s = .next s) ∧
  (∀ (q : QueueNo) (v : Word) (s : State), bit (queueOf s.core q.val).qcfg 31 = false →
    exec (.queueRegisterWrite q .sqBaseLo v) s =
      .next (onCore (setQueue q.val { queueOf s.core q.val with sqBaseLo := v &&& 0xFFFFF000#32 }) s)
    ∧ exec (.queueRegisterWrite q .qdest v) s =
      .next (onCore (setQueue q.val { queueOf s.core q.val with qdest := v.extractLsb' 0 12 }) s)) ∧
  (∀ (q : QueueNo) (r : QueueReg) (v : Word) (s : State), bit (queueOf s.core q.val).qcfg 31 = true →
    exec (.queueRegisterWrite q r v) s = .next s) ∧
  (∀ s : State, s.core.stw.d3hot = false → exec .d3hotEntry s = .next (onCore (fun k => mapQueues
    (fun x => if x.state = .running then { x with state := .stopped, resume := .running } else x)
    { k with stw := { k.stw with d3hot := true } }) s)) ∧
  (∀ s : State, exec .d0Return s = .next (onCore (fun k => (List.range 16).foldl (fun acc q => resumeQueue q acc)
    { k with stw := { k.stw with d3hot := false } }) s)) ∧
  (∀ s : State, exec .pcieLinkDown s = .next (onCore (fun k => mapQueues
    (fun x => { x with state := .disabled, qcfg := x.qcfg &&& 0x7FFFFFFF#32, waiting := [] })
    (faultHostSessions { k with stw := { k.stw with linkUp := false } })) s)) ∧
  (∀ s : State, ∃ t, exec .functionLevelReset s = .next t ∧ t.core.stw.queues = [] ∧ t.core.stw.busMaster = false
    ∧ t.core.sec.spdm = 0 ∧ causeSet t 0x81F00020 3 = true ∧ sameMemory s t) ∧
  (∀ s : State, s.core.pwr.startup = none → regBit s.core 0x89F00050 5 = true → exec (.pciePerst true) s =
    .next (onCore (fun k => { k with stw := { k.stw with perst := true, linkUp := true } }) s)) ∧
  (∀ s : State, exec (.pciePerst false) s = .next (onCore (fun k => opPcieLinkDown (opFunctionLevelReset
    { k with stw := { k.stw with perst := false } })) s)) ∧
  (∀ s : State, exec .busMasteringEnabled s = .next (onCore (fun k => { k with stw := { k.stw with busMaster := true } }) s))

/-- O41. When cause i of the event register at a occurs, its CAUSE bit is set. When the bit of the EN register that
follows is set, FLAG is set and COUNT steps modulo 256; otherwise both stay. No other register changes. The
EVT_PENDING bit of every source is the FLAG of its register, and an EVT_SUMMARY bit is the OR of its word of
EVT_PENDING. (States: R352.) -/
def Obligations.EventRecorded : Prop :=
  (∀ (a i : Nat) (k : Core), i < 8 → regBit (recordCause a i k) a (16 + i) = true) ∧
  (∀ (a i : Nat) (k : Core), i < 8 → regBit k (a + 4) i = true →
    regBit (recordCause a i k) a 8 = true ∧ regFld (recordCause a i k) a 7 0 = (regFld k a 7 0 + 1) % 256) ∧
  (∀ (a i : Nat) (k : Core), i < 8 → regBit k (a + 4) i = false →
    regBit (recordCause a i k) a 8 = regBit k a 8 ∧ regFld (recordCause a i k) a 7 0 = regFld k a 7 0) ∧
  (∀ (a i b : Nat) (k : Core), b ≠ a → reg (recordCause a i k) b = reg k b) ∧
  (∀ (k : Core) (w i a : Nat), i < 32 → evtReg (32 * w + i) = some a → bit (pendingWord k w) i = regBit k a 8) ∧
  (∀ (k : Core) (w i : Nat), i < 32 → evtReg (32 * w + i) = none → bit (pendingWord k w) i = false) ∧
  (∀ (k : Core) (i : Nat), i < 32 → bit (summaryWord k 0) i = (pendingWord k i != 0)) ∧
  (∀ (k : Core) (i : Nat), i < 16 → bit (summaryWord k 1) i = (pendingWord k (32 + i) != 0))

/-- O42. A reply to a command of a host queue that runs, other than one that QUIET suppresses, is one packet with the
command's TAG and OPCODE, the status, the Chronicle and the data, appended to the queue's replies with RQ_TAIL moved
past it. With QUIET set, DONE and ACCEPTED with ticket 0 give none. A running ticket that completes keeps its final
status and result, and with NOTIFY sends one notice with its TAG and OPCODE to a queue that runs.
CHAIN_COMMAND_RECEIVE of an accepted command serves it as from its chain session. CHAIN_REPLY_RECEIVE writes an
awaited reply to its queue, and COMMAND_TIMEOUT after CMD_TIMEOUT writes FAULT; either way no reply is awaited any
more, and a reply that is not awaited is discarded. TICKET_COMPLETE of work that ends at a tick completes the ticket.
LEASE_EXPIRED after the expiry releases the reservation and records LEASE_EXPIRED. HOLDOFF_END of a vector raised
meanwhile sends one message. (Rests on: spec/11_commands_and_events.md, parts of R325, R333, R339, R343, R344, R347,
R355; spec/12_folios_caravan_global.md, parts of R390.) -/
def Obligations.StewardEvents : Prop :=
  (
  (∀ (op : BitVec 16) (c : Cmd) (q : QueueNo) (st : Status) (data : List Word) (k : Core), c.src = .host q →
    (queueOf k q.val).state = .running → (c.flags.getLsbD 1 = false ∨ (st ≠ stDone ∧ ¬ (st = stAccepted ∧ pw data 0 = 0))) →
    (queueOf (answer op c st data k) q.val).replies = (queueOf k q.val).replies
      ++ [{ tag := c.tag, status := st, opcode := op, chron := BitVec.ofNat 32 k.clock.chron, notice := false, data := data }]
    ∧ (queueOf (answer op c st data k) q.val).rqTail
      = ((queueOf k q.val).rqTail + (16 + 4 * data.length + 15) / 16 * 16) % rqSize (queueOf k q.val)) ∧
  (∀ (op : BitVec 16) (c : Cmd) (st : Status) (data : List Word) (k : Core), c.flags.getLsbD 1 = true →
    (st = stDone ∨ (st = stAccepted ∧ pw data 0 = 0)) → answer op c st data k = k) ∧
  (∀ (id : Word) (st : Status) (res : List Word) (t : Ticket) (q : Nat) (k : Core),
    amGet? k.stw.tickets (fld id 9 0) = some t → t.id = id → t.status = none → t.notify = true → t.queue = some q →
    (queueOf k q).state = .running →
    amGet? (completeTicket id st res k).stw.tickets (fld id 9 0) = some { t with status := some st, result := res }
    ∧ (queueOf (completeTicket id st res k) q).replies = (queueOf k q).replies
      ++ [{ tag := t.tag, status := st, opcode := t.opcode, chron := BitVec.ofNat 32 k.clock.chron, notice := true, data := res }]) ∧
  (∀ (id : Word) (st : Status) (res : List Word) (t : Ticket) (k : Core),
    amGet? k.stw.tickets (fld id 9 0) = some t → t.id = id → t.status = none → t.notify = false →
    completeTicket id st res k = { k with stw := { k.stw with
      tickets := amSet k.stw.tickets (fld id 9 0) { t with status := some st, result := res } } })) ∧ (
  (∀ (port : Port) (op : BitVec 16) (d : OpDef) (c : Cmd) (s : State), opDefOf op = some d → d.opcode = op → fromChain c = true →
    powerState s.core ≠ 1 → accepted d c s = true → exec (.chainCommandReceive port op c) s =
      .next (finish d c (d.run c (sender c s) (begun d c s)) (begun d c s))) ∧
  (∀ (port : Port) (tag op : BitVec 16) (st : Status) (q : QueueNo) (data : List Word) (f : FwdCmd) (s : State),
    s.core.stw.forwarded.find? (fun e => e.queue == q.val && e.tag == tag) = some f →
    exec (.chainReplyReceive port tag op st q data) s = .next (onCore (fun k => writeReply q.val
      { tag := tag, status := st, opcode := op, chron := BitVec.ofNat 32 k.clock.chron, notice := false, data := data }
      { k with stw := { k.stw with forwarded := k.stw.forwarded.erase f } }) s)) ∧
  (∀ (port : Port) (tag op : BitVec 16) (st : Status) (q : QueueNo) (data : List Word) (s : State),
    s.core.stw.forwarded.find? (fun e => e.queue == q.val && e.tag == tag) = none →
    exec (.chainReplyReceive port tag op st q data) s = .next s) ∧
  (∀ (tag : BitVec 16) (q : QueueNo) (f : FwdCmd) (s : State),
    s.core.stw.forwarded.find? (fun e => e.queue == q.val && e.tag == tag) = some f →
    f.since + 200 * regFld s.core 0x83F0000C 26 0 ≤ s.core.clock.uptime →
    exec (.commandTimeout q tag) s = .next (onCore (fun k => writeReply q.val
      { tag := tag, status := 0x0500, opcode := f.opcode, chron := BitVec.ofNat 32 k.clock.chron, notice := false, data := [] }
      { k with stw := { k.stw with forwarded := k.stw.forwarded.erase f } }) s)) ∧
  (∀ (id : Word) (e : WorkEnd) (tick : Nat) (st : Status) (res : List Word) (s : State), workOf s.core id = some (.ending tick st res) →
    tick ≤ s.core.clock.chron → exec (.ticketComplete id e) s = .next (onCore (completeTicket id st res) s)) ∧
  (∀ (slot : Fin 128) (r : Reservation) (s : State), amGet? s.core.stw.reservations slot.val = some r → r.expiry ≤ s.core.clock.chron →
    r.ending = false → ∃ t, exec (.leaseExpired slot) s = .next t ∧ t = onCore (fun k => recordCause 0x81F00020 0
      (releaseReservation slot.val k)) s ∧ causeSet t 0x81F00020 0 = true) ∧
  (∀ (v : Fin 64) (h : VecHold) (s : State), amGet? s.core.stw.vecHold v.val = some h → h.until_ ≤ s.core.clock.uptime →
    h.raised = true → s.core.stw.d3hot = false → ∃ t, exec (.holdoffEnd v) s = .next t
      ∧ t.core.stw.msix = s.core.stw.msix ++ [v.val] ∧ sameMemory s t) ∧
  (∀ (v : Fin 64) (h : VecHold) (s : State), amGet? s.core.stw.vecHold v.val = some h → h.until_ ≤ s.core.clock.uptime →
    h.raised = false → exec (.holdoffEnd v) s =
      .next (onCore (fun k => { k with stw := { k.stw with vecHold := amErase k.stw.vecHold v.val } }) s)))

/-- O43. FOLIO_OPEN takes the least free of 64 slots for a folio of its session under the next serial, open until its
limit of 200 ticks a microsecond from now, announces a chain folio, and replies the ID and the deadline. FOLIO_STAGE
stages its pairs. FOLIO_ACCEDE prepares the folio at the present tick under a ticket that is ready at A, or 100 us
later where other modules take part. FOLIO_WITHDRAW withdraws the folio by its state. FOLIO_STATUS_READ replies the
five words of every slot. A numbered module takes a free slot for an announced folio, and records MEMBER_FULL with
none free. A prepare that names this module prepares its entry, or a participation without one; one that does not name
it changes nothing. A withdrawal received discards an entry that is not prepared, and so does the open deadline of a
folio once it has passed. (Rests on: spec/12_folios_caravan_global.md, parts of R364, R365, R366, R367, R368, R369,
R371, R374, R377, R398.) -/
def Obligations.FolioCommands : Prop :=
  (
  (∀ c s slot, accepted opFolioOpen c s = true → pw c.params 0 = 0 → amFree (begun opFolioOpen c s).core.car.folios 64 = some slot → exec (.folioOpen c) s =
    .next (replied opFolioOpen c stDone (nextFolioId (begun opFolioOpen c s).core false slot :: words64 ((begun opFolioOpen c s).core.clock.chron + 200 * pn c.params 1))
      (onCore (fun k => setFolio slot { id := nextFolioId (begun opFolioOpen c s).core false slot, chain := false, coord := true, state := .opened
                                        words := [], deadline := (begun opFolioOpen c s).core.clock.chron + 200 * pn c.params 1, session := sender c s }
        { k with car := { k.car with folioSerial := nextSerial k.car.folioSerial (2 ^ 14) } }) (begun opFolioOpen c s)))) ∧
  (∀ c s slot id d, accepted opFolioOpen c s = true → pw c.params 0 = 1 → amFree (begun opFolioOpen c s).core.car.folios 64 = some slot →
    id = nextFolioId (begun opFolioOpen c s).core true slot → d = (begun opFolioOpen c s).core.clock.chron + 200 * pn c.params 1 → exec (.folioOpen c) s =
    .next (replied opFolioOpen c stDone (id :: words64 d)
      (onCore (fun k => flood (.announce id d) (setFolio slot { id := id, chain := true, coord := true, state := .opened
                                                                words := [], deadline := d, session := sender c s }
        { k with car := { k.car with folioSerial := nextSerial k.car.folioSerial (2 ^ 14) } })) (begun opFolioOpen c s)))) ∧
  (∀ c s, accepted opFolioOpen c s = true → amFree (begun opFolioOpen c s).core.car.folios 64 = none → exec (.folioOpen c) s =
    .next (replied opFolioOpen c stResource [] (begun opFolioOpen c s))) ∧
  (∀ c s, accepted opFolioStage c s = true → exec (.folioStage c) s = .next (written opFolioStage c (pairList c.params) [] s)) ∧
  (∀ c s e a, accepted opFolioAccede c s = true → ticketLeft opFolioAccede c s = true → slotFolio (begun opFolioAccede c s).core (pw c.params 0) = some e →
    a = accedeTick (begun opFolioAccede c s).core e.2.chain (pn64 c.params 1) → exec (.folioAccede c) s = .next (ticketed opFolioAccede c (.folio e.1)
      (if 1 < (accedeMembers (begun opFolioAccede c s).core e.2.chain c).length then a + 20000 else a) [] (startAccede c) (begun opFolioAccede c s))) ∧
  (∀ c s e, accepted opFolioWithdraw c s = true → slotFolio (begun opFolioWithdraw c s).core (pw c.params 0) = some e → exec (.folioWithdraw c) s =
    .next (replied opFolioWithdraw c stDone [] (onCore (withdrawByHost e.1 e.2) (begun opFolioWithdraw c s)))) ∧
  (∀ c s, accepted opFolioStatusRead c s = true → exec (.folioStatusRead c) s = .next (replied opFolioStatusRead c stDone
    (((begun opFolioStatusRead c s).core.car.folios.filter (fun e => decide (e.1 < 64))).flatMap (fun e =>
      [e.2.id, BitVec.ofNat 32 (folioCode e.2.state * 2 ^ 28 + e.2.reason.toNat * 2 ^ 16), BitVec.ofNat 32 e.2.words.length]
        ++ words64 e.2.acc)) (begun opFolioStatusRead c s)))) ∧ (
  (∀ (id : Word) (d : Nat) (s : State) (slot : Nat), ownNumber s.core ≠ 0 → folioBy s.core id = none → amFree s.core.car.folios 64 = some slot →
    exec (.folioAnnounceReceive id d) s = .next (onCore (setFolio slot
      { id := id, chain := true, coord := false, state := .opened, words := [], deadline := d }) s)) ∧
  (∀ (id : Word) (d : Nat) (s : State), ownNumber s.core ≠ 0 → folioBy s.core id = none → amFree s.core.car.folios 64 = none →
    exec (.folioAnnounceReceive id d) s = .next (onCore (recordCause 0x8FF00110 4) s)) ∧
  (∀ (p : Prepare) (s : State) (e : Nat × Folio), ownNumber s.core ≠ 0 → p.members.contains (BitVec.ofNat 12 (ownNumber s.core)) = true →
    folioBy s.core p.id = some e → e.2.coord = false → e.2.state = .opened →
    exec (.prepareReceive p) s = .next (onCoreMem (fun qdr _ k => prepareFolio qdr e.1 p 0 e.2 k) s)) ∧
  (∀ (p : Prepare) (s : State), ownNumber s.core ≠ 0 → p.members.contains (BitVec.ofNat 12 (ownNumber s.core)) = true →
    folioBy s.core p.id = none → exec (.prepareReceive p) s = .next (onCoreMem (fun qdr _ k => prepareFolio qdr (freePart k) p 0
      { id := p.id, chain := true, coord := false, state := .opened, words := [], deadline := 0 } k) s)) ∧
  (∀ (p : Prepare) (s : State), p.members.contains (BitVec.ofNat 12 (ownNumber s.core)) = false → exec (.prepareReceive p) s = .next s) ∧
  (∀ (id : Word) (s : State) (e : Nat × Folio), folioBy s.core id = some e → e.2.coord = false → unprepared e.2 = true →
    exec (.folioWithdrawalReceive id) s = .next (onCore (resolveFolio e.1) s)) ∧
  (∀ (i : Fin 64) (s : State) (f : Folio), amGet? s.core.car.folios i.val = some f → unprepared f = true → f.deadline < s.core.clock.chron →
    exec (.folioOpenDeadline i) s = .next (onCore (resolveFolio i.val) s)) ∧
  (∀ (i : Fin 64) (s : State) (f : Folio), amGet? s.core.car.folios i.val = some f → s.core.clock.chron ≤ f.deadline →
    exec (.folioOpenDeadline i) s = .next s))

/-- O44. At V a prepared participant votes once, to accede exactly when no row of the refusal table holds, and a chain
vote is flooded; before V nothing happens. A vote that arrives before Q is held. At Q a participant with every
member's accede vote decides to accede, and otherwise withdraws with its reason. At A the first decided folio in order
applies its words and actions and ends acceded, or ends withdrawn with TIMING_READY where timing is not ready. An
outcome received is added to the report, and a report's ticket ends 100 us after A. (Rests on:
spec/03_timing_and_chronicle.md, parts of R83; spec/12_folios_caravan_global.md, parts of R369, R371, R372, R373,
R376, R377, Table FOL-2, Table FOL-3.) -/
def Obligations.FolioOutcomes : Prop :=
  (∀ (slot : Nat) (s : State) (f : Folio) (d : Bool × Core) (code : Nat), amGet? s.core.car.folios slot = some f → f.state = .prepared →
    hasVoted s.core f = false → voteTick f ≤ s.core.clock.chron → d = distributed f s.core → code = voteReason d.2 f d.1 → f.chain = false →
    exec (.folioVote slot) s = .next (onCore (fun k => setFolio slot { f with state := if code = 0 then .voted else .refusing
                                                                              reason := BitVec.ofNat 8 code
                                                                              votes := amSet f.votes (ownNumber k) (code == 0, BitVec.ofNat 8 code) }
      (noteRefusals f (distributed f k).2)) s)) ∧
  (∀ (slot : Nat) (s : State) (f : Folio) (d : Bool × Core) (code : Nat), amGet? s.core.car.folios slot = some f → f.state = .prepared →
    hasVoted s.core f = false → voteTick f ≤ s.core.clock.chron → d = distributed f s.core → code = voteReason d.2 f d.1 → f.chain = true →
    exec (.folioVote slot) s = .next (onCore (fun k => flood (.vote f.id (code == 0) (BitVec.ofNat 8 code)) (setFolio slot
      { f with state := if code = 0 then .voted else .refusing
               reason := BitVec.ofNat 8 code
               votes := amSet f.votes (ownNumber k) (code == 0, BitVec.ofNat 8 code) }
      (noteRefusals f (distributed f k).2))) s)) ∧
  (∀ (slot : Nat) (s : State) (f : Folio), amGet? s.core.car.folios slot = some f → s.core.clock.chron < voteTick f →
    exec (.folioVote slot) s = .next s) ∧
  (∀ (id : Word) (m : BitVec 12) (acc : Bool) (x : Byte) (s : State) (e : Nat × Folio), folioBy s.core id = some e → e.2.state ≠ .decided →
    (unprepared e.2 = true ∨ s.core.clock.chron ≤ decideTick e.2) → m.toNat ≠ ownNumber s.core →
    exec (.voteReceive id m acc x) s = .next (onCore (setFolio e.1 { e.2 with votes := amSet e.2.votes m.toNat (acc, x) }) s)) ∧
  (∀ (slot : Nat) (s : State) (f : Folio), amGet? s.core.car.folios slot = some f → f.state = .voted → f.tombstone = false →
    hasVoted s.core f = true → decideTick f ≤ s.core.clock.chron → accedes f = true →
    exec (.folioDecide slot) s = .next (onCore (setFolio slot { f with state := .decided, decidedAccede := true }) s)) ∧
  (∀ (slot : Nat) (s : State) (f : Folio), amGet? s.core.car.folios slot = some f → (f.state = .voted ∨ f.state = .refusing) → f.tombstone = false →
    hasVoted s.core f = true → decideTick f ≤ s.core.clock.chron → accedes f = false →
    exec (.folioDecide slot) s = .next (onCore (fun k => withdrawFolio slot f (decideReason k f).1 (decideReason k f).2 k) s)) ∧
  (∀ (slot : Nat) (s : State) (f : Folio), amGet? s.core.car.folios slot = some f → f.state = .decided → f.acc ≤ s.core.clock.chron →
    accedesBefore s.core f = false → notTimed s.core f = false → exec (.folioAccession slot) s = .next (onCore (fun k =>
      endFolio slot f true { applyFolio f k with car := { (applyFolio f k).car with lastAcceded := f.id } }) s)) ∧
  (∀ (slot : Nat) (s : State) (f : Folio), amGet? s.core.car.folios slot = some f → f.state = .decided → f.acc ≤ s.core.clock.chron →
    accedesBefore s.core f = false → notTimed s.core f = true → exec (.folioAccession slot) s = .next (onCore (fun k =>
      withdrawFolio slot f 0x0E (ownNumber k) k) s)) ∧
  (∀ (id : Word) (m : BitVec 12) (acc : Bool) (x : Byte) (s : State), exec (.outcomeReceive id m acc x) s =
    .next (onCore (fun k => checkReport id (addOutcome id m.toNat (acc, x) k)) s)) ∧
  (∀ (id : Word) (s : State) (f : Folio), s.core.car.reports.find? (fun g => g.id == id) = some f → f.acc + 20000 ≤ s.core.clock.chron →
    exec (.folioTicketTimeout id) s = .next (onCore (endReport f) s))

/-- O45. GLOBAL_BARRIER, GLOBAL_BROADCAST, GLOBAL_SNAPSHOT and GLOBAL_RESET are ACCEPTED with a ticket, and the module
arrives at the barrier, sends or floods the broadcast, or announces the snapshot or reset; the snapshot's reply
carries its serial too. SNAPSHOT_READ replies the record kept under a serial. CARAVAN_PORT_SET, CARAVAN_ROUTE_SET and
the writes of PORT_CTRL and CARAVAN_ID write their words, at once or into a folio, and CARAVAN_PORT_READ replies seven
registers of the port. An arrival of a numbered module at the root is entered. A release or abandon received completes
this module's barrier ticket with the tick, or with 2. A barrier whose timeout has passed is abandoned by a flood. At
S a module takes its record, keeps the last four, and the root notes its own while another module reports to it. A
completion received at the root is noted. At R a module that is not the root resets itself, and the root completes its
tickets. A broadcast received once is executed, and one received again changes nothing. (Rests on:
spec/12_folios_caravan_global.md, parts of R380, R382, R383, R391, R394, R395, R396, R397, R398, R401.) -/
def Obligations.GlobalCommands : Prop :=
  (
  (∀ c s, accepted opGlobalBarrier c s = true → ticketLeft opGlobalBarrier c s = true → exec (.globalBarrier c) s = .next (ticketed opGlobalBarrier c (.barrier (pn c.params 0)) noTick []
    (fun id => onCore (startBarrier (pn c.params 0) (pn c.params 1) id)) (begun opGlobalBarrier c s))) ∧
  (∀ c s, accepted opGlobalBroadcast c s = true → ticketLeft opGlobalBroadcast c s = true → exec (.globalBroadcast c) s = .next (ticketed opGlobalBroadcast c
    (.broadcast (globalBound (begun opGlobalBroadcast c s).core)) (globalBound (begun opGlobalBroadcast c s).core) []
    (fun _ => onCore (fun k => startBroadcast (innerOp c) (innerCmd k c (sender c s)) k)) (begun opGlobalBroadcast c s))) ∧
  (∀ c s, accepted opGlobalSnapshot c s = true → ticketLeft opGlobalSnapshot c s = true → exec (.globalSnapshot c) s = .next (ticketed opGlobalSnapshot c
    (.snapshot (begun opGlobalSnapshot c s).core.car.snapSerial) (snapTick (begun opGlobalSnapshot c s).core c + 20000) [BitVec.ofNat 32 (begun opGlobalSnapshot c s).core.car.snapSerial]
    (fun id => onCore (startSnapshot (snapTick (begun opGlobalSnapshot c s).core c) id)) (begun opGlobalSnapshot c s))) ∧
  (∀ c s x, accepted opSnapshotRead c s = true → keptSnapshot (begun opSnapshotRead c s).core (pn c.params 0) = some x → exec (.snapshotRead c) s =
    .next (replied opSnapshotRead c stDone x.words (begun opSnapshotRead c s))) ∧
  (∀ c s, accepted opGlobalReset c s = true → ticketLeft opGlobalReset c s = true → exec (.globalReset c) s = .next (ticketed opGlobalReset c (.reset (pn64 c.params 0)) (pn64 c.params 0) []
    (fun id => onCore (startGlobalReset (pn64 c.params 0) (bitList (maskOf (c.params.drop 2) 128) 4096) id)) (begun opGlobalReset c s))) ∧
  (∀ c s, accepted opCaravanPortSet c s = true → exec (.caravanPortSet c) s = .next (written opCaravanPortSet c [(portCtrlOf c, pw c.params 0)] [] s)) ∧
  (∀ c s, accepted opCaravanPortRead c s = true → exec (.caravanPortRead c) s = .next (replied opCaravanPortRead c stDone
    ([4, 8, 0xC, 0x10, 0x14, 0x18, 0x1C].map (fun o => readReg (begun opCaravanPortRead c s).core (portCtrlOf c + o))) (begun opCaravanPortRead c s))) ∧
  (∀ c s, accepted opCaravanRouteSet c s = true → exec (.caravanRouteSet c) s = .next (written opCaravanRouteSet c
    ((regRange (0x83F01000 + 4 * (pn c.params 0 / 8)) (c.params.length - 1)).zip (c.params.drop 1)) [] s)) ∧
  (∀ c s, accepted opPortRetrain c s = true → exec (.portRetrain c) s = .next (written opPortRetrain c (regPairs c) [] s)) ∧
  (∀ c s, accepted opUnbar c s = true → exec (.unbar c) s = .next (written opUnbar c (regPairs c) [] s)) ∧
  (∀ c s, accepted opPortDisable c s = true → exec (.portDisable c) s = .next (written opPortDisable c (regPairs c) [] s)) ∧
  (∀ c s, accepted opModuleNumWrite c s = true → exec (.moduleNumWrite c) s = .next (written opModuleNumWrite c (regPairs c) [] s))) ∧ (
  (∀ (n : Fin 16) (m : BitVec 12) (inc : Word) (d : Nat) (s : State), isRoot s.core = true → m.toNat ≠ 0 →
    exec (.barrierArrivalReceive n m inc d) s = .next (onCore (arriveAt n.val m.toNat inc d) s)) ∧
  (∀ (n : Fin 16) (d : Nat) (b : Bool) (x : Word × Nat × Nat) (s : State), amGet? s.core.car.barrierTickets n.val = some x →
    exec (.barrierReleaseReceive n b d) s = .next (onCore (fun k => completeTicket x.1 stDone (if b = true then 1 :: words64 d else [2])
      { k with car := { k.car with barrierTickets := amErase k.car.barrierTickets n.val } }) s)) ∧
  (∀ (n : Fin 16) (b : Barrier) (s : State), amGet? s.core.car.barriers n.val = some b → b.first + usTicks b.timeout ≤ s.core.clock.uptime →
    exec (.barrierTimeout n) s = .next (onCore (fun k => endBarrier n.val [2] (flood (.barrierRelease n.val false 0)
      { k with car := { k.car with barriers := amErase k.car.barriers n.val } })) s)) ∧
  (∀ (i : BitVec 16) (d : Nat) (s : State), d ≤ s.core.clock.chron → ownNumber s.core ≠ 0 → isRoot s.core = false → ∃ t,
    exec (.snapshotCapture i d) s = .next t ∧ t.core.car.snapRecords
      = (s.core.car.snapRecords ++ [SnapRec.mk i.toNat (snapshotWords i.toNat d s.core)]).drop (s.core.car.snapRecords.length + 1 - 4)
    ∧ t.core.car.outbox = s.core.car.outbox ++ [⟨none, .snapshotDone i.toNat⟩] ∧ sameMemory s t) ∧
  (∀ (i : BitVec 16) (d : Nat) (s : State), d ≤ s.core.clock.chron → ownNumber s.core ≠ 0 → isRoot s.core = true →
    s.core.car.snapPending.contains (i.toNat, d) = true → exec (.snapshotCapture i d) s = .next (onCore (fun k =>
      noteSnapshot i.toNat (ownNumber k) { k with car := { k.car with
        snapPending := k.car.snapPending.filter (· != (i.toNat, d))
        snapRecords := (k.car.snapRecords ++ [SnapRec.mk i.toNat (snapshotWords i.toNat d k)]).drop (k.car.snapRecords.length + 1 - 4) } }) s)) ∧
  (∀ (i : BitVec 16) (m : BitVec 12) (s : State), m.toNat ≠ 0 → exec (.snapshotCompletionReceive i m) s = .next (onCore (fun k =>
    checkSnapshot i.toNat { k with car := { k.car with snapWait := k.car.snapWait.map (fun w =>
      if w.serial = i.toNat then { w with done := m.toNat :: w.done.filter (· != m.toNat) } else w) } }) s)) ∧
  (∀ (d : Nat) (s : State), d ≤ s.core.clock.chron → ownNumber s.core ≠ 0 → isRoot s.core = false →
    exec (.globalResetTick d) s = .next (onCore (requestReset 0) s)) ∧
  (∀ (d : Nat) (s : State), d ≤ s.core.clock.chron → ownNumber s.core ≠ 0 → isRoot s.core = true →
    exec (.globalResetTick d) s = .next (onCore (rootResetTick d) s)) ∧
  (∀ (m : BitVec 12) (i : Word) (op : BitVec 16) (c : Cmd) (s : State), ownNumber s.core ≠ 0 →
    s.core.car.bcastSeen.contains (m.toNat, i) = false → isRoot s.core = false → exec (.broadcastReceive m i op c) s =
    .next (runInner op c (onCore (fun k => { k with car := { k.car with bcastSeen := (m.toNat, i) :: k.car.bcastSeen } }) s))) ∧
  (∀ (m : BitVec 12) (i : Word) (op : BitVec 16) (c : Cmd) (s : State), s.core.car.bcastSeen.contains (m.toNat, i) = true →
    exec (.broadcastReceive m i op c) s = .next s))

/-- O46. A present step of a training port that succeeds leads to the next, a DETECT without signal to VACANT, and the
partner's identity to admission. A failed step starts again, faults or bars the port by its step. A wait that is over
starts training. An intact frame acknowledges, returns credits and hands over its flits when it is next in order; one
that is not intact is answered with NAK. An unacknowledged frame is sent again up to four times, and then, as on
silence, the port leaves ACTIVE. A port ACTIVE for 1 s has its counts at 0. A port that does not train, or is not
ACTIVE, is left as it is. (Rests on: spec/12_folios_caravan_global.md, parts of R380, R381, R382, R384, R385, R386,
Table FOL-8; spec/16_identity_and_security.md, parts of R489, R498.) -/
def Obligations.PortEvents : Prop :=
  (∀ (p : Port) (s : State), portState s.core (portNo p) = 2 → regFld s.core (portReg (portNo p) 4) 27 24 = 1 →
    exec (.linkTraining p (.detect true)) s = .next (onCore (setPortState (portNo p) 2 2) s)
    ∧ exec (.linkTraining p (.detect false)) s = .next (onCore (portVacant (portNo p)) s)) ∧
  (∀ (p : Port) (s : State), portState s.core (portNo p) = 2 → regFld s.core (portReg (portNo p) 4) 27 24 = 2 →
    exec (.linkTraining p .equalised) s = .next (onCore (setPortState (portNo p) 2 3) s)
    ∧ exec (.trainingAttemptFail p .equalise) s = .next (onCore (failStep (portNo p) 2) s)) ∧
  (∀ (p : Port) (s : State), portState s.core (portNo p) = 2 → regFld s.core (portReg (portNo p) 4) 27 24 = 3 →
    exec (.linkTraining p .aligned) s = .next (onCore (setPortState (portNo p) 2 4) s)
    ∧ exec (.trainingAttemptFail p .align) s = .next (onCore (failStep (portNo p) 3) s)) ∧
  (∀ (p : Port) (d : Nat) (s : State), portState s.core (portNo p) = 2 → regFld s.core (portReg (portNo p) 4) 27 24 = 4 →
    exec (.linkTraining p (.delay d)) s = .next (onCore (fun k => setPortState (portNo p) 2 5 (setRegFld (portReg (portNo p) 0x10) 19 0 d k)) s)
    ∧ exec (.trainingAttemptFail p .delay) s = .next (onCore (failStep (portNo p) 4) s)) ∧
  (∀ (p : Port) (q : Partner) (s : State), portState s.core (portNo p) = 2 → regFld s.core (portReg (portNo p) 4) 27 24 = 5 →
    q.number.toNat ≠ ownNumber s.core → exec (.linkTraining p (.identified q)) s = .next (onCore (identifyPartner (portNo p) q) s)) ∧
  (∀ (p : Port) (s : State), portState s.core (portNo p) = 2 → regFld s.core (portReg (portNo p) 4) 27 24 = 6 →
    exec (.trainingAttemptFail p .admission) s = .next (onCore (failAdmission (portNo p)) s)) ∧
  (∀ (p : Port) (i : TrainInfo) (x : TrainStep) (s : State), portState s.core (portNo p) ≠ 2 →
    exec (.linkTraining p i) s = .next s ∧ exec (.trainingAttemptFail p x) s = .next s) ∧
  (∀ (p : Port) (s : State), (portState s.core (portNo p) = 1 ∨ portState s.core (portNo p) = 4 ∨ portState s.core (portNo p) = 5) →
    regBit s.core (portReg (portNo p) 0) 31 = true → (portOf s.core (portNo p)).waitUntil ≤ s.core.clock.uptime →
    exec (.trainingRetry p) s = .next (onCore (startTraining (portNo p)) s)) ∧
  (∀ (p : Port) (f : Frame) (s : State) (x : PortInt), portState s.core (portNo p) = 3 → f.intact = true → f.nak = false →
    x = portOf s.core (portNo p) → f.fseq.toNat = (x.lastGood + 1) % 65536 → exec (.frameReceive p f) s = .next (onCore (fun k =>
      f.classes.foldl (fun acc c => takeFlit (portNo p) c.val acc) (drainHeld (portNo p) (setPort (portNo p)
        (takeCredits f.credits { x with unacked := dropAcked f.fack.toNat x.unacked, lastFrame := k.clock.uptime, lastGood := f.fseq.toNat }) k))) s)) ∧
  (∀ (p : Port) (f : Frame) (s : State), portState s.core (portNo p) = 3 → f.intact = false → exec (.frameReceive p f) s =
    .next (onCore (fun k => { k with car := { k.car with outbox := k.car.outbox
      ++ [⟨some (portNo p), .frame (portOf k (portNo p)).fseq (portOf k (portNo p)).lastGood true⟩] } }) s)) ∧
  (∀ (p : Port) (n sends : Nat) (rest : List (Nat × Nat)) (s : State), portState s.core (portNo p) = 3 →
    (portOf s.core (portNo p)).unacked = (n, sends) :: rest → sends < 4 → exec (.frameResendTimeout p) s = .next (onCore (fun k =>
      countFld (portReg (portNo p) 0x14) 31 0 1 (setPort (portNo p) { portOf k (portNo p) with unacked := (n, sends + 1) :: rest } k)) s)) ∧
  (∀ (p : Port) (n sends : Nat) (rest : List (Nat × Nat)) (s : State), portState s.core (portNo p) = 3 →
    (portOf s.core (portNo p)).unacked = (n, sends) :: rest → 4 ≤ sends → exec (.frameResendTimeout p) s =
    .next (onCore (leaveActive (portNo p) .crc) s)) ∧
  (∀ (p : Port) (s : State), portState s.core (portNo p) = 3 → (portOf s.core (portNo p)).lastFrame + usTicks 10 ≤ s.core.clock.uptime →
    exec (.portSilent p) s = .next (onCore (leaveActive (portNo p) .silent) s)) ∧
  (∀ (p : Port) (s : State), portState s.core (portNo p) = 3 → (portOf s.core (portNo p)).activeSince + msTicks 1000 ≤ s.core.clock.uptime →
    exec (.backoffCountReset p) s = .next (onCore (fun k => setRegFld (portReg (portNo p) 4) 19 16 0
      (setPort (portNo p) { portOf k (portNo p) with faults := 0, bars := 0 } k)) s)) ∧
  (∀ (p : Port) (s : State), portState s.core (portNo p) = 3 → exec (.portLeaveActive p .retrain) s = .next (onCore (fun k =>
      dropPort (portNo p) (startTraining (portNo p) (if portNo p = 2 then losePartner k else k))) s)
    ∧ exec (.portLeaveActive p .crc) s = .next (onCore (fun k => dropPort (portNo p) (recordCause (portReg (portNo p) 0x20) 2
      (portFaulted (portNo p) 7 (if portNo p = 2 then losePartner k else k)))) s)) ∧
  (∀ (p : Port) (x : LeaveCause) (s : State), portState s.core (portNo p) ≠ 3 → exec (.portLeaveActive p x) s = .next s)

/-- O47. A packet that an ACTIVE port hands over frees its receive buffers. A malformed one is dropped and counted. A
well-formed one for this module is delivered once, one for another module with a route is forwarded with one more hop,
and one without a route is dropped as unroutable. One that would exceed 63 hops is malformed. A port that is not
ACTIVE hands over nothing. A packet that has waited 100 us is discarded and counted. (Rests on:
spec/12_folios_caravan_global.md, parts of R384, R387, R388, R389, R390.) -/
def Obligations.PacketEvents : Prop :=
  (∀ (port : Port) (p : Packet) (s : State), portState s.core (portNo port) ≠ 3 → exec (.packetReceive port p) s = .next s) ∧
  (∀ (port : Port) (p : Packet) (s : State) (k : Core), portState s.core (portNo port) = 3 → k = freeFlits (portNo port) (pkClass p) p.flits s.core →
    malformed k (portNo port) p = true → exec (.packetReceive port p) s = .next (onCore (fun _ => noteMalformed (portNo port) k) s)) ∧
  (∀ (port : Port) (p : Packet) (s : State) (k : Core), portState s.core (portNo port) = 3 → k = freeFlits (portNo port) (pkClass p) p.flits s.core →
    malformed k (portNo port) p = false → ownNumber k ≠ 0 → pkKind p ≠ 2 → pkPath p = false → pkDest p = ownNumber k →
    exec (.packetReceive port p) s = .next (onCore (fun _ => { k with car := { k.car with inbox := k.car.inbox ++ [p] } }) s)) ∧
  (∀ (port : Port) (p : Packet) (s : State) (k : Core) (q : Nat), portState s.core (portNo port) = 3 → k = freeFlits (portNo port) (pkClass p) p.flits s.core →
    malformed k (portNo port) p = false → ownNumber k ≠ 0 → pkKind p ≠ 2 → outPort k p = some q → pkHops p ≠ 63 →
    exec (.packetReceive port p) s = .next (onCore (fun _ => forwardOn q (hopped p) k) s)) ∧
  (∀ (port : Port) (p : Packet) (s : State) (k : Core) (q : Nat), portState s.core (portNo port) = 3 → k = freeFlits (portNo port) (pkClass p) p.flits s.core →
    malformed k (portNo port) p = false → ownNumber k ≠ 0 → pkKind p ≠ 2 → outPort k p = some q → pkHops p = 63 →
    exec (.packetReceive port p) s = .next (onCore (fun _ => noteMalformed (portNo port) k) s)) ∧
  (∀ (port : Port) (p : Packet) (s : State) (k : Core), portState s.core (portNo port) = 3 → k = freeFlits (portNo port) (pkClass p) p.flits s.core →
    malformed k (portNo port) p = false → ownNumber k ≠ 0 → pkKind p ≠ 2 → pkPath p = false → outPort k p = none → pkDest p ≠ ownNumber k →
    routeOf k (pkDest p) ≠ 1 → exec (.packetReceive port p) s = .next (onCore (fun _ => unroutable p k) s)) ∧
  (∀ (i : Nat) (e : Nat × Nat × Nat × Packet) (s : State), s.core.car.held[i]? = some e → e.2.2.1 + usTicks 100 ≤ s.core.clock.uptime →
    exec (.stallDrop i) s = .next (onCore (fun k => recordCause 0x83F0001C 3 (countFld 0x83F00014 31 16 1
      { k with car := { k.car with held := k.car.held.eraseIdx i } })) s))

/-- O48. PAIR_FORM and PAIR_HANDOVER are ACCEPTED with a ticket, and the formation or the handover starts.
PAIR_DISSOLVE tells an ACTIVE partner and a named witness and ends the pair. PAIR_STATUS_READ replies PAIR_STATUS,
PAIR_ROLES, PAIR_PHASE, the incarnations, the expiries and PAIR_DIVERGE. PAIR_RESTORE is ACCEPTED with a ticket and
sends the mirror back in packets of 4,096 bytes, and RESTORE_DONE ends it with its result. A partner's FORM is checked
against this member's own where a formation waits for it, and kept otherwise. A formation that has heard no FORM for
100 ms fails with TIMEOUT. At F a formation that has passed names the partner, becomes PAIRED, gives every tenanted
region its incarnation, expiry and role, records PAIRED and completes its ticket with DONE. A witness with room enters
the regions of a REGISTER with expiry F + 40,000 and grants; one without room, or that estimates, refuses; a module
that is no witness does nothing. (Rests on: spec/13_pair_operation.md, parts of R403, R404, R413, R414, R419, R423,
R424, R426, R427, Table PAIR-1, Table PAIR-3; spec/13_pair_operation.md, parts of Table PAIR-7.) -/
def Obligations.PairFormation : Prop :=
  (
  (∀ c s, accepted opPairForm c s = true → ticketLeft opPairForm c s = true → exec (.pairForm c) s = .next (ticketed opPairForm c .pairForm ((begun opPairForm c s).core.clock.chron + 4000) []
    (fun id => onCore (startForming id)) (begun opPairForm c s))) ∧
  (∀ c s, accepted opPairDissolve c s = true → portState (begun opPairDissolve c s).core 2 = 3 → (begun opPairDissolve c s).core.pair.replaced = false → witnessNo (begun opPairDissolve c s).core = 0 →
    exec (.pairDissolve c) s = .next (replied opPairDissolve c stDone [] (onCore (fun k => dissolvePair (sendPort 2 (.dissolve (partnerNo k)) k)) (begun opPairDissolve c s)))) ∧
  (∀ c s, accepted opPairDissolve c s = true → exec (.pairDissolve c) s = .next (replied opPairDissolve c stDone [] (onCore (fun k => dissolvePair
    ((fun k1 => if witnessNo k = 0 then k1 else sendRouted (.dissolve (witnessNo k)) k1)
      (if portState k 2 = 3 ∧ ¬ k.pair.replaced then sendPort 2 (.dissolve (partnerNo k)) k else k))) (begun opPairDissolve c s)))) ∧
  (∀ c s, accepted opPairHandover c s = true → ticketLeft opPairHandover c s = true → exec (.pairHandover c) s = .next (ticketed opPairHandover c (.pairHandover (pn c.params 0))
    (pn64 c.params 1) [] (fun id => onCore (fun k => { k with pair := { k.pair with
      handover := some { ticket := id, tick := pn64 c.params 1, left := wordRegions (pw c.params 0), waits := [] } } })) (begun opPairHandover c s))) ∧
  (∀ c s, accepted opPairStatusRead c s = true → exec (.pairStatusRead c) s = .next (replied opPairStatusRead c stDone (([0x404, 0x408, 0x40C]
    ++ (List.range 8).map (fun r => 0x420 + 4 * r) ++ (List.range 16).map (fun i => 0x440 + 4 * i)
    ++ [0x41C]).map (fun o => readReg (begun opPairStatusRead c s).core (pairReg o))) (begun opPairStatusRead c s))) ∧
  (∀ c s, accepted opPairRestore c s = true → ticketLeft opPairRestore c s = true → exec (.pairRestore c) s = .next (ticketed opPairRestore c .pairRestore
    (readyTick (begun opPairRestore c s).core 2 [(portReg 2 0xF000, 2304 * 65)]) [] (fun _ => onCore (fun k => ((List.range 2304).map (fun i =>
      (4096 * i, mirrorRead (4096 * i) 4096 (begun opPairRestore c s)))).foldl (fun acc e => sendPort 2 (.restore e.1 e.2) acc) k)) (begun opPairRestore c s))) ∧
  (∀ s e, s.core.stw.tickets.find? (fun e => e.2.work == .pairRestore && e.2.status.isNone) = some e → exec .restoreDone s =
    .next (onCore (fun k => completeTicket e.2.id stDone (restoreResult s) (recordCause (pairReg 0x560) 8
      (setRegBit (pairReg 0x404) 22 false { k with pair := { k.pair with restoring := false, resync := true } }))) s))) ∧ (
  (∀ (f : TenFlit) (roles : BitVec 16) (o : OrderCode) (w : Option Nat) (al : Bool) (s : State) (p : PairForming), s.core.pair.forming = some p →
    p.passed = none → exec (.formReceive f roles o w al) s = .next (onCore (fun k => checkForm p
      { f := f, roles := roles.toNat, order := o, witness := w, aligned := al, at_ := k.clock.uptime } k) s)) ∧
  (∀ (f : TenFlit) (roles : BitVec 16) (o : OrderCode) (w : Option Nat) (al : Bool) (s : State), s.core.pair.forming = none →
    exec (.formReceive f roles o w al) s = .next (onCore (fun k =>
      { k with pair := { k.pair with heard := some (FormHeard.mk f roles.toNat o w al k.clock.uptime) } }) s)) ∧
  (∀ (s : State) (p : PairForming), s.core.pair.forming = some p → p.passed = none → p.since + msTicks 100 ≤ s.core.clock.uptime →
    exec .formTimeout s = .next (onCore (failFormation 7 p.ticket) s)) ∧
  (∀ (s : State) (p : PairForming) (d : Nat) (l : List Word) (k1 : Core), s.core.pair.forming = some p → p.passed = some (d, l) → d ≤ s.core.clock.chron →
    k1 = setReg64 (pairReg 0x410) (portOf s.core 2).partnerSerial.toNat (setRegFld (pairReg 0x404) 11 0 (regFld s.core (portReg 2 8) 11 0)
      (setRegFld (pairReg 0x404) 31 24 32 { s.core with pair := { s.core.pair with
        forming := none, replaced := false, mirrorQ := [], mirrorHeader := [], wpWait := [] } })) →
    exec .pairFormation s = .next (onCore (fun _ => completeTicket p.ticket stDone [] (recordCause (pairReg 0x560) 0
      (formMirror ((tenRegions k1).foldl (fun acc r => formRegion d l r acc) k1)))) s)) ∧
  (∀ (s : State) (p : PairForming), s.core.pair.forming = some p → p.passed = none → exec .pairFormation s = .next s) ∧
  (∀ (f : TenFlit) (m : BitVec 12) (s : State), isWitness s.core = true → regBit s.core 0x8FF0000C 2 = false → s.core.pair.witness = [] →
    exec (.registerReceive f m) s = .next (onCore (fun k => (fun k1 => sendRouted (.ten f.src.toNat 0x02
        (witFlit k1 f.src.toNat (maskRegions f.regions.toNat) f.tick)) k1)
      (setRegFld (pairReg 0x570) 6 0 (maskRegions f.regions.toNat).length { k with pair := { k.pair with
        witness := (maskRegions f.regions.toNat).map (fun r => { region := r, a := f.src.toNat, b := m.toNat, holder := f.src.toNat
                                                                 inc := flitInc f r, expiry := f.tick + 40000 }) } })) s)) ∧
  (∀ (f : TenFlit) (m : BitVec 12) (s : State), isWitness s.core = true → regBit s.core 0x8FF0000C 2 = true →
    exec (.registerReceive f m) s = .next (onCore (fun k =>
      sendRouted (.ten f.src.toNat 0x03 (witFlit k f.src.toNat (maskRegions f.regions.toNat) 0)) k) s)) ∧
  (∀ (f : TenFlit) (m : BitVec 12) (s : State), isWitness s.core = false → exec (.registerReceive f m) s = .next s))

/-- O49. Of a tenancy flit only regions of its mask with a role here and an incarnation that is not older than this
member's count; a flit of an older module incarnation of the partner counts for none; and a flit of neither the
partner nor the witness counts for none and changes nothing. At E a region held enters STANDBY and TENANCY_LOST is
recorded, and before E nothing happens. At E_rec + 10,000 a SHADOW region asks the named witness and enters TAKING, or
takes the tenancy where there is none, and before that nothing happens. (Rests on: spec/13_pair_operation.md, parts of
R410, R412, R415.) -/
def Obligations.TenancyRules : Prop :=
  (∀ (f : TenFlit) (k : Core) (r : Nat), r ∈ (openFlit f k).1 →
    f.regions.toNat.testBit r = true ∧ tenRole k r ≠ 0 ∧ olderInc (flitInc f r) (tenInc k r) = false) ∧
  (∀ (f : TenFlit) (k : Core), f.src.toNat ≠ witnessNo k → olderInc f.srcInc (reg k (portReg 2 0xC)) = true → (openFlit f k).1 = []) ∧
  (∀ (f : TenFlit) (k : Core), f.src.toNat ≠ witnessNo k → f.src.toNat ≠ partnerNo k → openFlit f k = ([], k)) ∧
  (∀ (r : Region) (s : State), tenRole s.core r.val = 1 → tenExp s.core r.val ≤ s.core.clock.chron → ∃ t,
    exec (.tenancyExpiry r) s = .next t ∧ causeSet t (pairReg 0x560) 5 = true
      ∧ t = onCore (fun k => recordCause (pairReg 0x560) 5 (enterStandby r.val (voidHandover r.val k))) s) ∧
  (∀ (r : Region) (s : State), s.core.clock.chron < tenExp s.core r.val → exec (.tenancyExpiry r) s = .next s) ∧
  (∀ (r : Region) (s : State), tenRole s.core r.val = 2 → tenExp s.core r.val + 10000 ≤ s.core.clock.chron → witnessNo s.core = 0 →
    exec (.takeoverTimer r) s = .next (onCore (fun k => takeTenancy r.val (k.clock.chron + 40000) k) s)) ∧
  (∀ (r : Region) (s : State), tenRole s.core r.val = 2 → tenExp s.core r.val + 10000 ≤ s.core.clock.chron → witnessNo s.core ≠ 0 →
    exec (.takeoverTimer r) s = .next (onCore (fun k => setRole r.val 3 (askTakeover r.val k)) s)) ∧
  (∀ (r : Region) (s : State), tenRole s.core r.val = 3 → amGetD s.core.pair.asked r.val 0 + 10000 ≤ s.core.clock.chron →
    exec (.takeoverTimer r) s = .next (onCore (askTakeover r.val) s)) ∧
  (∀ (r : Region) (s : State), tenRole s.core r.val = 2 → s.core.clock.chron < tenExp s.core r.val + 10000 →
    exec (.takeoverTimer r) s = .next s)

/-- O50. At a renewal tick a pair shows whether its witness answered, and its holder sends one RENEW for the regions
it holds with the expiry 40,000 ticks on. A RENEW, TAKEOVER_REQ or TAKEN at a witness is served against its entries.
At the partner a RENEW of the current module incarnation is granted for the regions that it neither holds nor takes
over, and refused for the others. A GRANT with the current incarnation extends the expiry of a region held, a REFUSE
returns a region in TAKING to SHADOW, and a region takes on a RELINQUISH in SHADOW or TAKING, on a HANDOVER in SHADOW
and on a TAKEOVER_GRANT in TAKING; a higher incarnation is learnt. At the boundary of a handover the holder enters
SHADOW and sends HANDOVER. (Rests on: spec/13_pair_operation.md, parts of R409, R412, R413, R414, R415, Table PAIR-3.)
-/
def Obligations.TenancyFlits : Prop :=
  (∀ s : State, s.core.clock.chron % 10000 = 0 → pairState s.core ≠ 0 → heldRegions (setRegBit (pairReg 0x404) 20 s.core.pair.witnessHeard s.core) = [] →
    exec .renewSend s = .next (onCore (fun k => setRegBit (pairReg 0x404) 20 k.pair.witnessHeard { k with pair := { k.pair with witnessHeard := false } }) s)) ∧
  (∀ (s : State) (k1 : Core), s.core.clock.chron % 10000 = 0 → pairState s.core ≠ 0 →
    k1 = setRegBit (pairReg 0x404) 20 s.core.pair.witnessHeard { s.core with pair := { s.core.pair with witnessHeard := false } } →
    heldRegions k1 ≠ [] → exec .renewSend s = .next (onCore (fun _ => tenBoth 0x01 (tenFlit k1 (heldRegions k1) (k1.clock.chron + 40000)) k1) s)) ∧
  (∀ s : State, s.core.clock.chron % 10000 ≠ 0 → exec .renewSend s = .next s) ∧
  (∀ (f : TenFlit) (s : State), exec (.renewReceive f true) s = .next (onCore (witRenew f) s)) ∧
  (∀ (f : TenFlit) (s : State) (k1 : Core), f.src.toNat = partnerNo s.core → s.core.pair.replaced = false →
    olderInc f.srcInc (reg s.core (portReg 2 0xC)) = false →
    k1 = (openFlit f s.core).1.foldl (fun acc r => learnInc f r (clash f r acc)) (openFlit f s.core).2 →
    (openFlit f s.core).1.filter (fun r => tenRole s.core r != 1 && tenRole s.core r != 3) = [] →
    (maskRegions f.regions.toNat) ≠ [] →
    exec (.renewReceive f false) s = .next (onCore (fun _ => tenPartner 0x03 (tenFlit k1 (maskRegions f.regions.toNat) 0) k1) s)) ∧
  (∀ (f : TenFlit) (s : State) (k2 : Core) (g : List Nat), f.src.toNat = partnerNo s.core → s.core.pair.replaced = false →
    olderInc f.srcInc (reg s.core (portReg 2 0xC)) = false →
    g = (openFlit f s.core).1.filter (fun r => tenRole s.core r != 1 && tenRole s.core r != 3) → g ≠ [] →
    (maskRegions f.regions.toNat).filter (fun r => !g.contains r) = [] →
    k2 = g.foldl (fun acc r => setTenExp r (max (tenExp acc r) f.tick) acc)
      ((openFlit f s.core).1.foldl (fun acc r => learnInc f r (clash f r acc)) (openFlit f s.core).2) →
    exec (.renewReceive f false) s = .next (onCore (fun _ => tenPartner 0x02 (tenFlit k2 g f.tick) k2) s)) ∧
  (∀ (f : TenFlit) (s : State), exec (.grantReceive f) s = .next (onCore (fun k => (openFlit f k).1.foldl (fun acc r =>
    if tenRole acc r = 1 ∧ flitInc f r = tenInc acc r then setTenExp r (max (tenExp acc r) f.tick) acc else learnInc f r acc) (openFlit f k).2) s)) ∧
  (∀ (f : TenFlit) (s : State), exec (.refuseReceive f) s = .next (onCore (fun k => (openFlit f k).1.foldl (fun acc r =>
    if tenRole (learnInc f r acc) r = 3 then enterShadow r (learnInc f r acc) else learnInc f r acc) (openFlit f k).2) s)) ∧
  (∀ (f : TenFlit) (s : State), exec (.relinquishReceive f) s = .next (onCore (fun k => (openFlit f k).1.foldl (fun acc r =>
    if [2, 3].contains (tenRole acc r) ∧ flitInc f r = tenInc acc r then takeTenancy r (acc.clock.chron + 40000) acc
    else learnInc f r acc) (openFlit f k).2) s)) ∧
  (∀ (f : TenFlit) (s : State), exec (.handoverReceive f) s = .next (onCore (fun k => (openFlit f k).1.foldl (fun acc r =>
    if [2].contains (tenRole acc r) ∧ flitInc f r = tenInc acc r then takeTenancy r (acc.clock.chron + 40000) acc
    else learnInc f r acc) (openFlit f k).2) s)) ∧
  (∀ (f : TenFlit) (s : State), exec (.takeoverGrantReceive f) s = .next (onCore (fun k => (openFlit f k).1.foldl (fun acc r =>
    if tenRole acc r = 3 then takeTenancy r f.tick acc else learnInc f r acc) (openFlit f k).2) s)) ∧
  (∀ (f : TenFlit) (s : State), exec (.takeoverReqReceive f) s = .next (onCore (witTakeover f) s)) ∧
  (∀ (f : TenFlit) (s : State), exec (.takenReceive f true) s = .next (onCore (witTaken f) s)
    ∧ exec (.takenReceive f false) s = .next (onCore (partnerTaken f) s)) ∧
  (∀ (r : Region) (s : State) (h : Handover) (k1 : Core), s.core.pair.handover = some h → h.left.contains r.val = true → h.tick ≤ s.core.clock.chron →
    tenRole s.core r.val = 1 → k1 = enterShadow r.val { s.core with pair := { s.core.pair with
      handover := some { h with left := h.left.filter (· != r.val), waits := r.val :: h.waits.filter (· != r.val) } } } →
    exec (.handoverBoundary r) s = .next (onCore (fun _ => tenPartner 0x08 (tenFlit k1 [r.val] h.tick) k1) s)) ∧
  (∀ (r : Region) (s : State), s.core.pair.handover = none → exec (.handoverBoundary r) s = .next s)

/-- O51. A STANDBY region that runs with a newest waypoint record equal to the partner's, and without a divergence,
returns to SHADOW. A checkpoint that is stored copies the oldest staged 256 bytes of its region to the ring in the
archive and counts it; one that is not stored is dropped. A mirror packet of a member of the pair writes its bytes at
their offset, and its header shows in PAIR_STATUS; one of an older incarnation is counted and discarded, and one
outside the area changes nothing. The next packet of the mirror's queue leaves on T. A resynchronised mirror is
recorded at both ends. (Rests on: spec/13_pair_operation.md, parts of R416, R418, R419, R420, R421, Table PAIR-6.) -/
def Obligations.MirrorEvents : Prop :=
  (∀ (r : Region) (x : Word) (b d : Nat) (s : State) (w : List Word), w = slotWords s.qdr s.core r.val (newestSlot s.core r.val) →
    tenRole s.core r.val = 4 → regionRuns s.core r.val = true → pw w 1 = x → pn64 w 2 = b → pn64 w 4 = d →
    exec (.resynchronisation r x b d false) s = .next (onCore (enterShadow r.val) s)) ∧
  (∀ (r : Region) (x : Word) (b d : Nat) (s : State), exec (.resynchronisation r x b d true) s = .next s) ∧
  (∀ (r : Region) (s : State) (e : Nat × Nat) (n : Nat), s.core.pair.ckpt.find? (fun e => e.1 == r.val) = some e →
    n = (reg s.core (pairReg (0x520 + 4 * r.val))).toNat → exec (.checkpointCopy r true) s =
    .next (onCore (setReg (pairReg (0x520 + 4 * r.val)) (BitVec.ofNat 32 (n + 1)))
      (writeArc (ckptAddr s.core r.val n) (readBytes s.qdr (qdrKey r.val (stageAddr s.core r.val e.2)) 256)
        (onCore (fun k => { k with pair := { k.pair with ckpt := k.pair.ckpt.erase e } }) s)))) ∧
  (∀ (r : Region) (s : State) (e : Nat × Nat), s.core.pair.ckpt.find? (fun e => e.1 == r.val) = some e → exec (.checkpointCopy r false) s =
    .next (onCore (fun k => { k with pair := { k.pair with ckpt := k.pair.ckpt.erase e } }) s)) ∧
  (∀ (i : Word) (off : Nat) (l : List Byte) (s : State), pairState s.core = 2 → s.core.pair.replaced = false → s.core.pair.restoring = false →
    l.length % 16 = 0 → l.length ≠ 0 → l.length ≤ 4096 → off + l.length ≤ 9437184 → regBit s.core (pairReg 0x404) 23 = false →
    exec (.mirrorReceive i off l) s = .next (onCore (noteHeader off l) (mirrorWrite off l s))) ∧
  (∀ (i : Word) (off : Nat) (l : List Byte) (s : State), pairState s.core = 2 → s.core.pair.replaced = false → s.core.pair.restoring = false →
    l.length % 16 = 0 → l.length ≠ 0 → l.length ≤ 4096 → off + l.length ≤ 9437184 → regBit s.core (pairReg 0x404) 23 = true →
    olderInc i (wordOf (mirrorRead 4 4 s)) = true → exec (.mirrorReceive i off l) s = .next (onCore (countFld (pairReg 0x418) 31 0 1) s)) ∧
  (∀ (i : Word) (off : Nat) (l : List Byte) (s : State), pairState s.core = 2 → s.core.pair.replaced = false → s.core.pair.restoring = false →
    9437184 < off + l.length → exec (.mirrorReceive i off l) s = .next s) ∧
  (∀ (s : State) (off : Nat) (l : List Byte) (rest : List (Nat × List Byte)), mirroring s.core = true → s.core.pair.wpWait = [] → s.core.pair.resync = false →
    s.core.pair.mirrorQ = (off, l) :: rest → exec .mirrorSend s = .next (onCore (fun k => sendPort 2 (.mirror off l)
      (setReg (pairReg 0x50C) (BitVec.ofNat 32 rest.length) { k with pair := { k.pair with
        mirrorQ := rest, mirrorHeader := if off = 0 then l else k.pair.mirrorHeader } })) s)) ∧
  (∀ s : State, pairState s.core = 2 → regBit s.core (pairReg 0x404) 21 = true → exec (.mirrorResync true) s =
    .next (onCore (recordCause (pairReg 0x560) 7) s)) ∧
  (∀ s : State, mirroring s.core = true → s.core.pair.resync = true → s.core.pair.mirrorQ = [] →
    (s.core.pair.mirrorHeader.getD 0 1).getLsbD 0 = false → exec (.mirrorResync false) s = .next (onCore (fun k => recordCause (pairReg 0x560) 7
      (setReg (pairReg 0x50C) (BitVec.ofNat 32 (resendPackets k).length)
        { k with pair := { k.pair with mirrorQ := resendPackets k, resync := false } })) s))

/-- O52. POWER_STATE and MODULE_RESET are ACCEPTED with a ticket and make their request. POWER_STATUS_READ replies the
power registers. POWER_RAIL_MAP_SET writes the seven words of the rail map. A request for the current target completes
at once with no transition running, any other queues, and an earlier queued one is then superseded. A reset waits with
its ticket and raises a wake. RAIL_ACK of the request in progress gives its rail the state wanted and sends the next.
RAIL_TIMEOUT after its time leaves the rail as it was with TIMEOUT set and cause 4, and goes on; during a start-up a
rail wanted on fails the start, and otherwise its domains lose power. PMB_ALERT marks and contains every commanded
rail named that is not off, but never VCORE. VCORE_ADJUST in Awake, by at most 10 mV and once per ms, requests VCORE
at its value. PORST_RISE begins a start-up in a module held in Off. PORST_FALL and VAON_DROP leave the module cold,
the memories empty. (Rests on: spec/14_power_and_startup.md, parts of R436, R437, R438, R443, R449, R450, R451, R452,
R453, R454, R455, R456, R457; spec/14_power_and_startup.md, parts of R458, Table PWR-6;
spec/18_electrical_mechanical.md, parts of R531.) -/
def Obligations.PowerAndRails : Prop :=
  (
  (∀ c s, accepted opPowerState c s = true → ticketLeft opPowerState c s = true → exec (.powerState c) s = .next (ticketed opPowerState c .power noTick []
    (fun id => onCore (requestPower (powerTarget c) id)) (begun opPowerState c s))) ∧
  (∀ c s, accepted opPowerStatusRead c s = true → exec (.powerStatusRead c) s = .next (replied opPowerStatusRead c stDone (([0, 8, 0xC, 0x10]
    ++ (List.range 10).map (fun w => 0x20 + 4 * w) ++ [0x50, 0x80, 0x14]).map (fun o => readReg (begun opPowerStatusRead c s).core (pwrReg o))) (begun opPowerStatusRead c s))) ∧
  (∀ c s, accepted opPowerRailMapSet c s = true → exec (.powerRailMapSet c) s = .next (replied opPowerRailMapSet c stDone [] (onCore (fun k =>
    (List.range 7).foldl (fun acc i => setReg (pwrReg (0x60 + 4 * i)) (pw c.params i) acc) k) (begun opPowerRailMapSet c s)))) ∧
  (∀ c s, accepted opModuleReset c s = true → ticketLeft opModuleReset c s = true → exec (.moduleReset c) s = .next (ticketed opModuleReset c .moduleReset noTick []
    (fun id => onCore (requestReset id)) (begun opModuleReset c s))) ∧
  (∀ (x : PowerTarget) (id : Word) (k : Core), x = currentTarget k → k.pwr.queued = none → k.pwr.run = none →
    requestPower x id k = endPowerTickets [id] 1 x k) ∧
  (∀ (x : PowerTarget) (id : Word) (k : Core) (q : PowerReq) (p : Transition), x ≠ currentTarget k → k.pwr.queued = some q →
    (endPowerTickets [q.ticket] 2 q.target k).pwr.run = some p → requestPower x id k = showPower { endPowerTickets [q.ticket] 2 q.target k with
      pwr := { (endPowerTickets [q.ticket] 2 q.target k).pwr with queued := some { target := x, ticket := id } } }) ∧
  (∀ (id : Word) (k : Core), k.pwr.queued = none → requestReset id k = raiseWake 5 0 { k with pwr := { k.pwr with
    reset := some ((k.pwr.reset.getD []) ++ [id]) } })) ∧ (
  (∀ (n : Fin 7) (q : RailReq) (rest : List RailReq) (s : State), s.core.pwr.rails = q :: rest → q.rail = n.val →
    exec (.railAck n) s = .next (afterRails (onCore (fun k => popRail (setRail n.val q.want k)) s))) ∧
  (∀ (n : Fin 7) (s : State), s.core.pwr.rails = [] → exec (.railAck n) s = .next s ∧ exec (.railTimeout n) s = .next s) ∧
  (∀ (n : Fin 7) (q : RailReq) (rest : List RailReq) (s : State), s.core.pwr.rails = q :: rest → q.rail = n.val →
    q.since + 4000 * regFld s.core (pwrReg 0x58) 15 0 ≤ s.core.clock.uptime → q.want ≠ 2 → exec (.railTimeout n) s =
    .next (afterRails (onCore (fun k => popRail (recordCause (pwrReg 0x88) 4 (setRegBit (pwrReg 0x50) (4 * n.val + 2) true (setRail n.val q.was k)))) s))) ∧
  (∀ (n : Fin 7) (q : RailReq) (rest : List RailReq) (s : State) (y : Startup), s.core.pwr.rails = q :: rest → q.rail = n.val →
    q.since + 4000 * regFld s.core (pwrReg 0x58) 15 0 ≤ s.core.clock.uptime → q.want = 2 → s.core.pwr.startup = some y → y.step ≤ 2 →
    exec (.railTimeout n) s = .next (onCore (fun k => startFails (recordCause (pwrReg 0x88) 4
      (setRegBit (pwrReg 0x50) (4 * n.val + 2) true (setRail n.val q.was k)))) s)) ∧
  (∀ (n : Fin 7) (q : RailReq) (rest : List RailReq) (s : State), s.core.pwr.rails = q :: rest → q.rail = n.val →
    q.since + 4000 * regFld s.core (pwrReg 0x58) 15 0 ≤ s.core.clock.uptime → q.want = 2 → s.core.pwr.startup = none →
    exec (.railTimeout n) s = .next (afterRails (onCore (fun k => popRail (railLost n.val (recordCause (pwrReg 0x88) 4
      (setRegBit (pwrReg 0x50) (4 * n.val + 2) true (setRail n.val q.was k))))) s))) ∧
  (∀ (m : BitVec 7) (s : State), exec (.pmbAlert m) s = .next (onCore (fun k =>
    ((bitList m.toNat 7).filter (fun n => n != 0 && railCommanded k n && railState k n != 0)).foldl (fun acc n =>
      railLost n (recordCause (pwrReg 0x88) 3 (setRegBit (pwrReg 0x50) (4 * n + 3) true acc))) k) s)) ∧
  (∀ (mv now : Nat) (s : State), now = regFld s.core (pwrReg 0x54) 9 0 → powerState s.core = 3 → s.core.pwr.run = none → s.core.pwr.startup = none →
    s.core.pwr.rails = [] → railCommanded s.core 0 = true → 650 ≤ mv → mv ≤ 850 → mv % 5 = 0 → mv ≠ now → mv ≤ now + 10 → now ≤ mv + 10 →
    s.core.pwr.vcoreAt + msTicks 1 ≤ s.core.clock.uptime → exec (.vcoreAdjust mv) s = .next (onCore (fun k => sendRail { k with pwr := { k.pwr with
      vcoreAwake := mv, vcoreAt := k.clock.uptime, rails := [{ rail := 0, want := 2, was := 2, since := 0 }] } }) s)) ∧
  (∀ (mv : Nat) (s : State), (mv < 650 ∨ 850 < mv ∨ regFld s.core (pwrReg 0x54) 9 0 + 10 < mv) → exec (.vcoreAdjust mv) s = .next s) ∧
  (∀ s : State, s.core.pwr.porst = false → exec .porstRise s = .next (onCore (fun k => { k with pwr := { k.pwr with
    porst := true, rails := [], failedStarts := 0, startup := some ⟨0, k.clock.uptime⟩ } }) s)) ∧
  (∀ s : State, s.core.pwr.porst = true → ∃ t, exec .porstFall s = .next t ∧ t.qdr = [] ∧ t.arc = [] ∧ t.pending = s.pending
    ∧ t.core = railsOff { coldCore true s.core with pwr := { (coldCore true s.core).pwr with porst := false, rails := [] } }) ∧
  (∀ s : State, ∃ t, exec .vaonDrop s = .next t ∧ t.qdr = [] ∧ t.arc = [] ∧ t.pending = s.pending
    ∧ t.core = setReg (pwrReg 0x50) 0 { coldCore false s.core with pwr := { (coldCore false s.core).pwr with porst := false, rails := [], vaonLost := true } }))

/-- O53. DOZE_ENTRY_STEP and SLUMBER_ENTRY_STEP take the next step of a running entry: the channels stop, the pins
park, and Doze is reached, or Slumber is saved, reached and entered. OFF_ENTRY_BACKING_COPY copies the Strongroom and
goes on to the rails of Off. ENTRY_ABORT of a waiting wake undoes an entry that has not passed its last abort point.
DOZE_EXIT returns to Awake. WAKE_QUALIFIED records a qualified wake in Awake, and raises a wake otherwise. WAKE_EVENT
of a source that stands raises its wake. STORE_INTERRUPTED ends a store at a reset or a deep entry. Without a
transition no step does anything. (Rests on: spec/08_comparator_network.md, parts of R256;
spec/14_power_and_startup.md, parts of R439, R440, R441, R442, R443, Table PWR-7A, Table PWR-7B;
spec/15_calibration.md, parts of R476.) -/
def Obligations.PowerEntries : Prop :=
  (∀ (s : State) (x : Transition), s.core.pwr.run = some x → x.target.state = 2 → powerState s.core = 3 → powerStep s.core = 0 →
    exec .dozeEntryStep s = .next (onCore (entryStopsChannels false) s)) ∧
  (∀ (s : State) (x : Transition), s.core.pwr.run = some x → x.target.state = 2 → powerState s.core = 3 → powerStep s.core = 1 →
    wakeWaits s.core = false → wakeWaits (entryPins 2 s.core) = false →
    exec .dozeEntryStep s = .next (onCore (fun k => dozeReached x (entryPins 2 k)) s)) ∧
  (∀ s : State, s.core.pwr.run = none → exec .dozeEntryStep s = .next s ∧ exec .slumberEntryStep s = .next s ∧ exec .dozeExit s = .next s
    ∧ exec .entryAbort s = .next s) ∧
  (∀ (s : State) (x : Transition), s.core.pwr.run = some x → x.target.state ≤ 1 → entryRuns s.core = true → powerStep s.core = 0 →
    exec .slumberEntryStep s = .next (onCore (entryStopsChannels true) s)) ∧
  (∀ (s : State) (x : Transition), s.core.pwr.run = some x → x.target.state ≤ 1 → entryRuns s.core = true → wakeWaits s.core = false → powerStep s.core = 1 →
    exec .slumberEntryStep s = .next (onCore (entryPins 3) s)) ∧
  (∀ (s : State) (x : Transition), s.core.pwr.run = some x → x.target.state ≤ 1 → entryRuns s.core = true → wakeWaits s.core = false → powerStep s.core = 2 →
    exec .slumberEntryStep s = .next (onCore (entryStep3 x) s)) ∧
  (∀ (s : State) (x : Transition), s.core.pwr.run = some x → x.target.state = 1 → entryRuns s.core = true → x.passed = true → powerStep s.core = 3 →
    exec .slumberEntryStep s = .next (onCore (entrySleeps x) s)) ∧
  (∀ (s : State) (x : Transition), s.core.pwr.run = some x → x.target.state = 0 → powerStep s.core = 3 → x.passed = false → wakeWaits s.core = false →
    exec .offEntryBackingCopy s = .next (afterRails (onCore (fun k =>
      requestRails [(6, 0), (5, 0), (4, 0), (3, 0), (2, 0), (1, 0), (0, 0)] (refreshAllBlocks (setDomains x.target (setPowerStep 4
        (sleepClock (opPcieLinkDown (entryReached x (backingCopy k)))))))) s))) ∧
  (∀ (s : State) (x : Transition), s.core.pwr.run = some x → entryRuns s.core = true → x.passed = false → wakeWaits s.core = true →
    (powerStep s.core = 1 ∨ powerStep s.core = 2) → x.prior.state ≠ 3 → exec .entryAbort s = .next (onCore (fun k => nextTransition
      (recordCause (pwrReg 0x88) 1 (endPowerTickets x.tickets 4 x.target (refreshAllBlocks (reachTarget x.prior
        { k with pwr := { k.pwr with parked := 0, gated := false, run := none } }))))) s)) ∧
  (∀ (s : State) (x : Transition), s.core.pwr.run = some x → x.passed = true → exec .entryAbort s = .next s) ∧
  (∀ (s : State) (x : Transition), s.core.pwr.run = some x → x.target.state = 3 → powerState s.core = 2 → exec .dozeExit s = .next (onCore (fun k =>
    endWake x ((List.range 64).foldl (fun acc b => if heldBlock x.target b then acc else restartChannels b acc) (changeHeld x.target k))) s)) ∧
  (∀ (b : Block) (s : State), blockWake s.core b.val = true → s.core.wakeRaised.contains b.val = false → 2 ≤ domState s.core (2 * b.val) →
    blockStopped s.core b.val = false → powerState s.core = 3 → s.core.pwr.run = none → exec (.wakeQualified b) s = .next (onCore (fun k =>
      recordCause (blockReg b.val 0x704) 2 { k with wakeRaised := b.val :: k.wakeRaised }) s)) ∧
  (∀ (b : Block) (s : State), blockWake s.core b.val = true → s.core.wakeRaised.contains b.val = false → 2 ≤ domState s.core (2 * b.val) →
    blockStopped s.core b.val = false → powerState s.core = 2 → exec (.wakeQualified b) s = .next (onCore (fun k =>
      raiseWake 1 b.val { k with wakeRaised := b.val :: k.wakeRaised }) s)) ∧
  (∀ s : State, wakeStands s.core .hostCommand = true → powerState s.core = 1 → exec (.wakeEvent .hostCommand) s = .next (onCore (raiseWake 2 0) s)) ∧
  (∀ s : State, wakeStands s.core .caravanCommand = true → powerState s.core = 1 → exec (.wakeEvent .caravanCommand) s = .next (onCore (raiseWake 3 0) s)) ∧
  (∀ (w : WakeSource) (s : State), wakeStands s.core w = false → exec (.wakeEvent w) s = .next s) ∧
  (∀ s : State, s.core.pwr.reset.isSome = true → exec .storeInterrupted s = .next (onCore interruptStore s)) ∧
  (∀ s : State, s.core.pwr.reset = none → s.core.pwr.run = none → exec .storeInterrupted s = .next s)

/-- O54. STARTUP_STEP takes the next step of a start-up: rails, slots, boot, training 64 ms after good rails, stacks,
link and restore. The Caravan wait ends after 314 ms or with no port training, READY ends step 9, and a start that
failed begins again 1 s later up to three times. WAKE_STEP takes the next step of a wake from Slumber once its rails
have settled. MODULE_RESET_STEP in Awake takes the next of the four steps of a reset. Without a start-up, a wake or a
reset no step does anything. (Rests on: spec/14_power_and_startup.md, parts of R444, R445, R446, R447, R454, R455,
R457, Table PWR-7B, Table PWR-9; spec/17_errors_and_containment.md, parts of R510, R513.) -/
def Obligations.StartAndWake : Prop :=
  (∀ (x : StartupInputs) (s : State) (y : Startup), s.core.pwr.startup = some y →
    (y.step = 0 → exec (.startupStep x) s = .next (afterRails (onCore startRails s)))
    ∧ (y.step = 2 → exec (.startupStep x) s = .next (onCore (fun k => startAt 3 (slotSelection k)) s))
    ∧ (y.step = 3 → exec (.startupStep x) s = .next (onCore startBoot s))
    ∧ (y.step = 4 → y.since + msTicks 64 ≤ s.core.clock.uptime → exec (.startupStep x) s = .next (onCore startTrain s))
    ∧ (y.step = 6 → exec (.startupStep x) s = .next (onCore (startStacks x.failedStacks) s))
    ∧ (y.step = 7 → exec (.startupStep x) s = .next (onCore (fun k => startAt 8 { k with stw := { k.stw with linkUp := k.stw.perst } }) s))
    ∧ (y.step = 8 → exec (.startupStep x) s = .next (onCore (startRestore x.failedPages) s))) ∧
  (∀ (x : StartupInputs) (s : State), s.core.pwr.startup = none → exec (.startupStep x) s = .next s ∧ exec .startupCaravanWaitEnd s = .next s
    ∧ exec .startupRetry s = .next s ∧ exec .ready s = .next s) ∧
  (∀ (s : State) (y : Startup), s.core.pwr.startup = some y → y.step = 5 → y.since + msTicks 314 ≤ s.core.clock.uptime →
    exec .startupCaravanWaitEnd s = .next (onCore (startAt 6) s)) ∧
  (∀ (s : State) (y : Startup), s.core.pwr.startup = some y → y.step = 9 → exec .ready s = .next (onCore (fun k =>
    recordCause (pwrReg 0x88) 6 (setRegBit (pwrReg 0) 19 true { k with pwr := { k.pwr with startup := none, vaonLost := false } })) s)) ∧
  (∀ (s : State) (y : Startup), s.core.pwr.startup = some y → y.step = 10 → s.core.pwr.failedStarts < 3 → s.core.pwr.rails = [] →
    y.since + msTicks 1000 ≤ s.core.clock.uptime → exec .startupRetry s = .next (onCore (fun k =>
      { k with pwr := { k.pwr with startup := some ⟨0, k.clock.uptime⟩ } }) s)) ∧
  (∀ (l : List Word) (s : State) (x : Transition), s.core.pwr.run = some x → 2 ≤ x.target.state → powerState s.core = 1 →
    (powerStep s.core = 0 → exec (.wakeStep l) s = .next (onCore (wakeStep1 x) s))
    ∧ (powerStep s.core = 1 → railsSettled s.core [0] = true → exec (.wakeStep l) s = .next (onCore (wakeStep3 l x) s))
    ∧ (powerStep s.core = 3 → railsSettled s.core [3] = true → exec (.wakeStep l) s = .next (wakeStep4 x s))
    ∧ (powerStep s.core = 4 → railsSettled s.core [4, 5, 6] = true → exec (.wakeStep l) s = .next (onCore (wakeStep5 x) s))
    ∧ (powerStep s.core = 5 → timingBack x s.core = true → exec (.wakeStep l) s = .next (onCore (setPowerStep 6) s))
    ∧ (powerStep s.core = 6 → exec (.wakeStep l) s = .next (onCore (wakeStep7 x) s))) ∧
  (∀ (l : List Word) (s : State), s.core.pwr.run = none → exec (.wakeStep l) s = .next s) ∧
  (∀ s : State, s.core.pwr.reset.isSome = true → powerState s.core = 3 → s.core.pwr.run = none → s.core.pwr.startup = none →
    (s.core.pwr.resetStep = 0 → exec .moduleResetStep s = .next (onCore resetStep1 s))
    ∧ (s.core.pwr.resetStep = 1 → s.core.pwr.rails = [] → exec .moduleResetStep s = .next (onCore resetCore s))
    ∧ (s.core.pwr.resetStep = 2 → exec .moduleResetStep s = .next (onCore resetSessions s))
    ∧ (s.core.pwr.resetStep = 3 → exec .moduleResetStep s = .next (resetDone s))) ∧
  (∀ s : State, s.core.pwr.reset = none → exec .moduleResetStep s = .next s)

/-- O55. SELFCAL opens a ticket due 48 ms on and starts in its blocks. CAL_STATUS_READ replies CAL_STATUS,
CAL_SLOT_STATE, CAL_BG_CTRL, CAL_REJECT_TOTAL and the stale and default words of the 64 blocks. CAL_BG_SET writes or
stages CAL_BG_CTRL. CAL_RECORD_READ replies the bytes of a record as stored. CAL_STORE opens a ticket due 301 ms on
and starts in the lowest free slot; with none free it is refused with RESOURCE and records NO_SLOT. CAL_REVERT loads
the valid quantities of the slot in every block, sets ACTIVE_SLOT and clears NOT_STORED. (Rests on:
spec/15_calibration.md, parts of R462, R463, R467, R473, R475, R480, R481, R482, Table CAL-10.) -/
def Obligations.CalibrationCommands : Prop :=
  (∀ c s, accepted opSelfcal c s = true → ticketLeft opSelfcal c s = true → exec (.selfcal c) s = .next (ticketed opSelfcal c .selfcal ((begun opSelfcal c s).core.clock.chron + msTicks 48) []
    (fun id => onCore (startSelfcal (selfcalBlocks (begun opSelfcal c s).core (pn64 c.params 0)) id)) (begun opSelfcal c s))) ∧
  (∀ c s, accepted opCalStatusRead c s = true → exec (.calStatusRead c) s = .next (replied opCalStatusRead c stDone
    ([0x8DF00000, 0x8DF00004, 0x8DF00008, 0x8DF0000C].map (readReg (begun opCalStatusRead c s).core) ++ (List.range 64).flatMap (fun b =>
      [readReg (begun opCalStatusRead c s).core (blockReg b 0xB04), readReg (begun opCalStatusRead c s).core (blockReg b 0xB0C)])) (begun opCalStatusRead c s))) ∧
  (∀ c s, accepted opCalBgSet c s = true → exec (.calBgSet c) s = .next (written opCalBgSet c [(0x8DF00008, pw c.params 0)] [] s)) ∧
  (∀ c s, accepted opCalRecordRead c s = true → exec (.calRecordRead c) s = .next (replied opCalRecordRead c stDone
    (recordPart (begun opCalRecordRead c s).core (pn c.params 0) (pn c.params 1) (pn c.params 2)) (begun opCalRecordRead c s))) ∧
  (∀ c s n, accepted opCalStore c s = true → ticketLeft opCalStore c s = true → (freeSlots (begun opCalStore c s).core).head? = some n → exec (.calStore c) s =
    .next (ticketed opCalStore c .calStore ((begun opCalStore c s).core.clock.chron + msTicks 301) [] (fun id => onCore (startStore n id)) (begun opCalStore c s))) ∧
  (∀ c s, accepted opCalStore c s = true → freeSlots (begun opCalStore c s).core = [] → exec (.calStore c) s =
    .next (replied opCalStore c stResource [] (onCore (recordCause 0x8DF00010 5) (begun opCalStore c s)))) ∧
  (∀ c s, accepted opCalRevert c s = true → exec (.calRevert c) s = .next (replied opCalRevert c stDone [] (onCore (fun k =>
    setRegBit 0x8DF00000 29 false (setRegFld 0x8DF00000 19 16 (pn c.params 0)
      ((List.range 64).foldl (fun acc b => revertBlock (pn c.params 0) b acc) k))) (begun opCalRevert c s))))

/-- O56. SELFCAL_STEP opens the pins of its blocks, then judges the converters, measures, and judges and applies the
results; without a run it does nothing. BG_TURN of a block due, with no turn under way, starts the turn of the next
eligible cell and moves the due tick; with none eligible only the due tick moves. BG_CALIBRATION_DONE judges the
values of its cell and hands the pin back, or faults the cell after three rejections and a failed read-back. BG_STALE
in Awake judges a cell's age. STORE_WORD_PROGRAMMED, 8 us each, writes the next word of the record. STORE_DONE writes
the commit row, ends the run DONE with its slot and records its cause; STORE_FAIL leaves a word other than the
snapshot and ends it FAULT. (Rests on: spec/15_calibration.md, parts of R463, R464, R466, R467, R468, R469, R472,
R473, R475, Table CAL-2, Table CAL-4; spec/15_calibration.md, parts of Table CAL-9; notes/assumptions/1.md
(STORE_FAIL: the word that reads back wrong is a free value, the model's choice).) -/
def Obligations.CalibrationEvents : Prop :=
  (∀ (v : List CalValue) (f : List Cell) (x : List (Block × Fin 2)) (s : State) (r : SelfcalRun), s.core.cal.selfcal = some r →
    (r.step = 0 → exec (.selfcalStep v f x) s = .next (onCore (fun k => nextStep ((bitList r.blocks 64).foldl (fun acc b => openBlock b acc) k)) s))
    ∧ (r.step = 1 → exec (.selfcalStep v f x) s = .next (onCore (fun k => nextStep (selfcalConverters v x r k)) s))
    ∧ (2 ≤ r.step → r.step ≤ 5 → exec (.selfcalStep v f x) s = .next (onCore nextStep s))
    ∧ (r.step = 6 → exec (.selfcalStep v f x) s = .next (onCore (fun k => nextStep (selfcalApply v (f.map (fun c => c.val)) r k)) s))) ∧
  (∀ (v : List CalValue) (f : List Cell) (x : List (Block × Fin 2)) (s : State), s.core.cal.selfcal = none → exec (.selfcalStep v f x) s = .next s) ∧
  (∀ (b : Block) (s : State) (k1 : Core) (i : Nat), regBit s.core 0x8DF00008 31 = true → amGetD s.core.cal.nextTurn b.val 0 ≤ s.core.clock.uptime →
    amGet? s.core.cal.turns b.val = none → k1 = { s.core with cal := { s.core.cal with
      nextTurn := amSet s.core.cal.nextTurn b.val (amGetD s.core.cal.nextTurn b.val 0 + turnTicks s.core) } } →
    ((List.range 17).map (fun n => (amGetD s.core.cal.nextCell b.val 0 + n) % 17)).find? (turnEligible s.core b.val) = some i →
    exec (.bgTurn b) s = .next (onCore (fun _ => startTurn b.val i
      { k1 with cal := { k1.cal with nextCell := amSet k1.cal.nextCell b.val ((i + 1) % 17) } }) s)) ∧
  (∀ (b : Block) (s : State), regBit s.core 0x8DF00008 31 = true → amGetD s.core.cal.nextTurn b.val 0 ≤ s.core.clock.uptime →
    amGet? s.core.cal.turns b.val = none →
    ((List.range 17).map (fun n => (amGetD s.core.cal.nextCell b.val 0 + n) % 17)).find? (turnEligible s.core b.val) = none →
    exec (.bgTurn b) s = .next (onCore (fun k => { k with cal := { k.cal with
      nextTurn := amSet k.cal.nextTurn b.val (amGetD k.cal.nextTurn b.val 0 + turnTicks k) } }) s)) ∧
  (∀ (b : Block) (s : State), (regBit s.core 0x8DF00008 31 = false ∨ s.core.clock.uptime < amGetD s.core.cal.nextTurn b.val 0
      ∨ (amGet? s.core.cal.turns b.val).isSome = true) → exec (.bgTurn b) s = .next s) ∧
  (∀ (b : Block) (v : List CalValue) (f : Bool) (s : State) (t : BgTurn) (l : List CalValue) (k1 : Core), amGet? s.core.cal.turns b.val = some t →
    regFld s.core (blockReg b.val 0xB00) 1 0 = 2 → l = v.filter (ofTurn b.val t.cell) → k1 = l.foldl (fun acc v => judgeBackground v acc) s.core →
    ((threeRejects k1 l && f) = false → exec (.bgCalibrationDone b v f) s = .next (onCore (fun _ => handBack b.val t k1) s))
    ∧ ((threeRejects k1 l && f) = true → exec (.bgCalibrationDone b v f) s = .next (onCore (fun _ =>
      readbackFault (cellOfBlock b.val t.cell) (if t.handed then k1 else endTurn b.val k1)) s))) ∧
  (∀ (c : Cell) (s : State), (regFld s.core 0x89F00000 31 30 = 3 → exec (.bgStale c) s = .next (onCore (refreshStale c.val) s))
    ∧ (regFld s.core 0x89F00000 31 30 ≠ 3 → exec (.bgStale c) s = .next s)) ∧
  (∀ (s : State) (r : StoreRun) (w : Word) (k1 : Core), s.core.cal.store = some r → r.done < recordLen →
    r.start + 1600 * (r.done + 1) ≤ s.core.clock.chron → w = r.words.getD r.done 0 → k1 = { s.core with cal := { s.core.cal with
      store := some { r with done := r.done + 1 }, words := if w = 0 then s.core.cal.words else amSet s.core.cal.words (65536 * r.slot + r.done) w } } →
    exec .storeWordProgrammed s = .next (onCore (fun _ => if w = 0 then k1 else setRegFld 0x8DF00004 (2 * r.slot + 1) (2 * r.slot) 1 k1) s)) ∧
  (∀ (s : State) (r : StoreRun), s.core.cal.store = some r → r.done = recordLen →
    exec .storeDone s = .next (onCore (fun k => completeTicket r.ticket stDone [BitVec.ofNat 32 r.slot]
      (recordCause 0x8DF00010 3 (setRegBit 0x8DF00000 29 false (setRegFld 0x8DF00000 19 16 r.slot
        (endStore { k with cal := { k.cal with commits := amSet k.cal.commits r.slot (2 ^ 32 - 1) } }))))) s)
    ∧ ∀ (i v : Word) (k0 k : Core), drawWord s.core = (i, k0) → drawWord k0 = (v, k) → exec .storeFail s = .next (onCore (fun _ =>
      completeTicket r.ticket stFault [] (recordCause 0x8DF00010 4 (endStore { k with cal := { k.cal with
        words := amSet k.cal.words (65536 * r.slot + i.toNat % recordLen) v } }))) s)) ∧
  (∀ s : State, s.core.cal.store = none → exec .storeWordProgrammed s = .next s ∧ exec .storeDone s = .next s ∧ exec .storeFail s = .next s)

/-- O57. SEC_IMAGE_WRITE writes its bytes to the bank that did not boot. SEC_IMAGE_COMMIT makes that bank preferred
where it passes its check, and otherwise replies the status of the check, erases the bank and records cause 2.
SEC_ROLLBACK_ADVANCE sets the counter named, SEC_KEY_REVOKE the bit of the key. SEC_DEBUG_CHALLENGE replies a fresh
nonce and the serial. SEC_DEBUG_UNLOCK spends the nonce; with the nonce sent back and the debug key's signature it
unlocks and records cause 3, and otherwise replies SIGNATURE. SEC_ALLOWLIST_SET replaces the list and its count.
(Rests on: spec/16_identity_and_security.md, parts of R490, R491, R492, R493, R494, R501, R503, R504.) -/
def Obligations.SecurityCommands : Prop :=
  (∀ c s, accepted opSecImageWrite c s = true → exec (.secImageWrite c) s = .next (replied opSecImageWrite c stDone [] (onCore (fun k =>
    writeBank (1 - bootBank k) (pn c.params 0) (bytesOf (c.params.drop 1)) k) (begun opSecImageWrite c s)))) ∧
  (∀ c s, accepted opSecImageCommit c s = true → bankCheck (begun opSecImageCommit c s).core (1 - bootBank (begun opSecImageCommit c s).core) = none → exec (.secImageCommit c) s =
    .next (replied opSecImageCommit c stDone [] (onCore (fun k => { k with sec := { k.sec with preferred := some (1 - bootBank k) } }) (begun opSecImageCommit c s)))) ∧
  (∀ c s st, accepted opSecImageCommit c s = true → bankCheck (begun opSecImageCommit c s).core (1 - bootBank (begun opSecImageCommit c s).core) = some st → exec (.secImageCommit c) s =
    .next (replied opSecImageCommit c st [] (onCore (fun k => recordCause (secReg 0x30) 2
      { k with sec := { k.sec with erased := (1 - bootBank k) :: k.sec.erased } }) (begun opSecImageCommit c s)))) ∧
  (∀ c s, accepted opSecRollbackAdvance c s = true → (pn c.params 0 = 0 → exec (.secRollbackAdvance c) s =
      .next (replied opSecRollbackAdvance c stDone [] (onCore (setRegFld (secReg 0x10) 6 0 (pn c.params 1)) (begun opSecRollbackAdvance c s))))
    ∧ (pn c.params 0 = 1 → exec (.secRollbackAdvance c) s =
      .next (replied opSecRollbackAdvance c stDone [] (onCore (setRegFld (secReg 0x10) 22 16 (pn c.params 1)) (begun opSecRollbackAdvance c s))))) ∧
  (∀ c s, accepted opSecKeyRevoke c s = true → exec (.secKeyRevoke c) s = .next (replied opSecKeyRevoke c stDone []
    (onCore (setRegBit (secReg 0) (20 + pn c.params 0) true) (begun opSecKeyRevoke c s)))) ∧
  (∀ c s l (k1 : Core), accepted opSecDebugChallenge c s = true → drawWords 8 (begun opSecDebugChallenge c s).core = (l, k1) → exec (.secDebugChallenge c) s =
    .next (replied opSecDebugChallenge c stDone (l ++ [reg (begun opSecDebugChallenge c s).core (secReg 4), reg (begun opSecDebugChallenge c s).core (secReg 8)]) (onCore (fun k =>
      { k1 with sec := { k1.sec with nonce := some { words := l, since := k.clock.uptime } } }) (begun opSecDebugChallenge c s)))) ∧
  (∀ c s n, accepted opSecDebugUnlock c s = true → (begun opSecDebugUnlock c s).core.sec.nonce = some n → c.params.take 8 = n.words →
    Config.verify 4 (bytesOf (n.words ++ serialWords (begun opSecDebugUnlock c s).core)) (bytesOf (c.params.drop 8)) = true → exec (.secDebugUnlock c) s =
    .next (replied opSecDebugUnlock c stDone [] (onCore (fun k => recordCause (secReg 0x30) 3 (setRegBit (secReg 0) 29 true
      { k with sec := { k.sec with nonce := none } })) (begun opSecDebugUnlock c s)))) ∧
  (∀ c s n, accepted opSecDebugUnlock c s = true → (begun opSecDebugUnlock c s).core.sec.nonce = some n → (c.params.take 8 ≠ n.words ∨
    Config.verify 4 (bytesOf (n.words ++ serialWords (begun opSecDebugUnlock c s).core)) (bytesOf (c.params.drop 8)) = false) → exec (.secDebugUnlock c) s =
    .next (replied opSecDebugUnlock c stSignature [] (onCore (fun k => { k with sec := { k.sec with nonce := none } }) (begun opSecDebugUnlock c s)))) ∧
  (∀ c s, accepted opSecDebugUnlock c s = true → (begun opSecDebugUnlock c s).core.sec.nonce = none → exec (.secDebugUnlock c) s =
    .next (replied opSecDebugUnlock c stSignature [] (onCore (fun k => { k with sec := { k.sec with nonce := none } }) (begun opSecDebugUnlock c s)))) ∧
  (∀ c s, accepted opSecAllowlistSet c s = true → exec (.secAllowlistSet c) s = .next (replied opSecAllowlistSet c stDone [] (onCore (fun k =>
    setRegFld (secReg 0x18) 14 8 (c.params.length / 2) { k with sec := { k.sec with allow := serialsOf c.params } }) (begun opSecAllowlistSet c s))))

/-- O58. SPDM_REQUEST with the link up and Steward serving charges TD and adds the answer of the responder; without,
nothing. TAP_INSTRUCTION selects its instruction, BYPASS for EXTEST or a debug instruction while debug is locked, runs
it, and shows its data while VIO is up. PORT_ADMIT at step 6 of training admits a partner whose chain, signature,
time, serial and allow-list agree, the pair with it on port T, and otherwise fails the admission; elsewhere it does
nothing. DEBUG_NONCE_LAPSE after 60 s drops the nonce. (Rests on: spec/13_pair_operation.md, parts of R422, R423;
spec/16_identity_and_security.md, parts of R495, R496, R498, R499, R500, R501, R502; notes/assumptions/10.md (SPDM 1.2
and IEEE 1149.1 details, the model's choice).) -/
def Obligations.SecurityEvents : Prop :=
  (∀ (l : List Byte) (s : State) (k0 : Core) (r : SpdmAnswer × Nat × Core), s.core.stw.restarting = false → s.core.stw.linkUp = true → powerHolds s.core 0 = false →
    k0 = chargeClass 0x81F0F000 3 (Config.stewardTime 0 s.core.freeCtr) { s.core with freeCtr := s.core.freeCtr + 1 } → r = spdmAnswer l k0 →
    exec (.spdmRequest l) s = .next (onCore (fun _ => { r.2.2 with sec := { r.2.2.sec with
      spdm := r.2.1, transcript := (if (l.getD 1 0).toNat = 0x84 then l else k0.sec.transcript ++ l), answers := r.2.2.sec.answers ++ [r.1] } }) s)) ∧
  (∀ (l : List Byte) (s : State), (s.core.stw.restarting = true ∨ s.core.stw.linkUp = false ∨ powerHolds s.core 0 = true) →
    exec (.spdmRequest l) s = .next s) ∧
  (∀ (i : TapOp) (s : State) (r : List Word × Core), r = tapRun (tapSelect s.core i) { s.core with sec := { s.core.sec with extest := none } } →
    (regFld s.core 0x89F00050 5 4 = 2 → exec (.tapInstruction i) s =
      .next (onCore (fun _ => { r.2 with sec := { r.2.sec with tap := tapSelect s.core i, tapData := r.1 } }) s))
    ∧ (regFld s.core 0x89F00050 5 4 ≠ 2 → exec (.tapInstruction i) s =
      .next (onCore (fun _ => { r.2 with sec := { r.2.sec with tap := tapSelect s.core i, tapData := [] } }) s))) ∧
  (∀ (k : Core) (x y : List Bool) (n : Nat), (debugUnlocked k = false → tapSelect k (.extest x y) = .bypass ∧ tapSelect k (.debug n) = .bypass)
    ∧ (debugUnlocked k = true → tapSelect k (.extest x y) = .extest x y ∧ tapSelect k (.debug n) = .debug n)
    ∧ tapSelect k .idcode = .idcode ∧ tapRun .idcode k = ([idcode], k) ∧ tapRun .readOrder k = ([readReg k 0x81F00004], k)
    ∧ tapRun (.readPower n) k = ([readReg k (0x89F00000 + n % 2 ^ 20 / 4 * 4)], k) ∧ tapRun .bypass k = ([], k)
    ∧ tapRun (.extest x y) k = ([], { k with sec := { k.sec with extest := some (x, y) } })) ∧
  (∀ (p : Port) (q : Partner) (s : State), portState s.core (portNo p) = 2 → regFld s.core (portReg (portNo p) 4) 27 24 = 6 →
    (admitOk s.core s.core.sec.allow q = true → (portNo p ≠ 2 → exec (.portAdmit p q) s = .next (onCore (admitPort (portNo p) q) s))
      ∧ (portNo p = 2 → exec (.portAdmit p q) s = .next (onCore (fun k => pairAdmitted q (admitPort 2 q k)) s)))
    ∧ (admitOk s.core s.core.sec.allow q = false → exec (.portAdmit p q) s = .next (onCore (failAdmission (portNo p)) s))) ∧
  (∀ (p : Port) (q : Partner) (s : State), (portState s.core (portNo p) ≠ 2 ∨ regFld s.core (portReg (portNo p) 4) 27 24 ≠ 6) →
    exec (.portAdmit p q) s = .next s) ∧
  (∀ (s : State) (n : DebugNonce), s.core.sec.nonce = some n →
    (n.since + msTicks 60000 ≤ s.core.clock.uptime → exec .debugNonceLapse s = .next (onCore (fun k => { k with sec := { k.sec with nonce := none } }) s))
    ∧ (s.core.clock.uptime < n.since + msTicks 60000 → exec .debugNonceLapse s = .next s)) ∧
  (∀ s : State, s.core.sec.nonce = none → exec .debugNonceLapse s = .next s)

/-- O59. FAULT_LOG_READ replies the records kept from a sequence number. BLOCK_RESTORE opens a ticket due 50 ms on,
returns the block to reset and starts its self-test. REGION_RESTORE opens a ticket due 100 ms on, returns the region,
its blocks and its QDR SRAM to reset and starts their self-test. BLOCK_FAULT_DETECT with code 1 to 5 parks a block
that has not stopped: its substitution and calibration end, PARKED, the code and the region's bit are set, its pins
follow with PIN_INVALID records, cause 0 is recorded, a holder with tenanted pins there relinquishes, and the fault is
logged. Codes 6 and 7 log only, as does any code in a block stopped. REGION_FAULT_DETECT with code 1 to 7 fences a
region not shut: FENCED and the code, the die's side, the hub's side, cause 1 and the log; in a region shut or a
module halted it logs only. Other codes do nothing. LINK_FAULT fences with code 2 and LOCK_LOST with code 1 while TREF
is present and the multiplier locked. (Rests on: spec/03_timing_and_chronicle.md, parts of R81;
spec/10_memory_and_arbitration.md, parts of R302; spec/17_errors_and_containment.md, parts of R505, R506, R507, R508,
R513, R515, R516, R517, R519, Table ERR-1; spec/17_errors_and_containment.md, parts of Table ERR-2;
notes/assumptions/1.md (the BEAT of the hub's records is a free value, the model's choice).) -/
def Obligations.BlockAndRegionFaults : Prop :=
  (
  (∀ c s, accepted opFaultLogRead c s = true → exec (.faultLogRead c) s = .next (replied opFaultLogRead c stDone (((begun opFaultLogRead c s).core.faultLog.filter (fun e =>
    decide (pn c.params 0 ≤ e.seq) && decide (e.seq < pn c.params 0 + pn c.params 1))).flatMap faultWords) (begun opFaultLogRead c s))) ∧
  (∀ c s, accepted opBlockRestore c s = true → ticketLeft opBlockRestore c s = true → exec (.blockRestore c) s = .next (ticketed opBlockRestore c (.blockRestore (targetBlock c))
    ((begun opBlockRestore c s).core.clock.chron + msTicks 50) [] (fun id => onCore (fun k => startRestoreTest (2 ^ targetBlock c) id (resetBlock (targetBlock c) k)))
    (begun opBlockRestore c s))) ∧
  (∀ c s, accepted opRegionRestore c s = true → ticketLeft opRegionRestore c s = true → exec (.regionRestore c) s = .next (ticketed opRegionRestore c (.regionRestore (targetFault c))
    ((begun opRegionRestore c s).core.clock.chron + msTicks 100) [] (fun id t => onCore (startRestoreTest (0xFF * 2 ^ (8 * targetFault c)) id)
      (resetRegion (targetFault c) t)) (begun opRegionRestore c s)))) ∧ (
  (∀ (b : Block) (c : BitVec 8) (s : State) (k3 : Core), 1 ≤ c.toNat → c.toNat ≤ 5 → blockStopped s.core b.val = false →
    k3 = recordCause (pageBase (.rfault (b.val / 8)) + 4) 0 (blockPinsInvalid b.val (refreshBlock b.val (setRegBit (pageBase (.rfault (b.val / 8))) (b.val % 8) true
      (setRegBit (blockReg b.val 0xC00) 31 true (setRegFld (blockReg b.val 0xC00) 23 16 c.toNat (stopCalibration b.val (supersede b.val s.core))))))) →
    ((blockTenanted k3 b.val && tenRole k3 (b.val / 8) == 1) = true → exec (.blockFaultDetect b c) s = .next (onCore (fun _ =>
        logFault 1 3 c.toNat (pageBase (.block b.val)) (folioInto s.core (pageInBlock b.val)) (relinquish (b.val / 8) k3)) s))
    ∧ ((blockTenanted k3 b.val && tenRole k3 (b.val / 8) == 1) = false → exec (.blockFaultDetect b c) s = .next (onCore (fun _ =>
        logFault 1 3 c.toNat (pageBase (.block b.val)) (folioInto s.core (pageInBlock b.val)) k3) s))) ∧
  (∀ (b : Block) (c : BitVec 8) (s : State), 1 ≤ c.toNat → c.toNat ≤ 7 → blockStopped s.core b.val = true →
    exec (.blockFaultDetect b c) s = .next (onCore (logFault 1 0 c.toNat (pageBase (.block b.val)) 0) s)) ∧
  (∀ (b : Block) (c : BitVec 8) (s : State), 6 ≤ c.toNat → c.toNat ≤ 7 → blockStopped s.core b.val = false → exec (.blockFaultDetect b c) s =
    .next (onCore (fun k => logFault 1 0 c.toNat (pageBase (.block b.val)) 0 (setRegFld (blockReg b.val 0xC00) 23 16 c.toNat k)) s)) ∧
  (∀ (b : Block) (r : Region) (c : BitVec 8) (s : State), (c.toNat = 0 ∨ 7 < c.toNat) →
    exec (.blockFaultDetect b c) s = .next s ∧ exec (.regionFaultDetect r c) s = .next s) ∧
  (∀ (r : Region) (c : BitVec 8) (s : State), 1 ≤ c.toNat → c.toNat ≤ 7 → (regionShut s.core r.val || moduleHalted s.core) = true →
    exec (.regionFaultDetect r c) s = .next (onCore (logFault 2 0 c.toNat (pageBase (.rfault r.val)) 0) s)) ∧
  (∀ (r : Region) (c : BitVec 8) (s : State) (ran : Bool) (k1 : Core), 1 ≤ c.toNat → c.toNat ≤ 7 → (regionShut s.core r.val || moduleHalted s.core) = false →
    ran = (amGet? s.core.pwr.selfFenced r.val).getD (runInProgress s.core r.val) →
    k1 = setRegBit (pageBase (.rfault r.val)) 31 true (setRegFld (pageBase (.rfault r.val)) 23 16 c.toNat
      { s.core with pwr := { s.core.pwr with selfFenced := amErase s.core.pwr.selfFenced r.val } }) →
    exec (.regionFaultDetect r c) s = .next (onCore (fun k => logFault 2 4 c.toNat (pageBase (.rfault r.val))
      (folioInto k (fun p => pageInRegion r.val p || (List.range 8).any (fun b => pageInBlock (8 * r.val + b) p)))
      (recordCause (pageBase (.rfault r.val) + 4) 1 (fenceHub r.val ran (fenceDie r.val k1)))) s)) ∧
  (∀ (r : Region) (s : State), exec (.linkFault r) s = exec (.regionFaultDetect r 2) s) ∧
  (∀ (r : Region) (s : State), trefPresent s.core = true → regBit s.core (treeReg r.val 0x40) 1 = true →
    exec (.lockLost r) s = .next (onCore (fun k => regionFault r.val 1 (setRegBit (treeReg r.val 0x40) 1 false
      (setRegBit (treeReg r.val 0x40) 2 false k))) s)) ∧
  (∀ (r : Region) (s : State), (trefPresent s.core = false ∨ regBit s.core (treeReg r.val 0x40) 1 = false) → exec (.lockLost r) s = .next s))

/-- O60. MODULE_HALT with code 4, 5 or 6 stops every engine, relinquishes, halts and logs with cause 3, once.
STEWARD_RESTART answers the commands in progress, faults every session and records cause 0, and STEWARD_RESTART_DONE
serves again. HUB_MEMORY drops an entry and makes its site uncatalogued with cause 1; STRONGROOM_ERROR marks a page
bad and VALID 0 with cause 2. REGION_LINK_KEEPALIVE sends one over a link not fenced; REGION_LINK_SILENT fences the
die. OVER_TEMP and CONTAINMENT_ESCALATE contain the unit named or the next level up. SELFCAL_DONE after step 7
restores the blocks, faults the cells that failed and ends the ticket DONE, or ends the restores of a module reset.
(Rests on: spec/15_calibration.md, parts of R463, R464; spec/17_errors_and_containment.md, parts of R505, R508, R509,
R510, R511, R513, Table ERR-3, Table ERR-5; spec/18_electrical_mechanical.md, parts of R540.) -/
def Obligations.ChipFaults : Prop :=
  (∀ (c : BitVec 8) (s : State), (c.toNat < 4 ∨ 6 < c.toNat) → exec (.moduleHalt c) s = .next s) ∧
  (∀ (c : BitVec 8) (s : State), 4 ≤ c.toNat → c.toNat ≤ 6 → (moduleHalted s.core = true →
      exec (.moduleHalt c) s = .next (onCore (logFault 3 0 c.toNat 0x81F00000 0) s))
    ∧ (moduleHalted s.core = false → exec (.moduleHalt c) s = .next (onCore (fun k => noteChip c.toNat 6 (some 3) 0 (refreshAllBlocks
      (setRegBit 0x81F00100 31 true (haltTenancies ((List.range 8).foldl (fun acc r => haltEngine r acc) k))))) s))) ∧
  (∀ s : State, (s.core.stw.restarting = true → exec .stewardRestart s = .next s) ∧ (s.core.stw.restarting = false → ∀ k1 : Core,
    k1 = ((failConversions (List.range 128) s.core).stw.sessions.map Prod.fst).foldl (fun acc n => faultSession n acc) (failConversions (List.range 128) s.core) →
    exec .stewardRestart s = .next (onCore (fun _ => noteChip 1 5 (some 0) 0 { k1 with stw := { k1.stw with restarting := true } }) s))) ∧
  (∀ s : State, exec .stewardRestartDone s = .next (onCore (fun k => { k with stw := { k.stw with restarting := false } }) s)) ∧
  (∀ (n : Fin 524288) (s : State), (amGet? s.core.hub.entries n.val = none → exec (.hubMemory n) s = .next s) ∧
    (∀ e, amGet? s.core.hub.entries n.val = some e → exec (.hubMemory n) s = .next (onCore (fun k => noteChip 2 8 (some 1) 0
      (makeUncat e.site 4 { k with hub := { k.hub with entries := amErase k.hub.entries n.val } })) s))) ∧
  (∀ (p : Word) (s : State), (regBit s.core 0x89F00080 31 = false → exec (.strongroomError p) s = .next s) ∧
    (regBit s.core 0x89F00080 31 = true → exec (.strongroomError p) s = .next (onCore (fun k => noteChip 3 0 (some 2) 0
      (setRegBit 0x89F00080 31 false { k with pwr := { k.pwr with badPages := p.toNat :: k.pwr.badPages } })) s))) ∧
  (∀ (r : Region) (s : State), (regionFenced s.core r.val = true → exec (.regionLinkKeepalive r) s = .next s) ∧
    (regionFenced s.core r.val = false → exec (.regionLinkKeepalive r) s =
      .next (onCore (fun k => { k with car := { k.car with outbox := k.car.outbox ++ [⟨none, .keepAlive r.val⟩] } }) s))) ∧
  (∀ (r : Region) (s : State), (regionStopped s.core r.val = true → exec (.regionLinkSilent r) s = .next s) ∧
    (regionStopped s.core r.val = false → exec (.regionLinkSilent r) s = .next (onCore (fun k => fenceDie r.val
      { k with pwr := { k.pwr with selfFenced := amSet k.pwr.selfFenced r.val (runInProgress k r.val) } }) s))) ∧
  (∀ (c : Cell) (b : Block) (r : Region) (s : State), exec (.overTemp (.cell c)) s = .next (onCore (anyCellFault c.val 6) s)
    ∧ exec (.overTemp (.block b)) s = exec (.blockFaultDetect b 4) s ∧ exec (.overTemp (.region r)) s = exec (.regionFaultDetect r 6) s
    ∧ exec (.overTemp .chip) s = exec (.moduleHalt 6) s ∧ exec (.containmentEscalate .chip) s = .next s) ∧
  (∀ (c : Cell) (s : State) (f : FaultSub), amGet? s.core.faultSubs (blockOfCell c.val) = some f → f.cell = c.val % 17 → f.since + usTicks 20 ≤ s.core.clock.uptime →
    exec (.containmentEscalate (.cell c)) s = .next (onCore (blockFault (blockOfCell c.val) 5) s)) ∧
  (∀ (c : Cell) (s : State), amGet? s.core.faultSubs (blockOfCell c.val) = none → exec (.containmentEscalate (.cell c)) s = .next s) ∧
  (∀ (b : Block) (r : Region) (s : State),
    (blockParked s.core b.val = true → exec (.containmentEscalate (.block b)) s = .next (onCore (regionFault (b.val / 8) 7) s))
    ∧ (blockParked s.core b.val = false → exec (.containmentEscalate (.block b)) s = .next s)
    ∧ (regionFenced s.core r.val = true → exec (.containmentEscalate (.region r)) s = .next (onCore (moduleHalt 5) s))
    ∧ (regionFenced s.core r.val = false → exec (.containmentEscalate (.region r)) s = .next s)) ∧
  (∀ (s : State) (r : SelfcalRun) (k2 : Core), s.core.cal.selfcal = some r → r.step = 7 → r.restore = false →
    k2 = r.faulted.foldl (fun acc c => readbackFault c acc) ((bitList r.blocks 64).foldl (fun acc b => restoreBlock b acc)
      { s.core with cal := { s.core.cal with selfcal := none } }) →
    ∀ k3 : Core, k3 = setRegBit 0x8DF00000 30 false (if r.passed then setRegBit 0x8DF00000 26 true k2 else k2) →
    exec .selfcalDone s = .next (onCore (fun _ => completeTicket r.ticket stDone (selfcalResult r)
      (recordCause 0x8DF00010 0 (if r.accepted then setRegBit 0x8DF00000 29 true k3 else k3))) s)) ∧
  (∀ (s : State) (r : SelfcalRun), s.core.cal.selfcal = some r → r.step = 7 → r.restore = true → r.ticket = 0 →
    exec .selfcalDone s = .next (onCore (endResetRestores r) s)) ∧
  (∀ s : State, s.core.cal.selfcal = none → exec .selfcalDone s = .next s)
end

