-- ==== Sys2Proof/Laws/State.lean ====
section
/-! SUPPORT. What the named operations leave of each field of the state, true by unfolding, so that no later proof unfolds a
record update. -/

namespace Sys2Proof.Machine

/-! ### The lifts -/

@[simp] theorem onCore_pending (f : Core → Core) (s : State) : (onCore f s).pending = s.pending := rfl
@[simp] theorem onCore_qdr (f : Core → Core) (s : State) : (onCore f s).qdr = s.qdr := rfl
@[simp] theorem onCore_arc (f : Core → Core) (s : State) : (onCore f s).arc = s.arc := rfl
@[simp] theorem onCore_core (f : Core → Core) (s : State) : (onCore f s).core = f s.core := rfl
@[simp] theorem onCoreMem_pending (f : Memory → Memory → Core → Core) (s : State) : (onCoreMem f s).pending = s.pending := rfl
@[simp] theorem onCoreMem_qdr (f : Memory → Memory → Core → Core) (s : State) : (onCoreMem f s).qdr = s.qdr := rfl
@[simp] theorem onCoreMem_arc (f : Memory → Memory → Core → Core) (s : State) : (onCoreMem f s).arc = s.arc := rfl
@[simp] theorem onCoreMem_core (f : Memory → Memory → Core → Core) (s : State) : (onCoreMem f s).core = f s.qdr s.arc s.core := rfl
@[simp] theorem writeQdr_pending (r a : Nat) (l : List Byte) (s : State) : (writeQdr r a l s).pending = s.pending := rfl
@[simp] theorem writeQdr_qdr (r a : Nat) (l : List Byte) (s : State) : (writeQdr r a l s).qdr = writeBytes s.qdr (qdrKey r a) l := rfl
@[simp] theorem writeQdr_arc (r a : Nat) (l : List Byte) (s : State) : (writeQdr r a l s).arc = s.arc := rfl
@[simp] theorem writeArc_pending (a : Nat) (l : List Byte) (s : State) : (writeArc a l s).pending = s.pending := rfl
@[simp] theorem writeArc_qdr (a : Nat) (l : List Byte) (s : State) : (writeArc a l s).qdr = s.qdr := rfl
@[simp] theorem writeArc_arc (a : Nat) (l : List Byte) (s : State) : (writeArc a l s).arc = writeBytes s.arc a l := rfl

/-! ### A register set -/

@[simp] theorem setReg_freeCtr (a : Nat) (v : Word) (k : Core) : (setReg a v k).freeCtr = k.freeCtr := rfl
@[simp] theorem setReg_order (a : Nat) (v : Word) (k : Core) : (setReg a v k).order = k.order := rfl
@[simp] theorem setReg_regs (a : Nat) (v : Word) (k : Core) : (setReg a v k).regs = amSet k.regs a v := rfl
@[simp] theorem setReg_hiLatch (a : Nat) (v : Word) (k : Core) : (setReg a v k).hiLatch = k.hiLatch := rfl
@[simp] theorem setReg_clock (a : Nat) (v : Word) (k : Core) : (setReg a v k).clock = k.clock := rfl
@[simp] theorem setReg_stw (a : Nat) (v : Word) (k : Core) : (setReg a v k).stw = k.stw := rfl
@[simp] theorem setReg_mem (a : Nat) (v : Word) (k : Core) : (setReg a v k).mem = k.mem := rfl
@[simp] theorem setReg_car (a : Nat) (v : Word) (k : Core) : (setReg a v k).car = k.car := rfl
@[simp] theorem setReg_cells (a : Nat) (v : Word) (k : Core) : (setReg a v k).cells = k.cells := rfl
@[simp] theorem setReg_dacs (a : Nat) (v : Word) (k : Core) : (setReg a v k).dacs = k.dacs := rfl
@[simp] theorem setReg_handoffs (a : Nat) (v : Word) (k : Core) : (setReg a v k).handoffs = k.handoffs := rfl
@[simp] theorem setReg_faultSubs (a : Nat) (v : Word) (k : Core) : (setReg a v k).faultSubs = k.faultSubs := rfl
@[simp] theorem setReg_trees (a : Nat) (v : Word) (k : Core) : (setReg a v k).trees = k.trees := rfl
@[simp] theorem setReg_pair (a : Nat) (v : Word) (k : Core) : (setReg a v k).pair = k.pair := rfl
@[simp] theorem setReg_chans (a : Nat) (v : Word) (k : Core) : (setReg a v k).chans = k.chans := rfl
@[simp] theorem setReg_ppmus (a : Nat) (v : Word) (k : Core) : (setReg a v k).ppmus = k.ppmus := rfl
@[simp] theorem setReg_wdacs (a : Nat) (v : Word) (k : Core) : (setReg a v k).wdacs = k.wdacs := rfl
@[simp] theorem setReg_convs (a : Nat) (v : Word) (k : Core) : (setReg a v k).convs = k.convs := rfl
@[simp] theorem setReg_plaus (a : Nat) (v : Word) (k : Core) : (setReg a v k).plaus = k.plaus := rfl
@[simp] theorem setReg_elemAt (a : Nat) (v : Word) (k : Core) : (setReg a v k).elemAt = k.elemAt := rfl
@[simp] theorem setReg_wmons (a : Nat) (v : Word) (k : Core) : (setReg a v k).wmons = k.wmons := rfl
@[simp] theorem setReg_wakeRaised (a : Nat) (v : Word) (k : Core) : (setReg a v k).wakeRaised = k.wakeRaised := rfl
@[simp] theorem setReg_fabrics (a : Nat) (v : Word) (k : Core) : (setReg a v k).fabrics = k.fabrics := rfl
@[simp] theorem setReg_cal (a : Nat) (v : Word) (k : Core) : (setReg a v k).cal = k.cal := rfl
@[simp] theorem setReg_pwr (a : Nat) (v : Word) (k : Core) : (setReg a v k).pwr = k.pwr := rfl
@[simp] theorem setReg_sec (a : Nat) (v : Word) (k : Core) : (setReg a v k).sec = k.sec := rfl
@[simp] theorem setReg_engines (a : Nat) (v : Word) (k : Core) : (setReg a v k).engines = k.engines := rfl
@[simp] theorem setReg_fps (a : Nat) (v : Word) (k : Core) : (setReg a v k).fps = k.fps := rfl
@[simp] theorem setReg_hub (a : Nat) (v : Word) (k : Core) : (setReg a v k).hub = k.hub := rfl
@[simp] theorem setReg_faultLog (a : Nat) (v : Word) (k : Core) : (setReg a v k).faultLog = k.faultLog := rfl
@[simp] theorem setReg_faultSeq (a : Nat) (v : Word) (k : Core) : (setReg a v k).faultSeq = k.faultSeq := rfl

/-! ### A field set -/

@[simp] theorem setRegFld_freeCtr (a hi lo v : Nat) (k : Core) : (setRegFld a hi lo v k).freeCtr = k.freeCtr := rfl
@[simp] theorem setRegFld_order (a hi lo v : Nat) (k : Core) : (setRegFld a hi lo v k).order = k.order := rfl
@[simp] theorem setRegFld_hiLatch (a hi lo v : Nat) (k : Core) : (setRegFld a hi lo v k).hiLatch = k.hiLatch := rfl
@[simp] theorem setRegFld_clock (a hi lo v : Nat) (k : Core) : (setRegFld a hi lo v k).clock = k.clock := rfl
@[simp] theorem setRegFld_stw (a hi lo v : Nat) (k : Core) : (setRegFld a hi lo v k).stw = k.stw := rfl
@[simp] theorem setRegFld_mem (a hi lo v : Nat) (k : Core) : (setRegFld a hi lo v k).mem = k.mem := rfl
@[simp] theorem setRegFld_car (a hi lo v : Nat) (k : Core) : (setRegFld a hi lo v k).car = k.car := rfl
@[simp] theorem setRegFld_cells (a hi lo v : Nat) (k : Core) : (setRegFld a hi lo v k).cells = k.cells := rfl
@[simp] theorem setRegFld_dacs (a hi lo v : Nat) (k : Core) : (setRegFld a hi lo v k).dacs = k.dacs := rfl
@[simp] theorem setRegFld_handoffs (a hi lo v : Nat) (k : Core) : (setRegFld a hi lo v k).handoffs = k.handoffs := rfl
@[simp] theorem setRegFld_faultSubs (a hi lo v : Nat) (k : Core) : (setRegFld a hi lo v k).faultSubs = k.faultSubs := rfl
@[simp] theorem setRegFld_trees (a hi lo v : Nat) (k : Core) : (setRegFld a hi lo v k).trees = k.trees := rfl
@[simp] theorem setRegFld_pair (a hi lo v : Nat) (k : Core) : (setRegFld a hi lo v k).pair = k.pair := rfl
@[simp] theorem setRegFld_chans (a hi lo v : Nat) (k : Core) : (setRegFld a hi lo v k).chans = k.chans := rfl
@[simp] theorem setRegFld_ppmus (a hi lo v : Nat) (k : Core) : (setRegFld a hi lo v k).ppmus = k.ppmus := rfl
@[simp] theorem setRegFld_wdacs (a hi lo v : Nat) (k : Core) : (setRegFld a hi lo v k).wdacs = k.wdacs := rfl
@[simp] theorem setRegFld_convs (a hi lo v : Nat) (k : Core) : (setRegFld a hi lo v k).convs = k.convs := rfl
@[simp] theorem setRegFld_plaus (a hi lo v : Nat) (k : Core) : (setRegFld a hi lo v k).plaus = k.plaus := rfl
@[simp] theorem setRegFld_elemAt (a hi lo v : Nat) (k : Core) : (setRegFld a hi lo v k).elemAt = k.elemAt := rfl
@[simp] theorem setRegFld_wmons (a hi lo v : Nat) (k : Core) : (setRegFld a hi lo v k).wmons = k.wmons := rfl
@[simp] theorem setRegFld_wakeRaised (a hi lo v : Nat) (k : Core) : (setRegFld a hi lo v k).wakeRaised = k.wakeRaised := rfl
@[simp] theorem setRegFld_fabrics (a hi lo v : Nat) (k : Core) : (setRegFld a hi lo v k).fabrics = k.fabrics := rfl
@[simp] theorem setRegFld_cal (a hi lo v : Nat) (k : Core) : (setRegFld a hi lo v k).cal = k.cal := rfl
@[simp] theorem setRegFld_pwr (a hi lo v : Nat) (k : Core) : (setRegFld a hi lo v k).pwr = k.pwr := rfl
@[simp] theorem setRegFld_sec (a hi lo v : Nat) (k : Core) : (setRegFld a hi lo v k).sec = k.sec := rfl
@[simp] theorem setRegFld_engines (a hi lo v : Nat) (k : Core) : (setRegFld a hi lo v k).engines = k.engines := rfl
@[simp] theorem setRegFld_fps (a hi lo v : Nat) (k : Core) : (setRegFld a hi lo v k).fps = k.fps := rfl
@[simp] theorem setRegFld_hub (a hi lo v : Nat) (k : Core) : (setRegFld a hi lo v k).hub = k.hub := rfl
@[simp] theorem setRegFld_faultLog (a hi lo v : Nat) (k : Core) : (setRegFld a hi lo v k).faultLog = k.faultLog := rfl
@[simp] theorem setRegFld_faultSeq (a hi lo v : Nat) (k : Core) : (setRegFld a hi lo v k).faultSeq = k.faultSeq := rfl

/-! ### A bit set -/

@[simp] theorem setRegBit_freeCtr (a i : Nat) (v : Bool) (k : Core) : (setRegBit a i v k).freeCtr = k.freeCtr := rfl
@[simp] theorem setRegBit_order (a i : Nat) (v : Bool) (k : Core) : (setRegBit a i v k).order = k.order := rfl
@[simp] theorem setRegBit_hiLatch (a i : Nat) (v : Bool) (k : Core) : (setRegBit a i v k).hiLatch = k.hiLatch := rfl
@[simp] theorem setRegBit_clock (a i : Nat) (v : Bool) (k : Core) : (setRegBit a i v k).clock = k.clock := rfl
@[simp] theorem setRegBit_stw (a i : Nat) (v : Bool) (k : Core) : (setRegBit a i v k).stw = k.stw := rfl
@[simp] theorem setRegBit_mem (a i : Nat) (v : Bool) (k : Core) : (setRegBit a i v k).mem = k.mem := rfl
@[simp] theorem setRegBit_car (a i : Nat) (v : Bool) (k : Core) : (setRegBit a i v k).car = k.car := rfl
@[simp] theorem setRegBit_cells (a i : Nat) (v : Bool) (k : Core) : (setRegBit a i v k).cells = k.cells := rfl
@[simp] theorem setRegBit_dacs (a i : Nat) (v : Bool) (k : Core) : (setRegBit a i v k).dacs = k.dacs := rfl
@[simp] theorem setRegBit_handoffs (a i : Nat) (v : Bool) (k : Core) : (setRegBit a i v k).handoffs = k.handoffs := rfl
@[simp] theorem setRegBit_faultSubs (a i : Nat) (v : Bool) (k : Core) : (setRegBit a i v k).faultSubs = k.faultSubs := rfl
@[simp] theorem setRegBit_trees (a i : Nat) (v : Bool) (k : Core) : (setRegBit a i v k).trees = k.trees := rfl
@[simp] theorem setRegBit_pair (a i : Nat) (v : Bool) (k : Core) : (setRegBit a i v k).pair = k.pair := rfl
@[simp] theorem setRegBit_chans (a i : Nat) (v : Bool) (k : Core) : (setRegBit a i v k).chans = k.chans := rfl
@[simp] theorem setRegBit_ppmus (a i : Nat) (v : Bool) (k : Core) : (setRegBit a i v k).ppmus = k.ppmus := rfl
@[simp] theorem setRegBit_wdacs (a i : Nat) (v : Bool) (k : Core) : (setRegBit a i v k).wdacs = k.wdacs := rfl
@[simp] theorem setRegBit_convs (a i : Nat) (v : Bool) (k : Core) : (setRegBit a i v k).convs = k.convs := rfl
@[simp] theorem setRegBit_plaus (a i : Nat) (v : Bool) (k : Core) : (setRegBit a i v k).plaus = k.plaus := rfl
@[simp] theorem setRegBit_elemAt (a i : Nat) (v : Bool) (k : Core) : (setRegBit a i v k).elemAt = k.elemAt := rfl
@[simp] theorem setRegBit_wmons (a i : Nat) (v : Bool) (k : Core) : (setRegBit a i v k).wmons = k.wmons := rfl
@[simp] theorem setRegBit_wakeRaised (a i : Nat) (v : Bool) (k : Core) : (setRegBit a i v k).wakeRaised = k.wakeRaised := rfl
@[simp] theorem setRegBit_fabrics (a i : Nat) (v : Bool) (k : Core) : (setRegBit a i v k).fabrics = k.fabrics := rfl
@[simp] theorem setRegBit_cal (a i : Nat) (v : Bool) (k : Core) : (setRegBit a i v k).cal = k.cal := rfl
@[simp] theorem setRegBit_pwr (a i : Nat) (v : Bool) (k : Core) : (setRegBit a i v k).pwr = k.pwr := rfl
@[simp] theorem setRegBit_sec (a i : Nat) (v : Bool) (k : Core) : (setRegBit a i v k).sec = k.sec := rfl
@[simp] theorem setRegBit_engines (a i : Nat) (v : Bool) (k : Core) : (setRegBit a i v k).engines = k.engines := rfl
@[simp] theorem setRegBit_fps (a i : Nat) (v : Bool) (k : Core) : (setRegBit a i v k).fps = k.fps := rfl
@[simp] theorem setRegBit_hub (a i : Nat) (v : Bool) (k : Core) : (setRegBit a i v k).hub = k.hub := rfl
@[simp] theorem setRegBit_faultLog (a i : Nat) (v : Bool) (k : Core) : (setRegBit a i v k).faultLog = k.faultLog := rfl
@[simp] theorem setRegBit_faultSeq (a i : Nat) (v : Bool) (k : Core) : (setRegBit a i v k).faultSeq = k.faultSeq := rfl

/-! ### A counter stepped -/

@[simp] theorem countFld_freeCtr (a hi lo n : Nat) (k : Core) : (countFld a hi lo n k).freeCtr = k.freeCtr := rfl
@[simp] theorem countFld_order (a hi lo n : Nat) (k : Core) : (countFld a hi lo n k).order = k.order := rfl
@[simp] theorem countFld_hiLatch (a hi lo n : Nat) (k : Core) : (countFld a hi lo n k).hiLatch = k.hiLatch := rfl
@[simp] theorem countFld_clock (a hi lo n : Nat) (k : Core) : (countFld a hi lo n k).clock = k.clock := rfl
@[simp] theorem countFld_stw (a hi lo n : Nat) (k : Core) : (countFld a hi lo n k).stw = k.stw := rfl
@[simp] theorem countFld_mem (a hi lo n : Nat) (k : Core) : (countFld a hi lo n k).mem = k.mem := rfl
@[simp] theorem countFld_car (a hi lo n : Nat) (k : Core) : (countFld a hi lo n k).car = k.car := rfl
@[simp] theorem countFld_cells (a hi lo n : Nat) (k : Core) : (countFld a hi lo n k).cells = k.cells := rfl
@[simp] theorem countFld_dacs (a hi lo n : Nat) (k : Core) : (countFld a hi lo n k).dacs = k.dacs := rfl
@[simp] theorem countFld_handoffs (a hi lo n : Nat) (k : Core) : (countFld a hi lo n k).handoffs = k.handoffs := rfl
@[simp] theorem countFld_faultSubs (a hi lo n : Nat) (k : Core) : (countFld a hi lo n k).faultSubs = k.faultSubs := rfl
@[simp] theorem countFld_trees (a hi lo n : Nat) (k : Core) : (countFld a hi lo n k).trees = k.trees := rfl
@[simp] theorem countFld_pair (a hi lo n : Nat) (k : Core) : (countFld a hi lo n k).pair = k.pair := rfl
@[simp] theorem countFld_chans (a hi lo n : Nat) (k : Core) : (countFld a hi lo n k).chans = k.chans := rfl
@[simp] theorem countFld_ppmus (a hi lo n : Nat) (k : Core) : (countFld a hi lo n k).ppmus = k.ppmus := rfl
@[simp] theorem countFld_wdacs (a hi lo n : Nat) (k : Core) : (countFld a hi lo n k).wdacs = k.wdacs := rfl
@[simp] theorem countFld_convs (a hi lo n : Nat) (k : Core) : (countFld a hi lo n k).convs = k.convs := rfl
@[simp] theorem countFld_plaus (a hi lo n : Nat) (k : Core) : (countFld a hi lo n k).plaus = k.plaus := rfl
@[simp] theorem countFld_elemAt (a hi lo n : Nat) (k : Core) : (countFld a hi lo n k).elemAt = k.elemAt := rfl
@[simp] theorem countFld_wmons (a hi lo n : Nat) (k : Core) : (countFld a hi lo n k).wmons = k.wmons := rfl
@[simp] theorem countFld_wakeRaised (a hi lo n : Nat) (k : Core) : (countFld a hi lo n k).wakeRaised = k.wakeRaised := rfl
@[simp] theorem countFld_fabrics (a hi lo n : Nat) (k : Core) : (countFld a hi lo n k).fabrics = k.fabrics := rfl
@[simp] theorem countFld_cal (a hi lo n : Nat) (k : Core) : (countFld a hi lo n k).cal = k.cal := rfl
@[simp] theorem countFld_pwr (a hi lo n : Nat) (k : Core) : (countFld a hi lo n k).pwr = k.pwr := rfl
@[simp] theorem countFld_sec (a hi lo n : Nat) (k : Core) : (countFld a hi lo n k).sec = k.sec := rfl
@[simp] theorem countFld_engines (a hi lo n : Nat) (k : Core) : (countFld a hi lo n k).engines = k.engines := rfl
@[simp] theorem countFld_fps (a hi lo n : Nat) (k : Core) : (countFld a hi lo n k).fps = k.fps := rfl
@[simp] theorem countFld_hub (a hi lo n : Nat) (k : Core) : (countFld a hi lo n k).hub = k.hub := rfl
@[simp] theorem countFld_faultLog (a hi lo n : Nat) (k : Core) : (countFld a hi lo n k).faultLog = k.faultLog := rfl
@[simp] theorem countFld_faultSeq (a hi lo n : Nat) (k : Core) : (countFld a hi lo n k).faultSeq = k.faultSeq := rfl

/-! ### A pair of registers set -/

@[simp] theorem setReg64_freeCtr (a n : Nat) (k : Core) : (setReg64 a n k).freeCtr = k.freeCtr := rfl
@[simp] theorem setReg64_order (a n : Nat) (k : Core) : (setReg64 a n k).order = k.order := rfl
@[simp] theorem setReg64_hiLatch (a n : Nat) (k : Core) : (setReg64 a n k).hiLatch = k.hiLatch := rfl
@[simp] theorem setReg64_clock (a n : Nat) (k : Core) : (setReg64 a n k).clock = k.clock := rfl
@[simp] theorem setReg64_stw (a n : Nat) (k : Core) : (setReg64 a n k).stw = k.stw := rfl
@[simp] theorem setReg64_mem (a n : Nat) (k : Core) : (setReg64 a n k).mem = k.mem := rfl
@[simp] theorem setReg64_car (a n : Nat) (k : Core) : (setReg64 a n k).car = k.car := rfl
@[simp] theorem setReg64_cells (a n : Nat) (k : Core) : (setReg64 a n k).cells = k.cells := rfl
@[simp] theorem setReg64_dacs (a n : Nat) (k : Core) : (setReg64 a n k).dacs = k.dacs := rfl
@[simp] theorem setReg64_handoffs (a n : Nat) (k : Core) : (setReg64 a n k).handoffs = k.handoffs := rfl
@[simp] theorem setReg64_faultSubs (a n : Nat) (k : Core) : (setReg64 a n k).faultSubs = k.faultSubs := rfl
@[simp] theorem setReg64_trees (a n : Nat) (k : Core) : (setReg64 a n k).trees = k.trees := rfl
@[simp] theorem setReg64_pair (a n : Nat) (k : Core) : (setReg64 a n k).pair = k.pair := rfl
@[simp] theorem setReg64_chans (a n : Nat) (k : Core) : (setReg64 a n k).chans = k.chans := rfl
@[simp] theorem setReg64_ppmus (a n : Nat) (k : Core) : (setReg64 a n k).ppmus = k.ppmus := rfl
@[simp] theorem setReg64_wdacs (a n : Nat) (k : Core) : (setReg64 a n k).wdacs = k.wdacs := rfl
@[simp] theorem setReg64_convs (a n : Nat) (k : Core) : (setReg64 a n k).convs = k.convs := rfl
@[simp] theorem setReg64_plaus (a n : Nat) (k : Core) : (setReg64 a n k).plaus = k.plaus := rfl
@[simp] theorem setReg64_elemAt (a n : Nat) (k : Core) : (setReg64 a n k).elemAt = k.elemAt := rfl
@[simp] theorem setReg64_wmons (a n : Nat) (k : Core) : (setReg64 a n k).wmons = k.wmons := rfl
@[simp] theorem setReg64_wakeRaised (a n : Nat) (k : Core) : (setReg64 a n k).wakeRaised = k.wakeRaised := rfl
@[simp] theorem setReg64_fabrics (a n : Nat) (k : Core) : (setReg64 a n k).fabrics = k.fabrics := rfl
@[simp] theorem setReg64_cal (a n : Nat) (k : Core) : (setReg64 a n k).cal = k.cal := rfl
@[simp] theorem setReg64_pwr (a n : Nat) (k : Core) : (setReg64 a n k).pwr = k.pwr := rfl
@[simp] theorem setReg64_sec (a n : Nat) (k : Core) : (setReg64 a n k).sec = k.sec := rfl
@[simp] theorem setReg64_engines (a n : Nat) (k : Core) : (setReg64 a n k).engines = k.engines := rfl
@[simp] theorem setReg64_fps (a n : Nat) (k : Core) : (setReg64 a n k).fps = k.fps := rfl
@[simp] theorem setReg64_hub (a n : Nat) (k : Core) : (setReg64 a n k).hub = k.hub := rfl
@[simp] theorem setReg64_faultLog (a n : Nat) (k : Core) : (setReg64 a n k).faultLog = k.faultLog := rfl
@[simp] theorem setReg64_faultSeq (a n : Nat) (k : Core) : (setReg64 a n k).faultSeq = k.faultSeq := rfl

/-! ### A queue's record replaced -/

@[simp] theorem setQueue_freeCtr (q : Nat) (x : Queue) (k : Core) : (setQueue q x k).freeCtr = k.freeCtr := rfl
@[simp] theorem setQueue_order (q : Nat) (x : Queue) (k : Core) : (setQueue q x k).order = k.order := rfl
@[simp] theorem setQueue_regs (q : Nat) (x : Queue) (k : Core) : (setQueue q x k).regs = k.regs := rfl
@[simp] theorem setQueue_hiLatch (q : Nat) (x : Queue) (k : Core) : (setQueue q x k).hiLatch = k.hiLatch := rfl
@[simp] theorem setQueue_clock (q : Nat) (x : Queue) (k : Core) : (setQueue q x k).clock = k.clock := rfl
@[simp] theorem setQueue_stw (q : Nat) (x : Queue) (k : Core) : (setQueue q x k).stw = { k.stw with queues := amSet k.stw.queues q x } := rfl
@[simp] theorem setQueue_mem (q : Nat) (x : Queue) (k : Core) : (setQueue q x k).mem = k.mem := rfl
@[simp] theorem setQueue_car (q : Nat) (x : Queue) (k : Core) : (setQueue q x k).car = k.car := rfl
@[simp] theorem setQueue_cells (q : Nat) (x : Queue) (k : Core) : (setQueue q x k).cells = k.cells := rfl
@[simp] theorem setQueue_dacs (q : Nat) (x : Queue) (k : Core) : (setQueue q x k).dacs = k.dacs := rfl
@[simp] theorem setQueue_handoffs (q : Nat) (x : Queue) (k : Core) : (setQueue q x k).handoffs = k.handoffs := rfl
@[simp] theorem setQueue_faultSubs (q : Nat) (x : Queue) (k : Core) : (setQueue q x k).faultSubs = k.faultSubs := rfl
@[simp] theorem setQueue_trees (q : Nat) (x : Queue) (k : Core) : (setQueue q x k).trees = k.trees := rfl
@[simp] theorem setQueue_pair (q : Nat) (x : Queue) (k : Core) : (setQueue q x k).pair = k.pair := rfl
@[simp] theorem setQueue_chans (q : Nat) (x : Queue) (k : Core) : (setQueue q x k).chans = k.chans := rfl
@[simp] theorem setQueue_ppmus (q : Nat) (x : Queue) (k : Core) : (setQueue q x k).ppmus = k.ppmus := rfl
@[simp] theorem setQueue_wdacs (q : Nat) (x : Queue) (k : Core) : (setQueue q x k).wdacs = k.wdacs := rfl
@[simp] theorem setQueue_convs (q : Nat) (x : Queue) (k : Core) : (setQueue q x k).convs = k.convs := rfl
@[simp] theorem setQueue_plaus (q : Nat) (x : Queue) (k : Core) : (setQueue q x k).plaus = k.plaus := rfl
@[simp] theorem setQueue_elemAt (q : Nat) (x : Queue) (k : Core) : (setQueue q x k).elemAt = k.elemAt := rfl
@[simp] theorem setQueue_wmons (q : Nat) (x : Queue) (k : Core) : (setQueue q x k).wmons = k.wmons := rfl
@[simp] theorem setQueue_wakeRaised (q : Nat) (x : Queue) (k : Core) : (setQueue q x k).wakeRaised = k.wakeRaised := rfl
@[simp] theorem setQueue_fabrics (q : Nat) (x : Queue) (k : Core) : (setQueue q x k).fabrics = k.fabrics := rfl
@[simp] theorem setQueue_cal (q : Nat) (x : Queue) (k : Core) : (setQueue q x k).cal = k.cal := rfl
@[simp] theorem setQueue_pwr (q : Nat) (x : Queue) (k : Core) : (setQueue q x k).pwr = k.pwr := rfl
@[simp] theorem setQueue_sec (q : Nat) (x : Queue) (k : Core) : (setQueue q x k).sec = k.sec := rfl
@[simp] theorem setQueue_engines (q : Nat) (x : Queue) (k : Core) : (setQueue q x k).engines = k.engines := rfl
@[simp] theorem setQueue_fps (q : Nat) (x : Queue) (k : Core) : (setQueue q x k).fps = k.fps := rfl
@[simp] theorem setQueue_hub (q : Nat) (x : Queue) (k : Core) : (setQueue q x k).hub = k.hub := rfl
@[simp] theorem setQueue_faultLog (q : Nat) (x : Queue) (k : Core) : (setQueue q x k).faultLog = k.faultLog := rfl
@[simp] theorem setQueue_faultSeq (q : Nat) (x : Queue) (k : Core) : (setQueue q x k).faultSeq = k.faultSeq := rfl

/-! ### A port's record replaced -/

@[simp] theorem setPort_freeCtr (p : Nat) (x : PortInt) (k : Core) : (setPort p x k).freeCtr = k.freeCtr := rfl
@[simp] theorem setPort_order (p : Nat) (x : PortInt) (k : Core) : (setPort p x k).order = k.order := rfl
@[simp] theorem setPort_regs (p : Nat) (x : PortInt) (k : Core) : (setPort p x k).regs = k.regs := rfl
@[simp] theorem setPort_hiLatch (p : Nat) (x : PortInt) (k : Core) : (setPort p x k).hiLatch = k.hiLatch := rfl
@[simp] theorem setPort_clock (p : Nat) (x : PortInt) (k : Core) : (setPort p x k).clock = k.clock := rfl
@[simp] theorem setPort_stw (p : Nat) (x : PortInt) (k : Core) : (setPort p x k).stw = k.stw := rfl
@[simp] theorem setPort_mem (p : Nat) (x : PortInt) (k : Core) : (setPort p x k).mem = k.mem := rfl
@[simp] theorem setPort_car (p : Nat) (x : PortInt) (k : Core) : (setPort p x k).car = { k.car with ports := amSet k.car.ports p x } := rfl
@[simp] theorem setPort_cells (p : Nat) (x : PortInt) (k : Core) : (setPort p x k).cells = k.cells := rfl
@[simp] theorem setPort_dacs (p : Nat) (x : PortInt) (k : Core) : (setPort p x k).dacs = k.dacs := rfl
@[simp] theorem setPort_handoffs (p : Nat) (x : PortInt) (k : Core) : (setPort p x k).handoffs = k.handoffs := rfl
@[simp] theorem setPort_faultSubs (p : Nat) (x : PortInt) (k : Core) : (setPort p x k).faultSubs = k.faultSubs := rfl
@[simp] theorem setPort_trees (p : Nat) (x : PortInt) (k : Core) : (setPort p x k).trees = k.trees := rfl
@[simp] theorem setPort_pair (p : Nat) (x : PortInt) (k : Core) : (setPort p x k).pair = k.pair := rfl
@[simp] theorem setPort_chans (p : Nat) (x : PortInt) (k : Core) : (setPort p x k).chans = k.chans := rfl
@[simp] theorem setPort_ppmus (p : Nat) (x : PortInt) (k : Core) : (setPort p x k).ppmus = k.ppmus := rfl
@[simp] theorem setPort_wdacs (p : Nat) (x : PortInt) (k : Core) : (setPort p x k).wdacs = k.wdacs := rfl
@[simp] theorem setPort_convs (p : Nat) (x : PortInt) (k : Core) : (setPort p x k).convs = k.convs := rfl
@[simp] theorem setPort_plaus (p : Nat) (x : PortInt) (k : Core) : (setPort p x k).plaus = k.plaus := rfl
@[simp] theorem setPort_elemAt (p : Nat) (x : PortInt) (k : Core) : (setPort p x k).elemAt = k.elemAt := rfl
@[simp] theorem setPort_wmons (p : Nat) (x : PortInt) (k : Core) : (setPort p x k).wmons = k.wmons := rfl
@[simp] theorem setPort_wakeRaised (p : Nat) (x : PortInt) (k : Core) : (setPort p x k).wakeRaised = k.wakeRaised := rfl
@[simp] theorem setPort_fabrics (p : Nat) (x : PortInt) (k : Core) : (setPort p x k).fabrics = k.fabrics := rfl
@[simp] theorem setPort_cal (p : Nat) (x : PortInt) (k : Core) : (setPort p x k).cal = k.cal := rfl
@[simp] theorem setPort_pwr (p : Nat) (x : PortInt) (k : Core) : (setPort p x k).pwr = k.pwr := rfl
@[simp] theorem setPort_sec (p : Nat) (x : PortInt) (k : Core) : (setPort p x k).sec = k.sec := rfl
@[simp] theorem setPort_engines (p : Nat) (x : PortInt) (k : Core) : (setPort p x k).engines = k.engines := rfl
@[simp] theorem setPort_fps (p : Nat) (x : PortInt) (k : Core) : (setPort p x k).fps = k.fps := rfl
@[simp] theorem setPort_hub (p : Nat) (x : PortInt) (k : Core) : (setPort p x k).hub = k.hub := rfl
@[simp] theorem setPort_faultLog (p : Nat) (x : PortInt) (k : Core) : (setPort p x k).faultLog = k.faultLog := rfl
@[simp] theorem setPort_faultSeq (p : Nat) (x : PortInt) (k : Core) : (setPort p x k).faultSeq = k.faultSeq := rfl

/-! ### A message sent -/

@[simp] theorem sendRouted_freeCtr (m : Msg) (k : Core) : (sendRouted m k).freeCtr = k.freeCtr := rfl
@[simp] theorem sendRouted_order (m : Msg) (k : Core) : (sendRouted m k).order = k.order := rfl
@[simp] theorem sendRouted_regs (m : Msg) (k : Core) : (sendRouted m k).regs = k.regs := rfl
@[simp] theorem sendRouted_hiLatch (m : Msg) (k : Core) : (sendRouted m k).hiLatch = k.hiLatch := rfl
@[simp] theorem sendRouted_clock (m : Msg) (k : Core) : (sendRouted m k).clock = k.clock := rfl
@[simp] theorem sendRouted_stw (m : Msg) (k : Core) : (sendRouted m k).stw = k.stw := rfl
@[simp] theorem sendRouted_mem (m : Msg) (k : Core) : (sendRouted m k).mem = k.mem := rfl
@[simp] theorem sendRouted_car (m : Msg) (k : Core) : (sendRouted m k).car = { k.car with outbox := k.car.outbox ++ [⟨none, m⟩] } := rfl
@[simp] theorem sendRouted_cells (m : Msg) (k : Core) : (sendRouted m k).cells = k.cells := rfl
@[simp] theorem sendRouted_dacs (m : Msg) (k : Core) : (sendRouted m k).dacs = k.dacs := rfl
@[simp] theorem sendRouted_handoffs (m : Msg) (k : Core) : (sendRouted m k).handoffs = k.handoffs := rfl
@[simp] theorem sendRouted_faultSubs (m : Msg) (k : Core) : (sendRouted m k).faultSubs = k.faultSubs := rfl
@[simp] theorem sendRouted_trees (m : Msg) (k : Core) : (sendRouted m k).trees = k.trees := rfl
@[simp] theorem sendRouted_pair (m : Msg) (k : Core) : (sendRouted m k).pair = k.pair := rfl
@[simp] theorem sendRouted_chans (m : Msg) (k : Core) : (sendRouted m k).chans = k.chans := rfl
@[simp] theorem sendRouted_ppmus (m : Msg) (k : Core) : (sendRouted m k).ppmus = k.ppmus := rfl
@[simp] theorem sendRouted_wdacs (m : Msg) (k : Core) : (sendRouted m k).wdacs = k.wdacs := rfl
@[simp] theorem sendRouted_convs (m : Msg) (k : Core) : (sendRouted m k).convs = k.convs := rfl
@[simp] theorem sendRouted_plaus (m : Msg) (k : Core) : (sendRouted m k).plaus = k.plaus := rfl
@[simp] theorem sendRouted_elemAt (m : Msg) (k : Core) : (sendRouted m k).elemAt = k.elemAt := rfl
@[simp] theorem sendRouted_wmons (m : Msg) (k : Core) : (sendRouted m k).wmons = k.wmons := rfl
@[simp] theorem sendRouted_wakeRaised (m : Msg) (k : Core) : (sendRouted m k).wakeRaised = k.wakeRaised := rfl
@[simp] theorem sendRouted_fabrics (m : Msg) (k : Core) : (sendRouted m k).fabrics = k.fabrics := rfl
@[simp] theorem sendRouted_cal (m : Msg) (k : Core) : (sendRouted m k).cal = k.cal := rfl
@[simp] theorem sendRouted_pwr (m : Msg) (k : Core) : (sendRouted m k).pwr = k.pwr := rfl
@[simp] theorem sendRouted_sec (m : Msg) (k : Core) : (sendRouted m k).sec = k.sec := rfl
@[simp] theorem sendRouted_engines (m : Msg) (k : Core) : (sendRouted m k).engines = k.engines := rfl
@[simp] theorem sendRouted_fps (m : Msg) (k : Core) : (sendRouted m k).fps = k.fps := rfl
@[simp] theorem sendRouted_hub (m : Msg) (k : Core) : (sendRouted m k).hub = k.hub := rfl
@[simp] theorem sendRouted_faultLog (m : Msg) (k : Core) : (sendRouted m k).faultLog = k.faultLog := rfl
@[simp] theorem sendRouted_faultSeq (m : Msg) (k : Core) : (sendRouted m k).faultSeq = k.faultSeq := rfl

/-! ### A change counted -/

@[simp] theorem bumpVersion_freeCtr (key : Nat) (k : Core) : (bumpVersion key k).freeCtr = k.freeCtr := rfl
@[simp] theorem bumpVersion_order (key : Nat) (k : Core) : (bumpVersion key k).order = k.order := rfl
@[simp] theorem bumpVersion_regs (key : Nat) (k : Core) : (bumpVersion key k).regs = k.regs := rfl
@[simp] theorem bumpVersion_hiLatch (key : Nat) (k : Core) : (bumpVersion key k).hiLatch = k.hiLatch := rfl
@[simp] theorem bumpVersion_clock (key : Nat) (k : Core) : (bumpVersion key k).clock = k.clock := rfl
@[simp] theorem bumpVersion_mem (key : Nat) (k : Core) : (bumpVersion key k).mem = k.mem := rfl
@[simp] theorem bumpVersion_car (key : Nat) (k : Core) : (bumpVersion key k).car = k.car := rfl
@[simp] theorem bumpVersion_cells (key : Nat) (k : Core) : (bumpVersion key k).cells = k.cells := rfl
@[simp] theorem bumpVersion_dacs (key : Nat) (k : Core) : (bumpVersion key k).dacs = k.dacs := rfl
@[simp] theorem bumpVersion_handoffs (key : Nat) (k : Core) : (bumpVersion key k).handoffs = k.handoffs := rfl
@[simp] theorem bumpVersion_faultSubs (key : Nat) (k : Core) : (bumpVersion key k).faultSubs = k.faultSubs := rfl
@[simp] theorem bumpVersion_trees (key : Nat) (k : Core) : (bumpVersion key k).trees = k.trees := rfl
@[simp] theorem bumpVersion_pair (key : Nat) (k : Core) : (bumpVersion key k).pair = k.pair := rfl
@[simp] theorem bumpVersion_chans (key : Nat) (k : Core) : (bumpVersion key k).chans = k.chans := rfl
@[simp] theorem bumpVersion_ppmus (key : Nat) (k : Core) : (bumpVersion key k).ppmus = k.ppmus := rfl
@[simp] theorem bumpVersion_wdacs (key : Nat) (k : Core) : (bumpVersion key k).wdacs = k.wdacs := rfl
@[simp] theorem bumpVersion_convs (key : Nat) (k : Core) : (bumpVersion key k).convs = k.convs := rfl
@[simp] theorem bumpVersion_plaus (key : Nat) (k : Core) : (bumpVersion key k).plaus = k.plaus := rfl
@[simp] theorem bumpVersion_elemAt (key : Nat) (k : Core) : (bumpVersion key k).elemAt = k.elemAt := rfl
@[simp] theorem bumpVersion_wmons (key : Nat) (k : Core) : (bumpVersion key k).wmons = k.wmons := rfl
@[simp] theorem bumpVersion_wakeRaised (key : Nat) (k : Core) : (bumpVersion key k).wakeRaised = k.wakeRaised := rfl
@[simp] theorem bumpVersion_fabrics (key : Nat) (k : Core) : (bumpVersion key k).fabrics = k.fabrics := rfl
@[simp] theorem bumpVersion_cal (key : Nat) (k : Core) : (bumpVersion key k).cal = k.cal := rfl
@[simp] theorem bumpVersion_pwr (key : Nat) (k : Core) : (bumpVersion key k).pwr = k.pwr := rfl
@[simp] theorem bumpVersion_sec (key : Nat) (k : Core) : (bumpVersion key k).sec = k.sec := rfl
@[simp] theorem bumpVersion_engines (key : Nat) (k : Core) : (bumpVersion key k).engines = k.engines := rfl
@[simp] theorem bumpVersion_fps (key : Nat) (k : Core) : (bumpVersion key k).fps = k.fps := rfl
@[simp] theorem bumpVersion_hub (key : Nat) (k : Core) : (bumpVersion key k).hub = k.hub := rfl
@[simp] theorem bumpVersion_faultLog (key : Nat) (k : Core) : (bumpVersion key k).faultLog = k.faultLog := rfl
@[simp] theorem bumpVersion_faultSeq (key : Nat) (k : Core) : (bumpVersion key k).faultSeq = k.faultSeq := rfl

/-! ### A fault logged -/

@[simp] theorem logFault_freeCtr (level action code unit : Nat) (detail : Word) (k : Core) : (logFault level action code unit detail k).freeCtr = k.freeCtr := rfl
@[simp] theorem logFault_order (level action code unit : Nat) (detail : Word) (k : Core) : (logFault level action code unit detail k).order = k.order := rfl
@[simp] theorem logFault_hiLatch (level action code unit : Nat) (detail : Word) (k : Core) : (logFault level action code unit detail k).hiLatch = k.hiLatch := rfl
@[simp] theorem logFault_clock (level action code unit : Nat) (detail : Word) (k : Core) : (logFault level action code unit detail k).clock = k.clock := rfl
@[simp] theorem logFault_stw (level action code unit : Nat) (detail : Word) (k : Core) : (logFault level action code unit detail k).stw = k.stw := rfl
@[simp] theorem logFault_mem (level action code unit : Nat) (detail : Word) (k : Core) : (logFault level action code unit detail k).mem = k.mem := rfl
@[simp] theorem logFault_car (level action code unit : Nat) (detail : Word) (k : Core) : (logFault level action code unit detail k).car = k.car := rfl
@[simp] theorem logFault_cells (level action code unit : Nat) (detail : Word) (k : Core) : (logFault level action code unit detail k).cells = k.cells := rfl
@[simp] theorem logFault_dacs (level action code unit : Nat) (detail : Word) (k : Core) : (logFault level action code unit detail k).dacs = k.dacs := rfl
@[simp] theorem logFault_handoffs (level action code unit : Nat) (detail : Word) (k : Core) : (logFault level action code unit detail k).handoffs = k.handoffs := rfl
@[simp] theorem logFault_faultSubs (level action code unit : Nat) (detail : Word) (k : Core) : (logFault level action code unit detail k).faultSubs = k.faultSubs := rfl
@[simp] theorem logFault_trees (level action code unit : Nat) (detail : Word) (k : Core) : (logFault level action code unit detail k).trees = k.trees := rfl
@[simp] theorem logFault_pair (level action code unit : Nat) (detail : Word) (k : Core) : (logFault level action code unit detail k).pair = k.pair := rfl
@[simp] theorem logFault_chans (level action code unit : Nat) (detail : Word) (k : Core) : (logFault level action code unit detail k).chans = k.chans := rfl
@[simp] theorem logFault_ppmus (level action code unit : Nat) (detail : Word) (k : Core) : (logFault level action code unit detail k).ppmus = k.ppmus := rfl
@[simp] theorem logFault_wdacs (level action code unit : Nat) (detail : Word) (k : Core) : (logFault level action code unit detail k).wdacs = k.wdacs := rfl
@[simp] theorem logFault_convs (level action code unit : Nat) (detail : Word) (k : Core) : (logFault level action code unit detail k).convs = k.convs := rfl
@[simp] theorem logFault_plaus (level action code unit : Nat) (detail : Word) (k : Core) : (logFault level action code unit detail k).plaus = k.plaus := rfl
@[simp] theorem logFault_elemAt (level action code unit : Nat) (detail : Word) (k : Core) : (logFault level action code unit detail k).elemAt = k.elemAt := rfl
@[simp] theorem logFault_wmons (level action code unit : Nat) (detail : Word) (k : Core) : (logFault level action code unit detail k).wmons = k.wmons := rfl
@[simp] theorem logFault_wakeRaised (level action code unit : Nat) (detail : Word) (k : Core) : (logFault level action code unit detail k).wakeRaised = k.wakeRaised := rfl
@[simp] theorem logFault_fabrics (level action code unit : Nat) (detail : Word) (k : Core) : (logFault level action code unit detail k).fabrics = k.fabrics := rfl
@[simp] theorem logFault_cal (level action code unit : Nat) (detail : Word) (k : Core) : (logFault level action code unit detail k).cal = k.cal := rfl
@[simp] theorem logFault_pwr (level action code unit : Nat) (detail : Word) (k : Core) : (logFault level action code unit detail k).pwr = k.pwr := rfl
@[simp] theorem logFault_sec (level action code unit : Nat) (detail : Word) (k : Core) : (logFault level action code unit detail k).sec = k.sec := rfl
@[simp] theorem logFault_engines (level action code unit : Nat) (detail : Word) (k : Core) : (logFault level action code unit detail k).engines = k.engines := rfl
@[simp] theorem logFault_fps (level action code unit : Nat) (detail : Word) (k : Core) : (logFault level action code unit detail k).fps = k.fps := rfl
@[simp] theorem logFault_hub (level action code unit : Nat) (detail : Word) (k : Core) : (logFault level action code unit detail k).hub = k.hub := rfl
@[simp] theorem logFault_faultSeq (level action code unit : Nat) (detail : Word) (k : Core) : (logFault level action code unit detail k).faultSeq = k.faultSeq + 1 := rfl

end Sys2Proof.Machine
end

