-- ==== Sys2Proof/Laws/Maps.lean ====
section
/-! SUPPORT. Reading a sparse map after a change of it, and registers after a write. -/

namespace Sys2Proof.Machine

/-! ### Maps -/

/-- An entry reads as it was set. -/
@[simp] theorem amGet?_amSet_same {α : Type} (m : AMap α) (k : Nat) (v : α) : amGet? (amSet m k v) k = some v := by
  induction m with
  | nil => simp [amSet, amGet?]
  | cons e t ih =>
    obtain ⟨k', v'⟩ := e
    simp only [amSet]
    split
    · simp [amGet?]
    · split
      · simp [amGet?]
      · rename_i h _
        simp [amGet?, h, ih]

/-- Setting an entry leaves every other. -/
theorem amGet?_amSet_ne {α : Type} (m : AMap α) (k j : Nat) (v : α) (h : j ≠ k) : amGet? (amSet m k v) j = amGet? m j := by
  induction m with
  | nil => simp [amSet, amGet?, Ne.symm h]
  | cons e t ih =>
    obtain ⟨k', v'⟩ := e
    simp only [amSet]
    split
    · rename_i hk
      subst hk
      simp [amGet?, Ne.symm h]
    · split
      · simp [amGet?, Ne.symm h]
      · simp [amGet?, ih]

/-- An entry after another, or the same, is set. -/
theorem amGet?_amSet {α : Type} (m : AMap α) (k j : Nat) (v : α) :
    amGet? (amSet m k v) j = if j = k then some v else amGet? m j := by
  by_cases h : j = k
  · subst h; simp
  · simp [h, amGet?_amSet_ne m k j v h]

/-- Removing the entries of a key from a map that begins with an entry. -/
theorem amErase_cons {α : Type} (e : Nat × α) (t : AMap α) (k : Nat) :
    amErase (e :: t) k = if e.1 = k then amErase t k else e :: amErase t k := by
  by_cases h : e.1 = k <;> simp [amErase, h]

/-- An entry removed reads as none. -/
@[simp] theorem amGet?_amErase_same {α : Type} (m : AMap α) (k : Nat) : amGet? (amErase m k) k = none := by
  induction m with
  | nil => rfl
  | cons e t ih =>
    rw [amErase_cons]
    split
    · exact ih
    · rename_i h
      obtain ⟨k', v'⟩ := e
      simpa [amGet?, h] using ih

/-- Removing an entry leaves every other. -/
theorem amGet?_amErase_ne {α : Type} (m : AMap α) (k j : Nat) (h : j ≠ k) : amGet? (amErase m k) j = amGet? m j := by
  induction m with
  | nil => rfl
  | cons e t ih =>
    rw [amErase_cons]
    obtain ⟨k', v'⟩ := e
    split
    · rename_i hk
      simp only at hk
      subst hk
      simpa [amGet?, Ne.symm h] using ih
    · simp [amGet?, ih]

/-- The record of a key after it is set. -/
@[simp] theorem amGetD_amSet_same {α : Type} (m : AMap α) (k : Nat) (v d : α) : amGetD (amSet m k v) k d = v := by
  simp [amGetD]

/-- The record of another key is left. -/
theorem amGetD_amSet_ne {α : Type} (m : AMap α) (k j : Nat) (v d : α) (h : j ≠ k) :
    amGetD (amSet m k v) j d = amGetD m j d := by
  simp [amGetD, amGet?_amSet_ne m k j v h]

/-! ### Registers -/

/-- A register reads by the registers and the order code alone. -/
theorem reg_congr (k k' : Core) (a : Nat) (hr : k'.regs = k.regs) (ho : k'.order = k.order) : reg k' a = reg k a := by
  simp [reg, hr, ho]

/-- A register reads as it was set. -/
@[simp] theorem reg_setReg_same (a : Nat) (v : Word) (k : Core) : reg (setReg a v k) a = v := by
  simp [reg]

/-- Setting a register leaves every other. -/
theorem reg_setReg_ne (a b : Nat) (v : Word) (k : Core) (h : b ≠ a) : reg (setReg a v k) b = reg k b := by
  simp [reg, amGet?_amSet_ne _ _ _ _ h]

/-- A register after another, or the same, is set. -/
theorem reg_setReg (a b : Nat) (v : Word) (k : Core) : reg (setReg a v k) b = if b = a then v else reg k b := by
  by_cases h : b = a
  · subst h; simp
  · simp [h, reg_setReg_ne a b v k h]

/-- A register after a field of it is set. -/
@[simp] theorem reg_setRegFld_same (a hi lo v : Nat) (k : Core) : reg (setRegFld a hi lo v k) a = setFld (reg k a) hi lo v := by
  simp [setRegFld]

/-- Setting a field leaves every other register. -/
theorem reg_setRegFld_ne (a hi lo v b : Nat) (k : Core) (h : b ≠ a) : reg (setRegFld a hi lo v k) b = reg k b := by
  simp [setRegFld, reg_setReg_ne _ _ _ _ h]

/-- A register after a bit of it is set. -/
@[simp] theorem reg_setRegBit_same (a i : Nat) (v : Bool) (k : Core) : reg (setRegBit a i v k) a = putBit (reg k a) i v := by
  simp [setRegBit]

/-- Setting a bit leaves every other register. -/
theorem reg_setRegBit_ne (a i : Nat) (v : Bool) (b : Nat) (k : Core) (h : b ≠ a) : reg (setRegBit a i v k) b = reg k b := by
  simp [setRegBit, reg_setReg_ne _ _ _ _ h]

/-- The bits of a word with one bit set. -/
theorem oneBit_getLsbD (i j : Nat) : (oneBit i).getLsbD j = (decide (j < 32) && decide (i = j)) := by
  simp only [oneBit, BitVec.getLsbD, BitVec.toNat_ofNat, Nat.testBit_mod_two_pow, Nat.testBit_two_pow]

/-- The bits of a word after a bit of it is set. -/
theorem bit_putBit (w : Word) (i j : Nat) (v : Bool) (hi : i < 32) : bit (putBit w i v) j = if j = i then v else bit w j := by
  have e : bit (putBit w i v) j = if v then w.getLsbD j || (decide (j < 32) && decide (i = j))
      else w.getLsbD j && (decide (j < 32) && !(decide (j < 32) && decide (i = j))) := by
    cases v
    · show (w &&& ~~~(oneBit i)).getLsbD j = _
      rw [BitVec.getLsbD_and, BitVec.getLsbD_not, oneBit_getLsbD]
      rfl
    · show (w ||| oneBit i).getLsbD j = _
      rw [BitVec.getLsbD_or, oneBit_getLsbD]
      rfl
  rw [e]
  by_cases hj : j < 32
  · by_cases h : j = i
    · subst h; cases v <;> simp [hj]
    · cases v <;> simp [hj, h, Ne.symm h, bit]
  · have z : w.getLsbD j = false := BitVec.getLsbD_of_ge w j (by omega)
    have n : j ≠ i := by omega
    cases v <;> simp [hj, n, bit, z]

/-- A bit reads as it was set. -/
theorem bit_putBit_same (w : Word) (i : Nat) (v : Bool) (h : i < 32) : bit (putBit w i v) i = v := by
  simp [bit_putBit w i i v h]

/-- Setting a bit leaves every other. -/
theorem bit_putBit_ne (w : Word) (i j : Nat) (v : Bool) (hi : i < 32) (h : j ≠ i) : bit (putBit w i v) j = bit w j := by
  simp [bit_putBit w i j v hi, h]

/-- A bit of a register reads as it was set. -/
theorem regBit_setRegBit_same (a i : Nat) (v : Bool) (k : Core) (h : i < 32) : regBit (setRegBit a i v k) a i = v := by
  simp [regBit, bit_putBit_same _ _ _ h]

end Sys2Proof.Machine
end

