-- ==== Sys2Proof/Laws/Regs.lean ====
section
/-! SUPPORT. Bit fields of words and registers, and what the shared operations of replies, vectors, event registers, tickets and
fault records can change. -/

namespace Sys2Proof.Machine

/-! ### Bit fields -/

/-- A bit of a field is a bit of the word. -/
theorem fld_testBit (w : Word) (hi lo i : Nat) : (fld w hi lo).testBit i = (decide (i < hi + 1 - lo) && w.getLsbD (i + lo)) := by
  rw [fld, Nat.testBit_mod_two_pow, ← Nat.shiftRight_eq_div_pow, Nat.testBit_shiftRight, Nat.add_comm lo i]
  rfl

/-- The bits of a field's mask. -/
theorem mask_testBit (n lo j : Nat) : ((2 ^ n - 1) * 2 ^ lo).testBit j = (decide (lo ≤ j) && decide (j < lo + n)) := by
  rw [Nat.testBit_mul_two_pow, Nat.testBit_two_pow_sub_one]
  by_cases h : lo ≤ j <;> simp [h]
  omega

/-- The bits of a word after a field of it is set. -/
theorem setFld_getLsbD (w : Word) (hi lo v j : Nat) :
    (setFld w hi lo v).getLsbD j =
      if decide (lo ≤ j) && decide (j < lo + (hi + 1 - lo)) then decide (j < 32) && v.testBit (j - lo) else w.getLsbD j := by
  have m : (BitVec.ofNat 32 ((2 ^ (hi + 1 - lo) - 1) * 2 ^ lo)).getLsbD j
      = (decide (j < 32) && (decide (lo ≤ j) && decide (j < lo + (hi + 1 - lo)))) := by
    rw [BitVec.getLsbD, BitVec.toNat_ofNat, Nat.testBit_mod_two_pow, mask_testBit]
  have n : (BitVec.ofNat 32 (v * 2 ^ lo)).getLsbD j = (decide (j < 32) && (decide (lo ≤ j) && v.testBit (j - lo))) := by
    rw [BitVec.getLsbD, BitVec.toNat_ofNat, Nat.testBit_mod_two_pow, Nat.testBit_mul_two_pow]
  show ((w &&& ~~~(BitVec.ofNat 32 ((2 ^ (hi + 1 - lo) - 1) * 2 ^ lo))) |||
    (BitVec.ofNat 32 (v * 2 ^ lo) &&& BitVec.ofNat 32 ((2 ^ (hi + 1 - lo) - 1) * 2 ^ lo))).getLsbD j = _
  rw [BitVec.getLsbD_or, BitVec.getLsbD_and, BitVec.getLsbD_and, BitVec.getLsbD_not, m, n]
  by_cases hj : j < 32
  · by_cases a : lo ≤ j <;> by_cases b : j < lo + (hi + 1 - lo) <;> simp [hj, a, b]
  · have z : w.getLsbD j = false := BitVec.getLsbD_of_ge w j (by omega)
    simp [hj, z]

/-- A field reads as it was set, in its width. -/
theorem fld_setFld_same (w : Word) (hi lo v : Nat) (h : hi < 32) : fld (setFld w hi lo v) hi lo = v % 2 ^ (hi + 1 - lo) := by
  apply Nat.eq_of_testBit_eq
  intro i
  rw [fld_testBit, setFld_getLsbD, Nat.testBit_mod_two_pow]
  by_cases hi' : i < hi + 1 - lo
  · have a : lo ≤ i + lo := by omega
    have b : i + lo < lo + (hi + 1 - lo) := by omega
    have c : i + lo < 32 := by omega
    simp [hi', b, c]
  · simp [hi']

/-- Setting a field leaves a field that lies outside it. -/
theorem fld_setFld_ne (w : Word) (hi lo v hi' lo' : Nat) (h : hi' < lo ∨ hi < lo') :
    fld (setFld w hi lo v) hi' lo' = fld w hi' lo' := by
  apply Nat.eq_of_testBit_eq
  intro i
  rw [fld_testBit, fld_testBit, setFld_getLsbD]
  by_cases hi2 : i < hi' + 1 - lo'
  · have : ¬ (lo ≤ i + lo' ∧ i + lo' < lo + (hi + 1 - lo)) := by omega
    simp [hi2, this]
  · simp [hi2]

/-- Setting a field leaves a bit that lies outside it. -/
theorem bit_setFld_ne (w : Word) (hi lo v i : Nat) (h : i < lo ∨ hi < i) : bit (setFld w hi lo v) i = bit w i := by
  have : ¬ (lo ≤ i ∧ i < lo + (hi + 1 - lo)) := by omega
  simp only [bit, setFld_getLsbD]
  simp [this]

/-- Setting a bit leaves a field that does not take it in. -/
theorem fld_putBit_ne (w : Word) (i : Nat) (v : Bool) (hi lo : Nat) (hi' : i < 32) (h : i < lo ∨ hi < i) :
    fld (putBit w i v) hi lo = fld w hi lo := by
  apply Nat.eq_of_testBit_eq
  intro j
  rw [fld_testBit, fld_testBit]
  by_cases hj : j < hi + 1 - lo
  · have e : j + lo ≠ i := by omega
    have := bit_putBit w i (j + lo) v hi'
    simp only [bit, e, if_false] at this
    simp [hj, this]
  · simp [hj]

/-- A field of a register reads as it was set, in its width. -/
theorem regFld_setRegFld_same (a hi lo v : Nat) (k : Core) (h : hi < 32) :
    regFld (setRegFld a hi lo v k) a hi lo = v % 2 ^ (hi + 1 - lo) := by
  simp [regFld, fld_setFld_same _ _ _ _ h]

/-! ### What the shared operations change -/

/-- Sending a vector changes the host port's state alone. -/
theorem sendVector_eq (v : Nat) (k : Core) : ∃ w, sendVector v k = { k with stw := w } := by
  exact ⟨_, rfl⟩

@[simp] theorem sendVector_freeCtr (v : Nat) (k : Core) : (sendVector v k).freeCtr = k.freeCtr := by
  obtain ⟨_, h⟩ := sendVector_eq v k; rw [h]
@[simp] theorem sendVector_order (v : Nat) (k : Core) : (sendVector v k).order = k.order := by
  obtain ⟨_, h⟩ := sendVector_eq v k; rw [h]
@[simp] theorem sendVector_regs (v : Nat) (k : Core) : (sendVector v k).regs = k.regs := by
  obtain ⟨_, h⟩ := sendVector_eq v k; rw [h]
@[simp] theorem sendVector_hiLatch (v : Nat) (k : Core) : (sendVector v k).hiLatch = k.hiLatch := by
  obtain ⟨_, h⟩ := sendVector_eq v k; rw [h]
@[simp] theorem sendVector_clock (v : Nat) (k : Core) : (sendVector v k).clock = k.clock := by
  obtain ⟨_, h⟩ := sendVector_eq v k; rw [h]
@[simp] theorem sendVector_mem (v : Nat) (k : Core) : (sendVector v k).mem = k.mem := by
  obtain ⟨_, h⟩ := sendVector_eq v k; rw [h]
@[simp] theorem sendVector_car (v : Nat) (k : Core) : (sendVector v k).car = k.car := by
  obtain ⟨_, h⟩ := sendVector_eq v k; rw [h]
@[simp] theorem sendVector_cells (v : Nat) (k : Core) : (sendVector v k).cells = k.cells := by
  obtain ⟨_, h⟩ := sendVector_eq v k; rw [h]
@[simp] theorem sendVector_dacs (v : Nat) (k : Core) : (sendVector v k).dacs = k.dacs := by
  obtain ⟨_, h⟩ := sendVector_eq v k; rw [h]
@[simp] theorem sendVector_handoffs (v : Nat) (k : Core) : (sendVector v k).handoffs = k.handoffs := by
  obtain ⟨_, h⟩ := sendVector_eq v k; rw [h]
@[simp] theorem sendVector_faultSubs (v : Nat) (k : Core) : (sendVector v k).faultSubs = k.faultSubs := by
  obtain ⟨_, h⟩ := sendVector_eq v k; rw [h]
@[simp] theorem sendVector_trees (v : Nat) (k : Core) : (sendVector v k).trees = k.trees := by
  obtain ⟨_, h⟩ := sendVector_eq v k; rw [h]
@[simp] theorem sendVector_pair (v : Nat) (k : Core) : (sendVector v k).pair = k.pair := by
  obtain ⟨_, h⟩ := sendVector_eq v k; rw [h]
@[simp] theorem sendVector_chans (v : Nat) (k : Core) : (sendVector v k).chans = k.chans := by
  obtain ⟨_, h⟩ := sendVector_eq v k; rw [h]
@[simp] theorem sendVector_ppmus (v : Nat) (k : Core) : (sendVector v k).ppmus = k.ppmus := by
  obtain ⟨_, h⟩ := sendVector_eq v k; rw [h]
@[simp] theorem sendVector_wdacs (v : Nat) (k : Core) : (sendVector v k).wdacs = k.wdacs := by
  obtain ⟨_, h⟩ := sendVector_eq v k; rw [h]
@[simp] theorem sendVector_convs (v : Nat) (k : Core) : (sendVector v k).convs = k.convs := by
  obtain ⟨_, h⟩ := sendVector_eq v k; rw [h]
@[simp] theorem sendVector_plaus (v : Nat) (k : Core) : (sendVector v k).plaus = k.plaus := by
  obtain ⟨_, h⟩ := sendVector_eq v k; rw [h]
@[simp] theorem sendVector_elemAt (v : Nat) (k : Core) : (sendVector v k).elemAt = k.elemAt := by
  obtain ⟨_, h⟩ := sendVector_eq v k; rw [h]
@[simp] theorem sendVector_wmons (v : Nat) (k : Core) : (sendVector v k).wmons = k.wmons := by
  obtain ⟨_, h⟩ := sendVector_eq v k; rw [h]
@[simp] theorem sendVector_wakeRaised (v : Nat) (k : Core) : (sendVector v k).wakeRaised = k.wakeRaised := by
  obtain ⟨_, h⟩ := sendVector_eq v k; rw [h]
@[simp] theorem sendVector_fabrics (v : Nat) (k : Core) : (sendVector v k).fabrics = k.fabrics := by
  obtain ⟨_, h⟩ := sendVector_eq v k; rw [h]
@[simp] theorem sendVector_cal (v : Nat) (k : Core) : (sendVector v k).cal = k.cal := by
  obtain ⟨_, h⟩ := sendVector_eq v k; rw [h]
@[simp] theorem sendVector_pwr (v : Nat) (k : Core) : (sendVector v k).pwr = k.pwr := by
  obtain ⟨_, h⟩ := sendVector_eq v k; rw [h]
@[simp] theorem sendVector_sec (v : Nat) (k : Core) : (sendVector v k).sec = k.sec := by
  obtain ⟨_, h⟩ := sendVector_eq v k; rw [h]
@[simp] theorem sendVector_engines (v : Nat) (k : Core) : (sendVector v k).engines = k.engines := by
  obtain ⟨_, h⟩ := sendVector_eq v k; rw [h]
@[simp] theorem sendVector_fps (v : Nat) (k : Core) : (sendVector v k).fps = k.fps := by
  obtain ⟨_, h⟩ := sendVector_eq v k; rw [h]
@[simp] theorem sendVector_hub (v : Nat) (k : Core) : (sendVector v k).hub = k.hub := by
  obtain ⟨_, h⟩ := sendVector_eq v k; rw [h]
@[simp] theorem sendVector_faultLog (v : Nat) (k : Core) : (sendVector v k).faultLog = k.faultLog := by
  obtain ⟨_, h⟩ := sendVector_eq v k; rw [h]
@[simp] theorem sendVector_faultSeq (v : Nat) (k : Core) : (sendVector v k).faultSeq = k.faultSeq := by
  obtain ⟨_, h⟩ := sendVector_eq v k; rw [h]

/-- Raising a vector changes the host port's state alone. -/
theorem raiseVector_eq (v : Nat) (k : Core) : ∃ w, raiseVector v k = { k with stw := w } := by
  unfold raiseVector
  repeat' split
  all_goals exact ⟨_, rfl⟩

@[simp] theorem raiseVector_freeCtr (v : Nat) (k : Core) : (raiseVector v k).freeCtr = k.freeCtr := by
  obtain ⟨_, h⟩ := raiseVector_eq v k; rw [h]
@[simp] theorem raiseVector_order (v : Nat) (k : Core) : (raiseVector v k).order = k.order := by
  obtain ⟨_, h⟩ := raiseVector_eq v k; rw [h]
@[simp] theorem raiseVector_regs (v : Nat) (k : Core) : (raiseVector v k).regs = k.regs := by
  obtain ⟨_, h⟩ := raiseVector_eq v k; rw [h]
@[simp] theorem raiseVector_hiLatch (v : Nat) (k : Core) : (raiseVector v k).hiLatch = k.hiLatch := by
  obtain ⟨_, h⟩ := raiseVector_eq v k; rw [h]
@[simp] theorem raiseVector_clock (v : Nat) (k : Core) : (raiseVector v k).clock = k.clock := by
  obtain ⟨_, h⟩ := raiseVector_eq v k; rw [h]
@[simp] theorem raiseVector_mem (v : Nat) (k : Core) : (raiseVector v k).mem = k.mem := by
  obtain ⟨_, h⟩ := raiseVector_eq v k; rw [h]
@[simp] theorem raiseVector_car (v : Nat) (k : Core) : (raiseVector v k).car = k.car := by
  obtain ⟨_, h⟩ := raiseVector_eq v k; rw [h]
@[simp] theorem raiseVector_cells (v : Nat) (k : Core) : (raiseVector v k).cells = k.cells := by
  obtain ⟨_, h⟩ := raiseVector_eq v k; rw [h]
@[simp] theorem raiseVector_dacs (v : Nat) (k : Core) : (raiseVector v k).dacs = k.dacs := by
  obtain ⟨_, h⟩ := raiseVector_eq v k; rw [h]
@[simp] theorem raiseVector_handoffs (v : Nat) (k : Core) : (raiseVector v k).handoffs = k.handoffs := by
  obtain ⟨_, h⟩ := raiseVector_eq v k; rw [h]
@[simp] theorem raiseVector_faultSubs (v : Nat) (k : Core) : (raiseVector v k).faultSubs = k.faultSubs := by
  obtain ⟨_, h⟩ := raiseVector_eq v k; rw [h]
@[simp] theorem raiseVector_trees (v : Nat) (k : Core) : (raiseVector v k).trees = k.trees := by
  obtain ⟨_, h⟩ := raiseVector_eq v k; rw [h]
@[simp] theorem raiseVector_pair (v : Nat) (k : Core) : (raiseVector v k).pair = k.pair := by
  obtain ⟨_, h⟩ := raiseVector_eq v k; rw [h]
@[simp] theorem raiseVector_chans (v : Nat) (k : Core) : (raiseVector v k).chans = k.chans := by
  obtain ⟨_, h⟩ := raiseVector_eq v k; rw [h]
@[simp] theorem raiseVector_ppmus (v : Nat) (k : Core) : (raiseVector v k).ppmus = k.ppmus := by
  obtain ⟨_, h⟩ := raiseVector_eq v k; rw [h]
@[simp] theorem raiseVector_wdacs (v : Nat) (k : Core) : (raiseVector v k).wdacs = k.wdacs := by
  obtain ⟨_, h⟩ := raiseVector_eq v k; rw [h]
@[simp] theorem raiseVector_convs (v : Nat) (k : Core) : (raiseVector v k).convs = k.convs := by
  obtain ⟨_, h⟩ := raiseVector_eq v k; rw [h]
@[simp] theorem raiseVector_plaus (v : Nat) (k : Core) : (raiseVector v k).plaus = k.plaus := by
  obtain ⟨_, h⟩ := raiseVector_eq v k; rw [h]
@[simp] theorem raiseVector_elemAt (v : Nat) (k : Core) : (raiseVector v k).elemAt = k.elemAt := by
  obtain ⟨_, h⟩ := raiseVector_eq v k; rw [h]
@[simp] theorem raiseVector_wmons (v : Nat) (k : Core) : (raiseVector v k).wmons = k.wmons := by
  obtain ⟨_, h⟩ := raiseVector_eq v k; rw [h]
@[simp] theorem raiseVector_wakeRaised (v : Nat) (k : Core) : (raiseVector v k).wakeRaised = k.wakeRaised := by
  obtain ⟨_, h⟩ := raiseVector_eq v k; rw [h]
@[simp] theorem raiseVector_fabrics (v : Nat) (k : Core) : (raiseVector v k).fabrics = k.fabrics := by
  obtain ⟨_, h⟩ := raiseVector_eq v k; rw [h]
@[simp] theorem raiseVector_cal (v : Nat) (k : Core) : (raiseVector v k).cal = k.cal := by
  obtain ⟨_, h⟩ := raiseVector_eq v k; rw [h]
@[simp] theorem raiseVector_pwr (v : Nat) (k : Core) : (raiseVector v k).pwr = k.pwr := by
  obtain ⟨_, h⟩ := raiseVector_eq v k; rw [h]
@[simp] theorem raiseVector_sec (v : Nat) (k : Core) : (raiseVector v k).sec = k.sec := by
  obtain ⟨_, h⟩ := raiseVector_eq v k; rw [h]
@[simp] theorem raiseVector_engines (v : Nat) (k : Core) : (raiseVector v k).engines = k.engines := by
  obtain ⟨_, h⟩ := raiseVector_eq v k; rw [h]
@[simp] theorem raiseVector_fps (v : Nat) (k : Core) : (raiseVector v k).fps = k.fps := by
  obtain ⟨_, h⟩ := raiseVector_eq v k; rw [h]
@[simp] theorem raiseVector_hub (v : Nat) (k : Core) : (raiseVector v k).hub = k.hub := by
  obtain ⟨_, h⟩ := raiseVector_eq v k; rw [h]
@[simp] theorem raiseVector_faultLog (v : Nat) (k : Core) : (raiseVector v k).faultLog = k.faultLog := by
  obtain ⟨_, h⟩ := raiseVector_eq v k; rw [h]
@[simp] theorem raiseVector_faultSeq (v : Nat) (k : Core) : (raiseVector v k).faultSeq = k.faultSeq := by
  obtain ⟨_, h⟩ := raiseVector_eq v k; rw [h]

/-- Raising a source's route changes the host port's state alone. -/
theorem raiseRoute_eq (n : Nat) (k : Core) : ∃ w, raiseRoute n k = { k with stw := w } := by
  unfold raiseRoute
  split
  · exact raiseVector_eq _ k
  · exact ⟨k.stw, rfl⟩

@[simp] theorem raiseRoute_freeCtr (n : Nat) (k : Core) : (raiseRoute n k).freeCtr = k.freeCtr := by
  obtain ⟨_, h⟩ := raiseRoute_eq n k; rw [h]
@[simp] theorem raiseRoute_order (n : Nat) (k : Core) : (raiseRoute n k).order = k.order := by
  obtain ⟨_, h⟩ := raiseRoute_eq n k; rw [h]
@[simp] theorem raiseRoute_regs (n : Nat) (k : Core) : (raiseRoute n k).regs = k.regs := by
  obtain ⟨_, h⟩ := raiseRoute_eq n k; rw [h]
@[simp] theorem raiseRoute_hiLatch (n : Nat) (k : Core) : (raiseRoute n k).hiLatch = k.hiLatch := by
  obtain ⟨_, h⟩ := raiseRoute_eq n k; rw [h]
@[simp] theorem raiseRoute_clock (n : Nat) (k : Core) : (raiseRoute n k).clock = k.clock := by
  obtain ⟨_, h⟩ := raiseRoute_eq n k; rw [h]
@[simp] theorem raiseRoute_mem (n : Nat) (k : Core) : (raiseRoute n k).mem = k.mem := by
  obtain ⟨_, h⟩ := raiseRoute_eq n k; rw [h]
@[simp] theorem raiseRoute_car (n : Nat) (k : Core) : (raiseRoute n k).car = k.car := by
  obtain ⟨_, h⟩ := raiseRoute_eq n k; rw [h]
@[simp] theorem raiseRoute_cells (n : Nat) (k : Core) : (raiseRoute n k).cells = k.cells := by
  obtain ⟨_, h⟩ := raiseRoute_eq n k; rw [h]
@[simp] theorem raiseRoute_dacs (n : Nat) (k : Core) : (raiseRoute n k).dacs = k.dacs := by
  obtain ⟨_, h⟩ := raiseRoute_eq n k; rw [h]
@[simp] theorem raiseRoute_handoffs (n : Nat) (k : Core) : (raiseRoute n k).handoffs = k.handoffs := by
  obtain ⟨_, h⟩ := raiseRoute_eq n k; rw [h]
@[simp] theorem raiseRoute_faultSubs (n : Nat) (k : Core) : (raiseRoute n k).faultSubs = k.faultSubs := by
  obtain ⟨_, h⟩ := raiseRoute_eq n k; rw [h]
@[simp] theorem raiseRoute_trees (n : Nat) (k : Core) : (raiseRoute n k).trees = k.trees := by
  obtain ⟨_, h⟩ := raiseRoute_eq n k; rw [h]
@[simp] theorem raiseRoute_pair (n : Nat) (k : Core) : (raiseRoute n k).pair = k.pair := by
  obtain ⟨_, h⟩ := raiseRoute_eq n k; rw [h]
@[simp] theorem raiseRoute_chans (n : Nat) (k : Core) : (raiseRoute n k).chans = k.chans := by
  obtain ⟨_, h⟩ := raiseRoute_eq n k; rw [h]
@[simp] theorem raiseRoute_ppmus (n : Nat) (k : Core) : (raiseRoute n k).ppmus = k.ppmus := by
  obtain ⟨_, h⟩ := raiseRoute_eq n k; rw [h]
@[simp] theorem raiseRoute_wdacs (n : Nat) (k : Core) : (raiseRoute n k).wdacs = k.wdacs := by
  obtain ⟨_, h⟩ := raiseRoute_eq n k; rw [h]
@[simp] theorem raiseRoute_convs (n : Nat) (k : Core) : (raiseRoute n k).convs = k.convs := by
  obtain ⟨_, h⟩ := raiseRoute_eq n k; rw [h]
@[simp] theorem raiseRoute_plaus (n : Nat) (k : Core) : (raiseRoute n k).plaus = k.plaus := by
  obtain ⟨_, h⟩ := raiseRoute_eq n k; rw [h]
@[simp] theorem raiseRoute_elemAt (n : Nat) (k : Core) : (raiseRoute n k).elemAt = k.elemAt := by
  obtain ⟨_, h⟩ := raiseRoute_eq n k; rw [h]
@[simp] theorem raiseRoute_wmons (n : Nat) (k : Core) : (raiseRoute n k).wmons = k.wmons := by
  obtain ⟨_, h⟩ := raiseRoute_eq n k; rw [h]
@[simp] theorem raiseRoute_wakeRaised (n : Nat) (k : Core) : (raiseRoute n k).wakeRaised = k.wakeRaised := by
  obtain ⟨_, h⟩ := raiseRoute_eq n k; rw [h]
@[simp] theorem raiseRoute_fabrics (n : Nat) (k : Core) : (raiseRoute n k).fabrics = k.fabrics := by
  obtain ⟨_, h⟩ := raiseRoute_eq n k; rw [h]
@[simp] theorem raiseRoute_cal (n : Nat) (k : Core) : (raiseRoute n k).cal = k.cal := by
  obtain ⟨_, h⟩ := raiseRoute_eq n k; rw [h]
@[simp] theorem raiseRoute_pwr (n : Nat) (k : Core) : (raiseRoute n k).pwr = k.pwr := by
  obtain ⟨_, h⟩ := raiseRoute_eq n k; rw [h]
@[simp] theorem raiseRoute_sec (n : Nat) (k : Core) : (raiseRoute n k).sec = k.sec := by
  obtain ⟨_, h⟩ := raiseRoute_eq n k; rw [h]
@[simp] theorem raiseRoute_engines (n : Nat) (k : Core) : (raiseRoute n k).engines = k.engines := by
  obtain ⟨_, h⟩ := raiseRoute_eq n k; rw [h]
@[simp] theorem raiseRoute_fps (n : Nat) (k : Core) : (raiseRoute n k).fps = k.fps := by
  obtain ⟨_, h⟩ := raiseRoute_eq n k; rw [h]
@[simp] theorem raiseRoute_hub (n : Nat) (k : Core) : (raiseRoute n k).hub = k.hub := by
  obtain ⟨_, h⟩ := raiseRoute_eq n k; rw [h]
@[simp] theorem raiseRoute_faultLog (n : Nat) (k : Core) : (raiseRoute n k).faultLog = k.faultLog := by
  obtain ⟨_, h⟩ := raiseRoute_eq n k; rw [h]
@[simp] theorem raiseRoute_faultSeq (n : Nat) (k : Core) : (raiseRoute n k).faultSeq = k.faultSeq := by
  obtain ⟨_, h⟩ := raiseRoute_eq n k; rw [h]

/-- Recording a cause changes registers and the host port's state alone. -/
theorem recordCause_eq (a i : Nat) (k : Core) : ∃ r w, recordCause a i k = { k with regs := r, stw := w } := by
  have key (n : Nat) (v : Word) : ∃ r w, raiseRoute n (setReg a v k) = { k with regs := r, stw := w } := by
    obtain ⟨w, h⟩ := raiseRoute_eq n (setReg a v k)
    exact ⟨amSet k.regs a v, w, h⟩
  unfold recordCause
  simp only
  split
  · split
    · exact ⟨_, _, rfl⟩
    · split
      · exact key _ _
      · exact ⟨_, _, rfl⟩
  · exact ⟨_, _, rfl⟩

@[simp] theorem recordCause_freeCtr (a i : Nat) (k : Core) : (recordCause a i k).freeCtr = k.freeCtr := by
  obtain ⟨_, _, h⟩ := recordCause_eq a i k; rw [h]
@[simp] theorem recordCause_order (a i : Nat) (k : Core) : (recordCause a i k).order = k.order := by
  obtain ⟨_, _, h⟩ := recordCause_eq a i k; rw [h]
@[simp] theorem recordCause_hiLatch (a i : Nat) (k : Core) : (recordCause a i k).hiLatch = k.hiLatch := by
  obtain ⟨_, _, h⟩ := recordCause_eq a i k; rw [h]
@[simp] theorem recordCause_clock (a i : Nat) (k : Core) : (recordCause a i k).clock = k.clock := by
  obtain ⟨_, _, h⟩ := recordCause_eq a i k; rw [h]
@[simp] theorem recordCause_mem (a i : Nat) (k : Core) : (recordCause a i k).mem = k.mem := by
  obtain ⟨_, _, h⟩ := recordCause_eq a i k; rw [h]
@[simp] theorem recordCause_car (a i : Nat) (k : Core) : (recordCause a i k).car = k.car := by
  obtain ⟨_, _, h⟩ := recordCause_eq a i k; rw [h]
@[simp] theorem recordCause_cells (a i : Nat) (k : Core) : (recordCause a i k).cells = k.cells := by
  obtain ⟨_, _, h⟩ := recordCause_eq a i k; rw [h]
@[simp] theorem recordCause_dacs (a i : Nat) (k : Core) : (recordCause a i k).dacs = k.dacs := by
  obtain ⟨_, _, h⟩ := recordCause_eq a i k; rw [h]
@[simp] theorem recordCause_handoffs (a i : Nat) (k : Core) : (recordCause a i k).handoffs = k.handoffs := by
  obtain ⟨_, _, h⟩ := recordCause_eq a i k; rw [h]
@[simp] theorem recordCause_faultSubs (a i : Nat) (k : Core) : (recordCause a i k).faultSubs = k.faultSubs := by
  obtain ⟨_, _, h⟩ := recordCause_eq a i k; rw [h]
@[simp] theorem recordCause_trees (a i : Nat) (k : Core) : (recordCause a i k).trees = k.trees := by
  obtain ⟨_, _, h⟩ := recordCause_eq a i k; rw [h]
@[simp] theorem recordCause_pair (a i : Nat) (k : Core) : (recordCause a i k).pair = k.pair := by
  obtain ⟨_, _, h⟩ := recordCause_eq a i k; rw [h]
@[simp] theorem recordCause_chans (a i : Nat) (k : Core) : (recordCause a i k).chans = k.chans := by
  obtain ⟨_, _, h⟩ := recordCause_eq a i k; rw [h]
@[simp] theorem recordCause_ppmus (a i : Nat) (k : Core) : (recordCause a i k).ppmus = k.ppmus := by
  obtain ⟨_, _, h⟩ := recordCause_eq a i k; rw [h]
@[simp] theorem recordCause_wdacs (a i : Nat) (k : Core) : (recordCause a i k).wdacs = k.wdacs := by
  obtain ⟨_, _, h⟩ := recordCause_eq a i k; rw [h]
@[simp] theorem recordCause_convs (a i : Nat) (k : Core) : (recordCause a i k).convs = k.convs := by
  obtain ⟨_, _, h⟩ := recordCause_eq a i k; rw [h]
@[simp] theorem recordCause_plaus (a i : Nat) (k : Core) : (recordCause a i k).plaus = k.plaus := by
  obtain ⟨_, _, h⟩ := recordCause_eq a i k; rw [h]
@[simp] theorem recordCause_elemAt (a i : Nat) (k : Core) : (recordCause a i k).elemAt = k.elemAt := by
  obtain ⟨_, _, h⟩ := recordCause_eq a i k; rw [h]
@[simp] theorem recordCause_wmons (a i : Nat) (k : Core) : (recordCause a i k).wmons = k.wmons := by
  obtain ⟨_, _, h⟩ := recordCause_eq a i k; rw [h]
@[simp] theorem recordCause_wakeRaised (a i : Nat) (k : Core) : (recordCause a i k).wakeRaised = k.wakeRaised := by
  obtain ⟨_, _, h⟩ := recordCause_eq a i k; rw [h]
@[simp] theorem recordCause_fabrics (a i : Nat) (k : Core) : (recordCause a i k).fabrics = k.fabrics := by
  obtain ⟨_, _, h⟩ := recordCause_eq a i k; rw [h]
@[simp] theorem recordCause_cal (a i : Nat) (k : Core) : (recordCause a i k).cal = k.cal := by
  obtain ⟨_, _, h⟩ := recordCause_eq a i k; rw [h]
@[simp] theorem recordCause_pwr (a i : Nat) (k : Core) : (recordCause a i k).pwr = k.pwr := by
  obtain ⟨_, _, h⟩ := recordCause_eq a i k; rw [h]
@[simp] theorem recordCause_sec (a i : Nat) (k : Core) : (recordCause a i k).sec = k.sec := by
  obtain ⟨_, _, h⟩ := recordCause_eq a i k; rw [h]
@[simp] theorem recordCause_engines (a i : Nat) (k : Core) : (recordCause a i k).engines = k.engines := by
  obtain ⟨_, _, h⟩ := recordCause_eq a i k; rw [h]
@[simp] theorem recordCause_fps (a i : Nat) (k : Core) : (recordCause a i k).fps = k.fps := by
  obtain ⟨_, _, h⟩ := recordCause_eq a i k; rw [h]
@[simp] theorem recordCause_hub (a i : Nat) (k : Core) : (recordCause a i k).hub = k.hub := by
  obtain ⟨_, _, h⟩ := recordCause_eq a i k; rw [h]
@[simp] theorem recordCause_faultLog (a i : Nat) (k : Core) : (recordCause a i k).faultLog = k.faultLog := by
  obtain ⟨_, _, h⟩ := recordCause_eq a i k; rw [h]
@[simp] theorem recordCause_faultSeq (a i : Nat) (k : Core) : (recordCause a i k).faultSeq = k.faultSeq := by
  obtain ⟨_, _, h⟩ := recordCause_eq a i k; rw [h]

/-- Writing a reply changes the host port's state alone. -/
theorem writeReply_eq (q : Nat) (r : Reply) (k : Core) : ∃ w, writeReply q r k = { k with stw := w } := by
  unfold writeReply
  simp only
  split
  · obtain ⟨w, h⟩ := raiseVector_eq (fld (queueOf k q).qcfg 3 0) (setQueue q { queueOf k q with
      replies := (queueOf k q).replies ++ [r], rqTail := ((queueOf k q).rqTail + replyLen r) % rqSize (queueOf k q) } k)
    exact ⟨w, h⟩
  · exact ⟨_, rfl⟩
  · exact ⟨k.stw, rfl⟩

@[simp] theorem writeReply_freeCtr (q : Nat) (r : Reply) (k : Core) : (writeReply q r k).freeCtr = k.freeCtr := by
  obtain ⟨_, h⟩ := writeReply_eq q r k; rw [h]
@[simp] theorem writeReply_order (q : Nat) (r : Reply) (k : Core) : (writeReply q r k).order = k.order := by
  obtain ⟨_, h⟩ := writeReply_eq q r k; rw [h]
@[simp] theorem writeReply_regs (q : Nat) (r : Reply) (k : Core) : (writeReply q r k).regs = k.regs := by
  obtain ⟨_, h⟩ := writeReply_eq q r k; rw [h]
@[simp] theorem writeReply_hiLatch (q : Nat) (r : Reply) (k : Core) : (writeReply q r k).hiLatch = k.hiLatch := by
  obtain ⟨_, h⟩ := writeReply_eq q r k; rw [h]
@[simp] theorem writeReply_clock (q : Nat) (r : Reply) (k : Core) : (writeReply q r k).clock = k.clock := by
  obtain ⟨_, h⟩ := writeReply_eq q r k; rw [h]
@[simp] theorem writeReply_mem (q : Nat) (r : Reply) (k : Core) : (writeReply q r k).mem = k.mem := by
  obtain ⟨_, h⟩ := writeReply_eq q r k; rw [h]
@[simp] theorem writeReply_car (q : Nat) (r : Reply) (k : Core) : (writeReply q r k).car = k.car := by
  obtain ⟨_, h⟩ := writeReply_eq q r k; rw [h]
@[simp] theorem writeReply_cells (q : Nat) (r : Reply) (k : Core) : (writeReply q r k).cells = k.cells := by
  obtain ⟨_, h⟩ := writeReply_eq q r k; rw [h]
@[simp] theorem writeReply_dacs (q : Nat) (r : Reply) (k : Core) : (writeReply q r k).dacs = k.dacs := by
  obtain ⟨_, h⟩ := writeReply_eq q r k; rw [h]
@[simp] theorem writeReply_handoffs (q : Nat) (r : Reply) (k : Core) : (writeReply q r k).handoffs = k.handoffs := by
  obtain ⟨_, h⟩ := writeReply_eq q r k; rw [h]
@[simp] theorem writeReply_faultSubs (q : Nat) (r : Reply) (k : Core) : (writeReply q r k).faultSubs = k.faultSubs := by
  obtain ⟨_, h⟩ := writeReply_eq q r k; rw [h]
@[simp] theorem writeReply_trees (q : Nat) (r : Reply) (k : Core) : (writeReply q r k).trees = k.trees := by
  obtain ⟨_, h⟩ := writeReply_eq q r k; rw [h]
@[simp] theorem writeReply_pair (q : Nat) (r : Reply) (k : Core) : (writeReply q r k).pair = k.pair := by
  obtain ⟨_, h⟩ := writeReply_eq q r k; rw [h]
@[simp] theorem writeReply_chans (q : Nat) (r : Reply) (k : Core) : (writeReply q r k).chans = k.chans := by
  obtain ⟨_, h⟩ := writeReply_eq q r k; rw [h]
@[simp] theorem writeReply_ppmus (q : Nat) (r : Reply) (k : Core) : (writeReply q r k).ppmus = k.ppmus := by
  obtain ⟨_, h⟩ := writeReply_eq q r k; rw [h]
@[simp] theorem writeReply_wdacs (q : Nat) (r : Reply) (k : Core) : (writeReply q r k).wdacs = k.wdacs := by
  obtain ⟨_, h⟩ := writeReply_eq q r k; rw [h]
@[simp] theorem writeReply_convs (q : Nat) (r : Reply) (k : Core) : (writeReply q r k).convs = k.convs := by
  obtain ⟨_, h⟩ := writeReply_eq q r k; rw [h]
@[simp] theorem writeReply_plaus (q : Nat) (r : Reply) (k : Core) : (writeReply q r k).plaus = k.plaus := by
  obtain ⟨_, h⟩ := writeReply_eq q r k; rw [h]
@[simp] theorem writeReply_elemAt (q : Nat) (r : Reply) (k : Core) : (writeReply q r k).elemAt = k.elemAt := by
  obtain ⟨_, h⟩ := writeReply_eq q r k; rw [h]
@[simp] theorem writeReply_wmons (q : Nat) (r : Reply) (k : Core) : (writeReply q r k).wmons = k.wmons := by
  obtain ⟨_, h⟩ := writeReply_eq q r k; rw [h]
@[simp] theorem writeReply_wakeRaised (q : Nat) (r : Reply) (k : Core) : (writeReply q r k).wakeRaised = k.wakeRaised := by
  obtain ⟨_, h⟩ := writeReply_eq q r k; rw [h]
@[simp] theorem writeReply_fabrics (q : Nat) (r : Reply) (k : Core) : (writeReply q r k).fabrics = k.fabrics := by
  obtain ⟨_, h⟩ := writeReply_eq q r k; rw [h]
@[simp] theorem writeReply_cal (q : Nat) (r : Reply) (k : Core) : (writeReply q r k).cal = k.cal := by
  obtain ⟨_, h⟩ := writeReply_eq q r k; rw [h]
@[simp] theorem writeReply_pwr (q : Nat) (r : Reply) (k : Core) : (writeReply q r k).pwr = k.pwr := by
  obtain ⟨_, h⟩ := writeReply_eq q r k; rw [h]
@[simp] theorem writeReply_sec (q : Nat) (r : Reply) (k : Core) : (writeReply q r k).sec = k.sec := by
  obtain ⟨_, h⟩ := writeReply_eq q r k; rw [h]
@[simp] theorem writeReply_engines (q : Nat) (r : Reply) (k : Core) : (writeReply q r k).engines = k.engines := by
  obtain ⟨_, h⟩ := writeReply_eq q r k; rw [h]
@[simp] theorem writeReply_fps (q : Nat) (r : Reply) (k : Core) : (writeReply q r k).fps = k.fps := by
  obtain ⟨_, h⟩ := writeReply_eq q r k; rw [h]
@[simp] theorem writeReply_hub (q : Nat) (r : Reply) (k : Core) : (writeReply q r k).hub = k.hub := by
  obtain ⟨_, h⟩ := writeReply_eq q r k; rw [h]
@[simp] theorem writeReply_faultLog (q : Nat) (r : Reply) (k : Core) : (writeReply q r k).faultLog = k.faultLog := by
  obtain ⟨_, h⟩ := writeReply_eq q r k; rw [h]
@[simp] theorem writeReply_faultSeq (q : Nat) (r : Reply) (k : Core) : (writeReply q r k).faultSeq = k.faultSeq := by
  obtain ⟨_, h⟩ := writeReply_eq q r k; rw [h]

/-- A notice changes the host port's state and what is sent alone. -/
theorem sendNotice_eq (t : Ticket) (st : Status) (res : List Word) (k : Core) : ∃ w c, sendNotice t st res k = { k with stw := w, car := c } := by
  unfold sendNotice
  repeat' split
  all_goals first
    | exact ⟨k.stw, k.car, rfl⟩
    | exact ⟨k.stw, _, rfl⟩
    | (obtain ⟨w, h⟩ := writeReply_eq _ _ k; exact ⟨w, k.car, h⟩)

@[simp] theorem sendNotice_freeCtr (t : Ticket) (st : Status) (res : List Word) (k : Core) : (sendNotice t st res k).freeCtr = k.freeCtr := by
  obtain ⟨_, _, h⟩ := sendNotice_eq t st res k; rw [h]
@[simp] theorem sendNotice_order (t : Ticket) (st : Status) (res : List Word) (k : Core) : (sendNotice t st res k).order = k.order := by
  obtain ⟨_, _, h⟩ := sendNotice_eq t st res k; rw [h]
@[simp] theorem sendNotice_regs (t : Ticket) (st : Status) (res : List Word) (k : Core) : (sendNotice t st res k).regs = k.regs := by
  obtain ⟨_, _, h⟩ := sendNotice_eq t st res k; rw [h]
@[simp] theorem sendNotice_hiLatch (t : Ticket) (st : Status) (res : List Word) (k : Core) : (sendNotice t st res k).hiLatch = k.hiLatch := by
  obtain ⟨_, _, h⟩ := sendNotice_eq t st res k; rw [h]
@[simp] theorem sendNotice_clock (t : Ticket) (st : Status) (res : List Word) (k : Core) : (sendNotice t st res k).clock = k.clock := by
  obtain ⟨_, _, h⟩ := sendNotice_eq t st res k; rw [h]
@[simp] theorem sendNotice_mem (t : Ticket) (st : Status) (res : List Word) (k : Core) : (sendNotice t st res k).mem = k.mem := by
  obtain ⟨_, _, h⟩ := sendNotice_eq t st res k; rw [h]
@[simp] theorem sendNotice_cells (t : Ticket) (st : Status) (res : List Word) (k : Core) : (sendNotice t st res k).cells = k.cells := by
  obtain ⟨_, _, h⟩ := sendNotice_eq t st res k; rw [h]
@[simp] theorem sendNotice_dacs (t : Ticket) (st : Status) (res : List Word) (k : Core) : (sendNotice t st res k).dacs = k.dacs := by
  obtain ⟨_, _, h⟩ := sendNotice_eq t st res k; rw [h]
@[simp] theorem sendNotice_handoffs (t : Ticket) (st : Status) (res : List Word) (k : Core) : (sendNotice t st res k).handoffs = k.handoffs := by
  obtain ⟨_, _, h⟩ := sendNotice_eq t st res k; rw [h]
@[simp] theorem sendNotice_faultSubs (t : Ticket) (st : Status) (res : List Word) (k : Core) : (sendNotice t st res k).faultSubs = k.faultSubs := by
  obtain ⟨_, _, h⟩ := sendNotice_eq t st res k; rw [h]
@[simp] theorem sendNotice_trees (t : Ticket) (st : Status) (res : List Word) (k : Core) : (sendNotice t st res k).trees = k.trees := by
  obtain ⟨_, _, h⟩ := sendNotice_eq t st res k; rw [h]
@[simp] theorem sendNotice_pair (t : Ticket) (st : Status) (res : List Word) (k : Core) : (sendNotice t st res k).pair = k.pair := by
  obtain ⟨_, _, h⟩ := sendNotice_eq t st res k; rw [h]
@[simp] theorem sendNotice_chans (t : Ticket) (st : Status) (res : List Word) (k : Core) : (sendNotice t st res k).chans = k.chans := by
  obtain ⟨_, _, h⟩ := sendNotice_eq t st res k; rw [h]
@[simp] theorem sendNotice_ppmus (t : Ticket) (st : Status) (res : List Word) (k : Core) : (sendNotice t st res k).ppmus = k.ppmus := by
  obtain ⟨_, _, h⟩ := sendNotice_eq t st res k; rw [h]
@[simp] theorem sendNotice_wdacs (t : Ticket) (st : Status) (res : List Word) (k : Core) : (sendNotice t st res k).wdacs = k.wdacs := by
  obtain ⟨_, _, h⟩ := sendNotice_eq t st res k; rw [h]
@[simp] theorem sendNotice_convs (t : Ticket) (st : Status) (res : List Word) (k : Core) : (sendNotice t st res k).convs = k.convs := by
  obtain ⟨_, _, h⟩ := sendNotice_eq t st res k; rw [h]
@[simp] theorem sendNotice_plaus (t : Ticket) (st : Status) (res : List Word) (k : Core) : (sendNotice t st res k).plaus = k.plaus := by
  obtain ⟨_, _, h⟩ := sendNotice_eq t st res k; rw [h]
@[simp] theorem sendNotice_elemAt (t : Ticket) (st : Status) (res : List Word) (k : Core) : (sendNotice t st res k).elemAt = k.elemAt := by
  obtain ⟨_, _, h⟩ := sendNotice_eq t st res k; rw [h]
@[simp] theorem sendNotice_wmons (t : Ticket) (st : Status) (res : List Word) (k : Core) : (sendNotice t st res k).wmons = k.wmons := by
  obtain ⟨_, _, h⟩ := sendNotice_eq t st res k; rw [h]
@[simp] theorem sendNotice_wakeRaised (t : Ticket) (st : Status) (res : List Word) (k : Core) : (sendNotice t st res k).wakeRaised = k.wakeRaised := by
  obtain ⟨_, _, h⟩ := sendNotice_eq t st res k; rw [h]
@[simp] theorem sendNotice_fabrics (t : Ticket) (st : Status) (res : List Word) (k : Core) : (sendNotice t st res k).fabrics = k.fabrics := by
  obtain ⟨_, _, h⟩ := sendNotice_eq t st res k; rw [h]
@[simp] theorem sendNotice_cal (t : Ticket) (st : Status) (res : List Word) (k : Core) : (sendNotice t st res k).cal = k.cal := by
  obtain ⟨_, _, h⟩ := sendNotice_eq t st res k; rw [h]
@[simp] theorem sendNotice_pwr (t : Ticket) (st : Status) (res : List Word) (k : Core) : (sendNotice t st res k).pwr = k.pwr := by
  obtain ⟨_, _, h⟩ := sendNotice_eq t st res k; rw [h]
@[simp] theorem sendNotice_sec (t : Ticket) (st : Status) (res : List Word) (k : Core) : (sendNotice t st res k).sec = k.sec := by
  obtain ⟨_, _, h⟩ := sendNotice_eq t st res k; rw [h]
@[simp] theorem sendNotice_engines (t : Ticket) (st : Status) (res : List Word) (k : Core) : (sendNotice t st res k).engines = k.engines := by
  obtain ⟨_, _, h⟩ := sendNotice_eq t st res k; rw [h]
@[simp] theorem sendNotice_fps (t : Ticket) (st : Status) (res : List Word) (k : Core) : (sendNotice t st res k).fps = k.fps := by
  obtain ⟨_, _, h⟩ := sendNotice_eq t st res k; rw [h]
@[simp] theorem sendNotice_hub (t : Ticket) (st : Status) (res : List Word) (k : Core) : (sendNotice t st res k).hub = k.hub := by
  obtain ⟨_, _, h⟩ := sendNotice_eq t st res k; rw [h]
@[simp] theorem sendNotice_faultLog (t : Ticket) (st : Status) (res : List Word) (k : Core) : (sendNotice t st res k).faultLog = k.faultLog := by
  obtain ⟨_, _, h⟩ := sendNotice_eq t st res k; rw [h]
@[simp] theorem sendNotice_faultSeq (t : Ticket) (st : Status) (res : List Word) (k : Core) : (sendNotice t st res k).faultSeq = k.faultSeq := by
  obtain ⟨_, _, h⟩ := sendNotice_eq t st res k; rw [h]

/-- Completing a ticket changes the tickets, the host port's state and what is sent alone. -/
theorem completeTicket_eq (id : Word) (st : Status) (res : List Word) (k : Core) : ∃ w c, completeTicket id st res k = { k with stw := w, car := c } := by
  unfold completeTicket
  repeat' split
  all_goals first
    | exact ⟨_, k.car, rfl⟩
    | (rename_i t _ _
       obtain ⟨w, c, h⟩ := sendNotice_eq t st res { k with stw := { k.stw with
         tickets := amSet k.stw.tickets (fld id 9 0) { t with status := some st, result := res } } }
       exact ⟨w, c, h⟩)

@[simp] theorem completeTicket_freeCtr (id : Word) (st : Status) (res : List Word) (k : Core) : (completeTicket id st res k).freeCtr = k.freeCtr := by
  obtain ⟨_, _, h⟩ := completeTicket_eq id st res k; rw [h]
@[simp] theorem completeTicket_order (id : Word) (st : Status) (res : List Word) (k : Core) : (completeTicket id st res k).order = k.order := by
  obtain ⟨_, _, h⟩ := completeTicket_eq id st res k; rw [h]
@[simp] theorem completeTicket_regs (id : Word) (st : Status) (res : List Word) (k : Core) : (completeTicket id st res k).regs = k.regs := by
  obtain ⟨_, _, h⟩ := completeTicket_eq id st res k; rw [h]
@[simp] theorem completeTicket_hiLatch (id : Word) (st : Status) (res : List Word) (k : Core) : (completeTicket id st res k).hiLatch = k.hiLatch := by
  obtain ⟨_, _, h⟩ := completeTicket_eq id st res k; rw [h]
@[simp] theorem completeTicket_clock (id : Word) (st : Status) (res : List Word) (k : Core) : (completeTicket id st res k).clock = k.clock := by
  obtain ⟨_, _, h⟩ := completeTicket_eq id st res k; rw [h]
@[simp] theorem completeTicket_mem (id : Word) (st : Status) (res : List Word) (k : Core) : (completeTicket id st res k).mem = k.mem := by
  obtain ⟨_, _, h⟩ := completeTicket_eq id st res k; rw [h]
@[simp] theorem completeTicket_cells (id : Word) (st : Status) (res : List Word) (k : Core) : (completeTicket id st res k).cells = k.cells := by
  obtain ⟨_, _, h⟩ := completeTicket_eq id st res k; rw [h]
@[simp] theorem completeTicket_dacs (id : Word) (st : Status) (res : List Word) (k : Core) : (completeTicket id st res k).dacs = k.dacs := by
  obtain ⟨_, _, h⟩ := completeTicket_eq id st res k; rw [h]
@[simp] theorem completeTicket_handoffs (id : Word) (st : Status) (res : List Word) (k : Core) : (completeTicket id st res k).handoffs = k.handoffs := by
  obtain ⟨_, _, h⟩ := completeTicket_eq id st res k; rw [h]
@[simp] theorem completeTicket_faultSubs (id : Word) (st : Status) (res : List Word) (k : Core) : (completeTicket id st res k).faultSubs = k.faultSubs := by
  obtain ⟨_, _, h⟩ := completeTicket_eq id st res k; rw [h]
@[simp] theorem completeTicket_trees (id : Word) (st : Status) (res : List Word) (k : Core) : (completeTicket id st res k).trees = k.trees := by
  obtain ⟨_, _, h⟩ := completeTicket_eq id st res k; rw [h]
@[simp] theorem completeTicket_pair (id : Word) (st : Status) (res : List Word) (k : Core) : (completeTicket id st res k).pair = k.pair := by
  obtain ⟨_, _, h⟩ := completeTicket_eq id st res k; rw [h]
@[simp] theorem completeTicket_chans (id : Word) (st : Status) (res : List Word) (k : Core) : (completeTicket id st res k).chans = k.chans := by
  obtain ⟨_, _, h⟩ := completeTicket_eq id st res k; rw [h]
@[simp] theorem completeTicket_ppmus (id : Word) (st : Status) (res : List Word) (k : Core) : (completeTicket id st res k).ppmus = k.ppmus := by
  obtain ⟨_, _, h⟩ := completeTicket_eq id st res k; rw [h]
@[simp] theorem completeTicket_wdacs (id : Word) (st : Status) (res : List Word) (k : Core) : (completeTicket id st res k).wdacs = k.wdacs := by
  obtain ⟨_, _, h⟩ := completeTicket_eq id st res k; rw [h]
@[simp] theorem completeTicket_convs (id : Word) (st : Status) (res : List Word) (k : Core) : (completeTicket id st res k).convs = k.convs := by
  obtain ⟨_, _, h⟩ := completeTicket_eq id st res k; rw [h]
@[simp] theorem completeTicket_plaus (id : Word) (st : Status) (res : List Word) (k : Core) : (completeTicket id st res k).plaus = k.plaus := by
  obtain ⟨_, _, h⟩ := completeTicket_eq id st res k; rw [h]
@[simp] theorem completeTicket_elemAt (id : Word) (st : Status) (res : List Word) (k : Core) : (completeTicket id st res k).elemAt = k.elemAt := by
  obtain ⟨_, _, h⟩ := completeTicket_eq id st res k; rw [h]
@[simp] theorem completeTicket_wmons (id : Word) (st : Status) (res : List Word) (k : Core) : (completeTicket id st res k).wmons = k.wmons := by
  obtain ⟨_, _, h⟩ := completeTicket_eq id st res k; rw [h]
@[simp] theorem completeTicket_wakeRaised (id : Word) (st : Status) (res : List Word) (k : Core) : (completeTicket id st res k).wakeRaised = k.wakeRaised := by
  obtain ⟨_, _, h⟩ := completeTicket_eq id st res k; rw [h]
@[simp] theorem completeTicket_fabrics (id : Word) (st : Status) (res : List Word) (k : Core) : (completeTicket id st res k).fabrics = k.fabrics := by
  obtain ⟨_, _, h⟩ := completeTicket_eq id st res k; rw [h]
@[simp] theorem completeTicket_cal (id : Word) (st : Status) (res : List Word) (k : Core) : (completeTicket id st res k).cal = k.cal := by
  obtain ⟨_, _, h⟩ := completeTicket_eq id st res k; rw [h]
@[simp] theorem completeTicket_pwr (id : Word) (st : Status) (res : List Word) (k : Core) : (completeTicket id st res k).pwr = k.pwr := by
  obtain ⟨_, _, h⟩ := completeTicket_eq id st res k; rw [h]
@[simp] theorem completeTicket_sec (id : Word) (st : Status) (res : List Word) (k : Core) : (completeTicket id st res k).sec = k.sec := by
  obtain ⟨_, _, h⟩ := completeTicket_eq id st res k; rw [h]
@[simp] theorem completeTicket_engines (id : Word) (st : Status) (res : List Word) (k : Core) : (completeTicket id st res k).engines = k.engines := by
  obtain ⟨_, _, h⟩ := completeTicket_eq id st res k; rw [h]
@[simp] theorem completeTicket_fps (id : Word) (st : Status) (res : List Word) (k : Core) : (completeTicket id st res k).fps = k.fps := by
  obtain ⟨_, _, h⟩ := completeTicket_eq id st res k; rw [h]
@[simp] theorem completeTicket_hub (id : Word) (st : Status) (res : List Word) (k : Core) : (completeTicket id st res k).hub = k.hub := by
  obtain ⟨_, _, h⟩ := completeTicket_eq id st res k; rw [h]
@[simp] theorem completeTicket_faultLog (id : Word) (st : Status) (res : List Word) (k : Core) : (completeTicket id st res k).faultLog = k.faultLog := by
  obtain ⟨_, _, h⟩ := completeTicket_eq id st res k; rw [h]
@[simp] theorem completeTicket_faultSeq (id : Word) (st : Status) (res : List Word) (k : Core) : (completeTicket id st res k).faultSeq = k.faultSeq := by
  obtain ⟨_, _, h⟩ := completeTicket_eq id st res k; rw [h]

/-- A reply changes the host port's state and what is sent alone. -/
theorem answer_eq (op : BitVec 16) (c : Cmd) (st : Status) (data : List Word) (k : Core) : ∃ w e, answer op c st data k = { k with stw := w, car := e } := by
  unfold answer
  simp only
  split
  · exact ⟨k.stw, k.car, rfl⟩
  · split
    · obtain ⟨w, h⟩ := writeReply_eq _ _ k
      exact ⟨w, k.car, h⟩
    · exact ⟨k.stw, _, rfl⟩

@[simp] theorem answer_freeCtr (op : BitVec 16) (c : Cmd) (st : Status) (data : List Word) (k : Core) : (answer op c st data k).freeCtr = k.freeCtr := by
  obtain ⟨_, _, h⟩ := answer_eq op c st data k; rw [h]
@[simp] theorem answer_order (op : BitVec 16) (c : Cmd) (st : Status) (data : List Word) (k : Core) : (answer op c st data k).order = k.order := by
  obtain ⟨_, _, h⟩ := answer_eq op c st data k; rw [h]
@[simp] theorem answer_regs (op : BitVec 16) (c : Cmd) (st : Status) (data : List Word) (k : Core) : (answer op c st data k).regs = k.regs := by
  obtain ⟨_, _, h⟩ := answer_eq op c st data k; rw [h]
@[simp] theorem answer_hiLatch (op : BitVec 16) (c : Cmd) (st : Status) (data : List Word) (k : Core) : (answer op c st data k).hiLatch = k.hiLatch := by
  obtain ⟨_, _, h⟩ := answer_eq op c st data k; rw [h]
@[simp] theorem answer_clock (op : BitVec 16) (c : Cmd) (st : Status) (data : List Word) (k : Core) : (answer op c st data k).clock = k.clock := by
  obtain ⟨_, _, h⟩ := answer_eq op c st data k; rw [h]
@[simp] theorem answer_mem (op : BitVec 16) (c : Cmd) (st : Status) (data : List Word) (k : Core) : (answer op c st data k).mem = k.mem := by
  obtain ⟨_, _, h⟩ := answer_eq op c st data k; rw [h]
@[simp] theorem answer_cells (op : BitVec 16) (c : Cmd) (st : Status) (data : List Word) (k : Core) : (answer op c st data k).cells = k.cells := by
  obtain ⟨_, _, h⟩ := answer_eq op c st data k; rw [h]
@[simp] theorem answer_dacs (op : BitVec 16) (c : Cmd) (st : Status) (data : List Word) (k : Core) : (answer op c st data k).dacs = k.dacs := by
  obtain ⟨_, _, h⟩ := answer_eq op c st data k; rw [h]
@[simp] theorem answer_handoffs (op : BitVec 16) (c : Cmd) (st : Status) (data : List Word) (k : Core) : (answer op c st data k).handoffs = k.handoffs := by
  obtain ⟨_, _, h⟩ := answer_eq op c st data k; rw [h]
@[simp] theorem answer_faultSubs (op : BitVec 16) (c : Cmd) (st : Status) (data : List Word) (k : Core) : (answer op c st data k).faultSubs = k.faultSubs := by
  obtain ⟨_, _, h⟩ := answer_eq op c st data k; rw [h]
@[simp] theorem answer_trees (op : BitVec 16) (c : Cmd) (st : Status) (data : List Word) (k : Core) : (answer op c st data k).trees = k.trees := by
  obtain ⟨_, _, h⟩ := answer_eq op c st data k; rw [h]
@[simp] theorem answer_pair (op : BitVec 16) (c : Cmd) (st : Status) (data : List Word) (k : Core) : (answer op c st data k).pair = k.pair := by
  obtain ⟨_, _, h⟩ := answer_eq op c st data k; rw [h]
@[simp] theorem answer_chans (op : BitVec 16) (c : Cmd) (st : Status) (data : List Word) (k : Core) : (answer op c st data k).chans = k.chans := by
  obtain ⟨_, _, h⟩ := answer_eq op c st data k; rw [h]
@[simp] theorem answer_ppmus (op : BitVec 16) (c : Cmd) (st : Status) (data : List Word) (k : Core) : (answer op c st data k).ppmus = k.ppmus := by
  obtain ⟨_, _, h⟩ := answer_eq op c st data k; rw [h]
@[simp] theorem answer_wdacs (op : BitVec 16) (c : Cmd) (st : Status) (data : List Word) (k : Core) : (answer op c st data k).wdacs = k.wdacs := by
  obtain ⟨_, _, h⟩ := answer_eq op c st data k; rw [h]
@[simp] theorem answer_convs (op : BitVec 16) (c : Cmd) (st : Status) (data : List Word) (k : Core) : (answer op c st data k).convs = k.convs := by
  obtain ⟨_, _, h⟩ := answer_eq op c st data k; rw [h]
@[simp] theorem answer_plaus (op : BitVec 16) (c : Cmd) (st : Status) (data : List Word) (k : Core) : (answer op c st data k).plaus = k.plaus := by
  obtain ⟨_, _, h⟩ := answer_eq op c st data k; rw [h]
@[simp] theorem answer_elemAt (op : BitVec 16) (c : Cmd) (st : Status) (data : List Word) (k : Core) : (answer op c st data k).elemAt = k.elemAt := by
  obtain ⟨_, _, h⟩ := answer_eq op c st data k; rw [h]
@[simp] theorem answer_wmons (op : BitVec 16) (c : Cmd) (st : Status) (data : List Word) (k : Core) : (answer op c st data k).wmons = k.wmons := by
  obtain ⟨_, _, h⟩ := answer_eq op c st data k; rw [h]
@[simp] theorem answer_wakeRaised (op : BitVec 16) (c : Cmd) (st : Status) (data : List Word) (k : Core) : (answer op c st data k).wakeRaised = k.wakeRaised := by
  obtain ⟨_, _, h⟩ := answer_eq op c st data k; rw [h]
@[simp] theorem answer_fabrics (op : BitVec 16) (c : Cmd) (st : Status) (data : List Word) (k : Core) : (answer op c st data k).fabrics = k.fabrics := by
  obtain ⟨_, _, h⟩ := answer_eq op c st data k; rw [h]
@[simp] theorem answer_cal (op : BitVec 16) (c : Cmd) (st : Status) (data : List Word) (k : Core) : (answer op c st data k).cal = k.cal := by
  obtain ⟨_, _, h⟩ := answer_eq op c st data k; rw [h]
@[simp] theorem answer_pwr (op : BitVec 16) (c : Cmd) (st : Status) (data : List Word) (k : Core) : (answer op c st data k).pwr = k.pwr := by
  obtain ⟨_, _, h⟩ := answer_eq op c st data k; rw [h]
@[simp] theorem answer_sec (op : BitVec 16) (c : Cmd) (st : Status) (data : List Word) (k : Core) : (answer op c st data k).sec = k.sec := by
  obtain ⟨_, _, h⟩ := answer_eq op c st data k; rw [h]
@[simp] theorem answer_engines (op : BitVec 16) (c : Cmd) (st : Status) (data : List Word) (k : Core) : (answer op c st data k).engines = k.engines := by
  obtain ⟨_, _, h⟩ := answer_eq op c st data k; rw [h]
@[simp] theorem answer_fps (op : BitVec 16) (c : Cmd) (st : Status) (data : List Word) (k : Core) : (answer op c st data k).fps = k.fps := by
  obtain ⟨_, _, h⟩ := answer_eq op c st data k; rw [h]
@[simp] theorem answer_hub (op : BitVec 16) (c : Cmd) (st : Status) (data : List Word) (k : Core) : (answer op c st data k).hub = k.hub := by
  obtain ⟨_, _, h⟩ := answer_eq op c st data k; rw [h]
@[simp] theorem answer_faultLog (op : BitVec 16) (c : Cmd) (st : Status) (data : List Word) (k : Core) : (answer op c st data k).faultLog = k.faultLog := by
  obtain ⟨_, _, h⟩ := answer_eq op c st data k; rw [h]
@[simp] theorem answer_faultSeq (op : BitVec 16) (c : Cmd) (st : Status) (data : List Word) (k : Core) : (answer op c st data k).faultSeq = k.faultSeq := by
  obtain ⟨_, _, h⟩ := answer_eq op c st data k; rw [h]

/-- Opening a ticket changes the tickets, and registers by TICKETS_LOW, alone. -/
theorem openTicket_eq (c : Cmd) (op : BitVec 16) (session : Nat) (w : Work) (earliest : Nat) (k : Core) : ∃ r x, openTicket c op session w earliest k = { k with regs := r, stw := x } := by
  have key (x : Steward) : ∃ r y, (if x.tickets.length = 961 then recordCause 0x81F00020 4 { k with stw := x } else { k with stw := x })
      = { k with regs := r, stw := y } := by
    split
    · obtain ⟨r, y, h⟩ := recordCause_eq 0x81F00020 4 { k with stw := x }
      exact ⟨r, y, h⟩
    · exact ⟨k.regs, x, rfl⟩
  exact key _

@[simp] theorem openTicket_freeCtr (c : Cmd) (op : BitVec 16) (session : Nat) (w : Work) (earliest : Nat) (k : Core) : (openTicket c op session w earliest k).freeCtr = k.freeCtr := by
  obtain ⟨_, _, h⟩ := openTicket_eq c op session w earliest k; rw [h]
@[simp] theorem openTicket_order (c : Cmd) (op : BitVec 16) (session : Nat) (w : Work) (earliest : Nat) (k : Core) : (openTicket c op session w earliest k).order = k.order := by
  obtain ⟨_, _, h⟩ := openTicket_eq c op session w earliest k; rw [h]
@[simp] theorem openTicket_hiLatch (c : Cmd) (op : BitVec 16) (session : Nat) (w : Work) (earliest : Nat) (k : Core) : (openTicket c op session w earliest k).hiLatch = k.hiLatch := by
  obtain ⟨_, _, h⟩ := openTicket_eq c op session w earliest k; rw [h]
@[simp] theorem openTicket_clock (c : Cmd) (op : BitVec 16) (session : Nat) (w : Work) (earliest : Nat) (k : Core) : (openTicket c op session w earliest k).clock = k.clock := by
  obtain ⟨_, _, h⟩ := openTicket_eq c op session w earliest k; rw [h]
@[simp] theorem openTicket_mem (c : Cmd) (op : BitVec 16) (session : Nat) (w : Work) (earliest : Nat) (k : Core) : (openTicket c op session w earliest k).mem = k.mem := by
  obtain ⟨_, _, h⟩ := openTicket_eq c op session w earliest k; rw [h]
@[simp] theorem openTicket_car (c : Cmd) (op : BitVec 16) (session : Nat) (w : Work) (earliest : Nat) (k : Core) : (openTicket c op session w earliest k).car = k.car := by
  obtain ⟨_, _, h⟩ := openTicket_eq c op session w earliest k; rw [h]
@[simp] theorem openTicket_cells (c : Cmd) (op : BitVec 16) (session : Nat) (w : Work) (earliest : Nat) (k : Core) : (openTicket c op session w earliest k).cells = k.cells := by
  obtain ⟨_, _, h⟩ := openTicket_eq c op session w earliest k; rw [h]
@[simp] theorem openTicket_dacs (c : Cmd) (op : BitVec 16) (session : Nat) (w : Work) (earliest : Nat) (k : Core) : (openTicket c op session w earliest k).dacs = k.dacs := by
  obtain ⟨_, _, h⟩ := openTicket_eq c op session w earliest k; rw [h]
@[simp] theorem openTicket_handoffs (c : Cmd) (op : BitVec 16) (session : Nat) (w : Work) (earliest : Nat) (k : Core) : (openTicket c op session w earliest k).handoffs = k.handoffs := by
  obtain ⟨_, _, h⟩ := openTicket_eq c op session w earliest k; rw [h]
@[simp] theorem openTicket_faultSubs (c : Cmd) (op : BitVec 16) (session : Nat) (w : Work) (earliest : Nat) (k : Core) : (openTicket c op session w earliest k).faultSubs = k.faultSubs := by
  obtain ⟨_, _, h⟩ := openTicket_eq c op session w earliest k; rw [h]
@[simp] theorem openTicket_trees (c : Cmd) (op : BitVec 16) (session : Nat) (w : Work) (earliest : Nat) (k : Core) : (openTicket c op session w earliest k).trees = k.trees := by
  obtain ⟨_, _, h⟩ := openTicket_eq c op session w earliest k; rw [h]
@[simp] theorem openTicket_pair (c : Cmd) (op : BitVec 16) (session : Nat) (w : Work) (earliest : Nat) (k : Core) : (openTicket c op session w earliest k).pair = k.pair := by
  obtain ⟨_, _, h⟩ := openTicket_eq c op session w earliest k; rw [h]
@[simp] theorem openTicket_chans (c : Cmd) (op : BitVec 16) (session : Nat) (w : Work) (earliest : Nat) (k : Core) : (openTicket c op session w earliest k).chans = k.chans := by
  obtain ⟨_, _, h⟩ := openTicket_eq c op session w earliest k; rw [h]
@[simp] theorem openTicket_ppmus (c : Cmd) (op : BitVec 16) (session : Nat) (w : Work) (earliest : Nat) (k : Core) : (openTicket c op session w earliest k).ppmus = k.ppmus := by
  obtain ⟨_, _, h⟩ := openTicket_eq c op session w earliest k; rw [h]
@[simp] theorem openTicket_wdacs (c : Cmd) (op : BitVec 16) (session : Nat) (w : Work) (earliest : Nat) (k : Core) : (openTicket c op session w earliest k).wdacs = k.wdacs := by
  obtain ⟨_, _, h⟩ := openTicket_eq c op session w earliest k; rw [h]
@[simp] theorem openTicket_convs (c : Cmd) (op : BitVec 16) (session : Nat) (w : Work) (earliest : Nat) (k : Core) : (openTicket c op session w earliest k).convs = k.convs := by
  obtain ⟨_, _, h⟩ := openTicket_eq c op session w earliest k; rw [h]
@[simp] theorem openTicket_plaus (c : Cmd) (op : BitVec 16) (session : Nat) (w : Work) (earliest : Nat) (k : Core) : (openTicket c op session w earliest k).plaus = k.plaus := by
  obtain ⟨_, _, h⟩ := openTicket_eq c op session w earliest k; rw [h]
@[simp] theorem openTicket_elemAt (c : Cmd) (op : BitVec 16) (session : Nat) (w : Work) (earliest : Nat) (k : Core) : (openTicket c op session w earliest k).elemAt = k.elemAt := by
  obtain ⟨_, _, h⟩ := openTicket_eq c op session w earliest k; rw [h]
@[simp] theorem openTicket_wmons (c : Cmd) (op : BitVec 16) (session : Nat) (w : Work) (earliest : Nat) (k : Core) : (openTicket c op session w earliest k).wmons = k.wmons := by
  obtain ⟨_, _, h⟩ := openTicket_eq c op session w earliest k; rw [h]
@[simp] theorem openTicket_wakeRaised (c : Cmd) (op : BitVec 16) (session : Nat) (w : Work) (earliest : Nat) (k : Core) : (openTicket c op session w earliest k).wakeRaised = k.wakeRaised := by
  obtain ⟨_, _, h⟩ := openTicket_eq c op session w earliest k; rw [h]
@[simp] theorem openTicket_fabrics (c : Cmd) (op : BitVec 16) (session : Nat) (w : Work) (earliest : Nat) (k : Core) : (openTicket c op session w earliest k).fabrics = k.fabrics := by
  obtain ⟨_, _, h⟩ := openTicket_eq c op session w earliest k; rw [h]
@[simp] theorem openTicket_cal (c : Cmd) (op : BitVec 16) (session : Nat) (w : Work) (earliest : Nat) (k : Core) : (openTicket c op session w earliest k).cal = k.cal := by
  obtain ⟨_, _, h⟩ := openTicket_eq c op session w earliest k; rw [h]
@[simp] theorem openTicket_pwr (c : Cmd) (op : BitVec 16) (session : Nat) (w : Work) (earliest : Nat) (k : Core) : (openTicket c op session w earliest k).pwr = k.pwr := by
  obtain ⟨_, _, h⟩ := openTicket_eq c op session w earliest k; rw [h]
@[simp] theorem openTicket_sec (c : Cmd) (op : BitVec 16) (session : Nat) (w : Work) (earliest : Nat) (k : Core) : (openTicket c op session w earliest k).sec = k.sec := by
  obtain ⟨_, _, h⟩ := openTicket_eq c op session w earliest k; rw [h]
@[simp] theorem openTicket_engines (c : Cmd) (op : BitVec 16) (session : Nat) (w : Work) (earliest : Nat) (k : Core) : (openTicket c op session w earliest k).engines = k.engines := by
  obtain ⟨_, _, h⟩ := openTicket_eq c op session w earliest k; rw [h]
@[simp] theorem openTicket_fps (c : Cmd) (op : BitVec 16) (session : Nat) (w : Work) (earliest : Nat) (k : Core) : (openTicket c op session w earliest k).fps = k.fps := by
  obtain ⟨_, _, h⟩ := openTicket_eq c op session w earliest k; rw [h]
@[simp] theorem openTicket_hub (c : Cmd) (op : BitVec 16) (session : Nat) (w : Work) (earliest : Nat) (k : Core) : (openTicket c op session w earliest k).hub = k.hub := by
  obtain ⟨_, _, h⟩ := openTicket_eq c op session w earliest k; rw [h]
@[simp] theorem openTicket_faultLog (c : Cmd) (op : BitVec 16) (session : Nat) (w : Work) (earliest : Nat) (k : Core) : (openTicket c op session w earliest k).faultLog = k.faultLog := by
  obtain ⟨_, _, h⟩ := openTicket_eq c op session w earliest k; rw [h]
@[simp] theorem openTicket_faultSeq (c : Cmd) (op : BitVec 16) (session : Nat) (w : Work) (earliest : Nat) (k : Core) : (openTicket c op session w earliest k).faultSeq = k.faultSeq := by
  obtain ⟨_, _, h⟩ := openTicket_eq c op session w earliest k; rw [h]

/-- The start of a command charges Steward time and moves the rotation alone. -/
theorem markStart_eq (op : BitVec 16) (c : Cmd) (k : Core) : ∃ n r w m, markStart op c k = { k with freeCtr := n, regs := r, stw := w, mem := m } := by
  exact ⟨_, _, _, _, rfl⟩

@[simp] theorem markStart_order (op : BitVec 16) (c : Cmd) (k : Core) : (markStart op c k).order = k.order := by
  obtain ⟨_, _, _, _, h⟩ := markStart_eq op c k; rw [h]
@[simp] theorem markStart_hiLatch (op : BitVec 16) (c : Cmd) (k : Core) : (markStart op c k).hiLatch = k.hiLatch := by
  obtain ⟨_, _, _, _, h⟩ := markStart_eq op c k; rw [h]
@[simp] theorem markStart_clock (op : BitVec 16) (c : Cmd) (k : Core) : (markStart op c k).clock = k.clock := by
  obtain ⟨_, _, _, _, h⟩ := markStart_eq op c k; rw [h]
@[simp] theorem markStart_car (op : BitVec 16) (c : Cmd) (k : Core) : (markStart op c k).car = k.car := by
  obtain ⟨_, _, _, _, h⟩ := markStart_eq op c k; rw [h]
@[simp] theorem markStart_cells (op : BitVec 16) (c : Cmd) (k : Core) : (markStart op c k).cells = k.cells := by
  obtain ⟨_, _, _, _, h⟩ := markStart_eq op c k; rw [h]
@[simp] theorem markStart_dacs (op : BitVec 16) (c : Cmd) (k : Core) : (markStart op c k).dacs = k.dacs := by
  obtain ⟨_, _, _, _, h⟩ := markStart_eq op c k; rw [h]
@[simp] theorem markStart_handoffs (op : BitVec 16) (c : Cmd) (k : Core) : (markStart op c k).handoffs = k.handoffs := by
  obtain ⟨_, _, _, _, h⟩ := markStart_eq op c k; rw [h]
@[simp] theorem markStart_faultSubs (op : BitVec 16) (c : Cmd) (k : Core) : (markStart op c k).faultSubs = k.faultSubs := by
  obtain ⟨_, _, _, _, h⟩ := markStart_eq op c k; rw [h]
@[simp] theorem markStart_trees (op : BitVec 16) (c : Cmd) (k : Core) : (markStart op c k).trees = k.trees := by
  obtain ⟨_, _, _, _, h⟩ := markStart_eq op c k; rw [h]
@[simp] theorem markStart_pair (op : BitVec 16) (c : Cmd) (k : Core) : (markStart op c k).pair = k.pair := by
  obtain ⟨_, _, _, _, h⟩ := markStart_eq op c k; rw [h]
@[simp] theorem markStart_chans (op : BitVec 16) (c : Cmd) (k : Core) : (markStart op c k).chans = k.chans := by
  obtain ⟨_, _, _, _, h⟩ := markStart_eq op c k; rw [h]
@[simp] theorem markStart_ppmus (op : BitVec 16) (c : Cmd) (k : Core) : (markStart op c k).ppmus = k.ppmus := by
  obtain ⟨_, _, _, _, h⟩ := markStart_eq op c k; rw [h]
@[simp] theorem markStart_wdacs (op : BitVec 16) (c : Cmd) (k : Core) : (markStart op c k).wdacs = k.wdacs := by
  obtain ⟨_, _, _, _, h⟩ := markStart_eq op c k; rw [h]
@[simp] theorem markStart_convs (op : BitVec 16) (c : Cmd) (k : Core) : (markStart op c k).convs = k.convs := by
  obtain ⟨_, _, _, _, h⟩ := markStart_eq op c k; rw [h]
@[simp] theorem markStart_plaus (op : BitVec 16) (c : Cmd) (k : Core) : (markStart op c k).plaus = k.plaus := by
  obtain ⟨_, _, _, _, h⟩ := markStart_eq op c k; rw [h]
@[simp] theorem markStart_elemAt (op : BitVec 16) (c : Cmd) (k : Core) : (markStart op c k).elemAt = k.elemAt := by
  obtain ⟨_, _, _, _, h⟩ := markStart_eq op c k; rw [h]
@[simp] theorem markStart_wmons (op : BitVec 16) (c : Cmd) (k : Core) : (markStart op c k).wmons = k.wmons := by
  obtain ⟨_, _, _, _, h⟩ := markStart_eq op c k; rw [h]
@[simp] theorem markStart_wakeRaised (op : BitVec 16) (c : Cmd) (k : Core) : (markStart op c k).wakeRaised = k.wakeRaised := by
  obtain ⟨_, _, _, _, h⟩ := markStart_eq op c k; rw [h]
@[simp] theorem markStart_fabrics (op : BitVec 16) (c : Cmd) (k : Core) : (markStart op c k).fabrics = k.fabrics := by
  obtain ⟨_, _, _, _, h⟩ := markStart_eq op c k; rw [h]
@[simp] theorem markStart_cal (op : BitVec 16) (c : Cmd) (k : Core) : (markStart op c k).cal = k.cal := by
  obtain ⟨_, _, _, _, h⟩ := markStart_eq op c k; rw [h]
@[simp] theorem markStart_pwr (op : BitVec 16) (c : Cmd) (k : Core) : (markStart op c k).pwr = k.pwr := by
  obtain ⟨_, _, _, _, h⟩ := markStart_eq op c k; rw [h]
@[simp] theorem markStart_sec (op : BitVec 16) (c : Cmd) (k : Core) : (markStart op c k).sec = k.sec := by
  obtain ⟨_, _, _, _, h⟩ := markStart_eq op c k; rw [h]
@[simp] theorem markStart_engines (op : BitVec 16) (c : Cmd) (k : Core) : (markStart op c k).engines = k.engines := by
  obtain ⟨_, _, _, _, h⟩ := markStart_eq op c k; rw [h]
@[simp] theorem markStart_fps (op : BitVec 16) (c : Cmd) (k : Core) : (markStart op c k).fps = k.fps := by
  obtain ⟨_, _, _, _, h⟩ := markStart_eq op c k; rw [h]
@[simp] theorem markStart_hub (op : BitVec 16) (c : Cmd) (k : Core) : (markStart op c k).hub = k.hub := by
  obtain ⟨_, _, _, _, h⟩ := markStart_eq op c k; rw [h]
@[simp] theorem markStart_faultLog (op : BitVec 16) (c : Cmd) (k : Core) : (markStart op c k).faultLog = k.faultLog := by
  obtain ⟨_, _, _, _, h⟩ := markStart_eq op c k; rw [h]
@[simp] theorem markStart_faultSeq (op : BitVec 16) (c : Cmd) (k : Core) : (markStart op c k).faultSeq = k.faultSeq := by
  obtain ⟨_, _, _, _, h⟩ := markStart_eq op c k; rw [h]

/-- Raising a vector changes the messages sent and the holdoffs alone. -/
theorem raiseVector_stw_eq (v : Nat) (k : Core) : ∃ m h, (raiseVector v k).stw = { k.stw with msix := m, vecHold := h } := by
  unfold raiseVector
  repeat' split
  all_goals exact ⟨_, _, rfl⟩

@[simp] theorem raiseVector_stw_queues (v : Nat) (k : Core) : (raiseVector v k).stw.queues = k.stw.queues := by
  obtain ⟨_, _, h⟩ := raiseVector_stw_eq v k; rw [h]
@[simp] theorem raiseVector_stw_sessions (v : Nat) (k : Core) : (raiseVector v k).stw.sessions = k.stw.sessions := by
  obtain ⟨_, _, h⟩ := raiseVector_stw_eq v k; rw [h]
@[simp] theorem raiseVector_stw_reservations (v : Nat) (k : Core) : (raiseVector v k).stw.reservations = k.stw.reservations := by
  obtain ⟨_, _, h⟩ := raiseVector_stw_eq v k; rw [h]
@[simp] theorem raiseVector_stw_tickets (v : Nat) (k : Core) : (raiseVector v k).stw.tickets = k.stw.tickets := by
  obtain ⟨_, _, h⟩ := raiseVector_stw_eq v k; rw [h]
@[simp] theorem raiseVector_stw_ticketSerial (v : Nat) (k : Core) : (raiseVector v k).stw.ticketSerial = k.stw.ticketSerial := by
  obtain ⟨_, _, h⟩ := raiseVector_stw_eq v k; rw [h]
@[simp] theorem raiseVector_stw_reservationSerial (v : Nat) (k : Core) : (raiseVector v k).stw.reservationSerial = k.stw.reservationSerial := by
  obtain ⟨_, _, h⟩ := raiseVector_stw_eq v k; rw [h]
@[simp] theorem raiseVector_stw_source (v : Nat) (k : Core) : (raiseVector v k).stw.source = k.stw.source := by
  obtain ⟨_, _, h⟩ := raiseVector_stw_eq v k; rw [h]
@[simp] theorem raiseVector_stw_chainWaiting (v : Nat) (k : Core) : (raiseVector v k).stw.chainWaiting = k.stw.chainWaiting := by
  obtain ⟨_, _, h⟩ := raiseVector_stw_eq v k; rw [h]
@[simp] theorem raiseVector_stw_orphans (v : Nat) (k : Core) : (raiseVector v k).stw.orphans = k.stw.orphans := by
  obtain ⟨_, _, h⟩ := raiseVector_stw_eq v k; rw [h]
@[simp] theorem raiseVector_stw_versions (v : Nat) (k : Core) : (raiseVector v k).stw.versions = k.stw.versions := by
  obtain ⟨_, _, h⟩ := raiseVector_stw_eq v k; rw [h]
@[simp] theorem raiseVector_stw_d3hot (v : Nat) (k : Core) : (raiseVector v k).stw.d3hot = k.stw.d3hot := by
  obtain ⟨_, _, h⟩ := raiseVector_stw_eq v k; rw [h]
@[simp] theorem raiseVector_stw_busMaster (v : Nat) (k : Core) : (raiseVector v k).stw.busMaster = k.stw.busMaster := by
  obtain ⟨_, _, h⟩ := raiseVector_stw_eq v k; rw [h]
@[simp] theorem raiseVector_stw_restarting (v : Nat) (k : Core) : (raiseVector v k).stw.restarting = k.stw.restarting := by
  obtain ⟨_, _, h⟩ := raiseVector_stw_eq v k; rw [h]
@[simp] theorem raiseVector_stw_linkUp (v : Nat) (k : Core) : (raiseVector v k).stw.linkUp = k.stw.linkUp := by
  obtain ⟨_, _, h⟩ := raiseVector_stw_eq v k; rw [h]
@[simp] theorem raiseVector_stw_perst (v : Nat) (k : Core) : (raiseVector v k).stw.perst = k.stw.perst := by
  obtain ⟨_, _, h⟩ := raiseVector_stw_eq v k; rw [h]
@[simp] theorem raiseVector_stw_forwarded (v : Nat) (k : Core) : (raiseVector v k).stw.forwarded = k.stw.forwarded := by
  obtain ⟨_, _, h⟩ := raiseVector_stw_eq v k; rw [h]

/-- Raising a route changes the messages sent and the holdoffs alone. -/
theorem raiseRoute_stw_eq (n : Nat) (k : Core) : ∃ m h, (raiseRoute n k).stw = { k.stw with msix := m, vecHold := h } := by
  unfold raiseRoute
  split
  · exact raiseVector_stw_eq _ k
  · exact ⟨_, _, rfl⟩

@[simp] theorem raiseRoute_stw_queues (n : Nat) (k : Core) : (raiseRoute n k).stw.queues = k.stw.queues := by
  obtain ⟨_, _, h⟩ := raiseRoute_stw_eq n k; rw [h]
@[simp] theorem raiseRoute_stw_sessions (n : Nat) (k : Core) : (raiseRoute n k).stw.sessions = k.stw.sessions := by
  obtain ⟨_, _, h⟩ := raiseRoute_stw_eq n k; rw [h]
@[simp] theorem raiseRoute_stw_reservations (n : Nat) (k : Core) : (raiseRoute n k).stw.reservations = k.stw.reservations := by
  obtain ⟨_, _, h⟩ := raiseRoute_stw_eq n k; rw [h]
@[simp] theorem raiseRoute_stw_tickets (n : Nat) (k : Core) : (raiseRoute n k).stw.tickets = k.stw.tickets := by
  obtain ⟨_, _, h⟩ := raiseRoute_stw_eq n k; rw [h]
@[simp] theorem raiseRoute_stw_ticketSerial (n : Nat) (k : Core) : (raiseRoute n k).stw.ticketSerial = k.stw.ticketSerial := by
  obtain ⟨_, _, h⟩ := raiseRoute_stw_eq n k; rw [h]
@[simp] theorem raiseRoute_stw_reservationSerial (n : Nat) (k : Core) : (raiseRoute n k).stw.reservationSerial = k.stw.reservationSerial := by
  obtain ⟨_, _, h⟩ := raiseRoute_stw_eq n k; rw [h]
@[simp] theorem raiseRoute_stw_source (n : Nat) (k : Core) : (raiseRoute n k).stw.source = k.stw.source := by
  obtain ⟨_, _, h⟩ := raiseRoute_stw_eq n k; rw [h]
@[simp] theorem raiseRoute_stw_chainWaiting (n : Nat) (k : Core) : (raiseRoute n k).stw.chainWaiting = k.stw.chainWaiting := by
  obtain ⟨_, _, h⟩ := raiseRoute_stw_eq n k; rw [h]
@[simp] theorem raiseRoute_stw_orphans (n : Nat) (k : Core) : (raiseRoute n k).stw.orphans = k.stw.orphans := by
  obtain ⟨_, _, h⟩ := raiseRoute_stw_eq n k; rw [h]
@[simp] theorem raiseRoute_stw_versions (n : Nat) (k : Core) : (raiseRoute n k).stw.versions = k.stw.versions := by
  obtain ⟨_, _, h⟩ := raiseRoute_stw_eq n k; rw [h]
@[simp] theorem raiseRoute_stw_d3hot (n : Nat) (k : Core) : (raiseRoute n k).stw.d3hot = k.stw.d3hot := by
  obtain ⟨_, _, h⟩ := raiseRoute_stw_eq n k; rw [h]
@[simp] theorem raiseRoute_stw_busMaster (n : Nat) (k : Core) : (raiseRoute n k).stw.busMaster = k.stw.busMaster := by
  obtain ⟨_, _, h⟩ := raiseRoute_stw_eq n k; rw [h]
@[simp] theorem raiseRoute_stw_restarting (n : Nat) (k : Core) : (raiseRoute n k).stw.restarting = k.stw.restarting := by
  obtain ⟨_, _, h⟩ := raiseRoute_stw_eq n k; rw [h]
@[simp] theorem raiseRoute_stw_linkUp (n : Nat) (k : Core) : (raiseRoute n k).stw.linkUp = k.stw.linkUp := by
  obtain ⟨_, _, h⟩ := raiseRoute_stw_eq n k; rw [h]
@[simp] theorem raiseRoute_stw_perst (n : Nat) (k : Core) : (raiseRoute n k).stw.perst = k.stw.perst := by
  obtain ⟨_, _, h⟩ := raiseRoute_stw_eq n k; rw [h]
@[simp] theorem raiseRoute_stw_forwarded (n : Nat) (k : Core) : (raiseRoute n k).stw.forwarded = k.stw.forwarded := by
  obtain ⟨_, _, h⟩ := raiseRoute_stw_eq n k; rw [h]

/-- Recording a cause changes the messages sent and the holdoffs alone, of what Steward keeps. -/
theorem recordCause_stw_eq (a i : Nat) (k : Core) : ∃ m h, (recordCause a i k).stw = { k.stw with msix := m, vecHold := h } := by
  have key (n : Nat) (v : Word) : ∃ m h, (raiseRoute n (setReg a v k)).stw = { k.stw with msix := m, vecHold := h } :=
    raiseRoute_stw_eq n (setReg a v k)
  unfold recordCause
  simp only
  split
  · split
    · exact ⟨_, _, rfl⟩
    · split
      · exact key _ _
      · exact ⟨_, _, rfl⟩
  · exact ⟨_, _, rfl⟩

@[simp] theorem recordCause_stw_queues (a i : Nat) (k : Core) : (recordCause a i k).stw.queues = k.stw.queues := by
  obtain ⟨_, _, h⟩ := recordCause_stw_eq a i k; rw [h]
@[simp] theorem recordCause_stw_sessions (a i : Nat) (k : Core) : (recordCause a i k).stw.sessions = k.stw.sessions := by
  obtain ⟨_, _, h⟩ := recordCause_stw_eq a i k; rw [h]
@[simp] theorem recordCause_stw_reservations (a i : Nat) (k : Core) : (recordCause a i k).stw.reservations = k.stw.reservations := by
  obtain ⟨_, _, h⟩ := recordCause_stw_eq a i k; rw [h]
@[simp] theorem recordCause_stw_tickets (a i : Nat) (k : Core) : (recordCause a i k).stw.tickets = k.stw.tickets := by
  obtain ⟨_, _, h⟩ := recordCause_stw_eq a i k; rw [h]
@[simp] theorem recordCause_stw_ticketSerial (a i : Nat) (k : Core) : (recordCause a i k).stw.ticketSerial = k.stw.ticketSerial := by
  obtain ⟨_, _, h⟩ := recordCause_stw_eq a i k; rw [h]
@[simp] theorem recordCause_stw_reservationSerial (a i : Nat) (k : Core) : (recordCause a i k).stw.reservationSerial = k.stw.reservationSerial := by
  obtain ⟨_, _, h⟩ := recordCause_stw_eq a i k; rw [h]
@[simp] theorem recordCause_stw_source (a i : Nat) (k : Core) : (recordCause a i k).stw.source = k.stw.source := by
  obtain ⟨_, _, h⟩ := recordCause_stw_eq a i k; rw [h]
@[simp] theorem recordCause_stw_chainWaiting (a i : Nat) (k : Core) : (recordCause a i k).stw.chainWaiting = k.stw.chainWaiting := by
  obtain ⟨_, _, h⟩ := recordCause_stw_eq a i k; rw [h]
@[simp] theorem recordCause_stw_orphans (a i : Nat) (k : Core) : (recordCause a i k).stw.orphans = k.stw.orphans := by
  obtain ⟨_, _, h⟩ := recordCause_stw_eq a i k; rw [h]
@[simp] theorem recordCause_stw_versions (a i : Nat) (k : Core) : (recordCause a i k).stw.versions = k.stw.versions := by
  obtain ⟨_, _, h⟩ := recordCause_stw_eq a i k; rw [h]
@[simp] theorem recordCause_stw_d3hot (a i : Nat) (k : Core) : (recordCause a i k).stw.d3hot = k.stw.d3hot := by
  obtain ⟨_, _, h⟩ := recordCause_stw_eq a i k; rw [h]
@[simp] theorem recordCause_stw_busMaster (a i : Nat) (k : Core) : (recordCause a i k).stw.busMaster = k.stw.busMaster := by
  obtain ⟨_, _, h⟩ := recordCause_stw_eq a i k; rw [h]
@[simp] theorem recordCause_stw_restarting (a i : Nat) (k : Core) : (recordCause a i k).stw.restarting = k.stw.restarting := by
  obtain ⟨_, _, h⟩ := recordCause_stw_eq a i k; rw [h]
@[simp] theorem recordCause_stw_linkUp (a i : Nat) (k : Core) : (recordCause a i k).stw.linkUp = k.stw.linkUp := by
  obtain ⟨_, _, h⟩ := recordCause_stw_eq a i k; rw [h]
@[simp] theorem recordCause_stw_perst (a i : Nat) (k : Core) : (recordCause a i k).stw.perst = k.stw.perst := by
  obtain ⟨_, _, h⟩ := recordCause_stw_eq a i k; rw [h]
@[simp] theorem recordCause_stw_forwarded (a i : Nat) (k : Core) : (recordCause a i k).stw.forwarded = k.stw.forwarded := by
  obtain ⟨_, _, h⟩ := recordCause_stw_eq a i k; rw [h]

/-! ### Event registers -/

/-- A recorded cause stands. -/
theorem recordCause_set (a i : Nat) (k : Core) (h : i < 16) : regBit (recordCause a i k) a (16 + i) = true := by
  have e : ∀ (n : Nat) (k' : Core), reg (raiseRoute n k') a = reg k' a := fun n k' => reg_congr k' _ a (by simp) (by simp)
  unfold regBit recordCause
  simp only
  repeat' split
  all_goals simp only [e, reg_setReg_same]
  all_goals first
    | exact bit_putBit_same _ _ _ (by omega)
    | rw [bit_setFld_ne _ _ _ _ _ (by omega), bit_putBit_ne _ _ _ _ (by omega) (by omega), bit_putBit_same _ _ _ (by omega)]

/-- A cause recorded in one event register leaves every other register. -/
theorem reg_recordCause_ne (a i b : Nat) (k : Core) (h : b ≠ a) : reg (recordCause a i k) b = reg k b := by
  have e : ∀ (n : Nat) (k' : Core), reg (raiseRoute n k') b = reg k' b := fun n k' => reg_congr k' _ b (by simp) (by simp)
  unfold recordCause
  simp only
  repeat' split
  all_goals simp only [e, reg_setReg_ne _ _ _ _ h]

/-- A completed ticket leaves every register. -/
@[simp] theorem reg_completeTicket (id : Word) (st : Status) (res : List Word) (k : Core) (a : Nat) :
    reg (completeTicket id st res k) a = reg k a := reg_congr _ _ a (by simp) (by simp)

/-- A reply leaves every register. -/
@[simp] theorem reg_answer (op : BitVec 16) (c : Cmd) (st : Status) (data : List Word) (k : Core) (a : Nat) :
    reg (answer op c st data k) a = reg k a := reg_congr _ _ a (by simp) (by simp)

/-- A raised route leaves every register. -/
@[simp] theorem reg_raiseRoute (n : Nat) (k : Core) (a : Nat) : reg (raiseRoute n k) a = reg k a :=
  reg_congr _ _ a (by simp) (by simp)

/-- A raised vector leaves every register. -/
@[simp] theorem reg_raiseVector (n : Nat) (k : Core) (a : Nat) : reg (raiseVector n k) a = reg k a :=
  reg_congr _ _ a (by simp) (by simp)

/-! ### Pages -/

/-- A register of a page lies at its offset. -/
theorem pageOff_add (p : Page) (off : Nat) (h : off < 2 ^ 20) : pageOff (pageBase p + off) = off := by
  cases p <;> simp only [pageBase, pageOff] <;> omega

/-- The companion fields of an event register are other registers. -/
@[simp] theorem reg_clearCompanions (a : Nat) (k : Core) : reg (clearCompanions a k) a = reg k a := by
  have ne (p : Page) (off : Nat) (h : off < 2 ^ 20) (h' : pageOff a ≠ off) : a ≠ pageBase p + off := by
    intro e
    exact h' (by rw [e, pageOff_add p off h])
  unfold clearCompanions blockReg treeReg
  repeat' split
  all_goals first
    | rfl
    | rw [reg_setReg_ne _ _ _ _ (ne _ _ (by norm_num) (by omega)), reg_setReg_ne _ _ _ _ (ne _ _ (by norm_num) (by omega))]
    | rw [reg_setReg_ne _ _ _ _ (ne _ _ (by norm_num) (by omega))]

/-- The bits of the low byte's mask. -/
theorem low8_getLsbD (j : Nat) : (0xFF#32).getLsbD j = decide (j < 8) := by
  by_cases h : j < 32
  · have : ∀ i : Fin 32, (0xFF#32).getLsbD i = decide (i.val < 8) := by decide
    exact this ⟨j, h⟩
  · have h8 : ¬ j < 8 := by omega
    rw [BitVec.getLsbD_of_ge _ _ (by omega)]
    simp [h8]

/-- The low byte of a word's low byte. -/
theorem fld_low8 (w : Word) : fld (w &&& 0xFF#32) 7 0 = fld w 7 0 := by
  apply Nat.eq_of_testBit_eq
  intro i
  rw [fld_testBit, fld_testBit, BitVec.getLsbD_and, low8_getLsbD]
  by_cases h : i < 8 <;> simp [h]

end Sys2Proof.Machine
end

