-- ==== Sys2Proof/Laws/Arbiter.lean ====
section
/-! SUPPORT. The choice of an arbiter and the wait counts after it (R303 to R305): one lemma for each operation of a decision. -/

namespace Sys2Proof.Machine

/-! ### The choice -/

/-- The largest of a measure bounds it. -/
theorem le_foldl_max (f : Nat → Nat) (l : List Nat) : ∀ m, m ≤ l.foldl (fun m s => max m (f s)) m
    ∧ ∀ x ∈ l, f x ≤ l.foldl (fun m s => max m (f s)) m := by
  induction l with
  | nil => intro m; simp
  | cons y t ih =>
    intro m
    obtain ⟨h1, h2⟩ := ih (max m (f y))
    refine ⟨le_trans (le_max_left _ _) h1, fun x hx => ?_⟩
    rcases List.mem_cons.1 hx with rfl | hx
    · exact le_trans (le_max_right _ _) h1
    · exact h2 x hx

/-- No slot measures more than the largest. -/
theorem le_maxOver (f : Nat → Nat) (l : List Nat) (x : Nat) (h : x ∈ l) : f x ≤ maxOver f l := (le_foldl_max f l 0).2 x h

/-- Some slot of a list measures the largest. -/
theorem maxOver_mem (f : Nat → Nat) (l : List Nat) (h : l ≠ []) : ∃ x ∈ l, f x = maxOver f l := by
  have g : ∀ (l : List Nat) m, l.foldl (fun m s => max m (f s)) m = m ∨ ∃ x ∈ l, f x = l.foldl (fun m s => max m (f s)) m := by
    intro l
    induction l with
    | nil => intro m; simp
    | cons y t ih =>
      intro m
      rcases ih (max m (f y)) with e | ⟨x, hx, e⟩
      · rcases le_total m (f y) with q | q
        · exact .inr ⟨y, by simp, by rw [List.foldl_cons, e, max_eq_right q]⟩
        · exact .inl (by rw [List.foldl_cons, e, max_eq_left q])
      · exact .inr ⟨x, by simp [hx], by rw [List.foldl_cons, e]⟩
  rcases g l 0 with e | q
  · obtain ⟨x, hx⟩ := List.exists_mem_of_ne_nil l h
    refine ⟨x, hx, ?_⟩
    have := le_maxOver f l x hx
    unfold maxOver at this ⊢
    omega
  · exact q

/-- A slot equals the largest exactly where it bounds every other. -/
theorem eq_maxOver (f : Nat → Nat) (l : List Nat) (x : Nat) (h : x ∈ l) : f x = maxOver f l ↔ ∀ y ∈ l, f y ≤ f x := by
  constructor
  · intro e y hy; rw [e]; exact le_maxOver f l y hy
  · intro q
    obtain ⟨y, hy, e⟩ := maxOver_mem f l (List.ne_nil_of_mem h)
    exact le_antisymm (le_maxOver f l x h) (e ▸ q y hy)

/-- The first in rotation order of a list of slots. -/
theorem firstInRotation_some (p n : Nat) (l : List Nat) (g : Nat) (h : firstInRotation p n l = some g) :
    g ∈ l ∧ ∃ i < n, g = (p + 1 + i) % n ∧ ∀ j < i, (p + 1 + j) % n ∉ l := by
  unfold firstInRotation at h
  rw [List.find?_map, Option.map_eq_some_iff] at h
  obtain ⟨i, hi, rfl⟩ := h
  have hi' := hi
  rw [List.find?_range_eq_some] at hi
  obtain ⟨h1, h2, h3⟩ := hi
  simp only [Function.comp, List.contains_iff_mem] at h1 h3
  exact ⟨h1, i, List.mem_range.1 h2, rfl, fun j hj => by simpa using h3 j hj⟩

/-- Some slot is first in rotation order. -/
theorem firstInRotation_isSome (p n : Nat) (l : List Nat) (x : Nat) (h : x ∈ l) (hx : x < n) :
    ∃ g, firstInRotation p n l = some g := by
  unfold firstInRotation
  rw [← Option.isSome_iff_exists, List.find?_isSome]
  refine ⟨x, ?_, by simpa using h⟩
  refine List.mem_map.2 ⟨(x + n - (p + 1) % n) % n, List.mem_range.2 (Nat.mod_lt _ (by omega)), ?_⟩
  have hq : ∀ q < n, (q + (x + n - q) % n) % n = x := by
    intro q hq
    rw [Nat.add_mod_mod, show q + (x + n - q) = x + n by omega, Nat.add_mod_right, Nat.mod_eq_of_lt hx]
  have hm : (p + 1) % n < n := Nat.mod_lt _ (by omega)
  rw [Nat.add_mod, Nat.mod_mod_of_dvd _ (dvd_refl n)]
  exact hq _ hm

/-- The candidates of a decision. -/
theorem granted_some (k : Core) (a : ArbiterId) (e : List Nat) (he : e ≠ []) (hl : ∀ x ∈ e, x < arbSlots a) :
    ∃ g, granted k a e = some g := by
  unfold granted
  dsimp only
  split
  · rename_i hf
    obtain ⟨x, hx, hp⟩ := maxOver_mem (slotPrio k a) e he
    exact firstInRotation_isSome _ _ _ x (by simp [hx, hp]) (hl x hx)
  · rename_i hf
    obtain ⟨x, hx, hp⟩ := maxOver_mem (slotWait k a)
      (e.filter (fun s => slotWlim k a s != 0 && decide (slotWlim k a s ≤ slotWait k a s))) (by simpa using hf)
    exact firstInRotation_isSome _ _ _ x (by rw [List.mem_filter]; exact ⟨hx, by simpa using hp⟩) (hl x (List.mem_filter.1 hx).1)

/-- The slot granted is the first in rotation order of those that may win (R305). -/
theorem granted_spec (k : Core) (a : ArbiterId) (e : List Nat) (g : Nat) (h : granted k a e = some g) :
    mayWin k a e g ∧ ∃ i < arbSlots a, g = ((arbState k a).pointer + 1 + i) % arbSlots a
      ∧ ∀ j < i, ¬ mayWin k a e (((arbState k a).pointer + 1 + j) % arbSlots a) := by
  have q : ∃ c : List Nat, firstInRotation (arbState k a).pointer (arbSlots a) c = some g ∧ ∀ x, x ∈ c ↔ mayWin k a e x := by
    unfold granted at h
    dsimp only at h
    split at h
    · rename_i hf
      refine ⟨_, h, fun x => ?_⟩
      have hf' : ∀ y ∈ e, ¬ forcedSlot k a y := by simpa [forcedSlot] using hf
      rw [List.mem_filter]
      constructor
      · rintro ⟨hx, hp⟩
        exact ⟨hx, .inr ⟨hf', (eq_maxOver _ _ _ hx).1 (by simpa using hp)⟩⟩
      · rintro ⟨hx, ⟨⟨y, hy, fy⟩, -⟩ | ⟨-, hp⟩⟩
        · exact absurd fy (hf' y hy)
        · exact ⟨hx, by simpa using (eq_maxOver _ _ _ hx).2 hp⟩
    · rename_i hf
      refine ⟨_, h, fun x => ?_⟩
      have hm : ∀ y, y ∈ e.filter (fun s => slotWlim k a s != 0 && decide (slotWlim k a s ≤ slotWait k a s))
          ↔ y ∈ e ∧ forcedSlot k a y := by intro y; simp [forcedSlot]
      have hne : ∃ y ∈ e, forcedSlot k a y := by simpa [forcedSlot] using hf
      rw [List.mem_filter]
      constructor
      · rintro ⟨hx, hp⟩
        have hx' := (hm x).1 hx
        exact ⟨hx'.1, .inl ⟨hne, hx'.2, fun y hy fy => (eq_maxOver _ _ _ hx).1 (by simpa using hp) y ((hm y).2 ⟨hy, fy⟩)⟩⟩
      · rintro ⟨hx, ⟨-, fx, hp⟩ | ⟨hn, -⟩⟩
        · have hx' := (hm x).2 ⟨hx, fx⟩
          exact ⟨hx', by simpa using (eq_maxOver (slotWait k a) _ _ hx').2 (fun y hy => hp y ((hm y).1 hy).1 ((hm y).1 hy).2)⟩
        · obtain ⟨y, hy, fy⟩ := hne
          exact absurd fy (hn y hy)
  obtain ⟨c, hc, hm⟩ := q
  obtain ⟨h1, i, h2, h3, h4⟩ := firstInRotation_some _ _ _ _ hc
  exact ⟨(hm g).1 h1, i, h2, h3, fun j hj w => h4 j hj ((hm _).2 w)⟩

/-! ### The wait counts -/

/-- A wait count reads by the registers, the order code and the arbiters' own states alone. -/
theorem slotWait_congr (k k' : Core) (a : ArbiterId) (x : Nat) (hr : ∀ w, arbWords a = some w → reg k' (w + 4 * x) = reg k (w + 4 * x))
    (hm : k'.mem.arbs = k.mem.arbs) : slotWait k' a x = slotWait k a x := by
  unfold slotWait
  cases hw : arbWords a with
  | some w => simp only [regFld, hr w hw]
  | none => simp only [arbState, hm]

/-- A slot's wait count after one is set. -/
theorem slotWait_setSlotWait (a : ArbiterId) (s x v : Nat) (k : Core) (hv : v < 256) :
    slotWait (setSlotWait a s v k) a x = if x = s then v else slotWait k a x := by
  unfold slotWait setSlotWait
  cases arbWords a with
  | some w =>
    simp only
    split
    · rename_i h; subst h
      rw [regFld, reg_setRegFld_same, fld_setFld_same _ _ _ _ (by omega)]
      exact Nat.mod_eq_of_lt (by simpa using hv)
    · rename_i h
      rw [regFld, reg_setRegFld_ne _ _ _ _ _ _ (by omega), regFld]
  | none =>
    simp only [setArb, arbState, amGetD_amSet_same]
    split
    · rename_i h; subst h; rw [amGetD_amSet_same]
    · rename_i h; rw [amGetD_amSet_ne _ _ _ _ _ h]

/-- The pointer of an arbiter does not move with a wait count. -/
theorem pointer_setSlotWait (a : ArbiterId) (s v : Nat) (k : Core) :
    (arbState (setSlotWait a s v k) a).pointer = (arbState k a).pointer := by
  unfold setSlotWait
  cases arbWords a <;> simp [setArb, arbState, setRegFld, setReg]

/-- The wait counts after every slot of a list steps. -/
theorem slotWait_stepped (a : ArbiterId) (f : Nat → Nat) (hf : ∀ s, f s < 256) (l : List Nat) : ∀ (k : Core) (x : Nat),
    slotWait (l.foldl (fun acc s => setSlotWait a s (f s) acc) k) a x = if x ∈ l then f x else slotWait k a x := by
  induction l with
  | nil => simp
  | cons y t ih =>
    intro k x
    rw [List.foldl_cons, ih, slotWait_setSlotWait _ _ _ _ _ (hf y)]
    by_cases h1 : x ∈ t
    · simp [h1]
    · by_cases h2 : x = y <;> simp [h1, h2]

/-- The registers of a tariff register set but those of its slots lie clear of the ARB words. -/
theorem arbWords_tariff (a : ArbiterId) (w b : Nat) (hw : arbWords a = some w) (hb : arbTariff a = some b) : w = b + 0x80 := by
  cases a <;> simp_all [arbWords, arbTariff] <;> subst hw hb <;> simp [arbReg, portReg]

/-- An arbiter with a tariff has a slot for each class. -/
theorem arbSlots_tariff (a : ArbiterId) (b : Nat) (h : arbTariff a = some b) : arbSlots a = 8 := by
  cases a <;> first | rfl | cases h

/-- Counting denials leaves the wait counts. -/
theorem slotWait_countDenied (a : ArbiterId) (l : List Nat) (hl : ∀ s ∈ l, s < arbSlots a) (k : Core) (x : Nat) :
    slotWait (countDenied a l k) a x = slotWait k a x := by
  unfold countDenied
  cases hb : arbTariff a with
  | none => rfl
  | some b =>
    have h8 := arbSlots_tariff a b hb
    simp only
    induction l generalizing k with
    | nil => rfl
    | cons y t ih =>
      rw [List.foldl_cons, ih (fun s hs => hl s (by simp [hs]))]
      refine slotWait_congr _ _ _ _ (fun w hw => ?_) rfl
      have := arbWords_tariff a w b hw hb
      have := hl y (by simp)
      have ne : w + 4 * x ≠ b + 0x60 + 4 * y := by omega
      unfold countFld
      exact reg_setRegFld_ne _ _ _ _ _ _ ne

/-- The charge of a grant leaves the wait counts and the arbiter's own state. -/
theorem chargeGrant_waits (a : ArbiterId) (ta : List Nat) (g cost : Nat) (hg : g < arbSlots a) (k : Core) :
    (∀ x, slotWait (chargeGrant a ta g cost k) a x = slotWait k a x) ∧ arbState (chargeGrant a ta g cost k) a = arbState k a := by
  cases hb : arbTariff a with
  | none => simp [chargeGrant, hb]
  | some b =>
    have h8 := arbSlots_tariff a b hb
    have hc : (chargeGrant a ta g cost k).mem.arbs = k.mem.arbs
        ∧ ∀ y, y ≠ b + 0x40 + 4 * g → reg (chargeGrant a ta g cost k) y = reg k y := by
      have e : ∀ k', reg (chargeClass b g cost k') = reg (setRemain b g (remain k' b g - cost) k') := fun k' => rfl
      unfold chargeGrant
      simp only [hb]
      split
      · split
        · split
          · exact ⟨rfl, fun y hy => (congrFun (e k) y).trans (reg_setRegFld_ne _ _ _ _ _ _ hy)⟩
          · exact ⟨rfl, fun y hy => (congrFun (e k) y).trans (reg_setRegFld_ne _ _ _ _ _ _ hy)⟩
        · exact ⟨rfl, fun y hy => (congrFun (e k) y).trans (reg_setRegFld_ne _ _ _ _ _ _ hy)⟩
      · exact ⟨rfl, fun _ _ => rfl⟩
    refine ⟨fun x => slotWait_congr _ _ _ _ (fun w hw => hc.2 _ ?_) hc.1, by simp [arbState, hc.1]⟩
    rw [arbWords_tariff a w b hw hb]
    omega

/-- One slot alone is first in rotation order. -/
theorem firstInRotation_one (p n x : Nat) (hx : x < n) : firstInRotation p n [x] = some x := by
  obtain ⟨g, hg⟩ := firstInRotation_isSome p n [x] x List.mem_cons_self hx
  have := (firstInRotation_some p n [x] g hg).1
  rw [List.mem_singleton] at this
  rw [hg, this]

end Sys2Proof.Machine
end

