-- ==== Sys2Proof/Laws/Clock.lean ====
section
/-! SUPPORT. The operations that leave the Chronicle and the time as they are: replies, messages, registers and tenancy. -/

namespace Sys2Proof.Machine

/-- A fold of changes that leave the clock leaves it. -/
theorem foldl_clock {α : Type} (f : Core → α → Core) (h : ∀ k x, (f k x).clock = k.clock) (l : List α) :
    ∀ k, (l.foldl f k).clock = k.clock := by
  induction l with
  | nil => intro k; rfl
  | cons x t ih => intro k; rw [List.foldl_cons, ih, h]

@[simp] theorem sendPort_clock (p : Nat) (m : Msg) (k : Core) : (sendPort p m k).clock = k.clock := rfl

@[simp] theorem tenPartner_clock (type : Nat) (f : TenFlit) (k : Core) : (tenPartner type f k).clock = k.clock := by
  unfold tenPartner; split <;> rfl
@[simp] theorem tenWitness_clock (type : Nat) (f : TenFlit) (k : Core) : (tenWitness type f k).clock = k.clock := by
  unfold tenWitness; split <;> rfl
@[simp] theorem tenBoth_clock (type : Nat) (f : TenFlit) (k : Core) : (tenBoth type f k).clock = k.clock := by
  unfold tenBoth; simp

@[simp] theorem voidHandover_clock (r : Nat) (k : Core) : (voidHandover r k).clock = k.clock := by
  unfold voidHandover
  repeat' split
  all_goals first | rfl | rw [completeTicket_clock]

@[simp] theorem refreshDrive_clock (c : Nat) (k : Core) : (refreshDrive c k).clock = k.clock := rfl

/-- The tenanted drivers' refresh leaves the clock. -/
@[simp] theorem refreshTenants_clock (r : Nat) (k : Core) : (refreshTenants r k).clock = k.clock := by
  unfold refreshTenants; exact foldl_clock _ (fun k i => refreshDrive_clock (carrier k (cellOfPin i)) k) _ k

/-- A region that relinquishes leaves the clock. -/
@[simp] theorem relinquish_clock (r : Nat) (k : Core) : (relinquish r k).clock = k.clock := by
  have e : ∀ r k, (enterStandby r k).clock = k.clock := by intro r k; unfold enterStandby setRole; rw [refreshTenants_clock]; rfl
  unfold relinquish
  dsimp only
  split
  · rw [tenBoth_clock, e, voidHandover_clock]
  · split
    · rw [e]
    · rfl

/-- Every holder relinquishing leaves the clock. -/
@[simp] theorem relinquishAll_clock (k : Core) : (relinquishAll k).clock = k.clock := by
  unfold relinquishAll
  refine foldl_clock _ (fun k r => ?_) _ k
  split
  · exact relinquish_clock r k
  · rfl

end Sys2Proof.Machine
end

