-- ==== Sys2Proof/Laws/Commands.lean ====
section
/-! SUPPORT. What an accepted command comes to (Table CMD-5, R321): one lemma for each kind of outcome of its immediate part. -/

namespace Sys2Proof.Machine

/-- The session of a source does not depend on what the start of a command changes. -/
theorem sessionOf_congr (k k' : Core) (c : Cmd) (hq : k'.stw.queues = k.stw.queues) (hs : k'.stw.sessions = k.stw.sessions) :
    sessionOf k' c = sessionOf k c := by
  unfold sessionOf
  split
  · simp [queueOf, hq]
  · simp [chainSession, hs]

/-- A command starts in its own session. -/
theorem sessionOf_markStart (op : BitVec 16) (c c' : Cmd) (k : Core) : sessionOf (markStart op c k) c' = sessionOf k c' :=
  sessionOf_congr _ _ _ rfl rfl

/-- A cost charged leaves the sessions. -/
theorem sessionOf_chargeCost (d : OpDef) (c c' : Cmd) (s : State) : sessionOf (chargeCost d c s).core c' = sessionOf s.core c' := by
  unfold chargeCost
  split
  · exact sessionOf_congr _ _ _ rfl rfl
  · rfl

/-- An accepted command runs in the session it was sent in. -/
theorem sessionOf_begun (d : OpDef) (c : Cmd) (s : State) : sessionOf (begun d c s).core c = sender c s := by
  unfold begun
  rw [sessionOf_chargeCost, onCore_core, sessionOf_markStart, sender]

/-- An accepted command: what its immediate part comes to becomes state and reply. -/
theorem takeCmd_accepted (d : OpDef) (c : Cmd) (s : State) (h : accepted d c s = true) :
    takeCmd d c s = finish d c (d.run c (sender c s) (begun d c s)) (begun d c s) := by
  simp only [accepted, Bool.and_eq_true, Bool.not_eq_true', Option.isNone_iff_eq_none, Option.isSome_iff_exists] at h
  obtain ⟨⟨⟨⟨k, hk⟩, hw⟩, hs⟩, hr⟩ := h
  have j : joined c s = { s with core := k } := by simp [joined, hk]
  rw [j] at hw hs hr
  have e : sessionOf (onCore (markStart d.opcode c) { s with core := k }).core c = sender c s := by
    rw [onCore_core, sessionOf_markStart, sender, j]
  unfold takeCmd
  simp only [hk, hw, hs, Bool.false_eq_true, not_false_eq_true, and_self, if_true]
  unfold serve
  rw [hr]
  simp only [e, begun, j]

/-- An immediate part that ends with a reply. -/
theorem takeCmd_done (d : OpDef) (c : Cmd) (s t : State) (st : Status) (data : List Word) (h : accepted d c s = true)
    (hr : d.run c (sender c s) (begun d c s) = .done st data t) : takeCmd d c s = replied d c st data t := by
  rw [takeCmd_accepted d c s h, hr]; rfl

/-- An immediate part that refuses changes nothing but by its reply. -/
theorem takeCmd_refuse (d : OpDef) (c : Cmd) (s : State) (st : Status) (data : List Word) (h : accepted d c s = true)
    (hr : d.run c (sender c s) (begun d c s) = .refuse st data) : takeCmd d c s = replied d c st data (begun d c s) := by
  rw [takeCmd_accepted d c s h, hr]; rfl

/-- An immediate part whose reply comes later. -/
theorem takeCmd_later (d : OpDef) (c : Cmd) (s t : State) (h : accepted d c s = true)
    (hr : d.run c (sender c s) (begun d c s) = .later t) : takeCmd d c s = t := by
  rw [takeCmd_accepted d c s h, hr]; rfl

/-- Work that goes on under a ticket. -/
theorem takeCmd_ticketed (d : OpDef) (c : Cmd) (s : State) (w : Work) (tick : Nat) (extra : List Word) (go : Word → State → State)
    (h : accepted d c s = true) (hf : ticketLeft d c s = true)
    (hr : d.run c (sender c s) (begun d c s) = .ticketed w tick extra go) :
    takeCmd d c s = ticketed d c w tick extra go (begun d c s) := by
  rw [takeCmd_accepted d c s h, hr]
  unfold finish
  simp only [ticketLeft] at hf
  simp only [hf, if_true]
  rfl

/-- An immediate part that writes register words, at once or into a folio. -/
theorem takeCmd_written (d : OpDef) (c : Cmd) (s : State) (l : List (Nat × Word)) (data : List Word) (h : accepted d c s = true)
    (hr : d.run c (sender c s) (begun d c s) = runPairs c (sender c s) l data (begun d c s)) :
    takeCmd d c s = written d c l data s := by
  rw [takeCmd_accepted d c s h, hr, runPairs, written]
  split <;> rfl

/-- An immediate part that is a result read. -/
theorem takeCmd_result (d : OpDef) (c : Cmd) (s : State) (stamp : List Nat) (data : List Word) (h : accepted d c s = true)
    (hr : d.run c (sender c s) (begun d c s) = resultRead d.opcode c (sender c s) stamp data (begun d c s)) :
    takeCmd d c s = resultReplied d c stamp data s := by
  rw [takeCmd_accepted d c s h, hr, resultRead, resultReplied]
  cases amGet? (begun d c s).core.stw.sessions (sender c s) <;> rfl

/-- Two lifted changes that agree on the state at hand give the same outcome. -/
theorem next_onCore (f g : Core → Core) (s : State) (h : f s.core = g s.core) :
    (Host.Outcome.next (onCore f s) : Host.Outcome State Fault Refusal) = .next (onCore g s) := by
  unfold onCore; rw [h]

/-! ### What the start of a command leaves -/

/-- A command of the chain joins its session without touching the memories and the queue. -/
@[simp] theorem joined_qdr (c : Cmd) (s : State) : (joined c s).qdr = s.qdr := by unfold joined; split <;> rfl
@[simp] theorem joined_arc (c : Cmd) (s : State) : (joined c s).arc = s.arc := by unfold joined; split <;> rfl
@[simp] theorem joined_pending (c : Cmd) (s : State) : (joined c s).pending = s.pending := by unfold joined; split <;> rfl
@[simp] theorem chargeCost_qdr (d : OpDef) (c : Cmd) (s : State) : (chargeCost d c s).qdr = s.qdr := by unfold chargeCost; split <;> rfl
@[simp] theorem chargeCost_arc (d : OpDef) (c : Cmd) (s : State) : (chargeCost d c s).arc = s.arc := by unfold chargeCost; split <;> rfl
@[simp] theorem chargeCost_pending (d : OpDef) (c : Cmd) (s : State) : (chargeCost d c s).pending = s.pending := by
  unfold chargeCost; split <;> rfl
@[simp] theorem begun_qdr (d : OpDef) (c : Cmd) (s : State) : (begun d c s).qdr = s.qdr := by simp [begun]
@[simp] theorem begun_arc (d : OpDef) (c : Cmd) (s : State) : (begun d c s).arc = s.arc := by simp [begun]
@[simp] theorem begun_pending (d : OpDef) (c : Cmd) (s : State) : (begun d c s).pending = s.pending := by simp [begun]
@[simp] theorem replied_qdr (d : OpDef) (c : Cmd) (st : Status) (l : List Word) (s : State) : (replied d c st l s).qdr = s.qdr := rfl
@[simp] theorem replied_arc (d : OpDef) (c : Cmd) (st : Status) (l : List Word) (s : State) : (replied d c st l s).arc = s.arc := rfl
@[simp] theorem replied_pending (d : OpDef) (c : Cmd) (st : Status) (l : List Word) (s : State) :
    (replied d c st l s).pending = s.pending := rfl
@[simp] theorem replied_core (d : OpDef) (c : Cmd) (st : Status) (l : List Word) (s : State) :
    (replied d c st l s).core = answer d.opcode c st l s.core := rfl

end Sys2Proof.Machine
end

