-- ==== Sys2Proof/Laws/Engine.lean ====
section
/-! SUPPORT. What an itinerary engine does with one instruction: its frames, and then its register writes and flow (R125, R131). -/

namespace Sys2Proof.Machine

/-- Setting generator registers leaves the rest of the engine. -/
theorem stepGens_frame (i : ItinIns) (e : Engine) : (stepGens i e).emitted = e.emitted ∧ (stepGens i e).pc = e.pc
    ∧ (stepGens i e).stack = e.stack ∧ (stepGens i e).shadow = e.shadow ∧ (stepGens i e).fifo = e.fifo := by
  have d : ∀ (n : Nat) (e : Engine), (dataStep n e).emitted = e.emitted ∧ (dataStep n e).pc = e.pc ∧ (dataStep n e).stack = e.stack
      ∧ (dataStep n e).shadow = e.shadow ∧ (dataStep n e).fifo = e.fifo := by
    intro n e
    unfold dataStep
    repeat' split
    all_goals exact ⟨rfl, rfl, rfl, rfl, rfl⟩
  unfold stepGens
  refine ⟨(d _ _).1.trans rfl, (d _ _).2.1.trans rfl, (d _ _).2.2.1.trans rfl, (d _ _).2.2.2.1.trans rfl, (d _ _).2.2.2.2.trans rfl⟩

/-- Emitting frames counts them and leaves the index, the stack and the shadow bank. -/
theorem emitFrames_frame (arc : Memory) (size : Nat) (i : ItinIns) (n : Nat) (e : Engine) :
    (emitFrames arc size i n e).emitted = e.emitted + n ∧ (emitFrames arc size i n e).pc = e.pc
    ∧ (emitFrames arc size i n e).stack = e.stack ∧ (emitFrames arc size i n e).shadow = e.shadow
    ∧ (emitFrames arc size i n e).fifo.length = e.fifo.length + n := by
  induction n generalizing e with
  | zero => exact ⟨rfl, rfl, rfl, rfl, rfl⟩
  | succ m ih =>
    rw [emitFrames]
    obtain ⟨a, b, c, d, f⟩ := ih (stepGens i { e with
        fifo := e.fifo ++ [frameOf e i (e.emitted + 1 == insFrames i) (nextRecords arc size e i)]
        serial := e.serial + 1, emitted := e.emitted + 1
        streamPos := if i.op = 0x0A then e.streamPos + size * frameBeats e else e.streamPos })
    obtain ⟨a', b', c', d', f'⟩ := stepGens_frame i { e with
        fifo := e.fifo ++ [frameOf e i (e.emitted + 1 == insFrames i) (nextRecords arc size e i)]
        serial := e.serial + 1, emitted := e.emitted + 1
        streamPos := if i.op = 0x0A then e.streamPos + size * frameBeats e else e.streamPos }
    refine ⟨?_, b.trans b', c.trans c', d.trans d', ?_⟩
    · exact a.trans (by rw [a']; simp only; omega)
    · exact f.trans (by rw [f']; simp only [List.length_append, List.length_cons, List.length_nil]; omega)

/-- A runnable instruction whose frames all fit: they enter the FIFO, and its register writes and flow follow. -/
theorem runIns_done (op r : Nat) (s : State) (h : runnable op r s = true) (hr : roomForAll r s) :
    onCoreMem (runIns op r) s = onCore (fun k => showEngine r (commitGen r (noteSkipped r (op == 0x09 && (framesOut r s).shadow.isSome)
      (setEng r (finishIns s.core r (nextIns r s) (framesOut r s)) k)))) s := by
  simp only [runnable, Bool.and_eq_true, Bool.or_eq_true, Bool.not_eq_true', beq_iff_eq, bne_iff_ne, ne_eq] at h
  obtain ⟨⟨⟨⟨h1, h2⟩, h3⟩, h4⟩, h5⟩ := h
  obtain ⟨h6, h7⟩ := hr
  have hf := (emitFrames_frame s.arc (recordSize s.core r) (nextIns r s) (insFrames (nextIns r s) - (engOf s.core r).emitted)
    (engOf s.core r)).1
  unfold onCoreMem onCore runIns
  simp only [nextIns, framesOut] at *
  rw [if_pos ⟨h1, h2, h3⟩, if_neg (by simp [h4]), if_neg (by
    rintro ⟨a, b⟩
    rcases h5 with h5 | h5
    · exact h5 a
    · rw [h5] at b; cases b)]
  rw [Nat.min_eq_right h7, if_neg (by rw [hf]; omega)]

/-- One whose frames do not all fit: those that fit enter the FIFO. -/
theorem runIns_part (op r : Nat) (s : State) (h : runnable op r s = true)
    (hr : (engOf s.core r).emitted + fifoRoom (engOf s.core r) < insFrames (nextIns r s)) :
    onCoreMem (runIns op r) s = engineTo r (emitFrames s.arc (recordSize s.core r) (nextIns r s) (fifoRoom (engOf s.core r))
      (engOf s.core r)) s := by
  simp only [runnable, Bool.and_eq_true, Bool.or_eq_true, Bool.not_eq_true', beq_iff_eq, bne_iff_ne, ne_eq] at h
  obtain ⟨⟨⟨⟨h1, h2⟩, h3⟩, h4⟩, h5⟩ := h
  have hf := (emitFrames_frame s.arc (recordSize s.core r) (nextIns r s) (fifoRoom (engOf s.core r)) (engOf s.core r)).1
  unfold onCoreMem engineTo onCore runIns
  simp only [nextIns] at *
  rw [if_pos ⟨h1, h2, h3⟩, if_neg (by simp [h4]), if_neg (by
    rintro ⟨a, b⟩
    rcases h5 with h5 | h5
    · exact h5 a
    · rw [h5] at b; cases b)]
  rw [Nat.min_eq_left (by omega), if_pos (by rw [hf]; omega)]

end Sys2Proof.Machine
end

