-- ==== Sys2Proof/Laws/Holes.lean ====
section
/-! SUPPORT. Offsets of a valid page that hold no register (R35): they read 0 and latch nothing. -/

namespace Sys2Proof.Machine

/-- A hole reads 0. -/
theorem readReg_hole (k : Core) (a : Nat) (h : rowOf a = none) : readReg k a = 0 := by
  have n : ∀ x, (rowOf x).isSome = true → a ≠ x := by
    rintro x hx rfl
    rw [h] at hx
    cases hx
  have p : ∀ i : Fin 48, (rowOf (0x87F00100 + 4 * i.val)).isSome = true := by decide
  unfold readReg
  rw [if_neg (n _ (by decide)), if_neg (n _ (by decide)), if_neg (n _ (by decide)), if_neg (n _ (by decide)), if_neg, if_neg (n _ (by decide)),
    if_neg (n _ (by decide)), if_neg, if_neg (n _ (by decide)), h]
  · rintro (q | q | q | q)
    all_goals exact n _ (by decide) q
  · rintro ⟨q1, q2, q3⟩
    refine n _ (p ⟨(a - 0x87F00100) / 4, by omega⟩) ?_
    simp only
    omega

/-- The row of a register by its page. -/
theorem rowOf_page (a : Nat) (p : Page) (h : pageOf a = some p) : rowOf a = (pageRows p).find? (fun r => rowCovers r (pageOff a)) := by
  unfold rowOf
  rw [h]

/-- A hole latches nothing. -/
theorem latchesHi_hole (a : Nat) (h : rowOf a = none) : latchesHi a = false := by
  unfold latchesHi
  have f : ∀ (l : List RegRow) (x : Nat), (l.find? (fun r => rowCovers r (pageOff a))) = none →
      (l.find? (fun r => rowCovers r x)).isSome = true → (pageOff a == x) = false := by
    intro l x h1 h2
    rw [beq_eq_false_iff_ne]
    intro e
    rw [e] at h1
    rw [h1] at h2
    cases h2
  split
  · rename_i hp
    rw [rowOf_page a _ hp] at h
    exact f _ _ h (by decide)
  · rename_i c hp
    rw [rowOf_page a _ hp] at h
    have e : pageRows (.cell c) = if c % 17 = 16 then rowsCell ++ rowsSpare else rowsCell := rfl
    rw [e] at h
    split at h
    · rw [f _ 0xD0 h (by decide), f _ 0xF8 h (by decide), f _ 0x448 h (by decide)]; rfl
    · rw [f _ 0xD0 h (by decide), f _ 0xF8 h (by decide), f _ 0x448 h (by decide)]; rfl
  · rename_i hp
    rw [rowOf_page a _ hp] at h
    rw [f rowsEngine 0x18 h (by decide), f rowsEngine 0x24 h (by decide)]; rfl
  · rename_i hp
    rw [rowOf_page a _ hp] at h
    exact f rowsTree _ h (by decide)
  · rename_i hp
    rw [rowOf_page a _ hp] at h
    exact f _ _ h (by decide)
  · rename_i hp
    rw [rowOf_page a _ hp] at h
    rw [f _ 4 h (by decide), f _ 0x20 h (by decide), f _ 0x28 h (by decide)]; rfl
  · rename_i hp
    rw [rowOf_page a _ hp] at h
    rw [f _ 0x30 h (by decide), f _ 0x40 h (by decide), f _ 0x48 h (by decide), f _ 0x50 h (by decide), f _ 0x58 h (by decide)]; rfl
  · rename_i hp
    rw [rowOf_page a _ hp] at h
    exact f _ _ h (by decide)
  · rename_i p hp
    by_cases e : p = 2
    · subst e
      rw [rowOf_page a _ hp] at h
      have g : ∀ i : Fin 8, ((pageRows (.port 2)).find? (fun r => rowCovers r (0x440 + 8 * i.val))).isSome = true := by decide
      rw [f _ 0x410 h (by decide), Bool.false_or, beq_self_eq_true, Bool.true_and]
      rw [← Bool.not_eq_true]
      simp only [Bool.and_eq_true, decide_eq_true_eq, beq_iff_eq]
      rintro ⟨⟨q1, q2⟩, q3⟩
      have w := f _ _ h (g ⟨(pageOff a - 0x440) / 8, by omega⟩)
      rw [beq_eq_false_iff_ne] at w
      apply w
      simp only
      omega
    · simp [e]
  · rfl

end Sys2Proof.Machine
end

