-- ==== Sys2Proof/Laws/Memory.lean ====
section
/-! SUPPORT. The two memories: what a byte reads as after a write, the canonical form under every memory operation, and what
changes neither the memories nor the queue. -/

namespace Sys2Proof.Machine

/-! ### Reading after a write -/

/-- An entry of a map filtered by its keys. -/
theorem amGet?_filter {α : Type} (m : AMap α) (f : Nat → Bool) (k : Nat) :
    amGet? (m.filter (fun e => f e.1)) k = if f k then amGet? m k else none := by
  induction m with
  | nil => simp [amGet?]
  | cons e t ih =>
    obtain ⟨a, v⟩ := e
    rw [List.filter_cons]
    by_cases h : a = k
    · subst h
      by_cases hf : f a = true
      · simp [hf, amGet?]
      · simpa [hf] using ih
    · by_cases hf : f a = true
      · simp only [hf, if_true, amGet?, h, if_false]; exact ih
      · simp only [hf, Bool.false_eq_true, if_false, amGet?, h]; exact ih

/-- A byte after a byte is written. -/
theorem readByte_writeByte (m : Memory) (a b : Nat) (v : Byte) : readByte (writeByte m a v) b = if b = a then v else readByte m b := by
  unfold readByte writeByte amGetD
  by_cases hv : v = 0
  · rw [if_pos hv]
    by_cases h : b = a
    · subst h
      rw [if_pos rfl, amGet?_amErase_same, hv]; rfl
    · rw [if_neg h, amGet?_amErase_ne _ _ _ h]
  · rw [if_neg hv]
    by_cases h : b = a
    · subst h
      rw [if_pos rfl, amGet?_amSet_same]; rfl
    · rw [if_neg h, amGet?_amSet_ne _ _ _ _ h]

/-- A byte after a byte string is written. -/
theorem readByte_writeBytes (l : List Byte) (m : Memory) (a b : Nat) :
    readByte (writeBytes m a l) b = if a ≤ b ∧ b < a + l.length then l.getD (b - a) 0 else readByte m b := by
  induction l generalizing m a with
  | nil => rw [writeBytes, if_neg]; simp only [List.length_nil]; omega
  | cons x t ih =>
    rw [writeBytes, ih, readByte_writeByte]
    by_cases h : b = a
    · subst h
      simp
    · by_cases h1 : a + 1 ≤ b ∧ b < a + 1 + t.length
      · have e : b - a = (b - (a + 1)) + 1 := by omega
        rw [if_pos h1, if_pos (by simp only [List.length_cons]; omega), e, List.getD_cons_succ]
      · rw [if_neg h1, if_neg h, if_neg (by simp only [List.length_cons]; omega)]

/-- A byte after a range is zeroed. -/
theorem readByte_zeroBytes (m : Memory) (a n b : Nat) : readByte (zeroBytes m a n) b = if a ≤ b ∧ b < a + n then 0 else readByte m b := by
  unfold readByte zeroBytes amGetD
  rw [amGet?_filter m (fun e => decide (e < a) || decide (a + n ≤ e)) b]
  by_cases q : a ≤ b ∧ b < a + n
  · rw [if_pos q, if_neg (by simp; omega)]; rfl
  · rw [if_neg q, if_pos (by simp; omega)]

/-! ### The canonical form -/

/-- A bound may be lowered. -/
theorem memAbove_mono (m : Memory) (a b : Nat) (h : a ≤ b) (w : memAbove b m = true) : memAbove a m = true := by
  cases m with
  | nil => rfl
  | cons e t =>
    obtain ⟨k, v⟩ := e
    simp only [memAbove, Bool.and_eq_true, decide_eq_true_eq] at w ⊢
    exact ⟨⟨by omega, w.1.2⟩, w.2⟩

/-- Entries dropped leave the form. -/
theorem memAbove_filter (m : Memory) (f : Host.Cell → Bool) (a : Nat) (w : memAbove a m = true) : memAbove a (m.filter f) = true := by
  induction m generalizing a with
  | nil => rfl
  | cons e t ih =>
    obtain ⟨k, v⟩ := e
    simp only [memAbove, Bool.and_eq_true, decide_eq_true_eq] at w
    rw [List.filter_cons]
    split
    · simp only [memAbove, Bool.and_eq_true, decide_eq_true_eq]
      exact ⟨w.1, ih _ w.2⟩
    · exact memAbove_mono _ _ _ (by omega) (ih _ w.2)

/-- A byte other than zero set keeps the form. -/
theorem memAbove_amSet (m : Memory) (k : Nat) (v : Byte) (hv : v ≠ 0) (a : Nat) (ha : a ≤ k) (w : memAbove a m = true) :
    memAbove a (amSet m k v) = true := by
  have hb : (v != 0) = true := by simpa using hv
  induction m generalizing a with
  | nil => simp only [amSet, memAbove, ha, hb, decide_true, Bool.and_self]
  | cons e t ih =>
    obtain ⟨k', v'⟩ := e
    simp only [memAbove, Bool.and_eq_true, decide_eq_true_eq] at w
    simp only [amSet]
    split
    · rename_i h; subst h
      simp only [memAbove, ha, hb, w.2, decide_true, Bool.and_self]
    · split
      · rename_i h1 h2
        simp only [memAbove, Bool.and_eq_true, decide_eq_true_eq]
        exact ⟨⟨ha, hb⟩, ⟨by omega, w.1.2⟩, w.2⟩
      · rename_i h1 h2
        simp only [memAbove, Bool.and_eq_true, decide_eq_true_eq]
        exact ⟨w.1, ih _ (by omega) w.2⟩

/-- A byte written keeps the form. -/
theorem wf_writeByte (m : Memory) (a : Nat) (v : Byte) (w : m.wf = true) : (writeByte m a v).wf = true := by
  unfold writeByte Memory.wf at *
  split
  · exact memAbove_filter _ _ _ w
  · rename_i h
    exact memAbove_amSet _ _ _ h _ (Nat.zero_le _) w

/-- A byte string written keeps the form. -/
theorem wf_writeBytes (l : List Byte) (m : Memory) (a : Nat) (w : m.wf = true) : (writeBytes m a l).wf = true := by
  induction l generalizing m a with
  | nil => exact w
  | cons b t ih => exact ih _ _ (wf_writeByte _ _ _ w)

/-- A range zeroed keeps the form. -/
theorem wf_zeroBytes (m : Memory) (a n : Nat) (w : m.wf = true) : (zeroBytes m a n).wf = true := memAbove_filter _ _ _ w

/-! ### What leaves the queue, and the memories or their form -/

/-- The queue is left, and the memories' form is kept. -/
def keepsMemory (s t : State) : Prop := t.pending = s.pending ∧ (s.memOk → t.memOk)

theorem sameMemory_refl (s : State) : sameMemory s s := ⟨rfl, rfl, rfl⟩
theorem sameMemory_onCore (f : Core → Core) (s : State) : sameMemory s (onCore f s) := ⟨rfl, rfl, rfl⟩
theorem sameMemory_onCoreMem (f : Memory → Memory → Core → Core) (s : State) : sameMemory s (onCoreMem f s) := ⟨rfl, rfl, rfl⟩
theorem sameMemory_trans {s t u : State} (h : sameMemory s t) (g : sameMemory t u) : sameMemory s u :=
  ⟨g.1.trans h.1, g.2.1.trans h.2.1, g.2.2.trans h.2.2⟩
theorem sameMemory_keeps {s t : State} (h : sameMemory s t) : keepsMemory s t :=
  ⟨h.2.2, fun w => by unfold State.memOk; rw [h.1, h.2.1]; exact w⟩
theorem keepsMemory_refl (s : State) : keepsMemory s s := ⟨rfl, id⟩
theorem keepsMemory_onCore (f : Core → Core) (s : State) : keepsMemory s (onCore f s) := ⟨rfl, id⟩
theorem keepsMemory_trans {s t u : State} (h : keepsMemory s t) (g : keepsMemory t u) : keepsMemory s u :=
  ⟨g.1.trans h.1, fun w => g.2 (h.2 w)⟩
theorem keepsMemory_core (s : State) (k : Core) : keepsMemory s { s with core := k } := ⟨rfl, id⟩
theorem keepsMemory_writeQdr (r a : Nat) (l : List Byte) (s : State) : keepsMemory s (writeQdr r a l s) :=
  ⟨rfl, fun w => ⟨wf_writeBytes _ _ _ w.1, w.2⟩⟩
theorem keepsMemory_writeArc (a : Nat) (l : List Byte) (s : State) : keepsMemory s (writeArc a l s) :=
  ⟨rfl, fun w => ⟨w.1, wf_writeBytes _ _ _ w.2⟩⟩
theorem keepsMemory_zeroQdr (r a n : Nat) (s : State) : keepsMemory s (zeroQdr r a n s) :=
  ⟨rfl, fun w => ⟨wf_zeroBytes _ _ _ w.1, w.2⟩⟩

/-- A chain of changes. -/
theorem keepsMemory_foldl {α : Type} (l : List α) (f : State → α → State) (h : ∀ s x, keepsMemory s (f s x)) (s : State) :
    keepsMemory s (l.foldl f s) := by
  induction l generalizing s with
  | nil => exact keepsMemory_refl s
  | cons x t ih => exact keepsMemory_trans (h s x) (ih _)

/-- What the immediate part of a command does to the memories, by a relation of the states before and after. -/
def runDoes (R : State → State → Prop) (r : CmdRes) (s : State) : Prop :=
  match r with
  | .done _ _ t => R s t
  | .refuse _ _ => True
  | .later t => R s t
  | .ticketed _ _ _ go => ∀ id t, R t (go id t)

theorem runDoes_mono {R Q : State → State → Prop} (h : ∀ s t, R s t → Q s t) (r : CmdRes) (s : State) (w : runDoes R r s) : runDoes Q r s := by
  cases r with
  | done => exact h _ _ w
  | refuse => trivial
  | later => exact h _ _ w
  | ticketed => exact fun id t => h _ _ (w id t)

/-- The outcome of an immediate part becomes state and reply. -/
theorem finish_does {R : State → State → Prop} (ht : ∀ {s t u}, R s t → R t u → R s u) (ho : ∀ (f : Core → Core) s, R s (onCore f s))
    (d : OpDef) (c : Cmd) (r : CmdRes) (s : State) (w : runDoes R r s) : R s (finish d c r s) := by
  cases r with
  | done => exact ht w (ho _ _)
  | refuse => exact ho _ _
  | later => exact w
  | ticketed a b e go =>
    unfold finish
    dsimp only
    split
    · exact ht (ht (ho _ _) (w _ _)) (ho _ _)
    · exact ho _ _

/-- The cost of a command charged. -/
theorem chargeCost_does {R : State → State → Prop} (hr : ∀ s, R s s) (ho : ∀ (f : Core → Core) s, R s (onCore f s))
    (d : OpDef) (c : Cmd) (s : State) : R s (chargeCost d c s) := by
  unfold chargeCost
  split
  · exact ho _ _
  · exact hr _

/-- A command served. -/
theorem serve_does {R : State → State → Prop} (hr : ∀ s, R s s) (ht : ∀ {s t u}, R s t → R t u → R s u)
    (ho : ∀ (f : Core → Core) s, R s (onCore f s)) (d : OpDef) (c : Cmd) (s : State) (w : ∀ c n s, runDoes R (d.run c n s) s) :
    R s (serve d c s) := by
  unfold serve
  split
  · exact ho _ _
  · exact ht (chargeCost_does (R := R) hr ho d c s) (finish_does (R := R) ht ho d c _ (chargeCost d c s) (w c (sessionOf s.core c) (chargeCost d c s)))

/-- A command taken. -/
theorem takeCmd_does {R : State → State → Prop} (hr : ∀ s, R s s) (ht : ∀ {s t u}, R s t → R t u → R s u)
    (ho : ∀ (f : Core → Core) s, R s (onCore f s)) (d : OpDef) (c : Cmd) (s : State) (w : ∀ c n s, runDoes R (d.run c n s) s) :
    R s (takeCmd d c s) := by
  unfold takeCmd
  split
  · exact ho _ _
  · rename_i k _
    have e : R s { s with core := k } := ho (fun _ => k) s
    dsimp only
    split
    · exact ht e (ht (ho _ _) (serve_does (R := R) hr ht ho d c _ w))
    · exact ht e (ho _ _)

/-- A command whose immediate part leaves the memories leaves them. -/
theorem takeCmd_same (d : OpDef) (c : Cmd) (s : State) (w : ∀ c n s, runDoes sameMemory (d.run c n s) s) : sameMemory s (takeCmd d c s) :=
  takeCmd_does (R := sameMemory) sameMemory_refl sameMemory_trans sameMemory_onCore d c s w

/-- A command whose immediate part keeps the memories' form keeps it. -/
theorem takeCmd_keeps (d : OpDef) (c : Cmd) (s : State) (w : ∀ c n s, runDoes keepsMemory (d.run c n s) s) : keepsMemory s (takeCmd d c s) :=
  takeCmd_does (R := keepsMemory) keepsMemory_refl keepsMemory_trans keepsMemory_onCore d c s w

/-- Register words applied or staged leave the memories. -/
theorem runPairs_same (c : Cmd) (n : Nat) (l : List (Nat × Word)) (data : List Word) (s : State) :
    runDoes sameMemory (runPairs c n l data s) s := by
  unfold runPairs
  split <;> exact sameMemory_onCore _ _

/-- A result read leaves the memories. -/
theorem resultRead_same (op : BitVec 16) (c : Cmd) (n : Nat) (stamp : List Nat) (data : List Word) (s : State) :
    runDoes sameMemory (resultRead op c n stamp data s) s := by
  unfold resultRead
  split
  · exact sameMemory_onCore _ _
  · exact sameMemory_refl _

end Sys2Proof.Machine
end

