-- ==== Sys2Proof/Laws/MemorySteps.lean ====
section
/-! SUPPORT. What each command does to the two memories and the queue: the immediate parts by opcode, then the events. -/

set_option linter.unusedTactic false
set_option linter.unreachableTactic false

namespace Sys2Proof.Machine

/-! ### The immediate parts of the opcodes -/

/-- A region's return to reset. -/
theorem resetRegion_keeps (r : Nat) (s : State) : keepsMemory s (resetRegion r s) :=
  keepsMemory_trans (keepsMemory_zeroQdr _ _ _ s) (keepsMemory_onCore _ _)

theorem run_opArbSet (c : Cmd) (n : Nat) (s : State) : runDoes sameMemory (opArbSet.run c n s) s :=
  runPairs_same c n _ _ s
theorem run_opArcDma (c : Cmd) (n : Nat) (s : State) : runDoes sameMemory (opArcDma.run c n s) s :=
  fun _ _ => ⟨rfl, rfl, rfl⟩
theorem run_opArcRead (c : Cmd) (n : Nat) (s : State) : runDoes sameMemory (opArcRead.run c n s) s := by
  dsimp only [opArcRead]
  repeat' split
  all_goals first | exact ⟨rfl, rfl, rfl⟩ | trivial
theorem run_opBeatPeriodSet (c : Cmd) (n : Nat) (s : State) : runDoes sameMemory (opBeatPeriodSet.run c n s) s :=
  runPairs_same c n _ _ s
theorem run_opBlockRestore (c : Cmd) (n : Nat) (s : State) : runDoes sameMemory (opBlockRestore.run c n s) s :=
  fun _ _ => ⟨rfl, rfl, rfl⟩
theorem run_opCalBgSet (c : Cmd) (n : Nat) (s : State) : runDoes sameMemory (opCalBgSet.run c n s) s :=
  runPairs_same c n _ _ s
theorem run_opCalRecordRead (c : Cmd) (n : Nat) (s : State) : runDoes sameMemory (opCalRecordRead.run c n s) s :=
  ⟨rfl, rfl, rfl⟩
theorem run_opCalRevert (c : Cmd) (n : Nat) (s : State) : runDoes sameMemory (opCalRevert.run c n s) s :=
  sameMemory_onCore _ _
theorem run_opCalStatusRead (c : Cmd) (n : Nat) (s : State) : runDoes sameMemory (opCalStatusRead.run c n s) s :=
  ⟨rfl, rfl, rfl⟩
theorem run_opCalStore (c : Cmd) (n : Nat) (s : State) : runDoes sameMemory (opCalStore.run c n s) s := by
  dsimp only [opCalStore]
  repeat' split
  all_goals first | exact ⟨rfl, rfl, rfl⟩ | exact fun _ _ => ⟨rfl, rfl, rfl⟩ | exact resultRead_same _ _ _ _ _ _ | exact runPairs_same _ _ _ _ _ | trivial
theorem run_opCaravanPortRead (c : Cmd) (n : Nat) (s : State) : runDoes sameMemory (opCaravanPortRead.run c n s) s :=
  ⟨rfl, rfl, rfl⟩
theorem run_opCaravanPortSet (c : Cmd) (n : Nat) (s : State) : runDoes sameMemory (opCaravanPortSet.run c n s) s :=
  runPairs_same c n _ _ s
theorem run_opCaravanRouteSet (c : Cmd) (n : Nat) (s : State) : runDoes sameMemory (opCaravanRouteSet.run c n s) s :=
  runPairs_same c n _ _ s
theorem run_opCatClear (c : Cmd) (n : Nat) (s : State) : runDoes sameMemory (opCatClear.run c n s) s :=
  fun _ _ => ⟨rfl, rfl, rfl⟩
theorem run_opCatRead (c : Cmd) (n : Nat) (s : State) : runDoes sameMemory (opCatRead.run c n s) s :=
  ⟨rfl, rfl, rfl⟩
theorem run_opCatchDump (c : Cmd) (n : Nat) (s : State) : runDoes sameMemory (opCatchDump.run c n s) s :=
  fun _ _ => ⟨rfl, rfl, rfl⟩
theorem run_opCatchWindowSet (c : Cmd) (n : Nat) (s : State) : runDoes sameMemory (opCatchWindowSet.run c n s) s :=
  runPairs_same c n _ _ s
theorem run_opChronicleRead (c : Cmd) (n : Nat) (s : State) : runDoes sameMemory (opChronicleRead.run c n s) s :=
  ⟨rfl, rfl, rfl⟩
theorem run_opChronicleRoleSet (c : Cmd) (n : Nat) (s : State) : runDoes sameMemory (opChronicleRoleSet.run c n s) s :=
  runPairs_same c n _ _ s
theorem run_opChronicleSet (c : Cmd) (n : Nat) (s : State) : runDoes sameMemory (opChronicleSet.run c n s) s :=
  ⟨rfl, rfl, rfl⟩
theorem run_opCommRouteSet (c : Cmd) (n : Nat) (s : State) : runDoes sameMemory (opCommRouteSet.run c n s) s :=
  runPairs_same c n _ _ s
theorem run_opCwmSet (c : Cmd) (n : Nat) (s : State) : runDoes sameMemory (opCwmSet.run c n s) s :=
  runPairs_same c n _ _ s
theorem run_opDacReadback (c : Cmd) (n : Nat) (s : State) : runDoes sameMemory (opDacReadback.run c n s) s := by
  dsimp only [opDacReadback]
  repeat' split
  all_goals first | exact ⟨rfl, rfl, rfl⟩ | exact fun _ _ => ⟨rfl, rfl, rfl⟩ | exact resultRead_same _ _ _ _ _ _ | exact runPairs_same _ _ _ _ _ | trivial
theorem run_opEvtClear (c : Cmd) (n : Nat) (s : State) : runDoes sameMemory (opEvtClear.run c n s) s :=
  ⟨rfl, rfl, rfl⟩
theorem run_opEvtPendingRead (c : Cmd) (n : Nat) (s : State) : runDoes sameMemory (opEvtPendingRead.run c n s) s :=
  ⟨rfl, rfl, rfl⟩
theorem run_opEvtRouteSet (c : Cmd) (n : Nat) (s : State) : runDoes sameMemory (opEvtRouteSet.run c n s) s :=
  runPairs_same c n _ _ s
theorem run_opEvtSourceRead (c : Cmd) (n : Nat) (s : State) : runDoes sameMemory (opEvtSourceRead.run c n s) s :=
  ⟨rfl, rfl, rfl⟩
theorem run_opFabLoad (c : Cmd) (n : Nat) (s : State) : runDoes sameMemory (opFabLoad.run c n s) s :=
  fun _ _ => ⟨rfl, rfl, rfl⟩
theorem run_opFabStatusRead (c : Cmd) (n : Nat) (s : State) : runDoes sameMemory (opFabStatusRead.run c n s) s :=
  ⟨rfl, rfl, rfl⟩
theorem run_opFabUnload (c : Cmd) (n : Nat) (s : State) : runDoes sameMemory (opFabUnload.run c n s) s :=
  ⟨rfl, rfl, rfl⟩
theorem run_opFailCtrlSet (c : Cmd) (n : Nat) (s : State) : runDoes sameMemory (opFailCtrlSet.run c n s) s :=
  runPairs_same c n _ _ s
theorem run_opFailSiteSummary (c : Cmd) (n : Nat) (s : State) : runDoes sameMemory (opFailSiteSummary.run c n s) s := by
  show runDoes sameMemory (solveRead _ _ _ _ _ _ _) s
  unfold solveRead
  split
  · exact sameMemory_refl _
  · exact resultRead_same _ _ _ _ _ _
theorem run_opFaultLogRead (c : Cmd) (n : Nat) (s : State) : runDoes sameMemory (opFaultLogRead.run c n s) s :=
  ⟨rfl, rfl, rfl⟩
theorem run_opFolioAccede (c : Cmd) (n : Nat) (s : State) : runDoes sameMemory (opFolioAccede.run c n s) s := by
  show runDoes sameMemory (runFolioAccede c n s) s
  unfold runFolioAccede
  split
  · exact fun _ _ => ⟨rfl, rfl, rfl⟩
  · trivial
theorem run_opFolioOpen (c : Cmd) (n : Nat) (s : State) : runDoes sameMemory (opFolioOpen.run c n s) s := by
  show runDoes sameMemory (runFolioOpen c n s) s
  unfold runFolioOpen
  dsimp only
  split
  · trivial
  · exact sameMemory_onCore _ _
theorem run_opFolioStage (c : Cmd) (n : Nat) (s : State) : runDoes sameMemory (opFolioStage.run c n s) s :=
  runPairs_same c n _ _ s
theorem run_opFolioStatusRead (c : Cmd) (n : Nat) (s : State) : runDoes sameMemory (opFolioStatusRead.run c n s) s :=
  ⟨rfl, rfl, rfl⟩
theorem run_opFolioWithdraw (c : Cmd) (n : Nat) (s : State) : runDoes sameMemory (opFolioWithdraw.run c n s) s :=
  ⟨rfl, rfl, rfl⟩
theorem run_opGlobalBarrier (c : Cmd) (n : Nat) (s : State) : runDoes sameMemory (opGlobalBarrier.run c n s) s :=
  fun _ _ => ⟨rfl, rfl, rfl⟩
theorem run_opGlobalBroadcast (c : Cmd) (n : Nat) (s : State) : runDoes sameMemory (opGlobalBroadcast.run c n s) s :=
  fun _ _ => ⟨rfl, rfl, rfl⟩
theorem run_opGlobalReset (c : Cmd) (n : Nat) (s : State) : runDoes sameMemory (opGlobalReset.run c n s) s :=
  fun _ _ => ⟨rfl, rfl, rfl⟩
theorem run_opGlobalSnapshot (c : Cmd) (n : Nat) (s : State) : runDoes sameMemory (opGlobalSnapshot.run c n s) s :=
  fun _ _ => ⟨rfl, rfl, rfl⟩
theorem run_opItinGenWrite (c : Cmd) (n : Nat) (s : State) : runDoes sameMemory (opItinGenWrite.run c n s) s :=
  runPairs_same c n _ _ s
theorem run_opItinLoad (c : Cmd) (n : Nat) (s : State) : runDoes sameMemory (opItinLoad.run c n s) s :=
  fun _ _ => ⟨rfl, rfl, rfl⟩
theorem run_opItinRunSet (c : Cmd) (n : Nat) (s : State) : runDoes sameMemory (opItinRunSet.run c n s) s :=
  runPairs_same c n _ _ s
theorem run_opItinStatusRead (c : Cmd) (n : Nat) (s : State) : runDoes sameMemory (opItinStatusRead.run c n s) s :=
  ⟨rfl, rfl, rfl⟩
theorem run_opItinStopNow (c : Cmd) (n : Nat) (s : State) : runDoes sameMemory (opItinStopNow.run c n s) s :=
  fun _ _ => ⟨rfl, rfl, rfl⟩
theorem run_opLedgerAdvance (c : Cmd) (n : Nat) (s : State) : runDoes sameMemory (opLedgerAdvance.run c n s) s :=
  ⟨rfl, rfl, rfl⟩
theorem run_opLedgerSet (c : Cmd) (n : Nat) (s : State) : runDoes sameMemory (opLedgerSet.run c n s) s :=
  ⟨rfl, rfl, rfl⟩
theorem run_opMeasConfigSet (c : Cmd) (n : Nat) (s : State) : runDoes sameMemory (opMeasConfigSet.run c n s) s :=
  runPairs_same c n _ _ s
theorem run_opMeasDetRead (c : Cmd) (n : Nat) (s : State) : runDoes sameMemory (opMeasDetRead.run c n s) s :=
  resultRead_same _ c n _ _ s
theorem run_opMeasDetSet (c : Cmd) (n : Nat) (s : State) : runDoes sameMemory (opMeasDetSet.run c n s) s :=
  runPairs_same c n _ _ s
theorem run_opMeasLastRead (c : Cmd) (n : Nat) (s : State) : runDoes sameMemory (opMeasLastRead.run c n s) s :=
  resultRead_same _ c n _ _ s
theorem run_opMeasRead (c : Cmd) (n : Nat) (s : State) : runDoes sameMemory (opMeasRead.run c n s) s := by
  show runDoes sameMemory (runMeasRead c n s) s
  unfold runMeasRead
  dsimp only
  repeat' split
  all_goals first | exact ⟨rfl, rfl, rfl⟩ | exact resultRead_same _ _ _ _ _ _ | trivial
theorem run_opMeasRingSet (c : Cmd) (n : Nat) (s : State) : runDoes sameMemory (opMeasRingSet.run c n s) s :=
  runPairs_same c n _ _ s
theorem run_opMemErrorsRead (c : Cmd) (n : Nat) (s : State) : runDoes sameMemory (opMemErrorsRead.run c n s) s :=
  ⟨rfl, rfl, rfl⟩
theorem run_opModuleInfo (c : Cmd) (n : Nat) (s : State) : runDoes sameMemory (opModuleInfo.run c n s) s :=
  ⟨rfl, rfl, rfl⟩
theorem run_opModuleNumWrite (c : Cmd) (n : Nat) (s : State) : runDoes sameMemory (opModuleNumWrite.run c n s) s :=
  runPairs_same c n _ _ s
theorem run_opModuleReset (c : Cmd) (n : Nat) (s : State) : runDoes sameMemory (opModuleReset.run c n s) s :=
  fun _ _ => ⟨rfl, rfl, rfl⟩
theorem run_opMonConvert (c : Cmd) (n : Nat) (s : State) : runDoes sameMemory (opMonConvert.run c n s) s := by
  show runDoes sameMemory (runMonConvert c n s) s
  unfold runMonConvert
  dsimp only
  split <;>
  · split
    · trivial
    · split
      · exact sameMemory_onCore _ _
      · split <;> exact sameMemory_onCore _ _
theorem run_opMonRead (c : Cmd) (n : Nat) (s : State) : runDoes sameMemory (opMonRead.run c n s) s :=
  ⟨rfl, rfl, rfl⟩
theorem run_opMonScheduleSet (c : Cmd) (n : Nat) (s : State) : runDoes sameMemory (opMonScheduleSet.run c n s) s :=
  ⟨rfl, rfl, rfl⟩
theorem run_opNop (c : Cmd) (n : Nat) (s : State) : runDoes sameMemory (opNop.run c n s) s :=
  ⟨rfl, rfl, rfl⟩
theorem run_opPairDissolve (c : Cmd) (n : Nat) (s : State) : runDoes sameMemory (opPairDissolve.run c n s) s :=
  ⟨rfl, rfl, rfl⟩
theorem run_opPairForm (c : Cmd) (n : Nat) (s : State) : runDoes sameMemory (opPairForm.run c n s) s :=
  fun _ _ => ⟨rfl, rfl, rfl⟩
theorem run_opPairHandover (c : Cmd) (n : Nat) (s : State) : runDoes sameMemory (opPairHandover.run c n s) s :=
  fun _ _ => ⟨rfl, rfl, rfl⟩
theorem run_opPairRestore (c : Cmd) (n : Nat) (s : State) : runDoes sameMemory (opPairRestore.run c n s) s :=
  fun _ _ => sameMemory_onCore _ _
theorem run_opPairStatusRead (c : Cmd) (n : Nat) (s : State) : runDoes sameMemory (opPairStatusRead.run c n s) s :=
  ⟨rfl, rfl, rfl⟩
theorem run_opPinContactCheck (c : Cmd) (n : Nat) (s : State) : runDoes sameMemory (opPinContactCheck.run c n s) s :=
  fun _ _ => ⟨rfl, rfl, rfl⟩
theorem run_opPinLevelsSet (c : Cmd) (n : Nat) (s : State) : runDoes sameMemory (opPinLevelsSet.run c n s) s :=
  runPairs_same c n _ _ s
theorem run_opPinStatusRead (c : Cmd) (n : Nat) (s : State) : runDoes sameMemory (opPinStatusRead.run c n s) s :=
  ⟨rfl, rfl, rfl⟩
theorem run_opPinSwitchSet (c : Cmd) (n : Nat) (s : State) : runDoes sameMemory (opPinSwitchSet.run c n s) s :=
  runPairs_same c n _ _ s
theorem run_opPortDisable (c : Cmd) (n : Nat) (s : State) : runDoes sameMemory (opPortDisable.run c n s) s :=
  runPairs_same c n _ _ s
theorem run_opPortRetrain (c : Cmd) (n : Nat) (s : State) : runDoes sameMemory (opPortRetrain.run c n s) s :=
  runPairs_same c n _ _ s
theorem run_opPowerRailMapSet (c : Cmd) (n : Nat) (s : State) : runDoes sameMemory (opPowerRailMapSet.run c n s) s :=
  ⟨rfl, rfl, rfl⟩
theorem run_opPowerState (c : Cmd) (n : Nat) (s : State) : runDoes sameMemory (opPowerState.run c n s) s :=
  fun _ _ => ⟨rfl, rfl, rfl⟩
theorem run_opPowerStatusRead (c : Cmd) (n : Nat) (s : State) : runDoes sameMemory (opPowerStatusRead.run c n s) s :=
  ⟨rfl, rfl, rfl⟩
theorem run_opQdrRead (c : Cmd) (n : Nat) (s : State) : runDoes sameMemory (opQdrRead.run c n s) s := by
  dsimp only [opQdrRead]
  repeat' split
  all_goals first | exact ⟨rfl, rfl, rfl⟩ | trivial
theorem run_opRegModify (c : Cmd) (n : Nat) (s : State) : runDoes sameMemory (opRegModify.run c n s) s :=
  runPairs_same c n _ _ s
theorem run_opRegRead (c : Cmd) (n : Nat) (s : State) : runDoes sameMemory (opRegRead.run c n s) s :=
  ⟨rfl, rfl, rfl⟩
theorem run_opRegWrite (c : Cmd) (n : Nat) (s : State) : runDoes sameMemory (opRegWrite.run c n s) s :=
  runPairs_same c n _ _ s
theorem run_opRelease (c : Cmd) (n : Nat) (s : State) : runDoes sameMemory (opRelease.run c n s) s := by
  show runDoes sameMemory (runRelease c n s) s
  unfold runRelease
  repeat' split
  all_goals first | trivial | exact sameMemory_onCore _ _
theorem run_opRepairRegionWrite (c : Cmd) (n : Nat) (s : State) : runDoes sameMemory (opRepairRegionWrite.run c n s) s :=
  ⟨rfl, rfl, rfl⟩
theorem run_opRepairResultRead (c : Cmd) (n : Nat) (s : State) : runDoes sameMemory (opRepairResultRead.run c n s) s := by
  show runDoes sameMemory (solveRead _ _ _ _ _ _ _) s
  unfold solveRead
  split
  · exact sameMemory_refl _
  · exact resultRead_same _ _ _ _ _ _
theorem run_opRepairSolve (c : Cmd) (n : Nat) (s : State) : runDoes sameMemory (opRepairSolve.run c n s) s :=
  fun _ _ => ⟨rfl, rfl, rfl⟩
theorem run_opReservationRead (c : Cmd) (n : Nat) (s : State) : runDoes sameMemory (opReservationRead.run c n s) s :=
  ⟨rfl, rfl, rfl⟩
theorem run_opReserve (c : Cmd) (n : Nat) (s : State) : runDoes sameMemory (opReserve.run c n s) s := by
  show runDoes sameMemory (runReserve c n s) s
  unfold runReserve
  dsimp only
  repeat' split
  all_goals first | trivial | exact sameMemory_onCore _ _
theorem run_opResultRead (c : Cmd) (n : Nat) (s : State) : runDoes sameMemory (opResultRead.run c n s) s := by
  dsimp only [opResultRead]
  repeat' split
  all_goals first | exact ⟨rfl, rfl, rfl⟩ | exact fun _ _ => ⟨rfl, rfl, rfl⟩ | exact resultRead_same _ _ _ _ _ _ | exact runPairs_same _ _ _ _ _ | trivial
theorem run_opSecAllowlistSet (c : Cmd) (n : Nat) (s : State) : runDoes sameMemory (opSecAllowlistSet.run c n s) s :=
  ⟨rfl, rfl, rfl⟩
theorem run_opSecDebugChallenge (c : Cmd) (n : Nat) (s : State) : runDoes sameMemory (opSecDebugChallenge.run c n s) s :=
  ⟨rfl, rfl, rfl⟩
theorem run_opSecDebugUnlock (c : Cmd) (n : Nat) (s : State) : runDoes sameMemory (opSecDebugUnlock.run c n s) s :=
  ⟨rfl, rfl, rfl⟩
theorem run_opSecImageCommit (c : Cmd) (n : Nat) (s : State) : runDoes sameMemory (opSecImageCommit.run c n s) s := by
  dsimp only [opSecImageCommit]
  repeat' split
  all_goals first | exact ⟨rfl, rfl, rfl⟩ | trivial
theorem run_opSecImageWrite (c : Cmd) (n : Nat) (s : State) : runDoes sameMemory (opSecImageWrite.run c n s) s :=
  ⟨rfl, rfl, rfl⟩
theorem run_opSecKeyRevoke (c : Cmd) (n : Nat) (s : State) : runDoes sameMemory (opSecKeyRevoke.run c n s) s :=
  ⟨rfl, rfl, rfl⟩
theorem run_opSecRollbackAdvance (c : Cmd) (n : Nat) (s : State) : runDoes sameMemory (opSecRollbackAdvance.run c n s) s :=
  ⟨rfl, rfl, rfl⟩
theorem run_opSelfcal (c : Cmd) (n : Nat) (s : State) : runDoes sameMemory (opSelfcal.run c n s) s :=
  fun _ _ => ⟨rfl, rfl, rfl⟩
theorem run_opSessionClose (c : Cmd) (n : Nat) (s : State) : runDoes sameMemory (opSessionClose.run c n s) s :=
  ⟨rfl, rfl, rfl⟩
theorem run_opSessionOpen (c : Cmd) (n : Nat) (s : State) : runDoes sameMemory (opSessionOpen.run c n s) s := by
  show runDoes sameMemory (runSessionOpen c n s) s
  unfold runSessionOpen
  dsimp only
  repeat' split
  all_goals first | trivial | exact ⟨rfl, rfl, rfl⟩
theorem run_opSleepAccountRead (c : Cmd) (n : Nat) (s : State) : runDoes sameMemory (opSleepAccountRead.run c n s) s :=
  ⟨rfl, rfl, rfl⟩
theorem run_opSnapshotRead (c : Cmd) (n : Nat) (s : State) : runDoes sameMemory (opSnapshotRead.run c n s) s := by
  dsimp only [opSnapshotRead]
  repeat' split
  all_goals first | exact ⟨rfl, rfl, rfl⟩ | trivial
theorem run_opSpareReturn (c : Cmd) (n : Nat) (s : State) : runDoes sameMemory (opSpareReturn.run c n s) s :=
  fun _ _ => ⟨rfl, rfl, rfl⟩
theorem run_opSpareSubstitute (c : Cmd) (n : Nat) (s : State) : runDoes sameMemory (opSpareSubstitute.run c n s) s :=
  fun _ _ => ⟨rfl, rfl, rfl⟩
theorem run_opSqcClearWrite (c : Cmd) (n : Nat) (s : State) : runDoes sameMemory (opSqcClearWrite.run c n s) s :=
  ⟨rfl, rfl, rfl⟩
theorem run_opTariffRead (c : Cmd) (n : Nat) (s : State) : runDoes sameMemory (opTariffRead.run c n s) s :=
  ⟨rfl, rfl, rfl⟩
theorem run_opTariffSet (c : Cmd) (n : Nat) (s : State) : runDoes sameMemory (opTariffSet.run c n s) s :=
  runPairs_same c n _ _ s
theorem run_opTicketRelease (c : Cmd) (n : Nat) (s : State) : runDoes sameMemory (opTicketRelease.run c n s) s := by
  dsimp only [opTicketRelease]
  repeat' split
  all_goals first | exact ⟨rfl, rfl, rfl⟩ | trivial
theorem run_opTimingSetWrite (c : Cmd) (n : Nat) (s : State) : runDoes sameMemory (opTimingSetWrite.run c n s) s :=
  runPairs_same c n _ _ s
theorem run_opUnbar (c : Cmd) (n : Nat) (s : State) : runDoes sameMemory (opUnbar.run c n s) s :=
  runPairs_same c n _ _ s
theorem run_opVstreamSet (c : Cmd) (n : Nat) (s : State) : runDoes sameMemory (opVstreamSet.run c n s) s :=
  runPairs_same c n _ _ s
theorem run_opWaypointRead (c : Cmd) (n : Nat) (s : State) : runDoes sameMemory (opWaypointRead.run c n s) s := by
  dsimp only [opWaypointRead]
  repeat' split
  all_goals first | exact ⟨rfl, rfl, rfl⟩ | exact fun _ _ => ⟨rfl, rfl, rfl⟩ | exact resultRead_same _ _ _ _ _ _ | exact runPairs_same _ _ _ _ _ | trivial
theorem run_opWdacSet (c : Cmd) (n : Nat) (s : State) : runDoes sameMemory (opWdacSet.run c n s) s :=
  runPairs_same c n _ _ s
theorem run_opWmCaptureRead (c : Cmd) (n : Nat) (s : State) : runDoes sameMemory (opWmCaptureRead.run c n s) s :=
  ⟨rfl, rfl, rfl⟩
theorem run_opWmCheck (c : Cmd) (n : Nat) (s : State) : runDoes sameMemory (opWmCheck.run c n s) s :=
  fun _ _ => ⟨rfl, rfl, rfl⟩
theorem run_opWmConfigSet (c : Cmd) (n : Nat) (s : State) : runDoes sameMemory (opWmConfigSet.run c n s) s :=
  runPairs_same c n _ _ s
theorem run_opWmWakeSet (c : Cmd) (n : Nat) (s : State) : runDoes sameMemory (opWmWakeSet.run c n s) s :=
  runPairs_same c n _ _ s
theorem run_opArcWrite (c : Cmd) (n : Nat) (s : State) : runDoes keepsMemory (opArcWrite.run c n s) s := by
  dsimp only [opArcWrite]
  split <;> exact keepsMemory_writeArc _ _ _
theorem run_opQdrWrite (c : Cmd) (n : Nat) (s : State) : runDoes keepsMemory (opQdrWrite.run c n s) s :=
  keepsMemory_writeQdr _ _ _ _
theorem run_opCatchClear (c : Cmd) (n : Nat) (s : State) : runDoes keepsMemory (opCatchClear.run c n s) s :=
  keepsMemory_trans (keepsMemory_foldl _ _ (fun _ _ => keepsMemory_zeroQdr _ _ _ _) s) (keepsMemory_onCore _ _)
theorem run_opRegionRestore (c : Cmd) (n : Nat) (s : State) : runDoes keepsMemory (opRegionRestore.run c n s) s :=
  fun _ t => keepsMemory_trans (resetRegion_keeps _ t) (keepsMemory_onCore _ _)

theorem keeps_of_run (d : OpDef) (h : ∀ c n s, runDoes sameMemory (d.run c n s) s) (c : Cmd) (n : Nat) (s : State) :
    runDoes keepsMemory (d.run c n s) s := runDoes_mono (fun _ _ => sameMemory_keeps) _ _ (h c n s)

/-! ### A command served by its opcode -/

/-- Every description of a list keeps the memories' form. -/
def allKeep (l : List OpDef) : Prop := ∀ d ∈ l, ∀ c n s, runDoes keepsMemory (d.run c n s) s

theorem allKeep_nil : allKeep [] := fun _ h => nomatch h
theorem allKeep_cons {d : OpDef} {l : List OpDef} (h : ∀ c n s, runDoes keepsMemory (d.run c n s) s) (t : allKeep l) : allKeep (d :: l) := by
  intro x hx
  rcases List.mem_cons.1 hx with e | e
  · subst e; exact h
  · exact t x e
theorem allKeep_append {l m : List OpDef} (h : allKeep l) (g : allKeep m) : allKeep (l ++ m) := by
  intro x hx
  rcases List.mem_append.1 hx with e | e
  · exact h x e
  · exact g x e

theorem opcodes1_keep : allKeep opcodes1 :=
    allKeep_cons (keeps_of_run _ run_opNop) (allKeep_cons (keeps_of_run _ run_opModuleInfo) (allKeep_cons (keeps_of_run _
    run_opSessionOpen) (allKeep_cons (keeps_of_run _ run_opSessionClose) (allKeep_cons (keeps_of_run _ run_opRegRead)
    (allKeep_cons (keeps_of_run _ run_opRegWrite) (allKeep_cons (keeps_of_run _ run_opRegModify) (allKeep_cons (keeps_of_run _
    run_opReserve) (allKeep_cons (keeps_of_run _ run_opRelease) (allKeep_cons (keeps_of_run _ run_opReservationRead)
    (allKeep_cons (keeps_of_run _ run_opResultRead) (allKeep_cons (keeps_of_run _ run_opTicketRelease) (allKeep_nil))))))))))))

theorem opcodes2_keep : allKeep opcodes2 :=
    allKeep_cons (keeps_of_run _ run_opPinLevelsSet) (allKeep_cons (keeps_of_run _ run_opPinSwitchSet) (allKeep_cons
    (keeps_of_run _ run_opPinContactCheck) (allKeep_cons (keeps_of_run _ run_opPinStatusRead) (allKeep_cons (keeps_of_run _
    run_opSpareSubstitute) (allKeep_cons (keeps_of_run _ run_opSpareReturn) (allKeep_cons (keeps_of_run _ run_opWmConfigSet)
    (allKeep_cons (keeps_of_run _ run_opWmWakeSet) (allKeep_cons (keeps_of_run _ run_opWmCaptureRead) (allKeep_cons
    (keeps_of_run _ run_opWmCheck) (allKeep_cons (keeps_of_run _ run_opCwmSet) (allKeep_nil)))))))))))

theorem opcodes3_keep : allKeep opcodes3 :=
    allKeep_cons (keeps_of_run _ run_opChronicleRead) (allKeep_cons (keeps_of_run _ run_opChronicleSet) (allKeep_cons
    (keeps_of_run _ run_opChronicleRoleSet) (allKeep_cons (keeps_of_run _ run_opTimingSetWrite) (allKeep_cons (keeps_of_run _
    run_opBeatPeriodSet) (allKeep_cons (keeps_of_run _ run_opSleepAccountRead) (allKeep_nil))))))

theorem opcodes4_keep : allKeep opcodes4 :=
    allKeep_cons (keeps_of_run _ run_opItinLoad) (allKeep_cons (keeps_of_run _ run_opItinRunSet) (allKeep_cons (keeps_of_run _
    run_opItinStopNow) (allKeep_cons (keeps_of_run _ run_opItinStatusRead) (allKeep_cons (keeps_of_run _ run_opWaypointRead)
    (allKeep_cons (keeps_of_run _ run_opVstreamSet) (allKeep_cons (keeps_of_run _ run_opItinGenWrite) (allKeep_nil)))))))

theorem opcodes5_keep : allKeep opcodes5 :=
    allKeep_cons (keeps_of_run _ run_opFailCtrlSet) (allKeep_cons (keeps_of_run _ run_opCatchWindowSet) (allKeep_cons
    run_opCatchClear (allKeep_cons (keeps_of_run _ run_opCatchDump) (allKeep_cons (keeps_of_run _ run_opLedgerSet) (allKeep_cons
    (keeps_of_run _ run_opLedgerAdvance) (allKeep_cons (keeps_of_run _ run_opCatClear) (allKeep_cons (keeps_of_run _
    run_opRepairRegionWrite) (allKeep_cons (keeps_of_run _ run_opRepairSolve) (allKeep_cons (keeps_of_run _
    run_opRepairResultRead) (allKeep_cons (keeps_of_run _ run_opFailSiteSummary) (allKeep_cons (keeps_of_run _ run_opCatRead)
    (allKeep_nil))))))))))))

theorem opcodes6_keep : allKeep opcodes6 :=
    allKeep_cons (keeps_of_run _ run_opMeasConfigSet) (allKeep_cons (keeps_of_run _ run_opMeasDetSet) (allKeep_cons
    (keeps_of_run _ run_opMeasRead) (allKeep_cons (keeps_of_run _ run_opMeasLastRead) (allKeep_cons (keeps_of_run _
    run_opMeasDetRead) (allKeep_cons (keeps_of_run _ run_opMeasRingSet) (allKeep_nil))))))

theorem opcodes7_keep : allKeep opcodes7 :=
    allKeep_cons (keeps_of_run _ run_opCommRouteSet) (allKeep_cons (keeps_of_run _ run_opWdacSet) (allKeep_cons (keeps_of_run _
    run_opMonScheduleSet) (allKeep_cons (keeps_of_run _ run_opMonConvert) (allKeep_cons (keeps_of_run _ run_opMonRead)
    (allKeep_cons (keeps_of_run _ run_opDacReadback) (allKeep_nil))))))

theorem opcodes8_keep : allKeep opcodes8 :=
    allKeep_cons (keeps_of_run _ run_opFabLoad) (allKeep_cons (keeps_of_run _ run_opFabUnload) (allKeep_cons (keeps_of_run _
    run_opFabStatusRead) (allKeep_nil)))

theorem opcodes9_keep : allKeep opcodes9 :=
    allKeep_cons (keeps_of_run _ run_opArcRead) (allKeep_cons run_opArcWrite (allKeep_cons (keeps_of_run _ run_opArcDma)
    (allKeep_cons (keeps_of_run _ run_opQdrRead) (allKeep_cons run_opQdrWrite (allKeep_cons (keeps_of_run _ run_opTariffSet)
    (allKeep_cons (keeps_of_run _ run_opTariffRead) (allKeep_cons (keeps_of_run _ run_opArbSet) (allKeep_cons (keeps_of_run _
    run_opMemErrorsRead) (allKeep_nil)))))))))

theorem opcodesA_keep : allKeep opcodesA :=
    allKeep_cons (keeps_of_run _ run_opFolioOpen) (allKeep_cons (keeps_of_run _ run_opFolioStage) (allKeep_cons (keeps_of_run _
    run_opFolioAccede) (allKeep_cons (keeps_of_run _ run_opFolioWithdraw) (allKeep_cons (keeps_of_run _ run_opFolioStatusRead)
    (allKeep_cons (keeps_of_run _ run_opGlobalBarrier) (allKeep_cons (keeps_of_run _ run_opGlobalBroadcast) (allKeep_cons
    (keeps_of_run _ run_opGlobalSnapshot) (allKeep_cons (keeps_of_run _ run_opSnapshotRead) (allKeep_cons (keeps_of_run _
    run_opGlobalReset) (allKeep_cons (keeps_of_run _ run_opCaravanPortSet) (allKeep_cons (keeps_of_run _ run_opCaravanPortRead)
    (allKeep_cons (keeps_of_run _ run_opCaravanRouteSet) (allKeep_nil)))))))))))))

theorem opcodesB_keep : allKeep opcodesB :=
    allKeep_cons (keeps_of_run _ run_opPairForm) (allKeep_cons (keeps_of_run _ run_opPairDissolve) (allKeep_cons (keeps_of_run _
    run_opPairHandover) (allKeep_cons (keeps_of_run _ run_opPairStatusRead) (allKeep_cons (keeps_of_run _ run_opPairRestore)
    (allKeep_nil)))))

theorem opcodesC_keep : allKeep opcodesC :=
    allKeep_cons (keeps_of_run _ run_opPowerState) (allKeep_cons (keeps_of_run _ run_opPowerStatusRead) (allKeep_cons
    (keeps_of_run _ run_opModuleReset) (allKeep_cons (keeps_of_run _ run_opPowerRailMapSet) (allKeep_nil))))

theorem opcodesD_keep : allKeep opcodesD :=
    allKeep_cons (keeps_of_run _ run_opSelfcal) (allKeep_cons (keeps_of_run _ run_opCalStatusRead) (allKeep_cons (keeps_of_run _
    run_opCalBgSet) (allKeep_cons (keeps_of_run _ run_opCalRecordRead) (allKeep_cons (keeps_of_run _ run_opCalStore)
    (allKeep_cons (keeps_of_run _ run_opCalRevert) (allKeep_nil))))))

theorem opcodesE_keep : allKeep opcodesE :=
    allKeep_cons (keeps_of_run _ run_opSecImageWrite) (allKeep_cons (keeps_of_run _ run_opSecImageCommit) (allKeep_cons
    (keeps_of_run _ run_opSecRollbackAdvance) (allKeep_cons (keeps_of_run _ run_opSecKeyRevoke) (allKeep_cons (keeps_of_run _
    run_opSecDebugChallenge) (allKeep_cons (keeps_of_run _ run_opSecDebugUnlock) (allKeep_cons (keeps_of_run _
    run_opSecAllowlistSet) (allKeep_nil)))))))

theorem opcodesF_keep : allKeep opcodesF :=
    allKeep_cons (keeps_of_run _ run_opEvtRouteSet) (allKeep_cons (keeps_of_run _ run_opEvtPendingRead) (allKeep_cons
    (keeps_of_run _ run_opEvtSourceRead) (allKeep_cons (keeps_of_run _ run_opEvtClear) (allKeep_cons (keeps_of_run _
    run_opFaultLogRead) (allKeep_cons (keeps_of_run _ run_opBlockRestore) (allKeep_cons run_opRegionRestore (allKeep_nil)))))))

/-- Every opcode keeps the memories' form. -/
theorem opTable_keep : allKeep opTable :=
    (allKeep_append (allKeep_append (allKeep_append (allKeep_append (allKeep_append (allKeep_append (allKeep_append
    (allKeep_append (allKeep_append (allKeep_append (allKeep_append (allKeep_append (allKeep_append (allKeep_append
    opcodes1_keep opcodes2_keep) opcodes3_keep) opcodes4_keep) opcodes5_keep) opcodes6_keep) opcodes7_keep) opcodes8_keep)
    opcodes9_keep) opcodesA_keep) opcodesB_keep) opcodesC_keep) opcodesD_keep) opcodesE_keep) opcodesF_keep)

theorem opDefOf_keeps (op : BitVec 16) (d : OpDef) (h : opDefOf op = some d) (c : Cmd) (n : Nat) (s : State) :
    runDoes keepsMemory (d.run c n s) s := opTable_keep d (List.mem_of_find?_eq_some h) c n s

/-- A command served by its opcode. -/
theorem serveOp_keeps (op : BitVec 16) (c : Cmd) (s : State) : keepsMemory s (serveOp op c s) := by
  unfold serveOp
  dsimp only
  split
  · rename_i d h
    exact keepsMemory_trans (keepsMemory_onCore _ s)
      (serve_does (R := keepsMemory) keepsMemory_refl keepsMemory_trans keepsMemory_onCore d c _ (opDefOf_keeps op d h))
  · exact keepsMemory_trans (keepsMemory_onCore _ s) (keepsMemory_onCore _ _)

/-- A command of the chain that reaches Steward. -/
theorem takeOp_keeps (op : BitVec 16) (c : Cmd) (s : State) : keepsMemory s (takeOp op c s) := by
  unfold takeOp
  split
  · exact keepsMemory_onCore _ _
  · rename_i k _
    dsimp only
    split
    · exact keepsMemory_trans (keepsMemory_core s k) (serveOp_keeps _ _ _)
    · exact keepsMemory_trans (keepsMemory_core s k) (keepsMemory_onCore _ _)

/-- The inner command of a broadcast. -/
theorem runInner_keeps (op : BitVec 16) (c : Cmd) (s : State) : keepsMemory s (runInner op c s) := by
  unfold runInner
  split
  · exact keepsMemory_onCore _ _
  · rename_i k _
    dsimp only
    refine keepsMemory_trans (keepsMemory_trans (keepsMemory_core s k) (keepsMemory_onCore (chargeSteward op c) _)) ?_
    generalize onCore (chargeSteward op c) { s with core := k } = u
    split
    · exact keepsMemory_onCore _ _
    · rename_i d h
      split
      · exact keepsMemory_onCore _ _
      · refine keepsMemory_trans (chargeCost_does (R := keepsMemory) keepsMemory_refl keepsMemory_onCore d c u) ?_
        have w := opDefOf_keeps op d h c (sessionOf u.core c) (chargeCost d c u)
        generalize d.run c (sessionOf u.core c) (chargeCost d c u) = r at w
        cases r with
        | done => exact w
        | refuse => exact keepsMemory_onCore _ _
        | later => exact w
        | ticketed => exact keepsMemory_refl _


/-! ### The events -/

/-- A request for a rail leaves the start-up. -/
theorem sendRail_startup (k : Core) : (sendRail k).pwr.startup = k.pwr.startup := by
  unfold sendRail
  split
  · dsimp only
    split
    · rfl
    · split
      · rfl
      · split <;> rfl
  · rfl

/-- Rails settled while a start-up runs move it on, and nothing else. -/
theorem afterRails_same (s : State) (h : s.core.pwr.startup ≠ none) : sameMemory s (afterRails s) := by
  unfold afterRails
  dsimp only
  split
  · exact sameMemory_refl _
  · split
    · split
      · exact sameMemory_onCore _ _
      · exact sameMemory_refl _
    · rename_i q _; exact absurd q h
    · exact sameMemory_refl _

/-- The memories of a module without power list nothing. -/
theorem cold_keeps (v : Bool) (s : State) : keepsMemory s (cold v s) := ⟨rfl, fun _ => ⟨rfl, rfl⟩⟩

/-- Rails settled, with the loss of power that ends an entry to Off. -/
theorem afterRails_keeps (s : State) : keepsMemory s (afterRails s) := by
  unfold afterRails
  dsimp only
  repeat' split
  all_goals first | exact keepsMemory_refl _ | exact cold_keeps _ _ | exact keepsMemory_onCore _ _

theorem startRails_startup (k : Core) (y : Startup) (h : k.pwr.startup = some y) : (startRails k).pwr.startup ≠ none := by
  unfold startRails
  dsimp only
  generalize hk : List.foldl _ _ _ = k1
  have e : k1.pwr.startup = some y := by
    rw [← hk]
    generalize List.range 7 = l
    have : ∀ (l : List Nat) (g : List Nat) (k : Core), k.pwr.startup = some y →
        (l.foldl (fun acc n => if g.contains n then acc else setRail n 2 acc) k).pwr.startup = some y := by
      intro l
      induction l with
      | nil => exact fun _ _ h => h
      | cons a t ih =>
        intro g k h
        refine ih g _ ?_
        dsimp only
        split
        · exact h
        · exact h
    exact this _ _ _ h
  unfold requestRails startAt
  simp only [e]
  split
  · rw [sendRail_startup]; simp
  · simp

theorem startupStep_same (x : StartupInputs) (s : State) : sameMemory s (opStartupStep x s) := by
  unfold opStartupStep
  split
  · rename_i y h
    split
    · exact sameMemory_trans (sameMemory_onCore _ s) (afterRails_same _ (startRails_startup s.core y h))
    all_goals first | exact sameMemory_onCore _ _ | exact sameMemory_refl _ | skip
    split
    · exact sameMemory_onCore _ _
    · exact sameMemory_refl _
  · exact sameMemory_refl _

theorem ticketComplete_same (id : Word) (e : WorkEnd) (s : State) : sameMemory s (opTicketComplete id e s) := by
  unfold opTicketComplete
  split
  · unfold endWork
    dsimp only
    split
    case h_4 | h_5 | h_6 =>
      unfold endMove
      dsimp only
      repeat' split
      all_goals first | exact sameMemory_onCore _ _ | exact sameMemory_refl _
    all_goals repeat' split
    all_goals first | exact sameMemory_onCore _ _ | exact sameMemory_refl _
  · exact sameMemory_refl _

theorem loadDone_same (id : Word) (s : State) : sameMemory s (opLoadDone id s) := by
  unfold opLoadDone
  split
  · dsimp only
    split
    · exact sameMemory_onCore _ _
    · exact sameMemory_refl _
  · exact sameMemory_refl _

theorem loadReject_same (id : Word) (n : Nat) (s : State) : sameMemory s (opLoadReject id n s) := by
  unfold opLoadReject
  split
  · split
    · exact sameMemory_onCore _ _
    · exact sameMemory_refl _
  · exact sameMemory_refl _

theorem restoreDone_same (s : State) : sameMemory s (opRestoreDone s) := by
  unfold opRestoreDone
  split
  · exact sameMemory_onCore _ _
  · exact sameMemory_refl _

theorem chainCommandReceive_keeps (op : BitVec 16) (c : Cmd) (s : State) : keepsMemory s (opChainCommandReceive op c s) := by
  unfold opChainCommandReceive
  split
  · exact keepsMemory_trans (keepsMemory_onCore _ s) (takeOp_keeps _ _ _)
  · exact keepsMemory_refl _

theorem broadcastReceive_keeps (m : Nat) (n : Word) (op : BitVec 16) (c : Cmd) (s : State) : keepsMemory s (opBroadcastReceive m n op c s) := by
  unfold opBroadcastReceive
  split
  · exact keepsMemory_refl _
  · exact keepsMemory_trans (keepsMemory_onCore _ s) (runInner_keeps _ _ _)

theorem catchUpdate_keeps (r : Nat) (s : State) : keepsMemory s (opCatchUpdate r s) := by
  unfold opCatchUpdate
  split
  · exact keepsMemory_refl _
  · dsimp only
    split
    · exact keepsMemory_trans (keepsMemory_onCore _ s) (keepsMemory_onCore _ _)
    · exact keepsMemory_trans (keepsMemory_onCore _ s) (keepsMemory_writeQdr _ _ _ _)

theorem checkpointCopy_keeps (r : Nat) (b : Bool) (s : State) : keepsMemory s (opCheckpointCopy r b s) := by
  unfold opCheckpointCopy
  split
  · dsimp only
    split
    · exact keepsMemory_trans (keepsMemory_trans (keepsMemory_onCore _ s) (keepsMemory_writeArc _ _ _)) (keepsMemory_onCore _ _)
    · exact keepsMemory_onCore _ _
  · exact keepsMemory_refl _

theorem deliverWord_keeps (b ch : Nat) (w : Word) (s : State) : keepsMemory s (deliverWord b ch w s) :=
  keepsMemory_trans (keepsMemory_writeQdr _ _ _ s) (keepsMemory_onCore _ _)

theorem coarseValue_keeps (b ch : Nat) (raw : Int) (s : State) : keepsMemory s (opCoarseValue b ch raw s) := by
  unfold opCoarseValue
  split
  · exact keepsMemory_refl _
  · dsimp only
    split
    · exact keepsMemory_trans (keepsMemory_trans (keepsMemory_onCore _ s) (deliverWord_keeps _ _ _ _)) (keepsMemory_onCore _ _)
    · exact keepsMemory_onCore _ _

theorem measOutput_keeps (b ch : Nat) (raw : Int) (lost : Bool) (s : State) : keepsMemory s (opMeasOutput b ch raw lost s) := by
  unfold opMeasOutput
  split
  · exact keepsMemory_refl _
  · split
    · exact keepsMemory_onCore _ _
    · exact keepsMemory_trans (deliverWord_keeps _ _ _ s) (keepsMemory_onCore _ _)

theorem ledgerWrite_keeps (a : Nat) (l : List Byte) (s : State) : keepsMemory s (ledgerWrite a l s) := by
  unfold ledgerWrite
  split
  · exact keepsMemory_onCore _ _
  · exact keepsMemory_writeArc _ _ _

theorem ledgerBlockWrite_keeps (r : Nat) (b : Bool) (s : State) : keepsMemory s (opLedgerBlockWrite r b s) := by
  unfold opLedgerBlockWrite
  split
  · exact keepsMemory_refl _
  · split
    · exact keepsMemory_onCore _ _
    · split
      · exact keepsMemory_trans (ledgerWrite_keeps _ _ s) (keepsMemory_onCore _ _)
      · exact keepsMemory_onCore _ _

theorem mirrorReceive_keeps (w : Word) (off : Nat) (l : List Byte) (s : State) : keepsMemory s (opMirrorReceive w off l s) := by
  unfold opMirrorReceive
  repeat' split
  all_goals first | exact keepsMemory_refl _ | exact keepsMemory_onCore _ _ | skip
  refine keepsMemory_trans ?_ (keepsMemory_onCore _ _)
  unfold mirrorWrite
  split
  · exact keepsMemory_writeQdr _ _ _ _
  · exact keepsMemory_writeArc _ _ _

theorem resetDone_keeps (s : State) : keepsMemory s (resetDone s) := by
  unfold resetDone
  dsimp only
  have h : ∀ (l : List Nat) (t : State), keepsMemory s t →
      keepsMemory s (l.foldl (fun acc u => if u < 64 then onCore (resetBlock u) acc else resetRegion (u - 64) acc) t) := by
    intro l
    induction l with
    | nil => exact fun _ q => q
    | cons u r ih =>
      intro t q
      refine ih _ (keepsMemory_trans q ?_)
      dsimp only
      split
      · exact keepsMemory_onCore _ _
      · exact resetRegion_keeps _ _
  have g := h (s.core.pwr.restoring.map Prod.fst) _ (keepsMemory_onCore (fun k => recordCause (pwrReg 0x88) 7
    { k with pwr := { k.pwr with reset := none, resetStep := 0 } }) s)
  refine keepsMemory_trans ?_ (keepsMemory_onCore _ _)
  split
  · exact g
  · exact keepsMemory_trans g (keepsMemory_onCore _ _)

theorem moduleResetStep_keeps (s : State) : keepsMemory s (opModuleResetStep s) := by
  unfold opModuleResetStep
  dsimp only
  repeat' split
  all_goals first | exact keepsMemory_refl _ | exact keepsMemory_onCore _ _ | exact resetDone_keeps _

theorem porstFall_keeps (s : State) : keepsMemory s (opPorstFall s) := by
  unfold opPorstFall
  dsimp only
  split
  · exact keepsMemory_trans (cold_keeps _ s) (keepsMemory_onCore _ _)
  · exact keepsMemory_refl _

theorem vaonDrop_keeps (s : State) : keepsMemory s (opVaonDrop s) := keepsMemory_trans (cold_keeps _ s) (keepsMemory_onCore _ _)

theorem railAck_keeps (n : Nat) (s : State) : keepsMemory s (opRailAck n s) := by
  unfold opRailAck
  split
  · split
    · exact keepsMemory_trans (keepsMemory_onCore _ s) (afterRails_keeps _)
    · exact keepsMemory_refl _
  · exact keepsMemory_refl _

theorem railTimeout_keeps (n : Nat) (s : State) : keepsMemory s (opRailTimeout n s) := by
  unfold opRailTimeout
  dsimp only
  split
  · split
    · exact keepsMemory_refl _
    · split
      · exact keepsMemory_trans (keepsMemory_core s _) (afterRails_keeps _)
      · split
        · exact keepsMemory_core s _
        · exact keepsMemory_trans (keepsMemory_core s _) (afterRails_keeps _)
  · exact keepsMemory_refl _

theorem moveBytes_keeps (w : Work) (off n : Nat) (host : List Byte) (s : State) : keepsMemory s (moveBytes w off n host s) := by
  unfold moveBytes
  split
  · exact keepsMemory_foldl _ _ (fun _ _ => keepsMemory_writeQdr _ _ _ _) s
  · split
    · exact keepsMemory_onCore _ _
    · exact keepsMemory_writeArc _ _ _
  · split
    · exact keepsMemory_writeQdr _ _ _ _
    · exact keepsMemory_writeArc _ _ _
    · exact keepsMemory_onCore _ _
    · exact keepsMemory_writeArc _ _ _
  · exact keepsMemory_refl _

theorem deliverBlock_keeps (id : Word) (l : List Word) (s : State) : keepsMemory s (deliverBlock id l s) := by
  unfold deliverBlock
  dsimp only
  repeat' split
  all_goals first | exact keepsMemory_refl _ | exact keepsMemory_onCore _ _ | skip
  all_goals exact keepsMemory_trans (moveBytes_keeps _ _ _ _ s) (keepsMemory_onCore _ _)

theorem wakeStep_keeps (l : List Word) (s : State) : keepsMemory s (opWakeStep l s) := by
  unfold opWakeStep
  dsimp only
  repeat' split
  all_goals first | exact keepsMemory_refl _ | exact keepsMemory_onCore _ _ | skip
  unfold wakeStep4
  split
  · exact keepsMemory_trans (keepsMemory_foldl _ _ (fun _ _ => keepsMemory_zeroQdr _ _ _ _) s) (keepsMemory_onCore _ _)
  · exact keepsMemory_onCore _ _

theorem waypointStageWrite_keeps (r : Nat) (b : Bool) (s : State) : keepsMemory s (opWaypointStageWrite r b s) := by
  unfold opWaypointStageWrite
  split
  · split
    · split
      · exact keepsMemory_trans (keepsMemory_writeQdr _ _ _ s) (keepsMemory_onCore _ _)
      · exact keepsMemory_onCore _ _
    · exact keepsMemory_refl _
  · exact keepsMemory_refl _

theorem offEntryBackingCopy_keeps (s : State) : keepsMemory s (afterRails (onCore opOffEntryBackingCopy s)) :=
  keepsMemory_trans (keepsMemory_onCore _ s) (afterRails_keeps _)

/-! ### Every command, and a step -/

/-- A command that stores nothing leaves the memories, and every command the queue. -/
theorem exec_same (s t : State) : ∀ i : Instr, mayStore i = false → exec i s = .next t → sameMemory s t := by
  intro i hm h
  cases i
  · cases h; exact takeCmd_same _ _ _ run_opNop
  · cases h; exact takeCmd_same _ _ _ run_opModuleInfo
  · cases h; exact takeCmd_same _ _ _ run_opSessionOpen
  · cases h; exact takeCmd_same _ _ _ run_opSessionClose
  · cases h; exact takeCmd_same _ _ _ run_opRegRead
  · cases h; exact takeCmd_same _ _ _ run_opRegWrite
  · cases h; exact takeCmd_same _ _ _ run_opRegModify
  · cases h; exact takeCmd_same _ _ _ run_opReserve
  · cases h; exact takeCmd_same _ _ _ run_opRelease
  · cases h; exact takeCmd_same _ _ _ run_opReservationRead
  · cases h; exact takeCmd_same _ _ _ run_opResultRead
  · cases h; exact takeCmd_same _ _ _ run_opTicketRelease
  · cases h; exact takeCmd_same _ _ _ run_opEvtRouteSet
  · cases h; exact takeCmd_same _ _ _ run_opEvtPendingRead
  · cases h; exact takeCmd_same _ _ _ run_opEvtSourceRead
  · cases h; exact takeCmd_same _ _ _ run_opEvtClear
  · cases h; exact takeCmd_same _ _ _ run_opSqcClearWrite
  · cases h; exact takeCmd_same _ _ _ run_opPinLevelsSet
  · cases h; exact takeCmd_same _ _ _ run_opPinSwitchSet
  · cases h; exact takeCmd_same _ _ _ run_opPinContactCheck
  · cases h; exact ⟨rfl, rfl, rfl⟩
  · cases h; exact ⟨rfl, rfl, rfl⟩
  · cases h; exact takeCmd_same _ _ _ run_opPinStatusRead
  · cases h; exact takeCmd_same _ _ _ run_opSpareSubstitute
  · cases h; exact takeCmd_same _ _ _ run_opSpareReturn
  · cases h; exact takeCmd_same _ _ _ run_opWmConfigSet
  · cases h; exact takeCmd_same _ _ _ run_opWmWakeSet
  · cases h; exact takeCmd_same _ _ _ run_opWmCaptureRead
  · cases h; exact takeCmd_same _ _ _ run_opWmCheck
  · cases h; exact ⟨rfl, rfl, rfl⟩
  · cases h; exact takeCmd_same _ _ _ run_opCwmSet
  · cases h; exact takeCmd_same _ _ _ run_opChronicleRead
  · cases h; exact takeCmd_same _ _ _ run_opChronicleSet
  · cases h; exact takeCmd_same _ _ _ run_opChronicleRoleSet
  · cases h; exact takeCmd_same _ _ _ run_opTimingSetWrite
  · cases h; exact takeCmd_same _ _ _ run_opBeatPeriodSet
  · cases h; exact takeCmd_same _ _ _ run_opSleepAccountRead
  · cases h; exact takeCmd_same _ _ _ run_opItinLoad
  · cases h; exact takeCmd_same _ _ _ run_opItinRunSet
  · cases h; exact takeCmd_same _ _ _ run_opItinStopNow
  · cases h; exact takeCmd_same _ _ _ run_opItinStatusRead
  · cases h; exact takeCmd_same _ _ _ run_opWaypointRead
  · cases h; exact takeCmd_same _ _ _ run_opVstreamSet
  · cases h; exact takeCmd_same _ _ _ run_opItinGenWrite
  · cases h; exact takeCmd_same _ _ _ run_opFailCtrlSet
  · cases h; exact takeCmd_same _ _ _ run_opCatchWindowSet
  · cases hm
  · cases h; exact takeCmd_same _ _ _ run_opCatchDump
  · cases h; exact takeCmd_same _ _ _ run_opLedgerSet
  · cases h; exact takeCmd_same _ _ _ run_opLedgerAdvance
  · cases h; exact takeCmd_same _ _ _ run_opCatClear
  · cases h; exact takeCmd_same _ _ _ run_opRepairRegionWrite
  · cases h; exact takeCmd_same _ _ _ run_opRepairSolve
  · cases h; exact takeCmd_same _ _ _ run_opRepairResultRead
  · cases h; exact takeCmd_same _ _ _ run_opFailSiteSummary
  · cases h; exact takeCmd_same _ _ _ run_opCatRead
  · cases h; exact takeCmd_same _ _ _ run_opMeasConfigSet
  · cases h; exact takeCmd_same _ _ _ run_opMeasDetSet
  · cases h; exact takeCmd_same _ _ _ run_opMeasRead
  · cases h; exact takeCmd_same _ _ _ run_opMeasLastRead
  · cases h; exact takeCmd_same _ _ _ run_opMeasDetRead
  · cases h; exact takeCmd_same _ _ _ run_opMeasRingSet
  · cases h; exact takeCmd_same _ _ _ run_opCommRouteSet
  · cases h; exact takeCmd_same _ _ _ run_opWdacSet
  · cases h; exact takeCmd_same _ _ _ run_opMonScheduleSet
  · cases h; exact takeCmd_same _ _ _ run_opMonConvert
  · cases h; exact takeCmd_same _ _ _ run_opMonRead
  · cases h; exact takeCmd_same _ _ _ run_opDacReadback
  · cases h; exact takeCmd_same _ _ _ run_opFabLoad
  · cases h; exact takeCmd_same _ _ _ run_opFabUnload
  · cases h; exact takeCmd_same _ _ _ run_opFabStatusRead
  · cases h; exact takeCmd_same _ _ _ run_opArcRead
  · cases hm
  · cases h; exact takeCmd_same _ _ _ run_opArcDma
  · cases h; exact takeCmd_same _ _ _ run_opQdrRead
  · cases hm
  · cases h; exact takeCmd_same _ _ _ run_opTariffSet
  · cases h; exact takeCmd_same _ _ _ run_opTariffRead
  · cases h; exact takeCmd_same _ _ _ run_opArbSet
  · cases h; exact takeCmd_same _ _ _ run_opMemErrorsRead
  · cases h; exact takeCmd_same _ _ _ run_opFolioOpen
  · cases h; exact takeCmd_same _ _ _ run_opFolioStage
  · cases h; exact takeCmd_same _ _ _ run_opFolioAccede
  · cases h; exact takeCmd_same _ _ _ run_opFolioWithdraw
  · cases h; exact takeCmd_same _ _ _ run_opFolioStatusRead
  · cases h; exact takeCmd_same _ _ _ run_opGlobalBarrier
  · cases h; exact takeCmd_same _ _ _ run_opGlobalBroadcast
  · cases h; exact takeCmd_same _ _ _ run_opGlobalSnapshot
  · cases h; exact takeCmd_same _ _ _ run_opSnapshotRead
  · cases h; exact takeCmd_same _ _ _ run_opGlobalReset
  · cases h; exact takeCmd_same _ _ _ run_opCaravanPortSet
  · cases h; exact takeCmd_same _ _ _ run_opCaravanPortRead
  · cases h; exact takeCmd_same _ _ _ run_opCaravanRouteSet
  · cases h; exact takeCmd_same _ _ _ run_opPortRetrain
  · cases h; exact takeCmd_same _ _ _ run_opUnbar
  · cases h; exact takeCmd_same _ _ _ run_opPortDisable
  · cases h; exact takeCmd_same _ _ _ run_opModuleNumWrite
  · cases h; exact takeCmd_same _ _ _ run_opPairForm
  · cases h; exact takeCmd_same _ _ _ run_opPairDissolve
  · cases h; exact takeCmd_same _ _ _ run_opPairHandover
  · cases h; exact takeCmd_same _ _ _ run_opPairStatusRead
  · cases h; exact takeCmd_same _ _ _ run_opPairRestore
  · cases h; exact takeCmd_same _ _ _ run_opPowerState
  · cases h; exact takeCmd_same _ _ _ run_opPowerStatusRead
  · cases h; exact takeCmd_same _ _ _ run_opModuleReset
  · cases h; exact takeCmd_same _ _ _ run_opPowerRailMapSet
  · cases h; exact takeCmd_same _ _ _ run_opSelfcal
  · cases h; exact takeCmd_same _ _ _ run_opCalStatusRead
  · cases h; exact takeCmd_same _ _ _ run_opCalBgSet
  · cases h; exact takeCmd_same _ _ _ run_opCalRecordRead
  · cases h; exact takeCmd_same _ _ _ run_opCalStore
  · cases h; exact takeCmd_same _ _ _ run_opCalRevert
  · cases h; exact takeCmd_same _ _ _ run_opSecImageWrite
  · cases h; exact takeCmd_same _ _ _ run_opSecImageCommit
  · cases h; exact takeCmd_same _ _ _ run_opSecRollbackAdvance
  · cases h; exact takeCmd_same _ _ _ run_opSecKeyRevoke
  · cases h; exact takeCmd_same _ _ _ run_opSecDebugChallenge
  · cases h; exact takeCmd_same _ _ _ run_opSecDebugUnlock
  · cases h; exact takeCmd_same _ _ _ run_opSecAllowlistSet
  · cases h; exact ⟨rfl, rfl, rfl⟩
  · cases h; exact takeCmd_same _ _ _ run_opFaultLogRead
  · cases h; exact takeCmd_same _ _ _ run_opBlockRestore
  · cases hm
  · cases h; exact ⟨rfl, rfl, rfl⟩
  · cases h; exact ⟨rfl, rfl, rfl⟩
  · cases h; exact ⟨rfl, rfl, rfl⟩
  · cases h; exact ⟨rfl, rfl, rfl⟩
  · cases h; exact ⟨rfl, rfl, rfl⟩
  · cases h; exact ⟨rfl, rfl, rfl⟩
  · cases h; exact sameMemory_onCore _ _
  · cases h; exact ⟨rfl, rfl, rfl⟩
  · cases h; exact ⟨rfl, rfl, rfl⟩
  · cases h; exact ⟨rfl, rfl, rfl⟩
  · cases h; exact ⟨rfl, rfl, rfl⟩
  · cases h; exact ⟨rfl, rfl, rfl⟩
  · cases h; exact ticketComplete_same _ _ _
  · cases h; exact ⟨rfl, rfl, rfl⟩
  · cases h; exact ⟨rfl, rfl, rfl⟩
  · cases hm
  · cases h; exact ⟨rfl, rfl, rfl⟩
  · cases h; exact ⟨rfl, rfl, rfl⟩
  · cases h; exact ⟨rfl, rfl, rfl⟩
  · cases h; exact ⟨rfl, rfl, rfl⟩
  · cases h; exact ⟨rfl, rfl, rfl⟩
  · cases h; exact ⟨rfl, rfl, rfl⟩
  · cases h; exact ⟨rfl, rfl, rfl⟩
  · cases h; exact ⟨rfl, rfl, rfl⟩
  · cases h; exact ⟨rfl, rfl, rfl⟩
  · cases h; exact ⟨rfl, rfl, rfl⟩
  · cases h; exact ⟨rfl, rfl, rfl⟩
  · cases h; exact ⟨rfl, rfl, rfl⟩
  · cases h; exact ⟨rfl, rfl, rfl⟩
  · cases h; exact ⟨rfl, rfl, rfl⟩
  · cases h; exact ⟨rfl, rfl, rfl⟩
  · cases h; exact ⟨rfl, rfl, rfl⟩
  · cases h; exact ⟨rfl, rfl, rfl⟩
  · cases h; exact ⟨rfl, rfl, rfl⟩
  · cases h; exact ⟨rfl, rfl, rfl⟩
  · cases h; exact ⟨rfl, rfl, rfl⟩
  · cases h; exact ⟨rfl, rfl, rfl⟩
  · cases h; exact ⟨rfl, rfl, rfl⟩
  · cases h; exact ⟨rfl, rfl, rfl⟩
  · cases h; exact ⟨rfl, rfl, rfl⟩
  · cases h; exact ⟨rfl, rfl, rfl⟩
  · cases h; exact ⟨rfl, rfl, rfl⟩
  · cases h; exact ⟨rfl, rfl, rfl⟩
  · cases h; exact ⟨rfl, rfl, rfl⟩
  · cases h; exact ⟨rfl, rfl, rfl⟩
  · cases h; exact ⟨rfl, rfl, rfl⟩
  · cases h; exact ⟨rfl, rfl, rfl⟩
  · cases h; exact ⟨rfl, rfl, rfl⟩
  · cases h; exact ⟨rfl, rfl, rfl⟩
  · cases h; exact ⟨rfl, rfl, rfl⟩
  · cases h; exact ⟨rfl, rfl, rfl⟩
  · cases h; exact ⟨rfl, rfl, rfl⟩
  · cases h; exact ⟨rfl, rfl, rfl⟩
  · cases h; exact ⟨rfl, rfl, rfl⟩
  · cases h; exact ⟨rfl, rfl, rfl⟩
  · cases h; exact ⟨rfl, rfl, rfl⟩
  · cases h; exact ⟨rfl, rfl, rfl⟩
  · cases h; exact ⟨rfl, rfl, rfl⟩
  · cases h; exact ⟨rfl, rfl, rfl⟩
  · cases h; exact ⟨rfl, rfl, rfl⟩
  · cases hm
  · cases h; exact ⟨rfl, rfl, rfl⟩
  · cases h; exact ⟨rfl, rfl, rfl⟩
  · cases h; exact ⟨rfl, rfl, rfl⟩
  · cases h; exact ⟨rfl, rfl, rfl⟩
  · cases h; exact ⟨rfl, rfl, rfl⟩
  · cases h; exact ⟨rfl, rfl, rfl⟩
  · cases h; exact ⟨rfl, rfl, rfl⟩
  · cases hm
  · cases h; exact ⟨rfl, rfl, rfl⟩
  · cases hm
  · cases h; exact ⟨rfl, rfl, rfl⟩
  · cases h; exact ⟨rfl, rfl, rfl⟩
  · cases h; exact ⟨rfl, rfl, rfl⟩
  · cases h; exact ⟨rfl, rfl, rfl⟩
  · cases h; exact ⟨rfl, rfl, rfl⟩
  · cases h; exact ⟨rfl, rfl, rfl⟩
  · cases hm
  · cases hm
  · cases h; exact ⟨rfl, rfl, rfl⟩
  · cases h; exact ⟨rfl, rfl, rfl⟩
  · cases h; exact ⟨rfl, rfl, rfl⟩
  · cases h; exact ⟨rfl, rfl, rfl⟩
  · cases h; exact ⟨rfl, rfl, rfl⟩
  · cases h; exact ⟨rfl, rfl, rfl⟩
  · cases h; exact ⟨rfl, rfl, rfl⟩
  · cases h; exact ⟨rfl, rfl, rfl⟩
  · cases h; exact ⟨rfl, rfl, rfl⟩
  · cases h; exact ⟨rfl, rfl, rfl⟩
  · cases h; exact ⟨rfl, rfl, rfl⟩
  · cases h; exact ⟨rfl, rfl, rfl⟩
  · cases h; exact ⟨rfl, rfl, rfl⟩
  · cases h; exact ⟨rfl, rfl, rfl⟩
  · cases h; exact ⟨rfl, rfl, rfl⟩
  · cases h; exact ⟨rfl, rfl, rfl⟩
  · cases h; exact ⟨rfl, rfl, rfl⟩
  · cases h; exact ⟨rfl, rfl, rfl⟩
  · cases h; exact ⟨rfl, rfl, rfl⟩
  · cases h; exact loadDone_same _ _
  · cases h; exact loadReject_same _ _ _
  · cases h; exact ⟨rfl, rfl, rfl⟩
  · cases h; exact ⟨rfl, rfl, rfl⟩
  · cases h; exact ⟨rfl, rfl, rfl⟩
  · cases hm
  · cases h; exact ⟨rfl, rfl, rfl⟩
  · cases h; exact ⟨rfl, rfl, rfl⟩
  · cases h; exact ⟨rfl, rfl, rfl⟩
  · cases h; exact ⟨rfl, rfl, rfl⟩
  · cases h; exact ⟨rfl, rfl, rfl⟩
  · cases h; exact ⟨rfl, rfl, rfl⟩
  · cases h; exact ⟨rfl, rfl, rfl⟩
  · cases h; exact ⟨rfl, rfl, rfl⟩
  · cases h; exact ⟨rfl, rfl, rfl⟩
  · cases h; exact ⟨rfl, rfl, rfl⟩
  · cases h; exact ⟨rfl, rfl, rfl⟩
  · cases h; exact ⟨rfl, rfl, rfl⟩
  · cases h; exact ⟨rfl, rfl, rfl⟩
  · cases h; exact ⟨rfl, rfl, rfl⟩
  · cases h; exact ⟨rfl, rfl, rfl⟩
  · cases h; exact ⟨rfl, rfl, rfl⟩
  · cases h; exact ⟨rfl, rfl, rfl⟩
  · cases h; exact ⟨rfl, rfl, rfl⟩
  · cases h; exact ⟨rfl, rfl, rfl⟩
  · cases h; exact ⟨rfl, rfl, rfl⟩
  · cases h; exact ⟨rfl, rfl, rfl⟩
  · cases h; exact ⟨rfl, rfl, rfl⟩
  · cases h; exact ⟨rfl, rfl, rfl⟩
  · cases h; exact ⟨rfl, rfl, rfl⟩
  · cases h; exact ⟨rfl, rfl, rfl⟩
  · cases h; exact ⟨rfl, rfl, rfl⟩
  · cases h; exact ⟨rfl, rfl, rfl⟩
  · cases hm
  · cases h; exact ⟨rfl, rfl, rfl⟩
  · cases h; exact ⟨rfl, rfl, rfl⟩
  · cases h; exact ⟨rfl, rfl, rfl⟩
  · cases h; exact ⟨rfl, rfl, rfl⟩
  · cases h; exact ⟨rfl, rfl, rfl⟩
  · cases h; exact ⟨rfl, rfl, rfl⟩
  · cases h; exact ⟨rfl, rfl, rfl⟩
  · cases h; exact ⟨rfl, rfl, rfl⟩
  · cases h; exact ⟨rfl, rfl, rfl⟩
  · cases h; exact ⟨rfl, rfl, rfl⟩
  · cases h; exact ⟨rfl, rfl, rfl⟩
  · cases h; exact ⟨rfl, rfl, rfl⟩
  · cases h; exact ⟨rfl, rfl, rfl⟩
  · cases h; exact ⟨rfl, rfl, rfl⟩
  · cases h; exact ⟨rfl, rfl, rfl⟩
  · cases h; exact ⟨rfl, rfl, rfl⟩
  · cases h; exact ⟨rfl, rfl, rfl⟩
  · cases h; exact ⟨rfl, rfl, rfl⟩
  · cases h; exact ⟨rfl, rfl, rfl⟩
  · cases h; exact ⟨rfl, rfl, rfl⟩
  · cases hm
  · cases hm
  · cases h; exact ⟨rfl, rfl, rfl⟩
  · cases h; exact ⟨rfl, rfl, rfl⟩
  · cases h; exact restoreDone_same _
  · cases h; exact ⟨rfl, rfl, rfl⟩
  · cases h; exact ⟨rfl, rfl, rfl⟩
  · cases h; exact ⟨rfl, rfl, rfl⟩
  · cases hm
  · cases h; exact ⟨rfl, rfl, rfl⟩
  · cases h; exact ⟨rfl, rfl, rfl⟩
  · cases hm
  · cases hm
  · cases hm
  · cases h; exact ⟨rfl, rfl, rfl⟩
  · cases h; exact ⟨rfl, rfl, rfl⟩
  · cases h; exact ⟨rfl, rfl, rfl⟩
  · cases h; exact startupStep_same _ _
  · cases h; exact ⟨rfl, rfl, rfl⟩
  · cases h; exact ⟨rfl, rfl, rfl⟩
  · cases h; exact ⟨rfl, rfl, rfl⟩
  · cases hm
  · cases hm
  · cases hm
  · cases h; exact ⟨rfl, rfl, rfl⟩
  · cases h; exact ⟨rfl, rfl, rfl⟩
  · cases h; exact ⟨rfl, rfl, rfl⟩
  · cases h; exact ⟨rfl, rfl, rfl⟩
  · cases h; exact ⟨rfl, rfl, rfl⟩
  · cases h; exact ⟨rfl, rfl, rfl⟩
  · cases h; exact ⟨rfl, rfl, rfl⟩
  · cases h; exact ⟨rfl, rfl, rfl⟩
  · cases h; exact ⟨rfl, rfl, rfl⟩
  · cases h; exact ⟨rfl, rfl, rfl⟩
  · cases h; exact ⟨rfl, rfl, rfl⟩
  · cases h; exact ⟨rfl, rfl, rfl⟩
  · cases h; exact ⟨rfl, rfl, rfl⟩
  · cases h; exact ⟨rfl, rfl, rfl⟩
  · cases h; exact ⟨rfl, rfl, rfl⟩
  · cases h; exact ⟨rfl, rfl, rfl⟩
  · cases h; exact ⟨rfl, rfl, rfl⟩
  · cases h; exact ⟨rfl, rfl, rfl⟩
  · cases h; exact ⟨rfl, rfl, rfl⟩
  · cases h; exact ⟨rfl, rfl, rfl⟩
  · cases h; exact ⟨rfl, rfl, rfl⟩
  · cases h; exact ⟨rfl, rfl, rfl⟩
  · cases h; exact ⟨rfl, rfl, rfl⟩
  · cases h; exact ⟨rfl, rfl, rfl⟩
  · cases h; exact ⟨rfl, rfl, rfl⟩
  · cases h; exact ⟨rfl, rfl, rfl⟩

/-- Every command leaves the queue and keeps the memories' form. -/
theorem exec_keeps (s t : State) (i : Instr) (h : exec i s = .next t) : keepsMemory s t := by
  by_cases hm : mayStore i = false
  · exact sameMemory_keeps (exec_same s t i hm h)
  · cases i
    case catchClear => cases h; exact takeCmd_keeps _ _ _ run_opCatchClear
    case arcWrite => cases h; exact takeCmd_keeps _ _ _ run_opArcWrite
    case qdrWrite => cases h; exact takeCmd_keeps _ _ _ run_opQdrWrite
    case regionRestore => cases h; exact takeCmd_keeps _ _ _ run_opRegionRestore
    case chainCommandReceive => cases h; exact chainCommandReceive_keeps _ _ _
    case waypointStageWrite => cases h; exact waypointStageWrite_keeps _ _ _
    case ledgerBlockWrite => cases h; exact ledgerBlockWrite_keeps _ _ _
    case catchUpdate => cases h; exact catchUpdate_keeps _ _
    case measOutput => cases h; exact measOutput_keeps _ _ _ _ _
    case coarseValue => cases h; exact coarseValue_keeps _ _ _ _
    case transferBlockReceive =>
      cases h
      show keepsMemory s (if _ then _ else _)
      split
      · exact deliverBlock_keeps _ _ _
      · exact keepsMemory_onCore _ _
    case broadcastReceive => cases h; exact broadcastReceive_keeps _ _ _ _ _
    case checkpointCopy => cases h; exact checkpointCopy_keeps _ _ _
    case mirrorReceive => cases h; exact mirrorReceive_keeps _ _ _ _
    case offEntryBackingCopy => cases h; exact offEntryBackingCopy_keeps _
    case wakeStep => cases h; exact wakeStep_keeps _ _
    case railAck => cases h; exact railAck_keeps _ _
    case railTimeout => cases h; exact railTimeout_keeps _ _
    case porstFall => cases h; exact porstFall_keeps _
    case vaonDrop => cases h; exact vaonDrop_keeps _
    case moduleResetStep => cases h; exact moduleResetStep_keeps _
    all_goals exact absurd rfl hm

/-- A waiting command started. -/
theorem startWaiting_keeps (h : Nat × BitVec 16 × Cmd) (s : State) : keepsMemory s (startWaiting h s) := by
  unfold startWaiting
  dsimp only
  split
  · exact keepsMemory_trans (keepsMemory_onCore (popWaiting h) s) (keepsMemory_onCore _ _)
  · rename_i k _
    exact keepsMemory_trans (keepsMemory_trans (keepsMemory_onCore (popWaiting h) s) (keepsMemory_core _ k)) (serveOp_keeps _ _ _)

/-- Steward's next command. -/
theorem serveNext_keeps (s : State) : keepsMemory s (serveNext s) := by
  unfold serveNext
  dsimp only
  repeat' split
  all_goals first | exact keepsMemory_refl _ | skip
  exact keepsMemory_trans (keepsMemory_onCore (opArbiterDecision .steward _ []) s) (startWaiting_keeps _ _)

/-- The passing of a tick. -/
theorem idle_keeps (s : State) : keepsMemory s (idle s) := by
  unfold idle
  dsimp only
  split
  · exact keepsMemory_trans (keepsMemory_trans (keepsMemory_onCore _ s) (keepsMemory_onCore _ _)) (runInner_keeps _ _ _)
  · exact keepsMemory_trans (keepsMemory_onCore _ s) (serveNext_keeps _)

end Sys2Proof.Machine
end

