-- ==== Sys2Proof/Tests/Demo.lean ====
section
/-! SUPPORT. Small states for tests and witnesses: the module after reset with one host queue running and its session open. -/

namespace Sys2Proof.Tests

open Sys2Proof.Machine

/-- A host queue that runs, with rings of 64 KiB, bound to session 1. -/
def demoQueue : Queue := { qcfg := 0x90100000, session := 1, state := .running }

/-- The module ready after start-up, with queue 0 running and session 1 open on it. -/
def demoCore : Core := { stw := { queues := [(0, demoQueue)], sessions := [(1, { owner := .queue 0, incarnation := 0, reads := [] })] } }

/-- The state over it. -/
def demo : State := { State.reset with core := demoCore }

/-- The state with some registers set. -/
def demoWith (l : List (Nat × Word)) : State := onCore (fun k => l.foldl (fun acc e => setReg e.1 e.2 acc) k) demo

/-- An open local folio of session 1, coordinated here. -/
def openedFolio : Folio := { id := 0x41, chain := false, coord := true, state := .opened, words := [], deadline := 1000000, session := 1 }

/-- The state with that folio in slot 1. -/
def demoFolio : State := onCore (setFolio 1 openedFolio) demo

/-- The state with no session open. -/
def demoUnbound : State := { State.reset with core := { stw := { queues := [(0, { demoQueue with session := 0 })] } } }

/-- A reservation of the Catalogue page by session 1. -/
def catHold : Reservation := { id := 0x200, scope := 3, target := 0x85F00000, session := 1, expiry := 1000000, ending := false }

/-- The state with that reservation in slot 0. -/
def demoReserved : State := onCore (setReservation 0 catHold) demo

/-- A completed ticket of session 1. -/
def doneTicket : Ticket :=
  { id := 0x400, session := 1, queue := some 0, tag := 7, opcode := 0x0C01, notify := false, work := .power, earliest := 0
    status := some 0, result := [0x01F00000] }

/-- The state with that ticket in slot 0. -/
def demoTicket : State := onCore (fun k => { k with stw := { k.stw with tickets := [(0, doneTicket)] } }) demo

/-- A command from queue 0. -/
def cmd (target : Word) (params : List Word) : Cmd := { src := .host 0, tag := 1, flags := 0, target := target, folio := 0, params := params }

/-- A running ticket that asks for a notice. -/
def runningTicket : Ticket := { doneTicket with notify := true, status := none, result := [] }

/-- The state with that ticket in slot 0. -/
def demoRunning : State := onCore (fun k => { k with stw := { k.stw with tickets := [(0, runningTicket)] } }) demo

/-- The state with a ticket in slot 0 whose work has nothing left but its end. -/
def demoEnding : State :=
  onCore (fun k => { k with stw := { k.stw with tickets := [(0, { runningTicket with work := .ending 0 0 [] })] } }) demo

/-- The state with a command forwarded to another module, long enough ago to have timed out. -/
def demoFwd : State :=
  onCore (fun k => { k with
    clock := { k.clock with uptime := 10 ^ 12 }
    stw := { k.stw with forwarded := [{ queue := 0, tag := 9, opcode := 0x100, since := 0 }] } }) demo

/-- The state with two vectors whose holdoff is over, one raised meanwhile. -/
def demoHold : State := onCore (fun k => { k with stw := { k.stw with vecHold := [(20, ⟨0, true⟩), (21, ⟨0, false⟩)] } }) demo

/-- A NOP of module 3's session 1. -/
def chainNop : Cmd := { src := .chain 3 1 0, tag := 2, flags := 0, target := 0x81F00000, folio := 0, params := [] }

/-- A NOP as it lies in a submission ring, with its header's CRC-8 (Table CMD-4). -/
def nopPacket : RawPacket :=
  { opcode := 0x100, tag := 5, target := 0x81F00000, folio := 0, plen := 0, flags := 0, hchk := 0x25, params := [] }

/-- The state with a running ticket in slot 0 for a piece of work, long after power-up. -/
def demoWork (w : Work) : State :=
  onCore (fun k => { k with
    clock := { k.clock with uptime := 10 ^ 12 }
    stw := { k.stw with tickets := [(0, { runningTicket with work := w })] } }) demo

/-- The state with block 0's spare carrying pin cell 2 for the host. -/
def demoCarrying : State := demoWith [(0x01F00004, 0x62)]

/-- The state with DACs of cell 3 in each phase of a change, and its driver driving. -/
def demoSlewing : State :=
  onCore (fun k => setCell 3 { drive := .vih } (setDac 3 1 { dacReset 1 with b := 0x5000, n := 4, k := 1 }
    (setDac 3 2 { dacReset 2 with phase := .toSafe } (setDac 3 3 { dacReset 3 with phase := .dwell, target := 0x4000 }
      (setDac 3 4 { dacReset 4 with phase := .toTarget } k))))) demo

/-- The state with a hand-off of block 0's cell 2 waiting, and the spare carrying it where it is a return. -/
def demoHandoff (toSpare : Bool) : State :=
  onCore (fun k => requestHandoff 0 { cell := 2, toSpare := toSpare, reason := .host, ticket := 0x400, since := 0 } k)
    (onCore (fun k => { k with clock := { k.clock with uptime := 10 ^ 12 } })
      (if toSpare then demoRunning else onCore (setReg 0x01F00004 0x62) demoRunning))

/-- The state with AUTO_SUB set in block 0. -/
def demoAuto : State := demoWith [(0x01F00000, 1)]

/-- The state with block 0 parked. -/
def demoParked : State := demoWith [(0x01F00C00, 0x80000000)]

/-- The state with fault substitutions for cell 5 of blocks 0 and 1 under way, block 0's spare carrying cell 2, and block 0's
incarnation at 5. -/
def demoFaultSub : State :=
  onCore (fun k => { k with
    clock := { k.clock with uptime := 10 ^ 12 }
    faultSubs := [(0, { cell := 5, since := 0 }), (1, { cell := 5, since := 0 })] })
    (demoWith [(0x01F00004, 0x62), (0x01F00008, 5)])

/-- An itinerary instruction word: opcode, REPEAT, ARG and OPERAND (Table ITIN-4). -/
def insNum (op rep arg operand : Nat) : Nat := op * 2 ^ 122 + rep * 2 ^ 110 + arg * 2 ^ 32 + operand

/-- A region's engine with code in its cache, generator registers 41 and 42 at 1 and 2, the others 0. -/
def demoEngine (code : List Nat) : Engine :=
  { cfg := { codeLen := 4 }, cache := code, gen := (((List.replicate 48 0).set 41 1).set 42 2) }

/-- The state with region 0's engine in a state of Table ITIN-9. -/
def demoEng (st : Nat) (code : List Nat) : State :=
  onCore (setEng 0 (demoEngine code)) (demoWith [(0x01E00010, BitVec.ofNat 32 (st * 2 ^ 16))])

/-- The state with region 0's engine in a state of Table ITIN-9, changed. -/
def demoEngWith (st : Nat) (f : Engine → Engine) : State := onCore (setEng 0 (f (demoEngine []))) (demoEng st [])

/-- An engine at a STEP of 256 frames of eight beats, 255 of them to emit and room for fewer. -/
def demoFull : State :=
  onCore (setEng 0 { demoEngine [insNum 0 255 0 0] with
    cfg := { codeLen := 4, frame := 3 }, fifo := List.replicate 1020 (frameOf (demoEngine []) (insOf 0) false []) }) (demoEng 3 [])

/-- An engine at a CALL or RET with entries on its stack. -/
def demoStack (n : Nat) : State :=
  onCore (setEng 0 { demoEngine [insNum 2 0 0 0] with stack := List.replicate n 0 }) (demoEng 3 [])

/-- An engine at a WAYPOINT with its shadow bank taken. -/
def demoShadow : State :=
  onCore (setEng 0 { demoEngine [insNum 9 0 0 7] with shadow := some (snapOf (demoEngine []) (insOf 0)) }) (demoEng 3 [])

/-- An engine at an undecided iteration boundary of a MATCH with an ARG and OPERAND; pin 0 is a match pin of site 0. -/
def demoMatch (arg operand : Nat) : State :=
  onCore (setEng 0 { demoEngine [insNum 8 0 arg operand] with
    wait := some (.match_ [frameOf (demoEngine []) (insOf (insNum 8 0 arg operand)) true []] 1 0 0 [] false) }) (demoEng 4 [])

/-- An engine whose last HALT frame has left. -/
def demoHalted : State :=
  demoEngWith 3 (fun e => { e with cur := some (frameOf e (insOf (insNum 0xB 0 0 0)) true []), ended := true })

/-- An engine at an illegal instruction, a frame in its FIFO. -/
def demoIllegal : State :=
  onCore (setEng 0 { demoEngine [insNum 0x3F 0 0 0] with fifo := [frameOf (demoEngine []) (insOf 0) true []] }) (demoEng 3 [])

/-- The state with an automatic solve of site 0 under way, and repair region 0 of that site in use. -/
def demoSolving : State :=
  onCore (fun k => { setReg 0x85F20000 0x80000000 k with hub := { k.hub with repairs := [(0, {})], solves := [{ sites := 1, until_ := 0, ticket := 0 }] } })
    demo

/-- A Catalogue update of site 0 at column 5 of row 6. -/
def demoUpd : CatUpd := { site := 0, x := 5, y := 6, io := 2 }

/-- The state with an entry of that key in way 1 of its set, and the update queued. -/
def demoCat : State :=
  onCore (fun k => setFp 0 { catQ := [demoUpd] } { k with hub := { k.hub with
    entries := [(catSet k 0 5 6 * 4 + 1, { site := 0, y := 6, x := 5, count := 3, io := 1 })] } }) demo

/-- The state with site 0 uncatalogued. -/
def demoUncat : State := demoWith [(0x85F00010, 1)]

/-- The state with site 0 at its allowance of one entry. -/
def demoAllow : State :=
  onCore (fun k => { setReg 0x85F00008 1 k with hub := { k.hub with entries := [(4, { site := 0, y := 1, x := 1, count := 1, io := 1 })] } })
    demo

/-- The state with every way of the update's set taken by other keys. -/
def demoWays : State :=
  onCore (fun k => { k with hub := { k.hub with
    entries := (List.range 4).map (fun w => (catSet k 0 5 6 * 4 + w, { site := 1, y := 0, x := w, count := 1, io := 1 })) } }) demo

/-- The state with a block of records to write and a ring of 64 KiB. -/
def demoLedger : State := onCore (setFp 0 { buf := List.replicate 8 { type := 0 } }) (demoWith [(0x85F00048, 0x10000)])

/-- The state with a block of records to write and no ring. -/
def demoRingFull : State := onCore (setFp 0 { buf := List.replicate 8 { type := 0 } }) demo

/-- The state with a block partly filled long ago. -/
def demoPad : State :=
  onCore (fun k => setFp 0 { buf := [{ type := 0 }] } { k with clock := { k.clock with uptime := 10 ^ 12 } }) demo

/-- The state with a catch update of window 1 queued. -/
def demoCatch : State := onCore (setFp 0 { catchQ := [(1, 0x100, 3)] }) demo

/-- The state with a sweep under way, repair region 7 to be evaluated, site 0's runs ended with AUTO_SOLVE set, and a commanded
solve. -/
def demoPurge : State :=
  onCore (fun k => { k with hub := { k.hub with deltas := [7], due := 1, solves := [{ sites := 1, until_ := 0, ticket := 0x400 }] } })
    (demoWith [(0x85F00004, 0x40000000), (0x85F00000, 2), (0x01E00010, 0x50000), (0x11E00010, 0x50000), (0x21E00010, 0x50000),
      (0x31E00010, 0x50000), (0x41E00010, 0x50000), (0x51E00010, 0x50000), (0x61E00010, 0x50000), (0x71E00010, 0x50000)])

/-- The state with channel 0 of block 0 running in PPMU mode and its record. -/
def demoChan (x : Chan) : State := onCore (setChan 0 0 x) (demoWith [(0, 1), (0x84, 0x80000000)])

/-- The state with a range change of cell 3 to complete. -/
def demoPpmu : State := onCore (fun k => { k with ppmus := [(3, { due := 0, hold := false })] }) demo

/-- The state with converter MA of block 0 at a record. -/
def demoConv (x : Conv) : State := onCore (setConv 0 0 x) demo

/-- The state with a rise of fabric output 52 of block 0. -/
def demoRise : State := onCore (setFab 0 { rises := [(0, 2 ^ 52)] }) demo

/-- The state with pins 0 and 1 of block 0 connected to wire CW0. -/
def demoWire : State := demoWith [(4, 2), (0x100004, 2)]

/-- The state with block 0's plausibility check converting and MA bad. -/
def demoPlaus : State := onCore (fun k => { k with plaus := [(0, .running)] }) (demoWith [(0x01F00408, 0x20)])

/-- The state with a recalibration of MA of block 0 begun long ago. -/
def demoRecalLate : State :=
  onCore (fun k => { k with clock := { k.clock with uptime := 10 ^ 12 } }) (demoConv { recal := some (Recal.mk 0 0 0 0 0) })

/-- The state with a comparator check of pin 5 at a phase, long after its thresholds were ready. -/
def demoCheck (n : Nat) : State :=
  onCore (fun k => { k with clock := { k.clock with chron := 10 ^ 6 } }) (demoWork (.wmCheck [5] [5] 0 (some 0) n 0))

/-- An image of no regions in the archive, its header correct for a format, key and length. -/
def demoImage (magic key : Word) : State :=
  writeArc 0 (bytesOf [magic, BitVec.ofNat 32 (0x10000 + 2 ^ 8 * regFld demoCore 0x81F00004 31 24 + regFld demoCore 0x81F00004 23 16), 384, 0, 0, key])
    demo

/-- A state with a load of the image under way for a mask of regions, its blocks arrived. -/
def demoLoadOf (m : Nat) (s : State) : State :=
  onCore (fun k => { k with
    stw := { k.stw with tickets := [(0, { runningTicket with work := .fabLoad m 0 0 0 0x41 })] }
    mem := { k.mem with xfers := [(0x400, { seq := 2, blocks := 2, attempts := 0 })] } }) s

/-- A load of the image for no region. -/
def demoLoad : State := demoLoadOf 0 (demoImage 0x4E524931 0)

/-- A load of an empty archive. -/
def demoBadLoad : State := demoLoadOf 1 demo

/-- A load of an image that names key 4. -/
def demoBadKey : State := demoLoadOf 1 (demoImage 0x4E524931 4)

/-- A region with a configuration that declares tree 1. -/
def demoPlane : State := onCore (setFab 0 { active := some { bytes := [(11, 0x40)], build := 0 } }) demo

/-- A rise of fabric output 55 of block 0. -/
def demoUserRise : State := onCore (setFab 0 { rises := [(0, 2 ^ 55)] }) demo

/-- A converter with an entry pending whose class has no budget left. -/
def demoUnfunded : State := onCore (setReg 0x01F0048C 0) (demoConv { pending := some 0 })

/-- The state with an uncorrectable word in the second block of region 0's QDR SRAM. -/
def demoBadWord : State := onCore (fun k => { k with mem := { k.mem with qdrBad := [264] } }) demo

/-- The state with an uncorrectable block of the archive at 512. -/
def demoBadBlock : State := onCore (fun k => { k with mem := { k.mem with arcBad := [512] } }) demo

/-- The state with stack 1 FAILED. -/
def demoBadStack : State := demoWith [(0x93F00000, 3)]

/-- The state with a DMA of 512 bytes from region 0's QDR SRAM to the archive, its first block sent. -/
def demoDma (attempts : Nat) : State :=
  onCore (fun k => { k with mem := { k.mem with xfers := [(0x400, { seq := 0, blocks := 2, attempts := attempts })] } })
    (demoWork (.dma 1 0 0 0 0 512))

/-- The state with 8 transfer faults of stack 0. -/
def demoFaults8 : State := onCore (fun k => { k with mem := { k.mem with stackFaults := List.replicate 8 (0, 0) } }) demo

/-- The state with the Chronicle at 1 on TREF. -/
def demoTref : State := onCore (fun k => { k with clock := { k.clock with by_ := .tref, chron := 1 } }) demo

/-- The state with the clock changed, and some registers set. -/
def demoClock (f : Clock → Clock) (l : List (Nat × Word)) : State :=
  onCore (fun k => { k with clock := f k.clock }) (demoWith l)

/-- The state with TREF present and the Chronicle long on it. -/
def demoTrefOn : State :=
  demoClock (fun c => { c with by_ := .tref, chron := 10 ^ 9, uptime := 10 ^ 9, firstTick := some 0 }) [(0x8FF0000C, 1)]

/-- The state with the keeper counting and TREF accepted long ago. -/
def demoKeeper : State :=
  demoClock (fun c => { c with by_ := .keeper, uptime := 10 ^ 9, ratioAtEntry := 0x1000000 }) [(0x8FF0000C, 1)]

/-- The state with a hand-back due after a wake. -/
def demoBack : State :=
  demoClock (fun c => { c with by_ := .keeper, uptime := 10 ^ 9, handbackAt := some 5, waking := true }) [(0x8FF0000C, 1)]

/-- The state with TREF not accepted long after a wake. -/
def demoLateTref : State := demoClock (fun c => { c with by_ := .keeper, uptime := 10 ^ 9, waking := true }) []

/-- A master that forwards beacons to every port. -/
def demoMaster : State := demoClock (fun c => { c with by_ := .tref, chron := 4096 }) [(0x8FF00008, 0xF01)]

/-- A follower of the module at port W that has heard nothing for long. -/
def demoFollower : State :=
  demoClock (fun c => { c with by_ := .tref, chron := 20000, lastBeacon := some 0 }) [(0x8FF00008, 0xF12)]

/-- The state with a switch of tree 2 of region 1 under way. -/
def demoTree (released : Bool) : State :=
  onCore (fun k => { k with trees := [(6, { setting := 0x10, since := 0, released := released })], clock := { k.clock with uptime := 10 ^ 12 } }) demo

/-- Module 5, the root of a chain. -/
def demoRoot : State := demoWith [(0x83F00000, 5)]

/-- Module 5 with all 64 folio slots taken. -/
def demoSlots : State :=
  onCore (fun k => { k with car := { k.car with folios := (List.range 64).map (fun i => (i, { openedFolio with id := BitVec.ofNat 32 (i + 0x80) })) } })
    demoRoot

/-- A member entry of module 3's folio whose open deadline has passed. -/
def memberFolio : Folio := { id := 0x300041, chain := true, coord := false, state := .opened, words := [], deadline := 5 }

/-- Module 5 with that entry in slot 2. -/
def demoMember : State := onCore (fun k => setFolio 2 memberFolio { k with clock := { k.clock with chron := 10 ^ 6 } }) demoRoot

/-- A prepare of that folio that names some modules. -/
def demoPrepare (m : List (BitVec 12)) : Prepare := { id := 0x300041, acc := 2 * 10 ^ 6, hop := 40, size := 2, depth := 1, tree := false, members := m }

/-- A prepared local folio. -/
def prepFolio : Folio := { openedFolio with state := .prepared, prepTick := 0, acc := 5000, hop := 40, members := [0] }

/-- The folio after its vote to accede. -/
def votedFolio : Folio := { prepFolio with state := .voted, votes := [(0, true, 0)] }

/-- The state with a folio in slot 1, long after its accession tick. -/
def demoFol (f : Folio) : State := onCore (fun k => setFolio 1 f { k with clock := { k.clock with chron := 10 ^ 6 } }) demo

/-- The state with a report of that folio. -/
def demoReport : State :=
  onCore (fun k => { k with clock := { k.clock with chron := 10 ^ 6 }, car := { k.car with reports := [votedFolio] } }) demo

/-- Module 5, the root, with a snapshot record and a snapshot to take. -/
def demoSnap : State :=
  onCore (fun k => { k with car := { k.car with snapRecords := [{ serial := 4, words := [1, 2, 3] }], snapPending := [(7, 0)] } }) demoRoot

/-- Module 5, the root, waiting at barrier 15 for long. -/
def demoBarrier : State :=
  onCore (fun k => { k with
    clock := { k.clock with uptime := 10 ^ 9 }
    car := { k.car with barrierTickets := [(15, (0x400, 0, 10))], barriers := [(15, { arrivals := [], first := 0, timeout := 10 })] } }) demoRoot

/-- Module 5, a follower, which has seen broadcast 8 of module 3. -/
def demoNode : State :=
  onCore (fun k => { k with car := { k.car with bcastSeen := [(3, 8)] } }) (demoWith [(0x83F00000, 5), (0x8FF00008, 2)])

/-- The state with a PORT_STATUS of port E, long after power-up, the port enabled. -/
def demoPort (v : Word) : State :=
  onCore (fun k => { k with clock := { k.clock with uptime := 10 ^ 12 } }) (demoWith [(0x82000000, 0x80000000), (0x82000004, v)])

/-- Module 7, which passes admission. -/
def partner7 : Partner :=
  { number := 7, incarnation := 1, serial := 77, order := .a128, port := .w, role := 0, recordedInc := 0, certSerial := 77
    chainOk := true, signatureOk := true, inTime := true }

/-- The next intact frame, with one flit of class TC. -/
def goodFrame : Frame := { fseq := 1, fack := 0, nak := false, train := false, intact := true, classes := [2], credits := [] }

/-- An ACTIVE port with a frame sent some times and not acknowledged. -/
def demoUnacked (n : Nat) : State := onCore (setPort 0 { unacked := [(1, n)] }) (demoPort 0x30000000)

/-- Module 5 with port E ACTIVE to module 3, and module 9 routed to W. -/
def demoLinked : State := demoWith [(0x83F00000, 5), (0x82000004, 0x30000000), (0x82000008, 3), (0x83F01004, 0x90)]

/-- A packet of pair traffic from module 3, its envelope check right. -/
def packetTo (dest hops : Nat) : Packet :=
  let p : Packet := { w0 := BitVec.ofNat 32 (4 * 2 ^ 28 + 2 * 2 ^ 24 + 3 * 2 ^ 12 + dest), w1 := 1, w2 := BitVec.ofNat 32 (hops * 2 ^ 16 + 1)
                      w3 := 0, body := [], flits := 1, serial := 0, flooded := false, credited := true }
  { p with w3 := BitVec.ofNat 32 (pkCheck p).toNat }

/-- A packet whose envelope check fails. -/
def badPacket : Packet := { packetTo 5 0 with w1 := 2 }

/-- The state with a packet for W held for long. -/
def demoHeld : State :=
  onCore (fun k => { k with clock := { k.clock with uptime := 10 ^ 12 }, car := { k.car with held := [(1, 2, 0, packetTo 9 1)] } }) demo

/-- A pair with module 3 on an ACTIVE T port, region 0 held here, its expiry passed, and region 1's far off. -/
def demoPair : State :=
  onCore (fun k => { k with clock := { k.clock with chron := 10 ^ 6 } })
    (demoWith [(0x82200004, 0x30000000), (0x82200404, 0x20000003), (0x82200408, 1), (0x8220044C, 1)])

/-- The pair with a foreign mirror held here. -/
def demoForeign : State := demoWith [(0x82200404, 0x20400003)]

/-- A formation that waits for the partner's FORM, for long. -/
def demoForming : State :=
  onCore (fun k => { k with
    clock := { k.clock with uptime := 10 ^ 9 }
    pair := { k.pair with forming := some { ticket := 0x400, since := 0, proposed := 4000, passed := none } } }) demo

/-- A formation that has passed, at its tick. -/
def demoPassed : State :=
  onCore (fun k => { k with
    clock := { k.clock with chron := 4000 }
    pair := { k.pair with forming := some { ticket := 0x400, since := 0, proposed := 4000, passed := some (4000, []) } } }) demo

/-- A tenancy flit of the partner for region 0. -/
def demoFlit : TenFlit := { src := 3, srcInc := 0, regions := 1, tick := 10 ^ 7, incs := [0], crc := 0, witness := 0 }

/-- Region 0 in SHADOW, its expiry long past, with a PAIR_CTRL. -/
def demoShadowRegion (v : Word) : State :=
  onCore (fun k => { k with clock := { k.clock with chron := 10 ^ 6 } })
    (demoWith [(0x82200004, 0x30000000), (0x82200400, v), (0x82200404, 0x20000003), (0x82200408, 2)])

/-- Region 0 in TAKING, its request old. -/
def demoTaking : State :=
  onCore (fun k => { k with clock := { k.clock with chron := 10 ^ 6 }, pair := { k.pair with asked := [(0, 0)] } })
    (demoWith [(0x82200004, 0x30000000), (0x82200400, 0x70000), (0x82200404, 0x20000003), (0x82200408, 3)])

/-- Region 0 in SHADOW, its expiry to come. -/
def demoEarly : State := demoWith [(0x82200404, 0x20000003), (0x82200408, 2), (0x82200440, 1)]

/-- A pair at a renewal tick that holds no region. -/
def demoNoneHeld : State := demoWith [(0x82200404, 0x20000003)]

/-- A handover of region 0 past its tick. -/
def demoHanding : State :=
  onCore (fun k => { k with pair := { k.pair with handover := some { ticket := 0x400, tick := 5000, left := [0], waits := [] } } }) demoPair

/-- Region 0 in STANDBY with its engine running. -/
def demoStandby : State := demoWith [(0x82200404, 0x20000003), (0x82200408, 4), (0x01E00010, 0x30000)]

/-- A pair with a staged record of region 0 and a mirror packet to send. -/
def demoMirror : State :=
  onCore (fun k => { k with pair := { k.pair with ckpt := [(0, 1)], mirrorQ := [(0, [1])] } }) demoNoneHeld

/-- A pair with a valid mirror header of the partner. -/
def demoMirrored : State := demoWith [(0x82200404, 0x20A00003)]

/-- A pair whose mirror is to be sent in full again. -/
def demoResync : State :=
  onCore (fun k => { k with pair := { k.pair with resync := true, mirrorHeader := [0] } }) demoNoneHeld

/-- A transition from Awake to Doze. -/
def dozeRun : Transition := { target := { state := 2 }, tickets := [], prior := {}, start := 0 }

/-- A transition to Slumber. -/
def sleepRun : Transition := { dozeRun with target := { state := 1 } }

/-- A transition to Off. -/
def offRun : Transition := { dozeRun with target := { state := 0 } }

/-- A transition from Doze to Awake. -/
def awakeRun : Transition := { dozeRun with target := {}, prior := { state := 2 } }

/-- The state with a transition running and PWR_STATE at a value. -/
def demoEntry (w : Word) (t : Transition) : State :=
  onCore (fun k => { k with pwr := { k.pwr with run := some t } }) (demoWith [(0x89F00000, w)])

/-- An entry to Doze that begins. -/
def demoDoze : State := demoEntry 0xF0000000 dozeRun

/-- A transition to Doze with a request queued. -/
def demoTransit : State :=
  onCore (fun k => { k with pwr := { k.pwr with queued := some { target := { state := 0 }, ticket := 0x401 } } }) demoDoze

/-- An entry to Slumber from Doze with a wake waiting after its first step. -/
def demoAborting : State :=
  onCore (fun k => { k with pwr := { k.pwr with wake := some { target := {}, ticket := 0 } } })
    (demoEntry 0xB0100000 { sleepRun with prior := { state := 2 } })

/-- The state with block 0's wake condition met. -/
def demoWakes : State := demoWith [(0x208, 0x80000001)]

/-- The same in Doze. -/
def demoWakesDoze : State := demoWith [(0x208, 0x80000001), (0x89F00000, 0xA0000000)]

/-- Slumber with commands waiting from the host and the chain. -/
def demoSlumberCmd : State :=
  onCore (fun k => { k with stw := { k.stw with chainWaiting := [(1, 0x100, chainNop)], queues := [(0, { demoQueue with waiting := [(0x100, cmd 0x81F00000 [])] })] } })
    (demoWith [(0x89F00000, 0x50000000)])

/-- The state with a module reset that waits, at a step. -/
def demoResetAt (n : Nat) : State :=
  onCore (fun k => { k with pwr := { k.pwr with reset := some [0x400], resetStep := n } }) demoRunning

/-- The state with a module reset that waits. -/
def demoResetting : State := demoResetAt 0

/-- The state with a request for rail 4 long in progress. -/
def demoRails (want : Nat) : State :=
  onCore (fun k => { k with
    clock := { k.clock with uptime := 10 ^ 12 }
    pwr := { k.pwr with rails := [{ rail := 4, want := want, was := 2, since := 0 }] } }) demo

/-- A state in a start-up that stands at a step for long. -/
def demoStarting (n : Nat) (s : State) : State :=
  onCore (fun k => { k with
    clock := { k.clock with uptime := 10 ^ 12 }
    pwr := { k.pwr with startup := some { step := n, since := 0 } } }) s

/-- The state with VCORE at 800 mV, long after power-up. -/
def demoRunning2 : State :=
  onCore (fun k => { k with clock := { k.clock with uptime := 10 ^ 12 } }) (demoWith [(0x89F00054, 800)])

/-- The module held in Off by PORST_N. -/
def demoHeldOff : State := onCore (fun k => { k with pwr := { k.pwr with porst := false } }) demo

/-- The state with region 0 ready in its timing and every region without a pair role, long after power-up. -/
def demoCalib : State :=
  onCore (fun k => { k with clock := { k.clock with uptime := 10 ^ 12 } }) (demoWith [(treeReg 0 0x40, 7)])

/-- The state long after power-up with no region ready in its timing. -/
def demoNotReady : State := onCore (fun k => { k with clock := { k.clock with uptime := 10 ^ 12 } }) (demoWith [(treeReg 0 0x40, 0)])

/-- The state with the slots in some states (Table CAL-6). -/
def demoFree (w : Word) : State := demoWith [(0x8DF00004, w)]

/-- The state with a SELFCAL of block 0 after some steps. -/
def demoSelfcalRun (n : Nat) : State :=
  onCore (fun k => { k with cal := { k.cal with selfcal := some { ticket := 0x400, blocks := 1, start := 0, step := n, bad := 0, rejected := 0
                                                                  accepted := false, passed := false, faulted := [] } } }) demo

/-- The state with a turn of block 0's cell 4 in place, and its DRV_TRIM rejected some times in a row. -/
def demoTurn (n : Nat) : State :=
  onCore (fun k => { k with cal := { k.cal with turns := [(0, { cell := 4, start := 0, handed := false })], rejects := [(145, n)] } })
    (demoWith [(0x01F00B00, 0x40002)])

/-- The state with a store into slot 3 after some words. -/
def demoStore (n : Nat) : State :=
  onCore (fun k => { k with
    clock := { k.clock with chron := 10 ^ 12 }
    cal := { k.cal with store := some { ticket := 0x400, slot := 3, start := 0, words := [7, 9], done := n } } }) demo

/-- The state with the bank that did not boot erased. -/
def demoErased : State := onCore (fun k => { k with sec := { k.sec with erased := [0, 1] } }) demo

/-- The state long after a debug nonce was issued. -/
def demoNonce : State :=
  onCore (fun k => { k with
    clock := { k.clock with uptime := 10 ^ 12 }
    sec := { k.sec with nonce := some { words := List.replicate 8 5, since := 0 } } }) demo

/-- The state with faults of three units logged. -/
def demoLog : State := onCore (fun k => logFault 3 0 1 0x81F00000 0 (logFault 2 4 1 0x0BE00000 0 (logFault 1 3 1 0x01F00000 0 k))) demo

/-- The state with a Catalogue entry of site 0, key 4. -/
def demoHubEntry : State :=
  onCore (fun k => { k with hub := { k.hub with entries := [(4, { site := 0, y := 1, x := 1, count := 1, io := 1 })] } }) demo

/-- The state with the self-test of a module reset's restores at its end. -/
def demoRestores : State :=
  onCore (fun k => { k with
    pwr := { k.pwr with restoring := [(0, 1)] }
    cal := { k.cal with selfcal := some { ticket := 0, blocks := 1, start := 0, step := 7, bad := 0, rejected := 0
                                          accepted := false, passed := false, faulted := [], restore := true } } }) demo

/-- The root with a broadcast of its own to execute. -/
def demoRootCopy : State := onCore (fun k => { k with car := { k.car with bcast := [(0x100, chainNop)] } }) demo

/-- The state with a NOP waiting at queue 0. -/
def demoOneHead : State :=
  onCore (fun k => { k with stw := { k.stw with queues := [(0, { demoQueue with waiting := [(0x100, cmd 0x81F00000 [])] })] } }) demo

/-- The state with a session of module 3's session 1 of incarnation 4. -/
def demoStale : State :=
  onCore (fun k => { k with stw := { k.stw with sessions := amSet k.stw.sessions 2 { owner := .chain 3 1, incarnation := 4, reads := [] } } }) demo

/-- The state with every ticket slot of session 1 taken, its timing ready. -/
def demoNoTickets : State :=
  onCore (fun k => { k with stw := { k.stw with tickets := (List.range 256).map (fun i => (i, doneTicket)) } }) demoCalib

/-- The state with the Catalogue page reserved by another session. -/
def demoForeignHold : State := onCore (setReservation 0 { catHold with session := 2 }) demo

/-- A waypoint of region 0 taken at tick 9 and not yet staged. -/
def demoStaged : State :=
  demoEngWith 3 (fun e => { e with shadow := some { snapOf e (insOf (insNum 9 0 0 7)) with taken := some (1, 2, 3, 9) } })

end Sys2Proof.Tests
end

