-- ==== Sys2Proof/Tests/Slice0.lean ====
section
/-! SUPPORT. Tests of single operations against the worked examples of the spec, ill-formed terms that well-formedness refuses, and for
every statement with hypotheses a state and operands that meet them, one part for each clause. -/

namespace Sys2Proof.Tests

open Sys2Proof.Machine

/-! ### Worked examples of the spec, and published check values of its CRCs -/

/-- Pin cell G.3.9, the spare cell G.3.S and block G.3 (the example after R13). -/
theorem test_register_addresses : pinReg 825 0 = 0x66900000 ∧ pageBase (.cell (cellOfBlock 51 16)) = 0x67000000
    ∧ pageBase (.block 51) = 0x67F00000 := by decide

/-- The fail processor of region D and archive stack 2 (the example after Table ARCH-6). -/
theorem test_page_addresses : fpReg 3 0x40 = 0x33E00040 ∧ pageBase (.stack 2) = 0x95F00000 := by decide

/-- Pin E.2.7 is event source 585, and its CELL_EVENT is at 0x44700054 (the example of chapter 11). -/
theorem test_event_source : cellOfPin 551 = 585 ∧ evtReg 585 = some 0x44700054 := by decide

/-- A level of −0.25 V and of −0.95 V in the full span, and of 1.2 V in the fine span (the examples of chapter 2). -/
theorem test_level_codes : safeCode false (-250) = 0x22E9 ∧ safeCode false (-950) = 0x0254 ∧ safeCode true 1200 = 0xD99A := by decide

/-- Lane addresses with FRAME = 8 and X = 0x3F5 (the example of Table ITIN-2). -/
theorem test_lane_addresses : [0, 2, 3, 7].map (laneX 3 0x3F5) = [0x3F5, 0x3F7, 0x3F0, 0x3F4] := by decide

/-- The bit of a fail at Y = 100, X = 517, IO 2 in a window of site 37 (the example of R162). -/
theorem test_catch_bit :
    catchBit (demoWith [(fpReg 0 0x400, 0xA50C0A02), (fpReg 0 0x404, 0x02000000)]).core 0 0 37 517 100 2 = some 411670 := by decide

/-- CELL_EVENT 0x00020103 is cleared by 3 and not by 2 (the example of R78 and R354). -/
theorem test_event_clear : (clearEvent 0x44700054 3 (demoWith [(0x44700054, 0x00020103)]).core).1 = true
    ∧ (clearEvent 0x44700054 2 (demoWith [(0x44700054, 0x00020103)]).core).1 = false := by decide

set_option maxRecDepth 20000 in
/-- The check value of CRC-32C, and of the CRC-8 that R331 names. -/
theorem test_crc : crc32c [0x31, 0x32, 0x33, 0x34, 0x35, 0x36, 0x37, 0x38, 0x39] = 0xE3069283
    ∧ crc8 [0x31, 0x32, 0x33, 0x34, 0x35, 0x36, 0x37, 0x38, 0x39] = 0xF4 := by decide

set_option maxRecDepth 20000 in
/-- A step runs the command at the front and leaves the rest of the queue. -/
theorem test_step_queue : (match step { demo with pending := [.nop (cmd 0x81F00000 []), .trefLost] } with
    | .next t => decide (t.pending = [.trefLost])
    | _ => false) = true := by decide

set_option maxRecDepth 20000 in
/-- PIN_STATUS_READ of pin 551 replies its CELL_STATUS (the example of R78). -/
theorem test_pin_status : ((maskPins (cmd 0x81F00000 (List.replicate 17 0 ++ [0x80] ++ List.replicate 14 0))).map
    (fun p => readReg (demoWith [(0x44700050, 0x00041000)]).core (pinReg p 0x50))) = [0x00041000] := by decide

/-! ### Well-formedness: each check refuses an ill-formed term -/

set_option maxRecDepth 40000 in
theorem wf_refuses_parameters : Instr.wf (.nop (cmd 0 (List.replicate 1025 0))) = false := by decide
theorem wf_refuses_chain_session : Instr.wf (.nop { cmd 0 [] with src := .chain 5 0 1 }) = false := by decide
theorem wf_refuses_chain_source : Instr.wf (.chainCommandReceive .e 0 (cmd 0 [])) = false := by decide
theorem wf_refuses_raw_packet : Instr.wf (.sqTailWrite 0 1 [⟨0, 0, 0, 0, 8, 0, 0, [1]⟩]) = false := by decide
set_option maxRecDepth 40000 in
theorem wf_refuses_reply_data : Instr.wf (.chainReplyReceive .e 0 0 0 0 (List.replicate 1025 0)) = false := by decide
theorem wf_refuses_beacon_hops : Instr.wf (.beaconReceive .e 0 64 false 1) = false := by decide
theorem wf_refuses_samples : Instr.wf (.beatStart 0 [⟨3, 0, true, false⟩, ⟨3, 0, false, true⟩]) = false := by decide
theorem wf_refuses_slots : Instr.wf (.arbiterDecision .steward false [(3, 1), (3, 1)] []) = false := by decide
theorem wf_refuses_prepare : Instr.wf (.prepareReceive ⟨1, 0, 0, 1, 1, true, [1]⟩) = false
    ∧ Instr.wf (.prepareReceive ⟨1, 0, 30, 4096, 1, true, [1]⟩) = false ∧ Instr.wf (.prepareReceive ⟨1, 0, 30, 1, 1, true, [0]⟩) = false := by decide
theorem wf_refuses_frame : Instr.wf (.frameReceive .e ⟨0, 0, false, false, true, [], [0, 0, 0, 0, 0, 0, 0]⟩) = false
    ∧ Instr.wf (.frameReceive .e ⟨0, 0, false, false, true, List.replicate 9 0, List.replicate 8 0⟩) = false
    ∧ Instr.wf (.frameReceive .e ⟨0, 0, false, false, true, [], List.replicate 8 256⟩) = false := by decide
theorem wf_refuses_packet : Instr.wf (.packetReceive .e ⟨0, 0, 0, 0, [1], 0, 0, false, true⟩) = false := by decide
theorem wf_refuses_barrier : Instr.wf (.barrierArrivalReceive 0 1 1 9) = false ∧ Instr.wf (.barrierArrivalReceive 0 1 1 60000001) = false := by decide
theorem wf_refuses_tick : Instr.wf (.globalResetTick (2 ^ 64)) = false := by decide
theorem wf_refuses_flit : Instr.wf (.renewReceive ⟨1, 1, 0, 0, [], 0, 0⟩ false) = false := by decide
set_option maxRecDepth 40000 in
theorem wf_refuses_mirror : Instr.wf (.mirrorReceive 1 0 (List.replicate 4097 0)) = false := by decide
theorem wf_accepts : Instr.wf (.nop (cmd 0x81F00000 [])) = true ∧ Instr.wf (.nop { cmd 0 [] with src := .chain 5 64 1 }) = true := by decide

/-! ### Witnesses -/


set_option maxRecDepth 20000 in
/-- The hypotheses of StepTakesTheFront are met. -/
theorem witness_StepTakesTheFront :
    { demo with pending := [.porstRise] }.pending = [.porstRise]
    ∧ demo.pending = [] :=
  ⟨by decide, by decide⟩

set_option maxRecDepth 20000 in
/-- The hypotheses of IdleServes are met. -/
theorem witness_IdleServes :
    demo.core.car.bcast = []
    ∧ heads (tick demo.core) = []
    ∧ demoRootCopy.core.car.bcast = [(0x100, chainNop)]
    ∧ stewardBusy demoRootCopy.core = false
    ∧ demoRootCopy.pending = []
    ∧ heads (tick demoOneHead.core) = [(0, 0x100, cmd 0x81F00000 [])]
    ∧ mayStart 0x100 (cmd 0x81F00000 []) (onCore tick demoOneHead) = true
    ∧ demoOneHead.core.stw.source < 81
    ∧ demoOneHead.pending = []
    ∧ demoOneHead.core.car.bcast = []
    ∧ granted (tick demoOneHead.core) .steward (eligible (tick demoOneHead.core) .steward [] [cmdClass 0x100 (cmd 0x81F00000 [])]) = some (cmdClass 0x100 (cmd 0x81F00000 [])) :=
  ⟨by decide, by decide, by decide, by decide, by decide, by decide, by decide, by decide, by decide, by decide, by decide⟩

set_option maxRecDepth 20000 in
/-- The hypotheses of StepKeepsMemory are met. -/
theorem witness_StepKeepsMemory :
    demo.qdr.wf = true
    ∧ demo.arc.wf = true
    ∧ (demoImage 0x4E524931 0).arc.wf = true :=
  ⟨by decide, by decide, by decide⟩

set_option maxRecDepth 20000 in
/-- The hypotheses of MemoryFrame are met. -/
theorem witness_MemoryFrame :
    mayStore (.qdrRead (cmd 0 [])) = false := by decide

set_option maxRecDepth 20000 in
/-- The hypotheses of StoresWriteTheirBytes are met. -/
theorem witness_StoresWriteTheirBytes :
    accepted opQdrWrite (cmd 0x06E00000 ([0, 0x100] ++ List.replicate 64 7)) demo = true
    ∧ accepted opArcWrite (cmd 0x99F00000 ([0, 0] ++ List.replicate 64 7)) demo = true
    ∧ arcWriteFail (begun opArcWrite (cmd 0x99F00000 ([0, 0] ++ List.replicate 64 7)) demo).core 0 256 = none
    ∧ regionStopped demoCatch.core 0 = false
    ∧ (fpOf demoCatch.core 0).catchQ = [(1, 0x100, 3)]
    ∧ qdrBadIn demoCatch.core 0 0x100 1 = false
    ∧ chanRuns (demoChan {}).core 0 0 = true
    ∧ chanSilent (demoChan {}).core 0 0 = false
    ∧ (engOf demoStaged.core 0).shadow.isSome = true
    ∧ ((engOf demoStaged.core 0).shadow.bind (fun w => w.taken)) = some (1, 2, 3, 9)
    ∧ demoMirror.core.pair.ckpt.find? (fun e => e.1 == 0) = some (0, 1)
    ∧ accepted opCatchClear (cmd 0x81F00000 [0, 2]) demo = true :=
  ⟨by decide, by decide, by decide, by decide, by decide, by decide, by decide, by decide, by decide, by decide, by decide, by decide⟩

set_option maxRecDepth 20000 in
/-- The hypotheses of RefusedOrHeld are met. -/
theorem witness_RefusedOrHeld :
    (commandOf (.nop chainNop) |>.isSome) = true
    ∧ joinChain { chainNop with src := .chain 3 1 4 } (demoStale).core = some demoStale.core
    ∧ joinChain { chainNop with src := .chain 3 1 3 } (demoStale).core = none
    ∧ joinChain (cmd 0x81F00000 []) (demoOneHead).core = some demoOneHead.core
    ∧ sourceWaits demoOneHead.core (cmd 0x81F00000 []) = true
    ∧ sourceWaits demo.core (cmd 0x81F00000 [5]) = false
    ∧ startable opNop (cmd 0x81F00000 [5]) demo = true
    ∧ refusal opNop (cmd 0x81F00000 [5]) (onCore (markStart 0x100 (cmd 0x81F00000 [5])) demo) = some (stLength, [])
    ∧ accepted opSelfcal (cmd 0x8DF00000 [1, 0]) demoNoTickets = true
    ∧ ticketLeft opSelfcal (cmd 0x8DF00000 [1, 0]) demoNoTickets = false :=
  ⟨by decide, by decide, by decide, by decide, by decide, by decide, by decide, by decide, by decide, by decide⟩

set_option maxRecDepth 20000 in
/-- The hypotheses of CheckOrder are met. -/
theorem witness_CheckOrder :
    ({ cmd 0x81F00000 [] with flags := 4 }).flags &&& 0xFC#8 ≠ 0
    ∧ opRegRead.exempt = false
    ∧ sessionOf demoUnbound.core (cmd 0x81F00000 [1]) = 0
    ∧ opNop.exempt = true
    ∧ permission opNop (cmd 0x81F00000 []) demo = none
    ∧ permission opRegRead (cmd 0x81F00000 [1]) (demoWith [(0x8BF00000, 0x10000000)]) = some stLocked
    ∧ targetCheck opPinLevelsSet (cmd 2 []) demo = some stTarget
    ∧ opNop.params (cmd 0x81F00000 [5]) demo = some stLength
    ∧ opNop.stage = false
    ∧ ({ cmd 0x81F00000 [] with folio := 0x41 }).folio ≠ 0
    ∧ reservationCheck opCatClear (cmd 0x85F00000 [1, 0, 0, 0]) demoForeignHold = some { catHold with session := 2 }
    ∧ opSelfcal.state (cmd 0x8DF00000 [1, 0]) demo = some stState
    ∧ costCheck opNop (cmd 0x81F00000 []) demo = none :=
  ⟨by decide, by decide, by decide, by decide, by decide, by decide, by decide, by decide, by decide, by decide, by decide, by decide, by decide⟩

set_option maxRecDepth 20000 in
/-- The hypotheses of WordApplied are met. -/
theorem witness_WordApplied :
    rowOf 0x89F00FF0 = none
    ∧ (rowOf 0x8DF00010).map (fun r => r.event) = some true
    ∧ (rowOf 0x89F00058).map (fun r => r.event) = some false
    ∧ pageOf 0x89F00058 = some .pwr
    ∧ plainPage .pwr = true
    ∧ (rowOf 0x01F00700).map (fun r => r.event) = some false
    ∧ pageOf 0x01F00700 = some (.block 0)
    ∧ (rowOf 4).map (fun r => r.event) = some false
    ∧ pageOf 4 = some (.cell 0) :=
  ⟨by decide, by decide, by decide, by decide, by decide, by decide, by decide, by decide, by decide⟩

set_option maxRecDepth 20000 in
/-- The hypotheses of OpcodeNumbers are met. -/
theorem witness_OpcodeNumbers :
    (opDefOf 0x0104).isNone = true
    ∧ (cmd 0x81F00000 []).flags &&& 0xFC#8 = 0
    ∧ sessionOf demo.core (cmd 0x81F00000 []) ≠ 0 :=
  ⟨by decide, by decide, by decide⟩

set_option maxRecDepth 20000 in
/-- The hypotheses of HoleAccess are met. -/
theorem witness_HoleAccess :
    accepted opRegRead (cmd 0x89F00FF0 [1]) demo = true
    ∧ pageOf 0x89F00FF0 = some .pwr
    ∧ rowOf 0x89F00FF0 = none
    ∧ amGet? (begun opRegRead (cmd 0x89F00FF0 [1]) demo).core.hiLatch 0x89F00FF0 = none
    ∧ accepted opRegWrite (cmd 0x89F00FF0 [5]) demo = true :=
  ⟨by decide, by decide, by decide, by decide, by decide⟩

set_option maxRecDepth 20000 in
/-- The hypotheses of KeyRevocation are met. -/
theorem witness_KeyRevocation :
    accepted opSecKeyRevoke (cmd 0x8BF00000 [3]) demo = true
    ∧ demo.core.sec.runKey = 0
    ∧ joinChain (cmd 0x8BF00000 [0]) demo.core = some demo.core
    ∧ sourceWaits demo.core (cmd 0x8BF00000 [0]) = false
    ∧ startable opSecKeyRevoke (cmd 0x8BF00000 [0]) demo = true
    ∧ permission opSecKeyRevoke (cmd 0x8BF00000 [0]) (onCore (markStart 0x0E04 (cmd 0x8BF00000 [0])) demo) = none
    ∧ targetCheck opSecKeyRevoke (cmd 0x8BF00000 [0]) (onCore (markStart 0x0E04 (cmd 0x8BF00000 [0])) demo) = none
    ∧ reservationCheck opSecKeyRevoke (cmd 0x8BF00000 [0]) (onCore (markStart 0x0E04 (cmd 0x8BF00000 [0])) demo) = none
    ∧ unitRefusal (onCore (markStart 0x0E04 (cmd 0x8BF00000 [0])) demo).core 0x8BF00000 = none
    ∧ sessionOf (onCore (markStart 0x0E04 (cmd 0x8BF00000 [0])) demo).core (cmd 0x8BF00000 [0]) ≠ 0
    ∧ (onCore (markStart 0x0E04 (cmd 0x8BF00000 [0])) demo).core.sec.runKey = 0 :=
  ⟨by decide, by decide, by decide, by decide, by decide, by decide, by decide, by decide, by decide, by decide, by decide⟩

set_option maxRecDepth 20000 in
/-- The hypotheses of SafeMillivoltsRefused are met. -/
theorem witness_SafeMillivoltsRefused :
    (cmd 0x20 [0x05DD4000]).params = [0x05DD4000]
    ∧ pageOf 0x20 = some (.cell 0)
    ∧ 1500 < safeMv 0x05DD4000
    ∧ safeMv 0x0E0B4000 < -500
    ∧ joinChain (cmd 0x20 [0x05DD4000]) demo.core = some demo.core
    ∧ sourceWaits demo.core (cmd 0x20 [0x05DD4000]) = false
    ∧ startable opRegWrite (cmd 0x20 [0x05DD4000]) demo = true
    ∧ sessionOf (onCore (markStart 0x0111 (cmd 0x20 [0x05DD4000])) demo).core (cmd 0x20 [0x05DD4000]) ≠ 0
    ∧ permission opRegWrite (cmd 0x20 [0x05DD4000]) (onCore (markStart 0x0111 (cmd 0x20 [0x05DD4000])) demo) = none
    ∧ targetCheck opRegWrite (cmd 0x20 [0x05DD4000]) (onCore (markStart 0x0111 (cmd 0x20 [0x05DD4000])) demo) = none :=
  ⟨by decide, by decide, by decide, by decide, by decide, by decide, by decide, by decide, by decide, by decide⟩

set_option maxRecDepth 20000 in
/-- The hypotheses of PinCommands are met. -/
theorem witness_PinCommands :
    accepted opPinLevelsSet (cmd 0x81F00000 (3 :: List.replicate 31 0 ++ [3, 0x4000])) demo = true
    ∧ accepted opPinSwitchSet { cmd 0x81F00000 (3 :: List.replicate 31 0 ++ [1]) with folio := 0x41 } demoFolio = true
    ∧ accepted opPinStatusRead (cmd 0x81F00000 (3 :: List.replicate 31 0)) demo = true
    ∧ accepted opPinContactCheck (cmd 0x81F00000 (3 :: List.replicate 31 0 ++ [0x10000, 0x8000, 0x4000])) demo = true
    ∧ ticketLeft opPinContactCheck (cmd 0x81F00000 (3 :: List.replicate 31 0 ++ [0x10000, 0x8000, 0x4000])) demo = true
    ∧ accepted opSpareSubstitute (cmd 0x81F00000 [0x01F00000, 2]) demo = true
    ∧ ticketLeft opSpareSubstitute (cmd 0x81F00000 [0x01F00000, 2]) demo = true
    ∧ accepted opSpareReturn (cmd 0x81F00000 [0x01F00000, 2]) demoCarrying = true
    ∧ ticketLeft opSpareReturn (cmd 0x81F00000 [0x01F00000, 2]) demoCarrying = true
    ∧ ((dacOf demoSlewing.core 3 1).k < (dacOf demoSlewing.core 3 1).n)
    ∧ (dacOf demoSlewing.core 3 2).phase = .toSafe
    ∧ (dacOf demoSlewing.core 3 2).n ≤ (dacOf demoSlewing.core 3 2).k
    ∧ (dacOf demoSlewing.core 3 3).phase = .dwell
    ∧ (dacOf demoSlewing.core 3 3).dwellEnd ≤ demoSlewing.core.clock.uptime
    ∧ bit (dacOf demoSlewing.core 3 3).target 31 ≠ (dacOf demoSlewing.core 3 3).fine
    ∧ (dacOf demoSlewing.core 3 4).phase = .toTarget
    ∧ (dacOf demoSlewing.core 3 4).n ≤ (dacOf demoSlewing.core 3 4).k
    ∧ (cellOf demoSlewing.core 3).drive ≠ .z
    ∧ 3 % 17 ≠ 16 :=
  ⟨by decide, by decide, by decide, by decide, by decide, by decide, by decide, by decide, by decide, by decide, by decide, by decide, by decide, by decide, by decide, by decide, by decide, by decide, by decide⟩

set_option maxRecDepth 20000 in
/-- The hypotheses of SubstitutionEvents are met. -/
theorem witness_SubstitutionEvents :
    workOf (demoWork (.contactCheck [5] [] 0x10000 0x8000 0x4000 0 0 false)).core 0x400 = some (.contactCheck [5] [] 0x10000 0x8000 0x4000 0 0 false)
    ∧ workOf (demoWork (.wmCheck [5] [] 0 none 0 0)).core 0x400 = some (.wmCheck [5] [] 0 none 0 0)
    ∧ workOf (demoWork (.contactCheck [5] [5] 0x10000 0x8000 0x4000 0 0 true)).core 0x400 = some (.contactCheck [5] [5] 0x10000 0x8000 0x4000 0 0 true)
    ∧ amGet? (demoHandoff true).core.handoffs 0 = some (Handoff.mk 2 true .host 0x400 0)
    ∧ amGet? (demoHandoff false).core.handoffs 0 = some (Handoff.mk 2 false .host 0x400 0)
    ∧ spareCarrying (demoHandoff false).core 0 = 2
    ∧ 0 + quietLimit (demoHandoff false).core 0 ≤ (demoHandoff false).core.clock.uptime
    ∧ blockStopped demoAuto.core (blockOfCell (cellOfPin 5)) = false
    ∧ regBit demoAuto.core (cellReg (cellOfPin 5) 0x50) 22 = false
    ∧ 16 ≤ spareCarrying demoAuto.core (blockOfCell (cellOfPin 5))
    ∧ spareCarrying demoAuto.core (blockOfCell (cellOfPin 5)) ≠ cellOfPin 5 % 17
    ∧ regBit demoAuto.core (blockReg (blockOfCell (cellOfPin 5)) 0) 0 = true
    ∧ spareReason demoAuto.core (blockOfCell (cellOfPin 5)) = 0
    ∧ amGet? demoAuto.core.faultSubs (blockOfCell (cellOfPin 5)) = none
    ∧ amGet? demoAuto.core.handoffs (blockOfCell (cellOfPin 5)) = none
    ∧ blockStopped demoParked.core (blockOfCell (cellOfPin 5)) = true
    ∧ blockStopped demoAuto.core (blockOfCell (cellOfBlock 0 16)) = false
    ∧ spareReason demoAuto.core 0 ≠ 4
    ∧ 16 ≤ spareCarrying demoAuto.core 0
    ∧ amGet? demoAuto.core.faultSubs 0 = none
    ∧ amGet? demoAuto.core.handoffs 0 = none
    ∧ amGet? demoFaultSub.core.faultSubs 0 = some (FaultSub.mk 5 0 0)
    ∧ spareCarrying demoFaultSub.core 0 < 16
    ∧ spareCarrying demoFaultSub.core 0 ≠ 5
    ∧ 0 + 2000 ≤ demoFaultSub.core.clock.uptime
    ∧ amGet? demoFaultSub.core.faultSubs 1 = some (FaultSub.mk 5 0 0)
    ∧ 16 ≤ spareCarrying demoFaultSub.core 1
    ∧ olderInc 3 (reg demoFaultSub.core (blockReg (blockOfCell 3) 8)) = true
    ∧ regBit demoFaultSub.core (cellReg 3 0x50) 23 = false :=
  ⟨by decide, by decide, by decide, by decide, by decide, by decide, by decide, by decide, by decide, by decide, by decide, by decide, by decide, by decide, by decide, by decide, by decide, by decide, by decide, by decide, by decide, by decide, by decide, by decide, by decide, by decide, by decide, by decide, by decide⟩

set_option maxRecDepth 20000 in
/-- The hypotheses of TimingCommands are met. -/
theorem witness_TimingCommands :
    accepted opChronicleRead (cmd 0x81F00000 []) demo = true
    ∧ accepted opChronicleSet (cmd 0x81F00000 [5, 0]) demo = true
    ∧ accepted opChronicleRoleSet (cmd 0x81F00000 [0x100]) demo = true
    ∧ accepted opTimingSetWrite { cmd 0x81F00000 (3 :: List.replicate 31 0 ++ [15, 1, 2, 3, 4, 5, 6]) with folio := 0x41 } demoFolio = true
    ∧ accepted opBeatPeriodSet { cmd 0x81F00000 [0x07E00000, 3, 0x2000] with folio := 0x41 } demoFolio = true
    ∧ treePage 0x07E00000 = some 0
    ∧ accepted opSleepAccountRead (cmd 0x81F00000 []) demo = true
    ∧ demoKeeper.core.clock.by_ = .keeper
    ∧ demo.core.clock.by_ ≠ .keeper :=
  ⟨by decide, by decide, by decide, by decide, by decide, by decide, by decide, by decide, by decide⟩

set_option maxRecDepth 20000 in
/-- The hypotheses of ChronicleEvents are met. -/
theorem witness_ChronicleEvents :
    trefPresent demoTrefOn.core = true
    ∧ ((List.range 8).foldl (fun acc r => faultStop r 7 acc) demoTrefOn.core).clock.by_ ≠ .keeper
    ∧ trefPresent demo.core = false
    ∧ demo.core.clock.sleeping = false
    ∧ demo.core.clock.by_ = .none
    ∧ trefPresent demoTref.core = false
    ∧ demoTref.core.clock.sleeping = false
    ∧ demoTref.core.clock.by_ ≠ .none
    ∧ demoKeeper.core.clock.by_ = .keeper
    ∧ trefPresent demoKeeper.core = true
    ∧ demoKeeper.core.clock.handbackAt = none
    ∧ demoKeeper.core.clock.acceptedAt + 262144 + (if demoKeeper.core.clock.waking = true then 0 else msTicks 1) ≤ demoKeeper.core.clock.uptime
    ∧ -10000 ≤ ratioChange 0x1000000 demoKeeper.core.clock.ratioAtEntry.toNat
    ∧ ratioChange 0x1000000 demoKeeper.core.clock.ratioAtEntry.toNat ≤ 10000
    ∧ 10000 < ratioChange 0x1100000 demoKeeper.core.clock.ratioAtEntry.toNat
    ∧ demoBack.core.clock.by_ = .keeper
    ∧ trefPresent demoBack.core = true
    ∧ demoBack.core.clock.handbackAt = some 5
    ∧ 5 ≤ demoBack.core.clock.uptime
    ∧ demoBack.core.clock.waking = true
    ∧ demoLateTref.core.clock.waking = true
    ∧ trefPresent demoLateTref.core = false
    ∧ demoLateTref.core.clock.acceptLate = false
    ∧ demoLateTref.core.clock.wakeAt + msTicks 100 ≤ demoLateTref.core.clock.uptime
    ∧ 2 ≤ domState demoTrefOn.core 128
    ∧ demoTrefOn.core.clock.by_ = .tref
    ∧ demoTrefOn.core.clock.firstTick = some 0
    ∧ 0 + 2 ^ 24 ≤ demoTrefOn.core.clock.chron
    ∧ role demoMaster.core = 1
    ∧ demoMaster.core.clock.chron % 2048 = 0
    ∧ demoMaster.core.clock.sleeping = false
    ∧ (¬ (role demo.core = 1 ∧ demo.core.clock.chron % 2048 = 0))
    ∧ demoFollower.core.clock.sleeping = false
    ∧ role demoFollower.core = 2
    ∧ regFld demoFollower.core 0x8FF00008 5 4 = portNo .w
    ∧ demoFollower.core.clock.lastBeacon = some 0
    ∧ 0 + 16384 ≤ demoFollower.core.clock.chron
    ∧ regBit demoFollower.core 0x8FF0000C 3 = false
    ∧ amGet? (demoTree false).core.trees (4 * 1 + 2) = some ⟨0x10, 0, false⟩
    ∧ (demoTree false).core.clock.uptime = 10 ^ 12
    ∧ amGet? (demoTree true).core.trees (4 * 1 + 2) = some ⟨0x10, 0, true⟩ :=
  ⟨by decide, by decide, by decide, by decide, by decide, by decide, by decide, by decide, by decide, by decide, by decide, by decide, by decide, by decide, by decide, by decide, by decide, by decide, by decide, by decide, by decide, by decide, by decide, by decide, by decide, by decide, by decide, by decide, by decide, by decide, by decide, by decide, by decide, by decide, by decide, by decide, by decide, by decide, by decide, by decide, by decide⟩

set_option maxRecDepth 20000 in
/-- The hypotheses of ItineraryCommands are met. -/
theorem witness_ItineraryCommands :
    accepted opItinLoad (cmd 0x81F00000 [1, 0, 0, 0, 0, 1, 0]) demo = true
    ∧ ticketLeft opItinLoad (cmd 0x81F00000 [1, 0, 0, 0, 0, 1, 0]) demo = true
    ∧ accepted opItinRunSet { cmd 0x81F00000 [1, 0x40000000] with folio := 0x41 } demoFolio = true
    ∧ accepted opItinStopNow (cmd 0x81F00000 [1]) demo = true
    ∧ ticketLeft opItinStopNow (cmd 0x81F00000 [1]) demo = true
    ∧ inRun (demoEng 3 []).core 0 = true
    ∧ (engOf (demoEng 3 []).core 0).stopAt = none
    ∧ inRun demo.core 0 = false
    ∧ accepted opItinStatusRead (cmd 0x81F00000 [1]) demo = true
    ∧ accepted opWaypointRead (cmd 0x81F00000 [0, 0]) demo = true
    ∧ qdrBadIn (begun opWaypointRead (cmd 0x81F00000 [0, 0]) demo).core 0 (stageAddr (begun opWaypointRead (cmd 0x81F00000 [0, 0]) demo).core 0
        (readSlot (begun opWaypointRead (cmd 0x81F00000 [0, 0]) demo).core 0 0)) 256 = false
    ∧ accepted opVstreamSet { cmd 0x81F00000 [1, 0, 0, 0, 0] with folio := 0x41 } demoFolio = true
    ∧ accepted opItinGenWrite { cmd 0x81F00000 [1, 0, 5] with folio := 0x41 } demoFolio = true :=
  ⟨by decide, by decide, by decide, by decide, by decide, by decide, by decide, by decide, by decide, by decide, by decide, by decide, by decide⟩

set_option maxRecDepth 20000 in
/-- The hypotheses of InstructionFlow are met. -/
theorem witness_InstructionFlow :
    (∀ op ∈ [0x00, 0x01, 0x02, 0x03, 0x04, 0x05, 0x06, 0x07, 0x08, 0x09, 0x0B], runnable op 0 (demoEng 3 [insNum op 0 0 0]) = true ∧
      (engOf (demoEng 3 [insNum op 0 0 0]).core 0).emitted ≤ insFrames (nextIns 0 (demoEng 3 [insNum op 0 0 0])) ∧
      insFrames (nextIns 0 (demoEng 3 [insNum op 0 0 0])) - (engOf (demoEng 3 [insNum op 0 0 0]).core 0).emitted
        ≤ fifoRoom (engOf (demoEng 3 [insNum op 0 0 0]).core 0))
    ∧ runnable 0x0A 0 (demoEng 3 [insNum 0x0A 0 0 1]) = true
    ∧ insFrames (nextIns 0 (demoEng 3 [insNum 0x0A 0 0 1])) ≤ fifoRoom (engOf (demoEng 3 [insNum 0x0A 0 0 1]).core 0)
    ∧ runnable 0x05 0 (demoEng 3 [insNum 5 0 1 0]) = true
    ∧ gen (framesOut 0 (demoEng 3 [insNum 5 0 1 0])) 41 = 1
    ∧ gen (framesOut 0 (demoEng 3 [insNum 5 0 2 0])) 42 = 1 + 1
    ∧ (framesOut 0 (demoEng 3 [insNum 5 0 2 0])).gen.length = 48
    ∧ runnable 0x00 0 (demoEng 3 [insNum 0 255 0 0]) = true
    ∧ (engOf demoFull.core 0).emitted + fifoRoom (engOf demoFull.core 0) < insFrames (nextIns 0 demoFull)
    ∧ runnable 0 0 demoFull = true
    ∧ runnable 0x02 0 (demoStack 16) = true
    ∧ 16 ≤ (engOf (demoStack 16).core 0).stack.length
    ∧ (engOf (demoStack 1).core 0).stack = [0]
    ∧ (engOf demoShadow.core 0).shadow.isSome = true
    ∧ runnable 0x09 0 demoShadow = true :=
  ⟨by decide, by decide, by decide, by decide, by decide, by decide, by decide, by decide, by decide, by decide, by decide, by decide, by decide, by decide, by decide⟩

set_option maxRecDepth 20000 in
/-- The hypotheses of BeatsAndWaits are met. -/
theorem witness_BeatsAndWaits :
    engState (demoEngWith 1 (fun e => { e with ended := true })).core 0 = 1
    ∧ (engOf (demoEngWith 1 (fun e => { e with ended := true })).core 0).ended = true
    ∧ (engOf (demoEngWith 1 (fun e => { e with ended := true })).core 0).err = 0
    ∧ inRun (demoEngWith 3 (fun e => { e with fifo := [frameOf e (insOf 0) true []] })).core 0 = true
    ∧ stopDue (engOf (demoEngWith 3 (fun e => { e with fifo := [frameOf e (insOf 0) true []] })).core 0) = false
    ∧ (nextFrame (demoEngWith 3 (fun e => { e with fifo := [frameOf e (insOf 0) true []] })).core 0
        (engOf (demoEngWith 3 (fun e => { e with fifo := [frameOf e (insOf 0) true []] })).core 0)).any (fun e => e.cur.isSome) = true
    ∧ brfReady (demoEngWith 4 (fun e => { e with wait := some (.brf false), cur := some (frameOf e (insOf (insNum 7 0 0 0)) true []) })).core 0
        (engOf (demoEngWith 4 (fun e => { e with wait := some (.brf false), cur := some (frameOf e (insOf (insNum 7 0 0 0)) true []) })).core 0) = true
    ∧ inRun (demoMatch 0 0).core 0 = true
    ∧ (engOf (demoMatch 0 0).core 0).lane = 0
    ∧ matchMet ((nextIns 0 (demoMatch 0 0)).arg.testBit 3) (matchSites (demoMatch 0 0).core 0)
        (matchedBy (demoMatch 0 0).core 0 (engOf (demoMatch 0 0).core 0) 0 0 []) = true
    ∧ (engOf (demoMatch 0 0).core 0).wait.any (fun w => match w with
          | .match_ fr pos 0 0 [] false => pos == fr.length && iterComplete fr
          | _ => false) = true
    ∧ matchMet ((nextIns 0 (demoMatch 8 0)).arg.testBit 3) (matchSites (demoMatch 8 0).core 0)
        (matchedBy (demoMatch 8 0).core 0 (engOf (demoMatch 8 0).core 0) 0 0 []) = false
    ∧ gen (engOf (demoMatch 8 0).core 0) (40 + (nextIns 0 (demoMatch 8 0)).arg % 8) = 0
    ∧ matchMet ((nextIns 0 (demoMatch 9 0)).arg.testBit 3) (matchSites (demoMatch 9 0).core 0)
        (matchedBy (demoMatch 9 0).core 0 (engOf (demoMatch 9 0).core 0) 0 0 []) = false
    ∧ gen (engOf (demoMatch 9 0).core 0) (40 + (nextIns 0 (demoMatch 9 0)).arg % 8) = 0 + 1 :=
  ⟨by decide, by decide, by decide, by decide, by decide, by decide, by decide, by decide, by decide, by decide, by decide, by decide, by decide, by decide, by decide⟩

set_option maxRecDepth 20000 in
/-- The hypotheses of RunEnds are met. -/
theorem witness_RunEnds :
    inRun demoHalted.core 0 = true
    ∧ stopDue (engOf demoHalted.core 0) = false
    ∧ (engOf demoHalted.core 0).wait = none
    ∧ (engOf demoHalted.core 0).lane = 0
    ∧ curEnds (engOf demoHalted.core 0) 0xB = true
    ∧ lagPending demoHalted.core 0 (engOf demoHalted.core 0) = false
    ∧ inRun (demoEngWith 3 (fun e => { e with stopAt := some 0 })).core 0 = true
    ∧ stopDue (engOf (demoEngWith 3 (fun e => { e with stopAt := some 0 })).core 0) = true
    ∧ inRun (demoEng 3 []).core 0 = true
    ∧ stopDue (engOf (demoEng 3 []).core 0) = false
    ∧ starved (engOf (demoEng 3 []).core 0) = true
    ∧ (engOf (demoEng 3 []).core 0).err = 0
    ∧ starved (engOf (demoEngWith 3 (fun e => { e with err := 2 })).core 0) = true
    ∧ (engOf (demoEngWith 3 (fun e => { e with err := 2 })).core 0).err = 1 + 1
    ∧ engineReady demoIllegal.core 0 = true
    ∧ insLegal demoIllegal.core 0 (engOf demoIllegal.core 0) (nextIns 0 demoIllegal) = false
    ∧ starved (engOf demoIllegal.core 0) = false
    ∧ engineReady (demoEng 3 [insNum 0x3F 0 0 0]).core 0 = true
    ∧ insLegal (demoEng 3 [insNum 0x3F 0 0 0]).core 0 (engOf (demoEng 3 [insNum 0x3F 0 0 0]).core 0) (nextIns 0 (demoEng 3 [insNum 0x3F 0 0 0])) = false
    ∧ starved (engOf (demoEng 3 [insNum 0x3F 0 0 0]).core 0) = true
    ∧ ((engOf (demoEngWith 3 (fun e => { e with shadow := some { snapOf e (insOf 0) with taken := some (1, 2, 3, 4) } })).core 0).shadow.any
        (fun w => w.taken == some (1, 2, 3, 4))) = true :=
  ⟨by decide, by decide, by decide, by decide, by decide, by decide, by decide, by decide, by decide, by decide, by decide, by decide, by decide, by decide, by decide, by decide, by decide, by decide, by decide, by decide, by decide⟩

set_option maxRecDepth 20000 in
/-- The hypotheses of FailCommands are met. -/
theorem witness_FailCommands :
    accepted opFailCtrlSet { cmd 0x81F00000 [1, 1] with folio := 0x41 } demoFolio = true
    ∧ accepted opCatchWindowSet { cmd 0x81F00000 [0, 2, 0, 0, 0, 0] with folio := 0x41 } demoFolio = true
    ∧ accepted opCatchClear (cmd 0x81F00000 [0, 4]) demo = true
    ∧ accepted opCatchDump (cmd 0x81F00000 [0, 2, 0, 0]) demo = true
    ∧ ticketLeft opCatchDump (cmd 0x81F00000 [0, 2, 0, 0]) demo = true
    ∧ accepted opLedgerSet (cmd 0x85F00000 [0, 0, 0x10000, 0]) demo = true
    ∧ accepted opLedgerAdvance (cmd 0x85F00000 [0, 0]) demo = true
    ∧ accepted opCatClear (cmd 0x85F00000 [1, 0, 0, 0]) demo = true
    ∧ ticketLeft opCatClear (cmd 0x85F00000 [1, 0, 0, 0]) demo = true
    ∧ accepted opRepairRegionWrite (cmd 0x85F00000 [0, 1, 0, 0, 0, 0, 0, 0, 0, 0]) demo = true
    ∧ accepted opRepairSolve (cmd 0x85F00000 [1, 0, 0, 0]) demo = true
    ∧ ticketLeft opRepairSolve (cmd 0x85F00000 [1, 0, 0, 0]) demo = true
    ∧ accepted opRepairResultRead (cmd 0x85F00000 [0, 1]) demo = true
    ∧ solveUntil (begun opRepairResultRead (cmd 0x85F00000 [0, 1]) demo).core (listBits (((writtenRegions (cmd 0x85F00000 [0, 1])).filter
        (descEn (begun opRepairResultRead (cmd 0x85F00000 [0, 1]) demo).core)).map (descSite (begun opRepairResultRead (cmd 0x85F00000 [0, 1]) demo).core))) = none
    ∧ accepted opRepairResultRead (cmd 0x85F00000 [0, 1]) demoSolving = true
    ∧ solveUntil (begun opRepairResultRead (cmd 0x85F00000 [0, 1]) demoSolving).core (listBits (((writtenRegions (cmd 0x85F00000 [0, 1])).filter
        (descEn (begun opRepairResultRead (cmd 0x85F00000 [0, 1]) demoSolving).core)).map (descSite (begun opRepairResultRead (cmd 0x85F00000 [0, 1]) demoSolving).core))) = some 0
    ∧ accepted opFailSiteSummary (cmd 0x85F00000 [1, 0, 0, 0]) demo = true
    ∧ solveUntil (begun opFailSiteSummary (cmd 0x85F00000 [1, 0, 0, 0]) demo).core 1 = none
    ∧ accepted opCatRead (cmd 0x85F00000 [0, 1]) demo = true :=
  ⟨by decide, by decide, by decide, by decide, by decide, by decide, by decide, by decide, by decide, by decide, by decide, by decide, by decide, by decide, by decide, by decide, by decide, by decide, by decide⟩

set_option maxRecDepth 20000 in
/-- The hypotheses of CatalogueUpdate are met. -/
theorem witness_CatalogueUpdate :
    (fpOf demoCat.core 0).catQ = [demoUpd]
    ∧ uncat demoUncat.core 0 = true
    ∧ uncat demoCat.core 0 = false
    ∧ amGet? demoCat.core.hub.entries (catSet demoCat.core 0 5 6 * 4 + 1) = some (CatEntry.mk 0 6 5 3 1)
    ∧ (amGet? demoCat.core.hub.entries (catSet demoCat.core 0 5 6 * 4 + 0)).isNone = true
    ∧ (demoAllow.core.hub.entries.filter (fun e => e.2.site == 0)).length = regFld demoAllow.core (catReg 8) 19 0
    ∧ uncat demoAllow.core 0 = false
    ∧ demoAllow.core.hub.entries.all (fun e => e.2.x != 5) = true
    ∧ (demo.core.hub.entries.filter (fun e => e.2.site == 0)).length ≠ regFld demo.core (catReg 8) 19 0
    ∧ uncat demo.core 0 = false
    ∧ amGet? demo.core.hub.entries (catSet demo.core 0 5 6 * 4 + 0) = none
    ∧ (demoWays.core.hub.entries.filter (fun e => e.2.site == 0)).length ≠ regFld demoWays.core (catReg 8) 19 0
    ∧ uncat demoWays.core 0 = false
    ∧ (∀ v ∈ [0, 1, 2, 3], (amGet? demoWays.core.hub.entries (catSet demoWays.core 0 5 6 * 4 + v)).any (fun f => f.x != 5) = true) :=
  ⟨by decide, by decide, by decide, by decide, by decide, by decide, by decide, by decide, by decide, by decide, by decide, by decide, by decide, by decide⟩

set_option maxRecDepth 20000 in
/-- The hypotheses of LedgerAndCatalogueEvents are met. -/
theorem witness_LedgerAndCatalogueEvents :
    8 ≤ (fpOf demoLedger.core 0).buf.length
    ∧ ringRoom demoLedger.core = true
    ∧ arcFailed demoLedger.core (ledgerBase demoLedger.core + ledgerWr demoLedger.core % ledgerLen demoLedger.core) 256 = false
    ∧ 8 ≤ (fpOf demoRingFull.core 0).buf.length
    ∧ ringRoom demoRingFull.core = false
    ∧ (fpOf demoPad.core 0).buf.length % 8 ≠ 0
    ∧ (fpOf demoPad.core 0).firstAt + 4000 ≤ demoPad.core.clock.uptime
    ∧ regionStopped demoCatch.core 0 = false
    ∧ (fpOf demoCatch.core 0).catchQ = [(1, 0x100, 3)]
    ∧ qdrBadIn demoCatch.core 0 0x100 1 = false
    ∧ regBit demoPurge.core (catReg 4) 30 = true
    ∧ 7 ∈ demoPurge.core.hub.deltas
    ∧ autoSolveDue demoPurge.core 0 = true
    ∧ demoSolving.core.hub.solves = [Solve.mk 1 0 0]
    ∧ demoPurge.core.hub.solves = [Solve.mk 1 0 0x400] :=
  ⟨by decide, by decide, by decide, by decide, by decide, by decide, by decide, by decide, by decide, by decide, by decide, by decide, by decide, by decide, by decide⟩

set_option maxRecDepth 20000 in
/-- The hypotheses of MeasurementCommands are met. -/
theorem witness_MeasurementCommands :
    accepted opMeasConfigSet { cmd 0x81F00000 (3 :: List.replicate 31 0 ++ [0x400, 0x01080100, 0, 2]) with folio := 0x41 } demoFolio = true
    ∧ accepted opMeasDetSet { cmd 0x81F00000 (3 :: List.replicate 31 0 ++ [0x10010, 0x7FFF8000]) with folio := 0x41 } demoFolio = true
    ∧ accepted opMeasRingSet (cmd 0x01F00000 [0x01F00000, 0x10000, 0x40]) demo = true
    ∧ accepted opMeasRead (cmd 0x81F00000 [0, 0, 0, 2]) (demoWith [(0x01F00204, 16), (0xD0, 4)]) = true
    ∧ readChan (cmd 0x81F00000 [0, 0, 0, 2]) = (0, 0)
    ∧ pn64 [0, 0, 0, 2] 1 + 2 ≤ chanWpos (begun opMeasRead (cmd 0x81F00000 [0, 0, 0, 2]) (demoWith [(0x01F00204, 16), (0xD0, 4)])).core 0 0
    ∧ accepted opMeasRead (cmd 0x81F00000 [0, 0, 0, 2]) (demoWith [(0x01F00204, 16), (0xD0, 1)]) = true
    ∧ chanWpos (begun opMeasRead (cmd 0x81F00000 [0, 0, 0, 2]) (demoWith [(0x01F00204, 16), (0xD0, 1)])).core 0 0 < pn64 [0, 0, 0, 2] 1 + 2
    ∧ accepted opMeasLastRead (cmd 0x81F00000 (3 :: List.replicate 31 0)) demo = true
    ∧ accepted opMeasDetRead (cmd 0x81F00000 (3 :: List.replicate 31 0)) demo = true :=
  ⟨by decide, by decide, by decide, by decide, by decide, by decide, by decide, by decide, by decide, by decide⟩

set_option maxRecDepth 20000 in
/-- The hypotheses of MeasurementEvents are met. -/
theorem witness_MeasurementEvents :
    chanRuns (demoChan {}).core 0 0 = true
    ∧ chanSilent (demoChan {}).core 0 0 = false
    ∧ chanRuns demo.core 0 0 = false
    ∧ (chanOf (demoChan {}).core 0 0).coarseDue = false
    ∧ chanRuns (demoChan { coarseDue := true }).core 0 0 = true
    ∧ (chanOf (demoChan { coarseDue := true }).core 0 0).coarseDue = true
    ∧ chanSilent (demoChan { coarseDue := true }).core 0 0 = false
    ∧ (chanOf (demoChan { coarseDue := true }).core 0 0).since ≤ chanP0 (demoChan { coarseDue := true }).core 0 0
          + 128 * (chanOf (demoChan { coarseDue := true }).core 0 0).windows
    ∧ (chanOf (demoChan {}).core 0 0).ovr = false
    ∧ (chanOf (demoChan {}).core 0 0).overNoted = false
    ∧ (chanOf (demoChan { ovr := true }).core 0 0).ovr = true
    ∧ (chanOf (demoChan { recovering := true }).core 0 0).recovering = true
    ∧ (chanOf (demoChan { recovering := true }).core 0 0).recoverAt ≤ (demoChan { recovering := true }).core.clock.uptime
    ∧ amGet? demoPpmu.core.ppmus 3 = some (PpmuChange.mk 0 false)
    ∧ 0 ≤ demoPpmu.core.clock.uptime :=
  ⟨by decide, by decide, by decide, by decide, by decide, by decide, by decide, by decide, by decide, by decide, by decide, by decide, by decide, by decide, by decide⟩

set_option maxRecDepth 20000 in
/-- The hypotheses of MonitorCommands are met. -/
theorem witness_MonitorCommands :
    accepted opCommRouteSet { cmd 0x01F00000 [0, 0, 0, 0, 0, 0, 0] with folio := 0x41 } demoFolio = true
    ∧ accepted opWdacSet { cmd 0x01F00000 [0, 0x80000010, 0x40004000, 0, 0, 1] with folio := 0x41 } demoFolio = true
    ∧ accepted opMonScheduleSet (cmd 0x01F00000 [0, 0x80010000, 0x110]) demo = true
    ∧ accepted opMonConvert (cmd 0x01F00000 [2, 0x110]) demo = true
    ∧ urgentConv (begun opMonConvert (cmd 0x01F00000 [2, 0x110]) demo).core 0 2 = some 0
    ∧ targetBlock (cmd 0x01F00000 [2, 0x110]) = 0
    ∧ convFunded (begun opMonConvert (cmd 0x01F00000 [2, 0x110]) demo).core 0 3 = true
    ∧ accepted opMonConvert (cmd 0x01F00000 [2, 0x110]) (demoWith [(0x01F00408, 0x60)]) = true
    ∧ urgentGood (begun opMonConvert (cmd 0x01F00000 [2, 0x110]) (demoWith [(0x01F00408, 0x60)])).core 0 2 = []
    ∧ accepted opMonConvert (cmd 0x01F00000 [2, 0x110]) (demoWith [(0x01F00408, 6)]) = true
    ∧ urgentGood (begun opMonConvert (cmd 0x01F00000 [2, 0x110]) (demoWith [(0x01F00408, 6)])).core 0 2 ≠ []
    ∧ urgentConv (begun opMonConvert (cmd 0x01F00000 [2, 0x110]) (demoWith [(0x01F00408, 6)])).core 0 2 = none
    ∧ accepted opMonRead (cmd 0x01F00000 [0, 0, 4]) demo = true
    ∧ accepted opDacReadback (cmd 0 [3]) demo = true
    ∧ ticketLeft opDacReadback (cmd 0 [3]) demo = true
    ∧ pageOf (cmd 0 [3]).target.toNat = some (.cell 0)
    ∧ goodConvs (begun opDacReadback (cmd 0 [3]) demo).core (blockOfCell 0) ≠ [] :=
  ⟨by decide, by decide, by decide, by decide, by decide, by decide, by decide, by decide, by decide, by decide, by decide, by decide, by decide, by decide, by decide, by decide, by decide⟩

set_option maxRecDepth 20000 in
/-- The hypotheses of ConversionEvents are met. -/
theorem witness_ConversionEvents :
    schedOn (demoWith [(0x01F00414, 0x80011000)]).core 0 0 = true
    ∧ regFld (demoWith [(0x01F00414, 0x80011000)]).core (schedReg 0 0) 13 12 ≠ 0
    ∧ selfcalRuns (demoWith [(0x01F00414, 0x80011000)]).core 0 = false
    ∧ analogRuns (demoWith [(0x01F00414, 0x80011000)]).core 0 = true
    ∧ convBad (demoWith [(0x01F00414, 0x80011000)]).core 0 0 = false
    ∧ convBad (demoConv { pending := some 0 }).core 0 0 = false
    ∧ convBusy (demoConv { pending := some 0 }).core 0 0 = false
    ∧ blockStopped (demoConv { pending := some 0 }).core 0 = false
    ∧ (convOf (demoConv { pending := some 0 }).core 0 0).pending = some 0
    ∧ convFunded (demoConv { pending := some 0 }).core 0 (entryClass (regFld (demoConv { pending := some 0 }).core (entryReg 0 0 0) 31 29)) = true
    ∧ convBad demoUnfunded.core 0 0 = false
    ∧ convBusy demoUnfunded.core 0 0 = false
    ∧ blockStopped demoUnfunded.core 0 = false
    ∧ (convOf demoUnfunded.core 0 0).pending = some 0
    ∧ convFunded demoUnfunded.core 0 (entryClass (regFld demoUnfunded.core (entryReg 0 0 0) 31 29)) = false
    ∧ (convOf (demoConv { queue := [(.fabric, 0x110)] }).core 0 0).queue = [(.fabric, 0x110)]
    ∧ (convOf (demoConv { queue := [(.fabric, 0x110)] }).core 0 0).pending = none
    ∧ convFunded (demoConv {}).core 0 4 = true
    ∧ (convOf (demoConv { run := some (ConvRun.mk (.entry 0) 0x110 0 false 0 0) }).core 0 0).run = some (ConvRun.mk (.entry 0) 0x110 0 false 0 0)
    ∧ (5 : BitVec 16).toNat ≠ 0
    ∧ (5 : BitVec 16).toNat ≠ 65535
    ∧ (amGetD (fabOf demoRise.core 0).rises 0 0).testBit 52 = true
    ∧ convBad demoRise.core 0 0 = false
    ∧ convBusy demoRise.core 0 0 = false
    ∧ convFunded demoRise.core 0 7 = true :=
  ⟨by decide, by decide, by decide, by decide, by decide, by decide, by decide, by decide, by decide, by decide, by decide, by decide, by decide, by decide, by decide, by decide, by decide, by decide, by decide, by decide, by decide, by decide, by decide, by decide, by decide⟩

set_option maxRecDepth 20000 in
/-- The hypotheses of CommonsEvents are met. -/
theorem witness_CommonsEvents :
    (0 : Fin 26).val ≠ (1 : Fin 26).val
    ∧ connMade demoWire.core 0 0 = true
    ∧ connMade demoWire.core 0 1 = true
    ∧ connWire (reg demoWire.core) 0 0 = some 0
    ∧ connWire (reg demoWire.core) 0 1 = some 0
    ∧ demo.core.clock.chron % 2048 = 0
    ∧ demo.core.clock.chron / 2048 % regFld demo.core (blockReg 0 0x404) 31 16 = 0
    ∧ amGetD demo.core.plaus 0 .none = .none
    ∧ goodConvs demo.core 0 ≠ []
    ∧ convFunded demo.core 0 4 = true
    ∧ amGetD demoPlaus.core.plaus 0 .none = .running
    ∧ convBad demoPlaus.core 0 0 = true
    ∧ convBad demoPlaus.core 0 1 = false
    ∧ convBad demo.core 0 0 = false
    ∧ (convOf demo.core 0 0).recal = none
    ∧ selfcalRuns demo.core 0 = false
    ∧ blockStopped demo.core 0 = false
    ∧ (convOf (demoConv { recal := some (Recal.mk 0 32 0 32 0) }).core 0 0).recal = some (Recal.mk 0 32 0 32 0)
    ∧ ((convOf (demoConv { recal := some (Recal.mk 0 32 0 32 (32 * 0x7D00)) }).core 0 0).recal = some (Recal.mk 0 32 0 32 (32 * 0x7D00)))
    ∧ recalOk (convCorr (onCore (setReg 0x01F00B34 0x7D00) (demoConv {})).core 0 0)
        (recalValues 0 (Recal.mk 0 32 0 32 (32 * 0x7D00)) (onCore (setReg 0x01F00B34 0x7D00) (demoConv {})).core).1 = true
    ∧ (convOf demoRecalLate.core 0 0).recal = some (Recal.mk 0 0 0 0 0)
    ∧ 0 + 200000 ≤ demoRecalLate.core.clock.uptime
    ∧ analogRuns (demoWith [(0x01F0032C, 5)]).core 0 = true
    ∧ (wdacOf (demoWith [(0x01F0032C, 5)]).core 0 0).dac.phase = .idle
    ∧ wdacStep (demoWith [(0x01F0032C, 5)]).core 0 0 ≠ 0
    ∧ domState demo.core 0 = 3 :=
  ⟨by decide, by decide, by decide, by decide, by decide, by decide, by decide, by decide, by decide, by decide, by decide, by decide, by decide, by decide, by decide, by decide, by decide, by decide, by decide, by decide, by decide, by decide, by decide, by decide, by decide, by decide⟩

set_option maxRecDepth 20000 in
/-- The hypotheses of WindowMonitors are met. -/
theorem witness_WindowMonitors :
    accepted opWmConfigSet { cmd 0x81F00000 (3 :: List.replicate 31 0 ++ [0, 0]) with folio := 0x41 } demoFolio = true
    ∧ accepted opWmWakeSet (cmd 0x81F00000 (3 :: List.replicate 31 0 ++ [0])) demo = true
    ∧ accepted opCwmSet { cmd 0x01F00000 [0x01F00000, 16, 0, 0, 0x80004000, 0x80004000] with folio := 0x41 } demoFolio = true
    ∧ accepted opWmCaptureRead (cmd 0x81F00000 [0]) demo = true
    ∧ captMonitor (cmd 0x81F00000 [0]) = some (0, 0)
    ∧ accepted opWmCheck (cmd 0x81F00000 (3 :: List.replicate 31 0)) demo = true
    ∧ ticketLeft opWmCheck (cmd 0x81F00000 (3 :: List.replicate 31 0)) demo = true
    ∧ wmBit (demoWith [(0x20C, 0)]).core 0 0 0 ≠ (0 % 2 == 0)
    ∧ wmBit (demoWith [(0x20C, 0)]).core 0 0 6 = false
    ∧ wmBit (demoWith [(0x20C, 0)]).core 0 0 3 = false
    ∧ regFld (demoWith [(0x20C, 0), (0x200, 0x1000)]).core (wmReg 0 0 0x200) 13 12 ≠ 0
    ∧ wmBit (demoWith [(0x20C, 0), (0x200, 0x1000)]).core 0 0 3 = false
    ∧ wmBit (demoWith [(0x20C, 8)]).core 0 0 3 = true
    ∧ wmBit (demoWith [(0x20C, 8)]).core 0 0 0 = (wmonOf (demoWith [(0x20C, 8)]).core 0 0).memH
    ∧ wmBit (demoWith [(0x20C, 8)]).core 0 0 1 = (wmonOf (demoWith [(0x20C, 8)]).core 0 0).memL
    ∧ wmBit (demoWith [(0x20C, 11)]).core 0 0 3 = true
    ∧ wmBit (demoWith [(0x20C, 11)]).core 0 0 0 ≠ (wmonOf (demoWith [(0x20C, 11)]).core 0 0).memH
    ∧ wmBit (demoWith [(0x20C, 11)]).core 0 0 6 = false
    ∧ wmBit (demoWith [(0x20C, 11)]).core 0 0 1 ≠ (wmonOf (demoWith [(0x20C, 11)]).core 0 0).memL
    ∧ wmBit (demoWith [(0x20C, 11)]).core 0 0 7 = false
    ∧ wmBit (demoWith [(0x20C, 0x48)]).core 0 0 6 = true
    ∧ wmBit (demoWith [(0x20C, 0x48)]).core 0 0 3 = true
    ∧ workOf (demoCheck 1).core 0x400 = some (.wmCheck [5] [5] 0 (some 0) 1 0)
    ∧ 0 + 200 * (1 + 1) ≤ (demoCheck 1).core.clock.chron
    ∧ workOf (demoCheck 3).core 0x400 = some (.wmCheck [5] [5] 0 (some 0) 3 0)
    ∧ 0 + 800 ≤ (demoCheck 3).core.clock.chron :=
  ⟨by decide, by decide, by decide, by decide, by decide, by decide, by decide, by decide, by decide, by decide, by decide, by decide, by decide, by decide, by decide, by decide, by decide, by decide, by decide, by decide, by decide, by decide, by decide, by decide, by decide, by decide⟩

set_option maxRecDepth 20000 in
/-- The hypotheses of LogicFabric are met. -/
theorem witness_LogicFabric :
    accepted opFabLoad { cmd 0x81F00000 [1, 0, 0, 0, 0] with folio := 0x41 } demoFolio = true
    ∧ ticketLeft opFabLoad { cmd 0x81F00000 [1, 0, 0, 0, 0] with folio := 0x41 } demoFolio = true
    ∧ accepted opFabUnload { cmd 0x81F00000 [1] with folio := 0x41 } demoFolio = true
    ∧ accepted opFabStatusRead (cmd 0x81F00000 [1]) demo = true
    ∧ workOf demoLoad.core 0x400 = some (.fabLoad 0 0 0 0 0x41)
    ∧ loadArrived demoLoad.core 0x400 = true
    ∧ loadUnread demoLoad 0x400 ⟨0, 0, 0⟩ = false
    ∧ workOf demoBadLoad.core 0x400 = some (.fabLoad 1 0 0 0 0x41)
    ∧ loadUnread demoBadLoad 0x400 ⟨0, 0, 0⟩ = false
    ∧ loadFailure demoBadLoad 1 ⟨0, 0, 0⟩ = some 1
    ∧ workOf demoBadKey.core 0x400 = some (.fabLoad 1 0 0 0 0x41)
    ∧ loadUnread demoBadKey 0x400 ⟨0, 0, 0⟩ = false
    ∧ loadFailure demoBadKey 1 ⟨0, 0, 0⟩ = some 2
    ∧ (fabOf demoPlane.core 0).active = some (Plane.mk [(11, 0x40)] 0)
    ∧ fld (declWord (Plane.mk [(11, 0x40)] 0) 1) 31 30 ≠ 0
    ∧ regionStopped demoPlane.core 0 = false
    ∧ fabHeld demoPlane.core 0 0 = false
    ∧ (amGetD (fabOf demoUserRise.core 0).rises 0 0).testBit 55 = true
    ∧ amGet? (fabOf (takeRise 0 0 55 demoUserRise.core).2 0).lastUser 1 = none :=
  ⟨by decide, by decide, by decide, by decide, by decide, by decide, by decide, by decide, by decide, by decide, by decide, by decide, by decide, by decide, by decide, by decide, by decide, by decide, by decide⟩

set_option maxRecDepth 20000 in
/-- The hypotheses of MemoryCommands are met. -/
theorem witness_MemoryCommands :
    accepted opQdrRead (cmd 0x81F00000 [0, 8, 16]) demo = true
    ∧ firstBad (begun opQdrRead (cmd 0x81F00000 [0, 8, 16]) demo).core.mem.qdrBad (qdrKey 0 8) 16 = none
    ∧ accepted opQdrRead (cmd 0x81F00000 [0, 0, 512]) demoBadWord = true
    ∧ firstBad (begun opQdrRead (cmd 0x81F00000 [0, 0, 512]) demoBadWord).core.mem.qdrBad (qdrKey 0 0) 512 = some 264
    ∧ accepted opQdrWrite (cmd 0x81F00000 [1, 8, 5, 6]) demo = true
    ∧ accepted opArcRead (cmd 0x81F00000 [0, 0, 256]) demo = true
    ∧ arcFirstFail (begun opArcRead (cmd 0x81F00000 [0, 0, 256]) demo).core 0 256 = none
    ∧ accepted opArcRead (cmd 0x81F00000 [0, 0, 768]) demoBadBlock = true
    ∧ arcFirstFail (begun opArcRead (cmd 0x81F00000 [0, 0, 768]) demoBadBlock).core 0 768 = some (512, stUncorrectable)
    ∧ accepted opArcRead (cmd 0x81F00000 [0, 0, 768]) demoBadStack = true
    ∧ arcFirstFail (begun opArcRead (cmd 0x81F00000 [0, 0, 768]) demoBadStack).core 0 768 = some (256, stTransfer)
    ∧ accepted opArcWrite (cmd 0x81F00000 (0 :: 0 :: List.replicate 64 7)) demo = true
    ∧ arcWriteFail (begun opArcWrite (cmd 0x81F00000 (0 :: 0 :: List.replicate 64 7)) demo).core 0 256 = none
    ∧ accepted opArcWrite (cmd 0x81F00000 (0 :: 0 :: List.replicate 128 7)) demoBadStack = true
    ∧ arcWriteFail (begun opArcWrite (cmd 0x81F00000 (0 :: 0 :: List.replicate 128 7)) demoBadStack).core 0 512 = some 256
    ∧ accepted opArcDma (cmd 0x81F00000 [1, 0, 0, 2, 0, 512, 0]) demo = true
    ∧ ticketLeft opArcDma (cmd 0x81F00000 [1, 0, 0, 2, 0, 512, 0]) demo = true
    ∧ accepted opTariffSet (cmd 0x81F00000 [1, 2, 60, 60, 0, 0, 0, 0, 0, 0]) demo = true
    ∧ accepted opTariffRead (cmd 0x81F00000 [1, 7]) demo = true
    ∧ tariffBase 1 7 = some 0x79E00000
    ∧ accepted opArbSet (cmd 0x81F00000 [0, 0xFF, 7, 0x30800]) demo = true
    ∧ accepted opMemErrorsRead (cmd 0x81F00000 [0x81]) demo = true :=
  ⟨by decide, by decide, by decide, by decide, by decide, by decide, by decide, by decide, by decide, by decide, by decide, by decide, by decide, by decide, by decide, by decide, by decide, by decide, by decide, by decide, by decide, by decide⟩

set_option maxRecDepth 20000 in
/-- The hypotheses of ArbiterDecides are met. -/
theorem witness_ArbiterDecides :
    eligible demo.core (.qdr 0) [] [0, 3] = [0, 3]
    ∧ eligible demo.core (.regionLink 7) [] [5] = [5]
    ∧ eligible demo.core (.outBuffer 63) [] [16] = [16]
    ∧ eligible (demoWith [(0x09E0004C, 0x1FFFF)]).core (.qdr 0) [] [0, 3] = [0] :=
  ⟨by decide, by decide, by decide, by decide⟩

set_option maxRecDepth 20000 in
/-- The hypotheses of RefillRule are met. -/
theorem witness_RefillRule :
    (3 : Int) ≤ remain demo.core 0x99F00000 7 + 65536
    ∧ (0x99F00000 : Nat) ≠ 0x99F00000 + 0x40 + 4 * 0
    ∧ (0x99F00000 : Nat) ≠ 0x99F00000 + 0xA0 + 4 * 0 :=
  ⟨by decide, by decide, by decide⟩

set_option maxRecDepth 20000 in
/-- The hypotheses of MemoryEvents are met. -/
theorem witness_MemoryEvents :
    regBit demo.core (arbReg 0 0x208) 31 = true
    ∧ regionStopped demo.core 0 = false
    ∧ 2 ≤ domState demo.core 129
    ∧ 0 < remain demo.core (arbReg 0 0) 7
    ∧ qdrBadIn demo.core 0 (8 * regFld demo.core (arbReg 0 0x208) 25 3) 8 = false
    ∧ regFld demo.core 0x99F00210 28 0 = 0
    ∧ regBit demo.core 0x99F00210 31 = true
    ∧ 0 < remain demo.core 0x99F00000 7
    ∧ 0 < arcCapacity demo.core.order
    ∧ 2 ≤ domState demo.core (144 + stackOf demo.core.order 0)
    ∧ amGet? (demoDma 0).core.mem.xfers (0x400 : Word).toNat = some ⟨0, 2, 0⟩
    ∧ workOf (demoDma 0).core 0x400 = some (.dma 1 0 0 0 0 512)
    ∧ (workRegion (.dma 1 0 0 0 0 512)).any (regionStopped (demoDma 0).core) = false
    ∧ (blockUnread (demoDma 0).core (.dma 1 0 0 0 0 512) 0).isNone = true
    ∧ amGet? (demoDma 3).core.mem.xfers (0x400 : Word).toNat = some ⟨0, 2, 3⟩
    ∧ workOf (demoDma 3).core 0x400 = some (.dma 1 0 0 0 0 512)
    ∧ isLoad (.dma 1 0 0 0 0 512) = false
    ∧ 3 < stacksFitted demo.core.order
    ∧ stackState demo.core 3 ≠ 3
    ∧ stackState demo.core 3 = 1
    ∧ 0 < stacksFitted demoFaults8.core.order
    ∧ stackState demoFaults8.core 0 ≠ 3
    ∧ 8 ≤ recent demoFaults8.core 0 (msTicks 1000) demoFaults8.core.mem.stackFaults
    ∧ refillNow demo.core = true
    ∧ refillNow demoTref.core = false :=
  ⟨by decide, by decide, by decide, by decide, by decide, by decide, by decide, by decide, by decide, by decide, by decide, by decide, by decide, by decide, by decide, by decide, by decide, by decide, by decide, by decide, by decide, by decide, by decide, by decide, by decide⟩

set_option maxRecDepth 20000 in
/-- The hypotheses of GeneralCommands are met. -/
theorem witness_GeneralCommands :
    accepted opNop (cmd 0x81F00000 []) demo = true
    ∧ accepted opModuleInfo (cmd 0x81F00000 []) demo = true
    ∧ accepted opReservationRead (cmd 0x81F00000 []) demo = true
    ∧ accepted opEvtPendingRead (cmd 0x87F00000 []) demo = true
    ∧ accepted opEvtSourceRead (cmd 0x87F00000 [1486, 50]) demo = true
    ∧ accepted opRegRead (cmd 0x89F00000 [2]) demo = true
    ∧ (∀ i < 2, latchesHi (0x89F00000 + 4 * i) = false ∧ amGet? (begun opRegRead (cmd 0x89F00000 [2]) demo).core.hiLatch (0x89F00000 + 4 * i) = none)
    ∧ accepted opRegWrite (cmd 0x89F00058 [200]) demo = true
    ∧ accepted opRegWrite { cmd 0x89F00058 [200] with folio := 0x41 } demoFolio = true
    ∧ accepted opRegModify (cmd 0x89F00058 [0xFF, 0x12]) demo = true
    ∧ accepted opRegModify { cmd 0x89F00058 [0xFF, 0x12] with folio := 0x41 } demoFolio = true
    ∧ accepted opEvtRouteSet (cmd 0x87F00000 [1483, 1, 0x80100000]) demo = true :=
  ⟨by decide, by decide, by decide, by decide, by decide, by decide, by decide, by decide, by decide, by decide, by decide, by decide⟩

set_option maxRecDepth 20000 in
/-- The hypotheses of SessionAndReservationCommands are met. -/
theorem witness_SessionAndReservationCommands :
    accepted opSessionOpen (cmd 0x81F00000 []) demoUnbound = true
    ∧ (queueOf (begun opSessionOpen (cmd 0x81F00000 []) demoUnbound).core 0).session = 0
    ∧ freeSession (begun opSessionOpen (cmd 0x81F00000 []) demoUnbound).core = some 1
    ∧ accepted opSessionClose (cmd 0x81F00000 []) demo = true
    ∧ accepted opReserve (cmd 0x85F00000 [3, 0x1000, 0]) demo = true
    ∧ overlapping (begun opReserve (cmd 0x85F00000 [3, 0x1000, 0]) demo).core 1 3 0x85F00000 = none
    ∧ amFree (begun opReserve (cmd 0x85F00000 [3, 0x1000, 0]) demo).core.stw.reservations 128 = some 0
    ∧ accepted opReserve (cmd 0x85F00000 [3, 0x1000, 0x200]) demoReserved = true
    ∧ ownReservation (begun opReserve (cmd 0x85F00000 [3, 0x1000, 0x200]) demoReserved).core 1 0x200 = some (0, catHold)
    ∧ accepted opRelease (cmd 0x81F00000 [0x200, 0]) demoReserved = true
    ∧ ownReservation (begun opRelease (cmd 0x81F00000 [0x200, 0]) demoReserved).core 1 0x200 = some (0, catHold)
    ∧ hasBound (begun opRelease (cmd 0x81F00000 [0x200, 0]) demoReserved).core 0 = false
    ∧ accepted opResultRead (cmd 0x81F00000 [0x400]) demoTicket = true
    ∧ ownTicket (begun opResultRead (cmd 0x81F00000 [0x400]) demoTicket).core 1 0x400 = some doneTicket
    ∧ amGet? (begun opResultRead (cmd 0x81F00000 [0x400]) demoTicket).core.stw.sessions 1 = some { owner := .queue 0, incarnation := 0, reads := [] }
    ∧ accepted opTicketRelease (cmd 0x81F00000 [0x400]) demoTicket = true
    ∧ ownTicket (begun opTicketRelease (cmd 0x81F00000 [0x400]) demoTicket).core 1 0x400 = some doneTicket :=
  ⟨by decide, by decide, by decide, by decide, by decide, by decide, by decide, by decide, by decide, by decide, by decide, by decide, by decide, by decide, by decide, by decide, by decide⟩

set_option maxRecDepth 20000 in
/-- The hypotheses of EventClears are met. -/
theorem witness_EventClears :
    fld (reg (demoWith [(0x89F00088, 0x00010101)]).core 0x89F00088) 7 0 = 1 % 256
    ∧ fld (reg (demoWith [(0x89F00088, 0x00010101)]).core 0x89F00088) 7 0 ≠ 2 % 256
    ∧ accepted opSqcClearWrite (cmd 0x89F00088 [1]) (demoWith [(0x89F00088, 0x00010101)]) = true
    ∧ accepted opEvtClear (cmd 0x87F00000 [1483, 1]) (demoWith [(0x89F00088, 0x00010101)]) = true
    ∧ evtReg 1483 = some 0x89F00088
    ∧ unitRefusal (begun opEvtClear (cmd 0x87F00000 [1483, 1]) (demoWith [(0x89F00088, 0x00010101)])).core 0x89F00088 = none :=
  ⟨by decide, by decide, by decide, by decide, by decide, by decide⟩

set_option maxRecDepth 20000 in
/-- The hypotheses of HostPortEvents are met. -/
theorem witness_HostPortEvents :
    (queueOf demo.core 0).state = .running
    ∧ fld 0x20 23 0 % 16 = 0
    ∧ fld 0x20 23 0 < sqSize (queueOf demo.core 0)
    ∧ headerCheck nopPacket = nopPacket.hchk
    ∧ nopPacket.plen.toNat ≤ 4096
    ∧ nopPacket.plen.toNat % 4 = 0
    ∧ (queueOf demo.core 0).qdest = 0
    ∧ powerState demo.core ≠ 1
    ∧ fld 0x21 23 0 % 16 ≠ 0
    ∧ (queueOf demoUnbound.core 0).state = .running
    ∧ (queueOf demoUnbound.core 0).session = 0
    ∧ amGet? demoUnbound.core.stw.sessions 0 = none
    ∧ bit (queueOf demo.core 1).qcfg 31 = false
    ∧ qcfgOk (0x90100000 &&& 0x9F1F000F) = true
    ∧ bit (0x90100000 &&& 0x9F1F000F) 31 = true
    ∧ bit (queueOf demo.core 0).qcfg 31 = true
    ∧ demo.core.stw.d3hot = false
    ∧ demo.core.pwr.startup = none
    ∧ regBit demo.core 0x89F00050 5 = true :=
  ⟨by decide, by decide, by decide, by decide, by decide, by decide, by decide, by decide, by decide, by decide, by decide, by decide, by decide, by decide, by decide, by decide, by decide, by decide, by decide⟩

set_option maxRecDepth 20000 in
/-- The hypotheses of EventRecorded are met. -/
theorem witness_EventRecorded :
    regBit demoCore 0x89F0008C 7 = true
    ∧ regBit (demoWith [(0x89F0008C, 0)]).core 0x89F0008C 0 = false
    ∧ evtReg (32 * 46 + 11) = some 0x89F00088
    ∧ evtReg (32 * 47 + 31) = none :=
  ⟨by decide, by decide, by decide, by decide⟩

set_option maxRecDepth 20000 in
/-- The hypotheses of StewardEvents are met. -/
theorem witness_StewardEvents :
    (queueOf demo.core 0).state = .running
    ∧ (cmd 0 []).flags.getLsbD 1 = false
    ∧ ({ cmd 0 [] with flags := 2 } : Cmd).flags.getLsbD 1 = true
    ∧ amGet? demoRunning.core.stw.tickets (fld 0x400 9 0) = some runningTicket
    ∧ runningTicket.id = 0x400
    ∧ runningTicket.status = none
    ∧ runningTicket.notify = true
    ∧ runningTicket.queue = some 0
    ∧ (queueOf demoRunning.core 0).state = .running
    ∧ ({ runningTicket with notify := false } : Ticket).notify = false
    ∧ (opDefOf 0x0100).isSome
    ∧ fromChain chainNop = true
    ∧ accepted opNop chainNop demo = true
    ∧ (demoFwd.core.stw.forwarded.find? (fun e => e.queue == 0 && e.tag == 9)).isSome
    ∧ demo.core.stw.forwarded.find? (fun e => e.queue == 0 && e.tag == 9) = none
    ∧ 0 + 200 * regFld demoFwd.core 0x83F0000C 26 0 ≤ demoFwd.core.clock.uptime
    ∧ workOf demoEnding.core 0x400 = some (.ending 0 0 [])
    ∧ (amGet? demoReserved.core.stw.reservations 0).isSome
    ∧ (amGet? demoHold.core.stw.vecHold 20) = some ⟨0, true⟩
    ∧ (amGet? demoHold.core.stw.vecHold 21) = some ⟨0, false⟩ :=
  ⟨by decide, by decide, by decide, by decide, by decide, by decide, by decide, by decide, by decide, by decide, by decide, by decide, by decide, by decide, by decide, by decide, by decide, by decide, by decide, by decide⟩

set_option maxRecDepth 20000 in
/-- The hypotheses of FolioCommands are met. -/
theorem witness_FolioCommands :
    accepted opFolioOpen (cmd 0x8FF00000 [0, 1000]) demo = true
    ∧ amFree (begun opFolioOpen (cmd 0x8FF00000 [0, 1000]) demo).core.car.folios 64 = some 0
    ∧ accepted opFolioOpen (cmd 0x8FF00000 [1, 1000]) demoRoot = true
    ∧ amFree (begun opFolioOpen (cmd 0x8FF00000 [1, 1000]) demoRoot).core.car.folios 64 = some 0
    ∧ accepted opFolioOpen (cmd 0x8FF00000 [0, 1000]) demoSlots = true
    ∧ amFree (begun opFolioOpen (cmd 0x8FF00000 [0, 1000]) demoSlots).core.car.folios 64 = none
    ∧ accepted opFolioStage { cmd 0x8FF00000 [0x01F00204, 0x40] with folio := 0x41 } demoFolio = true
    ∧ accepted opFolioAccede (cmd 0x8FF00000 [0x41, 5000, 0]) demoFolio = true
    ∧ ticketLeft opFolioAccede (cmd 0x8FF00000 [0x41, 5000, 0]) demoFolio = true
    ∧ slotFolio (begun opFolioAccede (cmd 0x8FF00000 [0x41, 5000, 0]) demoFolio).core 0x41 = some (1, openedFolio)
    ∧ accepted opFolioWithdraw (cmd 0x8FF00000 [0x41]) demoFolio = true
    ∧ slotFolio (begun opFolioWithdraw (cmd 0x8FF00000 [0x41]) demoFolio).core 0x41 = some (1, openedFolio)
    ∧ accepted opFolioStatusRead (cmd 0x8FF00000 []) demoFolio = true
    ∧ ownNumber demoRoot.core ≠ 0
    ∧ folioBy demoRoot.core 0x300041 = none
    ∧ amFree demoRoot.core.car.folios 64 = some 0
    ∧ ownNumber demoSlots.core ≠ 0
    ∧ folioBy demoSlots.core 0x300041 = none
    ∧ amFree demoSlots.core.car.folios 64 = none
    ∧ ownNumber demoMember.core ≠ 0
    ∧ (demoPrepare [5, 3]).members.contains (BitVec.ofNat 12 (ownNumber demoMember.core)) = true
    ∧ folioBy demoMember.core 0x300041 = some (2, memberFolio)
    ∧ memberFolio.coord = false
    ∧ memberFolio.state = .opened
    ∧ unprepared memberFolio = true
    ∧ (demoPrepare [3, 5]).members.contains (BitVec.ofNat 12 (ownNumber demoRoot.core)) = true
    ∧ folioBy demoRoot.core (demoPrepare [3, 5]).id = none
    ∧ (demoPrepare [3]).members.contains (BitVec.ofNat 12 (ownNumber demoMember.core)) = false
    ∧ amGet? demoMember.core.car.folios 2 = some memberFolio
    ∧ memberFolio.deadline < demoMember.core.clock.chron
    ∧ amGet? demoFolio.core.car.folios 1 = some openedFolio
    ∧ demoFolio.core.clock.chron ≤ openedFolio.deadline :=
  ⟨by decide, by decide, by decide, by decide, by decide, by decide, by decide, by decide, by decide, by decide, by decide, by decide, by decide, by decide, by decide, by decide, by decide, by decide, by decide, by decide, by decide, by decide, by decide, by decide, by decide, by decide, by decide, by decide, by decide, by decide, by decide, by decide⟩

set_option maxRecDepth 20000 in
/-- The hypotheses of FolioOutcomes are met. -/
theorem witness_FolioOutcomes :
    amGet? (demoFol prepFolio).core.car.folios 1 = some prepFolio
    ∧ prepFolio.state = .prepared
    ∧ hasVoted (demoFol prepFolio).core prepFolio = false
    ∧ voteTick prepFolio ≤ (demoFol prepFolio).core.clock.chron
    ∧ prepFolio.chain = false
    ∧ amGet? (demoFol { prepFolio with chain := true }).core.car.folios 1 = some { prepFolio with chain := true }
    ∧ hasVoted (demoFol { prepFolio with chain := true }).core { prepFolio with chain := true } = false
    ∧ voteTick { prepFolio with chain := true } ≤ (demoFol { prepFolio with chain := true }).core.clock.chron
    ∧ (demoFol { prepFolio with acc := 10 ^ 8 }).core.clock.chron < voteTick { prepFolio with acc := 10 ^ 8 }
    ∧ folioBy (demoFol prepFolio).core 0x41 = some (1, prepFolio)
    ∧ (prepFolio.state ≠ .decided)
    ∧ (demoFol prepFolio).core.clock.chron ≤ decideTick { prepFolio with acc := 10 ^ 8 }
    ∧ unprepared openedFolio = true
    ∧ folioBy demoFolio.core 0x41 = some (1, openedFolio)
    ∧ (7 : BitVec 12).toNat ≠ ownNumber demoFolio.core
    ∧ amGet? (demoFol votedFolio).core.car.folios 1 = some votedFolio
    ∧ votedFolio.state = .voted
    ∧ votedFolio.tombstone = false
    ∧ hasVoted (demoFol votedFolio).core votedFolio = true
    ∧ decideTick votedFolio ≤ (demoFol votedFolio).core.clock.chron
    ∧ accedes votedFolio = true
    ∧ accedes { votedFolio with members := [0, 9] } = false
    ∧ hasVoted (demoFol { votedFolio with members := [0, 9] }).core { votedFolio with members := [0, 9] } = true
    ∧ amGet? (demoFol { votedFolio with state := .decided }).core.car.folios 1 = some { votedFolio with state := .decided }
    ∧ votedFolio.acc ≤ (demoFol votedFolio).core.clock.chron
    ∧ accedesBefore (demoFol { votedFolio with state := .decided }).core { votedFolio with state := .decided } = false
    ∧ notTimed (demoFol votedFolio).core { votedFolio with state := .decided } = false
    ∧ notTimed (demoFol { votedFolio with state := .decided, fab := 1 }).core { votedFolio with state := .decided, fab := 1 } = true
    ∧ accedesBefore (demoFol { votedFolio with state := .decided, fab := 1 }).core { votedFolio with state := .decided, fab := 1 } = false
    ∧ demoReport.core.car.reports.find? (fun g => g.id == 0x41) = some votedFolio
    ∧ votedFolio.acc + 20000 ≤ demoReport.core.clock.chron :=
  ⟨by decide, by decide, by decide, by decide, by decide, by decide, by decide, by decide, by decide, by decide, by decide, by decide, by decide, by decide, by decide, by decide, by decide, by decide, by decide, by decide, by decide, by decide, by decide, by decide, by decide, by decide, by decide, by decide, by decide, by decide, by decide⟩

set_option maxRecDepth 20000 in
/-- The hypotheses of GlobalCommands are met. -/
theorem witness_GlobalCommands :
    accepted opGlobalBarrier (cmd 0x8FF00000 [15, 10]) demoRoot = true
    ∧ ticketLeft opGlobalBarrier (cmd 0x8FF00000 [15, 10]) demoRoot = true
    ∧ accepted opGlobalBroadcast (cmd 0x8FF00000 [0x50100, 0x81F00000, 0, 0x25000000]) demoRoot = true
    ∧ ticketLeft opGlobalBroadcast (cmd 0x8FF00000 [0x50100, 0x81F00000, 0, 0x25000000]) demoRoot = true
    ∧ accepted opGlobalSnapshot (cmd 0x8FF00000 [0, 0]) demoRoot = true
    ∧ ticketLeft opGlobalSnapshot (cmd 0x8FF00000 [0, 0]) demoRoot = true
    ∧ accepted opSnapshotRead (cmd 0x8FF00000 [4]) demoSnap = true
    ∧ keptSnapshot (begun opSnapshotRead (cmd 0x8FF00000 [4]) demoSnap).core 4 = some ⟨4, [1, 2, 3]⟩
    ∧ accepted opGlobalReset (cmd 0x8FF00000 (100000 :: 0 :: List.replicate 128 0)) demoRoot = true
    ∧ ticketLeft opGlobalReset (cmd 0x8FF00000 (100000 :: 0 :: List.replicate 128 0)) demoRoot = true
    ∧ accepted opCaravanPortSet (cmd 0x82100000 [0x80000001]) demo = true
    ∧ accepted opCaravanPortRead (cmd 0x82300000 []) demo = true
    ∧ accepted opCaravanRouteSet (cmd 0x83F00000 [8, 0x01A98000]) demo = true
    ∧ accepted opPortRetrain (cmd 0x82000000 [0x80000001]) demo = true
    ∧ accepted opUnbar (cmd 0x82000000 [0x80000002]) demo = true
    ∧ accepted opPortDisable (cmd 0x82000000 [0]) demo = true
    ∧ accepted opModuleNumWrite (cmd 0x83F00000 [0xFFF]) demo = true
    ∧ isRoot demoRoot.core = true
    ∧ (3 : BitVec 12).toNat ≠ 0
    ∧ amGet? demoBarrier.core.car.barrierTickets 15 = some (0x400, 0, 10)
    ∧ amGet? demoBarrier.core.car.barriers 15 = some ⟨[], 0, 10⟩
    ∧ 0 + usTicks 10 ≤ demoBarrier.core.clock.uptime
    ∧ 0 ≤ demoNode.core.clock.chron
    ∧ ownNumber demoNode.core ≠ 0
    ∧ isRoot demoNode.core = false
    ∧ ownNumber demoSnap.core ≠ 0
    ∧ isRoot demoSnap.core = true
    ∧ demoSnap.core.car.snapPending.contains ((7 : BitVec 16).toNat, 0) = true
    ∧ demoNode.core.car.bcastSeen.contains ((3 : BitVec 12).toNat, 9) = false
    ∧ demoNode.core.car.bcastSeen.contains ((3 : BitVec 12).toNat, 8) = true :=
  ⟨by decide, by decide, by decide, by decide, by decide, by decide, by decide, by decide, by decide, by decide, by decide, by decide, by decide, by decide, by decide, by decide, by decide, by decide, by decide, by decide, by decide, by decide, by decide, by decide, by decide, by decide, by decide, by decide, by decide, by decide⟩

set_option maxRecDepth 20000 in
/-- The hypotheses of PortEvents are met. -/
theorem witness_PortEvents :
    portState (demoPort 0x21000000).core 0 = 2
    ∧ regFld (demoPort 0x21000000).core (portReg 0 4) 27 24 = 1
    ∧ portState (demoPort 0x22000000).core 0 = 2
    ∧ regFld (demoPort 0x22000000).core (portReg 0 4) 27 24 = 2
    ∧ portState (demoPort 0x23000000).core 0 = 2
    ∧ regFld (demoPort 0x23000000).core (portReg 0 4) 27 24 = 3
    ∧ portState (demoPort 0x24000000).core 0 = 2
    ∧ regFld (demoPort 0x24000000).core (portReg 0 4) 27 24 = 4
    ∧ portState (demoPort 0x25000000).core 0 = 2
    ∧ regFld (demoPort 0x25000000).core (portReg 0 4) 27 24 = 5
    ∧ partner7.number.toNat ≠ ownNumber (demoPort 0x25000000).core
    ∧ portState (demoPort 0x26000000).core 0 = 2
    ∧ regFld (demoPort 0x26000000).core (portReg 0 4) 27 24 = 6
    ∧ portState (demoPort 0x40000000).core 0 = 4
    ∧ regBit (demoPort 0x40000000).core (portReg 0 0) 31 = true
    ∧ (portOf (demoPort 0x40000000).core 0).waitUntil ≤ (demoPort 0x40000000).core.clock.uptime
    ∧ portState (demoPort 0x30000000).core 0 = 3
    ∧ goodFrame.intact = true
    ∧ goodFrame.nak = false
    ∧ goodFrame.fseq.toNat = ((portOf (demoPort 0x30000000).core 0).lastGood + 1) % 65536
    ∧ ({ goodFrame with intact := false } : Frame).intact = false
    ∧ portState (demoUnacked 1).core 0 = 3
    ∧ (portOf (demoUnacked 1).core 0).unacked = [(1, 1)]
    ∧ portState (demoUnacked 4).core 0 = 3
    ∧ (portOf (demoUnacked 4).core 0).unacked = [(1, 4)]
    ∧ (portOf (demoPort 0x30000000).core 0).lastFrame + usTicks 10 ≤ (demoPort 0x30000000).core.clock.uptime
    ∧ (portOf (demoPort 0x30000000).core 0).activeSince + msTicks 1000 ≤ (demoPort 0x30000000).core.clock.uptime :=
  ⟨by decide, by decide, by decide, by decide, by decide, by decide, by decide, by decide, by decide, by decide, by decide, by decide, by decide, by decide, by decide, by decide, by decide, by decide, by decide, by decide, by decide, by decide, by decide, by decide, by decide, by decide, by decide⟩

set_option maxRecDepth 20000 in
/-- The hypotheses of PacketEvents are met. -/
theorem witness_PacketEvents :
    (portState demo.core 0 ≠ 3)
    ∧ portState demoLinked.core 0 = 3
    ∧ malformed (freeFlits 0 (pkClass badPacket) badPacket.flits demoLinked.core) 0 badPacket = true
    ∧ malformed (freeFlits 0 (pkClass (packetTo 5 0)) (packetTo 5 0).flits demoLinked.core) 0 (packetTo 5 0) = false
    ∧ ownNumber (freeFlits 0 (pkClass (packetTo 5 0)) (packetTo 5 0).flits demoLinked.core) = 5
    ∧ pkKind (packetTo 5 0) ≠ 2
    ∧ pkPath (packetTo 5 0) = false
    ∧ pkDest (packetTo 5 0) = 5
    ∧ malformed (freeFlits 0 (pkClass (packetTo 9 1)) (packetTo 9 1).flits demoLinked.core) 0 (packetTo 9 1) = false
    ∧ outPort (freeFlits 0 (pkClass (packetTo 9 1)) (packetTo 9 1).flits demoLinked.core) (packetTo 9 1) = some 1
    ∧ pkHops (packetTo 9 1) ≠ 63
    ∧ malformed (freeFlits 0 (pkClass (packetTo 9 63)) (packetTo 9 63).flits demoLinked.core) 0 (packetTo 9 63) = false
    ∧ outPort (freeFlits 0 (pkClass (packetTo 9 63)) (packetTo 9 63).flits demoLinked.core) (packetTo 9 63) = some 1
    ∧ pkHops (packetTo 9 63) = 63
    ∧ malformed (freeFlits 0 (pkClass (packetTo 20 1)) (packetTo 20 1).flits demoLinked.core) 0 (packetTo 20 1) = false
    ∧ outPort (freeFlits 0 (pkClass (packetTo 20 1)) (packetTo 20 1).flits demoLinked.core) (packetTo 20 1) = none
    ∧ pkDest (packetTo 20 1) ≠ 5
    ∧ routeOf (freeFlits 0 (pkClass (packetTo 20 1)) (packetTo 20 1).flits demoLinked.core) 20 ≠ 1
    ∧ demoHeld.core.car.held[0]? = some (1, 2, 0, packetTo 9 1)
    ∧ 0 + usTicks 100 ≤ demoHeld.core.clock.uptime :=
  ⟨by decide, by decide, by decide, by decide, by decide, by decide, by decide, by decide, by decide, by decide, by decide, by decide, by decide, by decide, by decide, by decide, by decide, by decide, by decide, by decide⟩

set_option maxRecDepth 20000 in
/-- The hypotheses of PairFormation are met. -/
theorem witness_PairFormation :
    accepted opPairForm (cmd 0x82200000 []) demo = true
    ∧ ticketLeft opPairForm (cmd 0x82200000 []) demo = true
    ∧ accepted opPairDissolve (cmd 0x82200000 []) demoPair = true
    ∧ portState (begun opPairDissolve (cmd 0x82200000 []) demoPair).core 2 = 3
    ∧ (begun opPairDissolve (cmd 0x82200000 []) demoPair).core.pair.replaced = false
    ∧ witnessNo (begun opPairDissolve (cmd 0x82200000 []) demoPair).core = 0
    ∧ accepted opPairHandover (cmd 0x82200000 [1, 5000, 0]) demoPair = true
    ∧ ticketLeft opPairHandover (cmd 0x82200000 [1, 5000, 0]) demoPair = true
    ∧ accepted opPairStatusRead (cmd 0x82200000 []) demo = true
    ∧ accepted opPairRestore (cmd 0x82200000 []) demoForeign = true
    ∧ ticketLeft opPairRestore (cmd 0x82200000 []) demoForeign = true
    ∧ (demoWork .pairRestore).core.stw.tickets.find? (fun e => e.2.work == .pairRestore && e.2.status.isNone) = some (0, { runningTicket with work := .pairRestore })
    ∧ demoForming.core.pair.forming = some ⟨0x400, 0, 4000, none⟩
    ∧ demo.core.pair.forming = none
    ∧ 0 + msTicks 100 ≤ demoForming.core.clock.uptime
    ∧ demoPassed.core.pair.forming = some ⟨0x400, 0, 4000, some (4000, [])⟩
    ∧ 4000 ≤ demoPassed.core.clock.chron
    ∧ isWitness (demoWith [(0x82200570, 0x80000000)]).core = true
    ∧ regBit (demoWith [(0x82200570, 0x80000000)]).core 0x8FF0000C 2 = false
    ∧ (demoWith [(0x82200570, 0x80000000)]).core.pair.witness = []
    ∧ isWitness (demoWith [(0x82200570, 0x80000000), (0x8FF0000C, 4)]).core = true
    ∧ regBit (demoWith [(0x82200570, 0x80000000), (0x8FF0000C, 4)]).core 0x8FF0000C 2 = true
    ∧ isWitness demo.core = false :=
  ⟨by decide, by decide, by decide, by decide, by decide, by decide, by decide, by decide, by decide, by decide, by decide, by decide, by decide, by decide, by decide, by decide, by decide, by decide, by decide, by decide, by decide, by decide, by decide⟩

set_option maxRecDepth 20000 in
/-- The hypotheses of TenancyRules are met. -/
theorem witness_TenancyRules :
    0 ∈ (openFlit demoFlit demoPair.core).1
    ∧ demoFlit.src.toNat ≠ witnessNo demoPair.core
    ∧ olderInc 0xFFFFFFF0 (reg demoPair.core (portReg 2 0xC)) = true
    ∧ ({ demoFlit with src := 9 } : TenFlit).src.toNat ≠ partnerNo demoPair.core
    ∧ tenRole demoPair.core 0 = 1
    ∧ tenExp demoPair.core 0 ≤ demoPair.core.clock.chron
    ∧ demoPair.core.clock.chron < tenExp demoPair.core 1
    ∧ tenRole (demoShadowRegion 0).core 0 = 2
    ∧ tenExp (demoShadowRegion 0).core 0 + 10000 ≤ (demoShadowRegion 0).core.clock.chron
    ∧ witnessNo (demoShadowRegion 0).core = 0
    ∧ witnessNo (demoShadowRegion 0x70000).core ≠ 0
    ∧ tenRole (demoShadowRegion 0x70000).core 0 = 2
    ∧ tenRole demoTaking.core 0 = 3
    ∧ amGetD demoTaking.core.pair.asked 0 0 + 10000 ≤ demoTaking.core.clock.chron
    ∧ tenRole demoEarly.core 0 = 2
    ∧ demoEarly.core.clock.chron < tenExp demoEarly.core 0 + 10000 :=
  ⟨by decide, by decide, by decide, by decide, by decide, by decide, by decide, by decide, by decide, by decide, by decide, by decide, by decide, by decide, by decide, by decide⟩

set_option maxRecDepth 20000 in
/-- The hypotheses of TenancyFlits are met. -/
theorem witness_TenancyFlits :
    demoNoneHeld.core.clock.chron % 10000 = 0
    ∧ pairState demoNoneHeld.core ≠ 0
    ∧ heldRegions (setRegBit (pairReg 0x404) 20 demoNoneHeld.core.pair.witnessHeard demoNoneHeld.core) = []
    ∧ demoPair.core.clock.chron % 10000 = 0
    ∧ pairState demoPair.core ≠ 0
    ∧ heldRegions (setRegBit (pairReg 0x404) 20 demoPair.core.pair.witnessHeard { demoPair.core with pair := { demoPair.core.pair with witnessHeard := false } }) ≠ []
    ∧ demoTref.core.clock.chron % 10000 ≠ 0
    ∧ demoFlit.src.toNat = partnerNo demoPair.core
    ∧ demoPair.core.pair.replaced = false
    ∧ olderInc demoFlit.srcInc (reg demoPair.core (portReg 2 0xC)) = false
    ∧ (openFlit demoFlit demoPair.core).1.filter (fun r => tenRole demoPair.core r != 1 && tenRole demoPair.core r != 3) = []
    ∧ maskRegions demoFlit.regions.toNat ≠ []
    ∧ demoFlit.src.toNat = partnerNo demoEarly.core
    ∧ demoEarly.core.pair.replaced = false
    ∧ olderInc demoFlit.srcInc (reg demoEarly.core (portReg 2 0xC)) = false
    ∧ (openFlit demoFlit demoEarly.core).1.filter (fun r => tenRole demoEarly.core r != 1 && tenRole demoEarly.core r != 3) ≠ []
    ∧ (maskRegions demoFlit.regions.toNat).filter (fun r => !((openFlit demoFlit demoEarly.core).1.filter (fun r => tenRole demoEarly.core r != 1 && tenRole demoEarly.core r != 3)).contains r) = []
    ∧ demoHanding.core.pair.handover = some ⟨0x400, 5000, [0], []⟩
    ∧ ([0] : List Nat).contains 0 = true
    ∧ 5000 ≤ demoHanding.core.clock.chron
    ∧ tenRole demoHanding.core 0 = 1
    ∧ demoPair.core.pair.handover = none :=
  ⟨by decide, by decide, by decide, by decide, by decide, by decide, by decide, by decide, by decide, by decide, by decide, by decide, by decide, by decide, by decide, by decide, by decide, by decide, by decide, by decide, by decide, by decide⟩

set_option maxRecDepth 20000 in
/-- The hypotheses of MirrorEvents are met. -/
theorem witness_MirrorEvents :
    tenRole demoStandby.core 0 = 4
    ∧ regionRuns demoStandby.core 0 = true
    ∧ pw (slotWords demoStandby.qdr demoStandby.core 0 (newestSlot demoStandby.core 0)) 1 = 0
    ∧ pn64 (slotWords demoStandby.qdr demoStandby.core 0 (newestSlot demoStandby.core 0)) 2 = 0
    ∧ pn64 (slotWords demoStandby.qdr demoStandby.core 0 (newestSlot demoStandby.core 0)) 4 = 0
    ∧ demoMirror.core.pair.ckpt.find? (fun e => e.1 == 0) = some (0, 1)
    ∧ (reg demoMirror.core (pairReg 0x520)).toNat = 0
    ∧ pairState demoMirror.core = 2
    ∧ demoMirror.core.pair.replaced = false
    ∧ demoMirror.core.pair.restoring = false
    ∧ regBit demoMirror.core (pairReg 0x404) 23 = false
    ∧ (List.replicate 16 (0 : Byte)).length % 16 = 0
    ∧ pairState demoMirrored.core = 2
    ∧ regBit demoMirrored.core (pairReg 0x404) 23 = true
    ∧ olderInc 0xFFFFFFFF (wordOf (mirrorRead 4 4 demoMirrored)) = true
    ∧ demoMirrored.core.pair.replaced = false
    ∧ demoMirrored.core.pair.restoring = false
    ∧ 9437184 < 9437184 + (List.replicate 16 (0 : Byte)).length
    ∧ mirroring demoMirror.core = true
    ∧ demoMirror.core.pair.wpWait = []
    ∧ demoMirror.core.pair.resync = false
    ∧ demoMirror.core.pair.mirrorQ = [(0, [1])]
    ∧ regBit demoMirrored.core (pairReg 0x404) 21 = true
    ∧ mirroring demoResync.core = true
    ∧ demoResync.core.pair.resync = true
    ∧ demoResync.core.pair.mirrorQ = []
    ∧ (demoResync.core.pair.mirrorHeader.getD 0 1).getLsbD 0 = false :=
  ⟨by decide, by decide, by decide, by decide, by decide, by decide, by decide, by decide, by decide, by decide, by decide, by decide, by decide, by decide, by decide, by decide, by decide, by decide, by decide, by decide, by decide, by decide, by decide, by decide, by decide, by decide, by decide⟩

set_option maxRecDepth 20000 in
/-- The hypotheses of PowerAndRails are met. -/
theorem witness_PowerAndRails :
    accepted opPowerState (cmd 0x89F00000 [0x80000000, 0, 0, 0]) demo = true
    ∧ ticketLeft opPowerState (cmd 0x89F00000 [0x80000000, 0, 0, 0]) demo = true
    ∧ accepted opPowerStatusRead (cmd 0x89F00000 []) demo = true
    ∧ accepted opPowerRailMapSet (cmd 0x89F00000 [0x80010040, 0x80010041, 0, 0, 0, 0, 0]) demo = true
    ∧ accepted opModuleReset (cmd 0x89F00000 []) demo = true
    ∧ ticketLeft opModuleReset (cmd 0x89F00000 []) demo = true
    ∧ ({} : PowerTarget) = currentTarget demo.core
    ∧ demo.core.pwr.queued = none
    ∧ demo.core.pwr.run = none
    ∧ ({ state := 1 } : PowerTarget) ≠ currentTarget demoTransit.core
    ∧ demoTransit.core.pwr.queued = some ⟨{ state := 0 }, 0x401⟩
    ∧ (endPowerTickets [0x401] 2 { state := 0 } demoTransit.core).pwr.run = some dozeRun
    ∧ (demoRails 1).core.pwr.rails = [⟨4, 1, 2, 0⟩]
    ∧ (4 : Fin 7).val = 4
    ∧ demo.core.pwr.rails = []
    ∧ 0 + 4000 * regFld (demoRails 1).core (pwrReg 0x58) 15 0 ≤ (demoRails 1).core.clock.uptime
    ∧ (demoStarting 1 (demoRails 2)).core.pwr.startup = some ⟨1, 0⟩
    ∧ (demoStarting 1 (demoRails 2)).core.pwr.rails = [⟨4, 2, 2, 0⟩]
    ∧ (demoRails 2).core.pwr.rails = [⟨4, 2, 2, 0⟩]
    ∧ (demoRails 2).core.pwr.startup = none
    ∧ regFld (demoRunning2).core (pwrReg 0x54) 9 0 = 800
    ∧ powerState demoRunning2.core = 3
    ∧ demoRunning2.core.pwr.run = none
    ∧ demoRunning2.core.pwr.startup = none
    ∧ demoRunning2.core.pwr.rails = []
    ∧ railCommanded demoRunning2.core 0 = true
    ∧ demoRunning2.core.pwr.vcoreAt + msTicks 1 ≤ demoRunning2.core.clock.uptime
    ∧ 805 % 5 = 0
    ∧ demoHeldOff.core.pwr.porst = false
    ∧ demo.core.pwr.porst = true :=
  ⟨by decide, by decide, by decide, by decide, by decide, by decide, by decide, by decide, by decide, by decide, by decide, by decide, by decide, by decide, by decide, by decide, by decide, by decide, by decide, by decide, by decide, by decide, by decide, by decide, by decide, by decide, by decide, by decide, by decide, by decide⟩

set_option maxRecDepth 20000 in
/-- The hypotheses of PowerEntries are met. -/
theorem witness_PowerEntries :
    demoDoze.core.pwr.run = some dozeRun
    ∧ dozeRun.target.state = 2
    ∧ powerState demoDoze.core = 3
    ∧ powerStep demoDoze.core = 0
    ∧ (demoEntry 0xF0100000 dozeRun).core.pwr.run = some dozeRun
    ∧ powerState (demoEntry 0xF0100000 dozeRun).core = 3
    ∧ powerStep (demoEntry 0xF0100000 dozeRun).core = 1
    ∧ wakeWaits (demoEntry 0xF0100000 dozeRun).core = false
    ∧ demo.core.pwr.run = none
    ∧ entryRuns (demoEntry 0xF0000000 sleepRun).core = true
    ∧ powerStep (demoEntry 0xF0000000 sleepRun).core = 0
    ∧ sleepRun.target.state ≤ 1
    ∧ entryRuns (demoEntry 0xF0100000 sleepRun).core = true
    ∧ powerStep (demoEntry 0xF0100000 sleepRun).core = 1
    ∧ wakeWaits (demoEntry 0xF0100000 sleepRun).core = false
    ∧ entryRuns (demoEntry 0xF0200000 sleepRun).core = true
    ∧ powerStep (demoEntry 0xF0200000 sleepRun).core = 2
    ∧ wakeWaits (demoEntry 0xF0200000 sleepRun).core = false
    ∧ entryRuns (demoEntry 0xF0300000 { sleepRun with passed := true }).core = true
    ∧ powerStep (demoEntry 0xF0300000 { sleepRun with passed := true }).core = 3
    ∧ (demoEntry 0xF0300000 offRun).core.pwr.run = some offRun
    ∧ offRun.target.state = 0
    ∧ powerStep (demoEntry 0xF0300000 offRun).core = 3
    ∧ offRun.passed = false
    ∧ wakeWaits (demoEntry 0xF0300000 offRun).core = false
    ∧ demoAborting.core.pwr.run = some { sleepRun with prior := { state := 2 } }
    ∧ entryRuns demoAborting.core = true
    ∧ wakeWaits demoAborting.core = true
    ∧ powerStep demoAborting.core = 1
    ∧ (demoEntry 0x80000000 awakeRun).core.pwr.run = some awakeRun
    ∧ awakeRun.target.state = 3
    ∧ powerState (demoEntry 0x80000000 awakeRun).core = 2
    ∧ blockWake demoWakes.core 0 = true
    ∧ demoWakes.core.wakeRaised.contains 0 = false
    ∧ 2 ≤ domState demoWakes.core 0
    ∧ blockStopped demoWakes.core 0 = false
    ∧ powerState demoWakes.core = 3
    ∧ demoWakes.core.pwr.run = none
    ∧ blockWake demoWakesDoze.core 0 = true
    ∧ demoWakesDoze.core.wakeRaised.contains 0 = false
    ∧ 2 ≤ domState demoWakesDoze.core 0
    ∧ blockStopped demoWakesDoze.core 0 = false
    ∧ powerState demoWakesDoze.core = 2
    ∧ wakeStands demoSlumberCmd.core .hostCommand = true
    ∧ powerState demoSlumberCmd.core = 1
    ∧ wakeStands demoSlumberCmd.core .caravanCommand = true
    ∧ wakeStands demo.core .moduleReset = false
    ∧ demoResetting.core.pwr.reset.isSome = true
    ∧ demo.core.pwr.reset = none :=
  ⟨by decide, by decide, by decide, by decide, by decide, by decide, by decide, by decide, by decide, by decide, by decide, by decide, by decide, by decide, by decide, by decide, by decide, by decide, by decide, by decide, by decide, by decide, by decide, by decide, by decide, by decide, by decide, by decide, by decide, by decide, by decide, by decide, by decide, by decide, by decide, by decide, by decide, by decide, by decide, by decide, by decide, by decide, by decide, by decide, by decide, by decide, by decide, by decide, by decide⟩

set_option maxRecDepth 20000 in
/-- The hypotheses of StartAndWake are met. -/
theorem witness_StartAndWake :
    (demoStarting 4 demo).core.pwr.startup = some ⟨4, 0⟩
    ∧ 0 + msTicks 314 ≤ (demoStarting 5 demo).core.clock.uptime
    ∧ (demoStarting 5 demo).core.pwr.startup = some ⟨5, 0⟩
    ∧ (demoStarting 9 demo).core.pwr.startup = some ⟨9, 0⟩
    ∧ demo.core.pwr.startup = none
    ∧ (demoStarting 10 demo).core.pwr.startup = some ⟨10, 0⟩
    ∧ (demoStarting 10 demo).core.pwr.failedStarts < 3
    ∧ (demoStarting 10 demo).core.pwr.rails = []
    ∧ 0 + msTicks 1000 ≤ (demoStarting 10 demo).core.clock.uptime
    ∧ (demoEntry 0x40000000 awakeRun).core.pwr.run = some awakeRun
    ∧ 2 ≤ awakeRun.target.state
    ∧ powerState (demoEntry 0x40000000 awakeRun).core = 1
    ∧ powerStep (demoEntry 0x40000000 awakeRun).core = 0
    ∧ powerStep (demoEntry 0x40100000 awakeRun).core = 1
    ∧ railsSettled (demoEntry 0x40100000 awakeRun).core [0] = true
    ∧ powerStep (demoEntry 0x40300000 awakeRun).core = 3
    ∧ railsSettled (demoEntry 0x40300000 awakeRun).core [3] = true
    ∧ powerStep (demoEntry 0x40400000 awakeRun).core = 4
    ∧ railsSettled (demoEntry 0x40400000 awakeRun).core [4, 5, 6] = true
    ∧ powerStep (demoEntry 0x40500000 { awakeRun with failed := true }).core = 5
    ∧ timingBack { awakeRun with failed := true } (demoEntry 0x40500000 { awakeRun with failed := true }).core = true
    ∧ powerStep (demoEntry 0x40600000 awakeRun).core = 6
    ∧ powerState (demoEntry 0x40600000 awakeRun).core = 1
    ∧ demoResetting.core.pwr.reset.isSome = true
    ∧ powerState demoResetting.core = 3
    ∧ demoResetting.core.pwr.run = none
    ∧ demoResetting.core.pwr.startup = none
    ∧ demoResetting.core.pwr.resetStep = 0
    ∧ (demoResetAt 1).core.pwr.resetStep = 1
    ∧ (demoResetAt 1).core.pwr.rails = []
    ∧ (demoResetAt 2).core.pwr.resetStep = 2
    ∧ (demoResetAt 3).core.pwr.resetStep = 3
    ∧ demo.core.pwr.reset = none :=
  ⟨by decide, by decide, by decide, by decide, by decide, by decide, by decide, by decide, by decide, by decide, by decide, by decide, by decide, by decide, by decide, by decide, by decide, by decide, by decide, by decide, by decide, by decide, by decide, by decide, by decide, by decide, by decide, by decide, by decide, by decide, by decide, by decide, by decide⟩

set_option maxRecDepth 20000 in
/-- The hypotheses of CalibrationCommands are met. -/
theorem witness_CalibrationCommands :
    accepted opSelfcal (cmd 0x8DF00000 [1, 0]) demoCalib = true
    ∧ ticketLeft opSelfcal (cmd 0x8DF00000 [1, 0]) demoCalib = true
    ∧ accepted opCalStatusRead (cmd 0x8DF00000 []) demo = true
    ∧ accepted opCalBgSet (cmd 0x8DF00000 [0x800007D0]) demo = true
    ∧ accepted opCalRecordRead (cmd 0x8DF00000 [12, 147964, 4]) demo = true
    ∧ accepted opCalStore (cmd 0x8DF00000 []) (demoFree 0x2A) = true
    ∧ ticketLeft opCalStore (cmd 0x8DF00000 []) (demoFree 0x2A) = true
    ∧ (freeSlots (begun opCalStore (cmd 0x8DF00000 []) (demoFree 0x2A)).core).head? = some 3
    ∧ accepted opCalStore (cmd 0x8DF00000 []) (demoFree 0x2000000) = true
    ∧ freeSlots (begun opCalStore (cmd 0x8DF00000 []) (demoFree 0x2000000)).core = []
    ∧ accepted opCalRevert (cmd 0x8DF00000 [2]) (demoFree 0x2A) = true :=
  ⟨by decide, by decide, by decide, by decide, by decide, by decide, by decide, by decide, by decide, by decide, by decide⟩

set_option maxRecDepth 20000 in
/-- The hypotheses of CalibrationEvents are met. -/
theorem witness_CalibrationEvents :
    (demoSelfcalRun 0).core.cal.selfcal.isSome = true
    ∧ ((demoSelfcalRun 6).core.cal.selfcal.map (fun r => r.step)) = some 6
    ∧ demo.core.cal.selfcal = none
    ∧ demo.core.cal.store = none
    ∧ regBit demoCalib.core 0x8DF00008 31 = true
    ∧ amGetD demoCalib.core.cal.nextTurn 0 0 ≤ demoCalib.core.clock.uptime
    ∧ amGet? demoCalib.core.cal.turns 0 = none
    ∧ ((List.range 17).map (fun n => (amGetD demoCalib.core.cal.nextCell 0 0 + n) % 17)).find? (turnEligible demoCalib.core 0) = some 0
    ∧ regBit demoNotReady.core 0x8DF00008 31 = true
    ∧ amGetD demoNotReady.core.cal.nextTurn 0 0 ≤ demoNotReady.core.clock.uptime
    ∧ amGet? demoNotReady.core.cal.turns 0 = none
    ∧ ((List.range 17).map (fun n => (amGetD demoNotReady.core.cal.nextCell 0 0 + n) % 17)).find? (turnEligible demoNotReady.core 0) = none
    ∧ (amGet? (demoTurn 0).core.cal.turns 0).isSome = true
    ∧ amGet? (demoTurn 0).core.cal.turns 0 = some ⟨4, 0, false⟩
    ∧ regFld (demoTurn 0).core (blockReg 0 0xB00) 1 0 = 2
    ∧ (threeRejects (judgeBackground ⟨0, .drive 4, 0x3F, 0⟩ (demoTurn 2).core) [⟨0, .drive 4, 0x3F, 0⟩] && true) = true
    ∧ regFld demo.core 0x89F00000 31 30 = 3
    ∧ regFld demoDoze.core 0x89F00000 31 30 = 3
    ∧ regFld demoWakesDoze.core 0x89F00000 31 30 = 2
    ∧ (demoStore 1).core.cal.store = some ⟨0x400, 3, 0, [7, 9], 1⟩
    ∧ 1 < recordLen
    ∧ 0 + 1600 * (1 + 1) ≤ (demoStore 1).core.clock.chron
    ∧ (demoStore 36992).core.cal.store = some ⟨0x400, 3, 0, [7, 9], recordLen⟩ :=
  ⟨by decide, by decide, by decide, by decide, by decide, by decide, by decide, by decide, by decide, by decide, by decide, by decide, by decide, by decide, by decide, by decide, by decide, by decide, by decide, by decide, by decide, by decide, by decide⟩

set_option maxRecDepth 20000 in
/-- The hypotheses of SecurityCommands are met. -/
theorem witness_SecurityCommands :
    accepted opSecImageWrite (cmd 0x8BF00000 [4, 7]) demo = true
    ∧ accepted opSecImageCommit (cmd 0x8BF00000 []) demo = true
    ∧ accepted opSecImageCommit (cmd 0x8BF00000 []) demoErased = true
    ∧ bankCheck (begun opSecImageCommit (cmd 0x8BF00000 []) demoErased).core (1 - bootBank (begun opSecImageCommit (cmd 0x8BF00000 []) demoErased).core) = some stSignature
    ∧ accepted opSecRollbackAdvance (cmd 0x8BF00000 [0, 0]) demo = true
    ∧ accepted opSecRollbackAdvance (cmd 0x8BF00000 [1, 64]) demo = true
    ∧ accepted opSecKeyRevoke (cmd 0x8BF00000 [3]) demo = true
    ∧ accepted opSecDebugChallenge (cmd 0x8BF00000 []) demo = true
    ∧ accepted opSecDebugUnlock (cmd 0x8BF00000 (List.replicate 32 5)) demoNonce = true
    ∧ (begun opSecDebugUnlock (cmd 0x8BF00000 (List.replicate 32 5)) demoNonce).core.sec.nonce = some ⟨List.replicate 8 5, 0⟩
    ∧ (cmd 0x8BF00000 (List.replicate 32 5)).params.take 8 = List.replicate 8 5
    ∧ accepted opSecDebugUnlock (cmd 0x8BF00000 (List.replicate 32 6)) demoNonce = true
    ∧ (cmd 0x8BF00000 (List.replicate 32 6)).params.take 8 ≠ List.replicate 8 5
    ∧ accepted opSecDebugUnlock (cmd 0x8BF00000 (List.replicate 32 6)) demo = true
    ∧ (begun opSecDebugUnlock (cmd 0x8BF00000 (List.replicate 32 6)) demo).core.sec.nonce = none
    ∧ accepted opSecAllowlistSet (cmd 0x8BF00000 []) demo = true :=
  ⟨by decide, by decide, by decide, by decide, by decide, by decide, by decide, by decide, by decide, by decide, by decide, by decide, by decide, by decide, by decide, by decide⟩

set_option maxRecDepth 20000 in
/-- The hypotheses of SecurityEvents are met. -/
theorem witness_SecurityEvents :
    demo.core.stw.restarting = false
    ∧ demo.core.stw.linkUp = true
    ∧ powerHolds demo.core 0 = false
    ∧ powerHolds (demoStarting 1 demo).core 0 = true
    ∧ regFld demo.core 0x89F00050 5 4 = 2
    ∧ regFld (demoWith [(0x89F00050, 0)]).core 0x89F00050 5 4 ≠ 2
    ∧ debugUnlocked demo.core = false
    ∧ debugUnlocked (demoWith [(0x8BF00000, 0x20000000)]).core = true
    ∧ portState (demoPort 0x26000000).core 0 = 2
    ∧ regFld (demoPort 0x26000000).core (portReg 0 4) 27 24 = 6
    ∧ admitOk (demoPort 0x26000000).core (demoPort 0x26000000).core.sec.allow partner7 = true
    ∧ admitOk (demoPort 0x26000000).core (demoPort 0x26000000).core.sec.allow { partner7 with inTime := false } = false
    ∧ portState (demoPort 0x30000000).core 0 ≠ 2
    ∧ demoNonce.core.sec.nonce = some ⟨List.replicate 8 5, 0⟩
    ∧ 0 + msTicks 60000 ≤ demoNonce.core.clock.uptime
    ∧ demo.core.sec.nonce = none :=
  ⟨by decide, by decide, by decide, by decide, by decide, by decide, by decide, by decide, by decide, by decide, by decide, by decide, by decide, by decide, by decide, by decide⟩

set_option maxRecDepth 20000 in
/-- The hypotheses of BlockAndRegionFaults are met. -/
theorem witness_BlockAndRegionFaults :
    accepted opFaultLogRead (cmd 0x81F00000 [0, 3]) demoLog = true
    ∧ accepted opBlockRestore (cmd 0x01F00000 []) (demoWith [(0x01F00C00, 0x80010000)]) = true
    ∧ ticketLeft opBlockRestore (cmd 0x01F00000 []) (demoWith [(0x01F00C00, 0x80010000)]) = true
    ∧ accepted opRegionRestore (cmd 0x0BE00000 []) (demoWith [(0x0BE00000, 0x80010000)]) = true
    ∧ ticketLeft opRegionRestore (cmd 0x0BE00000 []) (demoWith [(0x0BE00000, 0x80010000)]) = true
    ∧ 1 ≤ (3 : BitVec 8).toNat
    ∧ (3 : BitVec 8).toNat ≤ 5
    ∧ blockStopped demo.core 0 = false
    ∧ blockStopped demoParked.core 0 = true
    ∧ 6 ≤ (6 : BitVec 8).toNat
    ∧ (7 : BitVec 8).toNat ≤ 7
    ∧ 7 < (8 : BitVec 8).toNat
    ∧ (regionShut (demoWith [(0x0BE00000, 0x80010000)]).core 0 || moduleHalted (demoWith [(0x0BE00000, 0x80010000)]).core) = true
    ∧ (regionShut demo.core 0 || moduleHalted demo.core) = false
    ∧ trefPresent demoTrefOn.core = true
    ∧ regBit (onCore (setReg (treeReg 0 0x40) 7) demoTrefOn).core (treeReg 0 0x40) 1 = true
    ∧ trefPresent (onCore (setReg (treeReg 0 0x40) 7) demoTrefOn).core = true
    ∧ regBit (demoWith [(treeReg 0 0x40, 0)]).core (treeReg 0 0x40) 1 = false :=
  ⟨by decide, by decide, by decide, by decide, by decide, by decide, by decide, by decide, by decide, by decide, by decide, by decide, by decide, by decide, by decide, by decide, by decide, by decide⟩

set_option maxRecDepth 20000 in
/-- The hypotheses of ChipFaults are met. -/
theorem witness_ChipFaults :
    (3 : BitVec 8).toNat < 4
    ∧ 4 ≤ (4 : BitVec 8).toNat
    ∧ (6 : BitVec 8).toNat ≤ 6
    ∧ 6 < (7 : BitVec 8).toNat
    ∧ moduleHalted (demoWith [(0x81F00100, 0x80000000)]).core = true
    ∧ moduleHalted demo.core = false
    ∧ demo.core.stw.restarting = false
    ∧ amGet? demo.core.hub.entries 4 = none
    ∧ (amGet? demoHubEntry.core.hub.entries 4).isSome = true
    ∧ regBit demo.core 0x89F00080 31 = false
    ∧ regBit (demoWith [(0x89F00080, 0x80000000)]).core 0x89F00080 31 = true
    ∧ regionFenced (demoWith [(0x0BE00000, 0x80010000)]).core 0 = true
    ∧ regionFenced demo.core 0 = false
    ∧ regionStopped (demoWith [(0x0BE00000, 0x80010000)]).core 0 = true
    ∧ regionStopped demo.core 0 = false
    ∧ amGet? demoFaultSub.core.faultSubs (blockOfCell 5) = some { cell := 5, since := 0 }
    ∧ 0 + usTicks 20 ≤ demoFaultSub.core.clock.uptime
    ∧ amGet? demo.core.faultSubs (blockOfCell 5) = none
    ∧ blockParked demoParked.core 0 = true
    ∧ blockParked demo.core 0 = false
    ∧ ((demoSelfcalRun 7).core.cal.selfcal.map (fun r => (r.step, r.restore))) = some (7, false)
    ∧ (demoRestores.core.cal.selfcal.map (fun r => (r.step, r.restore, r.ticket))) = some (7, true, 0)
    ∧ demo.core.cal.selfcal = none :=
  ⟨by decide, by decide, by decide, by decide, by decide, by decide, by decide, by decide, by decide, by decide, by decide, by decide, by decide, by decide, by decide, by decide, by decide, by decide, by decide, by decide, by decide, by decide, by decide⟩

set_option maxRecDepth 20000 in
/-- LOAD_DONE's clause of LogicFabric is met by an image whose signature verifies; whether one does is a free value. -/
theorem witness_LogicFabric_load (h : Config.verify 0 (imageBytes demoLoad ⟨0, 0, 0⟩ 0 0x100) (imageBytes demoLoad ⟨0, 0, 0⟩ 0x100 96) = true) :
    loadFailure demoLoad 0 ⟨0, 0, 0⟩ = none := by
  have e1 : headerBad demoLoad ⟨0, 0, 0⟩ = false := by decide
  have e2 : signatureBad demoLoad ⟨0, 0, 0⟩ = false := by
    have a : (imageWord demoLoad ⟨0, 0, 0⟩ 0x14).toNat = 0 := by decide
    have b : imageLen demoLoad ⟨0, 0, 0⟩ = 0x180 := by decide
    have d : regBit demoLoad.core 0x8BF00000 20 = false := by decide
    simp only [signatureBad, a, b, Nat.add_zero, d]
    rw [h]
    decide
  have e3 : rollbackBad demoLoad ⟨0, 0, 0⟩ = false := by decide
  have e4 : imageRegions demoLoad ⟨0, 0, 0⟩ = [] := by decide
  have e5 : reservedSet demoLoad ⟨0, 0, 0⟩ = false := by decide
  simp only [loadFailure, e1, e2, e3, e4, e5]
  decide

/-- SEC_IMAGE_COMMIT's clause of SecurityCommands is met by a bank that passes its check, which the free values decide. -/
theorem witness_SecurityCommands_commit (k : Core) (n : Nat) (h1 : k.sec.erased.contains n = false)
    (h2 : Config.imageKey (bankBytes k n) ≤ 3) (h3 : keyRevoked k (Config.imageKey (bankBytes k n)) = false)
    (h4 : Config.verify (Config.imageKey (bankBytes k n)) (Config.imageBody (bankBytes k n)) (Config.imageSignature (bankBytes k n)) = true)
    (h5 : stewardCounter k ≤ Config.imageVersion (bankBytes k n)) : bankCheck k n = none := by
  have a : ¬ (3 < Config.imageKey (bankBytes k n)) := by omega
  have b : ¬ (Config.imageVersion (bankBytes k n) < stewardCounter k) := by omega
  simp only [bankCheck, h1, h3, h4, a, b, Bool.false_eq_true, not_true_eq_false, or_self, if_false]

set_option maxRecDepth 20000 in
/-- Both signature clauses of SEC_DEBUG_UNLOCK are met by a command that sends the nonce back: which one, the free value decides. -/
theorem witness_SecurityCommands_unlock :
    accepted opSecDebugUnlock (cmd 0x8BF00000 (List.replicate 32 5)) demoNonce = true
    ∧ (begun opSecDebugUnlock (cmd 0x8BF00000 (List.replicate 32 5)) demoNonce).core.sec.nonce = some ⟨List.replicate 8 5, 0⟩
    ∧ (List.replicate 32 (5 : Word)).take 8 = List.replicate 8 5 := ⟨by decide, by decide, by decide⟩


end Sys2Proof.Tests
end

section
/-! SUPPORT. Accesses of one word at an offset that holds no register (R35): the read gives 0, the write is discarded, and
neither does anything else. -/

namespace Sys2Proof.Machine

/-- One register from an address is that address. -/
@[simp] theorem regRange_one (a : Nat) : regRange a 1 = [a] := rfl

/-- Reading one register. -/
theorem readRegs_singleton (a : Nat) (k : Core) : readRegs [a] k = ([(readRegEff k a).1], (readRegEff k a).2) := rfl

/-- Applying one word. -/
@[simp] theorem applyWords_singleton (a : Nat) (v : Word) (k : Core) : applyWords [(a, v)] k = applyWord a v k := rfl

/-- A read of a hole that no latched upper half shadows gives 0 and changes nothing. -/
theorem readRegEff_hole (k : Core) (a : Nat) (h : rowOf a = none) (hl : amGet? k.hiLatch a = none) : readRegEff k a = (0, k) := by
  simp [readRegEff, hl, latchesHi_hole a h, readReg_hole k a h]

/-- A word written to a hole is discarded. -/
theorem applyWord_hole (a : Nat) (v : Word) (k : Core) (h : rowOf a = none) : applyWord a v k = k := by
  unfold applyWord
  rw [h]

/-- A REG_WRITE of one word writes it to the target. -/
theorem regPairs_singleton (c : Cmd) (v : Word) (h : c.params = [v]) : regPairs c = [(c.target.toNat, v)] := by
  simp [regPairs, h]

/-- The immediate part of a REG_READ of one word at a hole. -/
theorem runRegRead_hole (c : Cmd) (n : Nat) (s : State) (h1 : pn c.params 0 = 1) (h : rowOf c.target.toNat = none)
    (hl : amGet? s.core.hiLatch c.target.toNat = none) : opRegRead.run c n s = .done stDone [0] s := by
  simp [opRegRead, h1, readRegs_singleton, readRegEff_hole _ _ h hl]

/-- An immediate REG_WRITE of one word at a hole leaves the state in which it began. -/
theorem written_hole (d : OpDef) (c : Cmd) (s : State) (a : Nat) (v : Word) (hf : c.folio = 0) (h : rowOf a = none) :
    written d c [(a, v)] [] s = replied d c stDone [] (begun d c s) := by
  have hk : onCore (applyWords [(a, v)]) (begun d c s) = begun d c s := by
    simp only [onCore, applyWords_singleton, applyWord_hole a v _ h]
  rw [written, if_pos hf, hk]

/-- Settles O12: the immediate parts of REG_READ and REG_WRITE at a hole leave the state in which they began. -/
theorem holeAccess : Obligations.HoleAccess := by
  unfold Obligations.HoleAccess
  refine ⟨fun c s _ ha h1 _ h hl => ?_, fun c s _ v ha hf hp _ h => ?_⟩
  · exact congrArg Host.Outcome.next (takeCmd_done _ _ _ _ _ _ ha (runRegRead_hole c _ _ h1 h hl))
  · have hw : takeCmd opRegWrite c s = written opRegWrite c [(c.target.toNat, v)] [] s :=
      takeCmd_written _ _ _ _ _ ha (by rw [← regPairs_singleton c v hp]; rfl)
    exact congrArg Host.Outcome.next (hw.trans (written_hole _ c s _ v hf h))

end Sys2Proof.Machine
end

section
/-! SUPPORT. A command that a check refuses (Table CMD-5), and the check of SAFE_MV in a written level register (R48). -/

namespace Sys2Proof.Machine

/-! ### Commands refused by their parameters -/

/-- A check that passes leaves the first refusal to the others. -/
@[simp] theorem firstSome_cons_none (l : List (Option Status)) : firstSome (none :: l) = firstSome l := rfl

/-- A check that fails first gives the refusal. -/
@[simp] theorem firstSome_cons_some (st : Status) (l : List (Option Status)) : firstSome (some st :: l) = some st := rfl

/-- A command that starts and fails a check is answered with that check's status and data, and does nothing else. -/
theorem takeCmd_refused (d : OpDef) (c : Cmd) (s : State) (k : Core) (e : Status × List Word) (hj : joinChain c s.core = some k)
    (hw : sourceWaits k c = false) (hs : startable d c { s with core := k } = true)
    (hr : refusal d c (onCore (markStart d.opcode c) { s with core := k }) = some e) :
    takeCmd d c s = replied d c e.1 e.2 (onCore (markStart d.opcode c) { s with core := k }) := by
  unfold takeCmd
  simp only [hj, hw, hs, Bool.false_eq_true, not_false_eq_true, and_self, if_true]
  unfold serve
  rw [hr]
  rfl

/-- A command that passes checks 2 to 6 and fails check 7 is refused with the status of that check. -/
theorem refusal_of_params (d : OpDef) (c : Cmd) (s : State) (st : Status) (hf : c.flags &&& 0xFC#8 = 0) (hn : sessionOf s.core c ≠ 0)
    (hp : permission d c s = none) (ht : targetCheck d c s = none) (h : d.params c s = some st) : refusal d c s = some (st, []) := by
  have hn' : (sessionOf s.core c == 0) = false := beq_eq_false_iff_ne.mpr hn
  simp [refusal, refuseIf, hf, hn', hp, ht, h]

/-- The target of a command that passes check 6 is not refused. -/
theorem targetRefusal_of_targetCheck (d : OpDef) (c : Cmd) (s : State) (h : targetCheck d c s = none) :
    targetRefusal s.core c.target.toNat = none := by
  unfold targetCheck at h
  split at h
  · cases h
  · split at h
    · cases h
    · assumption

/-- An address that is not refused is a word address. -/
theorem mod_four_of_targetRefusal (k : Core) (a : Nat) (h : targetRefusal k a = none) : a % 4 = 0 := by
  unfold targetRefusal at h
  split at h
  · cases h
  · split at h
    · cases h
    · omega

/-! ### Level registers (R48, R78) -/

/-- The row of the level registers of the voltages, VIH to VTT_LEVEL and the thresholds. -/
def levelRow : RegRow := ⟨0x20, 6, 4, 1, 4, 0x80004000, 0x8FFFFFFF, 0, 0, 0, false⟩

/-- The word offsets from 0x20 to 0x34 of every cell page hold level registers. -/
theorem rowOf_level (a x : Nat) (hp : pageOf a = some (.cell x)) (h4 : a % 4 = 0) (hl : 0x20 ≤ pageOff a) (hu : pageOff a < 0x38) :
    rowOf a = some levelRow := by
  have hrow : ∀ i : Fin 6, rowsCell.find? (fun r => rowCovers r (0x20 + 4 * i.val)) = some levelRow := by decide
  have hoff : pageOff a = 0x20 + 4 * ((pageOff a - 0x20) / 4) := by unfold pageOff at *; omega
  have hfind := hrow ⟨(pageOff a - 0x20) / 4, by omega⟩
  simp only [← hoff] at hfind
  rw [rowOf_page a _ hp]
  simp only [pageRows]
  split
  · rw [List.find?_append, hfind, Option.some_or]
  · exact hfind

/-- SAFE_MV lies within the bits that a level register implements. -/
theorem safeMv_and_levelMask (v : Word) : safeMv (v &&& 0x8FFFFFFF#32) = safeMv v := by
  have hmask : ∀ i : Fin 12, (0x8FFFFFFF#32).getLsbD (i.val + 16) = true := by decide
  have hfld : fld (v &&& 0x8FFFFFFF#32) 27 16 = fld v 27 16 := by
    apply Nat.eq_of_testBit_eq
    intro i
    rw [fld_testBit, fld_testBit, BitVec.getLsbD_and]
    by_cases hi : i < 12
    · rw [hmask ⟨i, hi⟩, Bool.and_true]
    · simp [hi]
  unfold safeMv
  rw [hfld]

/-- A level word whose SAFE_MV lies outside −500 mV to +1500 mV is refused as a value. -/
theorem valueRefusal_safeMv (k : Core) (view : Nat → Word) (fab a x : Nat) (raw v : Word) (hp : pageOf a = some (.cell x))
    (hl : 0x20 ≤ pageOff a) (hu : pageOff a < 0x38) (hv : safeMv v < -500 ∨ 1500 < safeMv v) :
    valueRefusal k view fab a raw v = some stParameter := by
  have hcell : cellValueRefuse view x (pageOff a) v = some stParameter := by
    unfold cellValueRefuse
    rw [if_neg (by omega), if_neg (by omega), if_neg (by omega), if_neg (by omega), if_pos ⟨hl, hu⟩]
    simp only [refuseIf, Bool.or_eq_true, decide_eq_true_eq, if_pos hv]
  unfold valueRefusal
  rw [hp]
  simp only [cellRefuse, hcell, firstSome_cons_some]

/-- Any write of one such word, at once or into a folio, is refused with PARAMETER. -/
theorem requestRefusal_safeMv (k : Core) (view : Nat → Word) (folio : Word) (a x : Nat) (v : Word) (ht : targetRefusal k a = none)
    (hp : pageOf a = some (.cell x)) (hl : 0x20 ≤ pageOff a) (hu : pageOff a < 0x38) (hv : safeMv v < -500 ∨ 1500 < safeMv v) :
    requestRefusal k view folio [(a, v)] = some stParameter := by
  have hrow := rowOf_level a x hp (mod_four_of_targetRefusal k a ht) hl hu
  have hval := valueRefusal_safeMv k (overlay [(a, v)] view) (folioFab k folio) a x v (v &&& 0x8FFFFFFF#32) hp hl hu
    (by rwa [safeMv_and_levelMask])
  simp [requestRefusal, wordRefusals, hrow, hval, ht, refuseIf, unstageable, levelRow, isRequest, Option.filter]

/-- So is a REG_WRITE of that word, by check 7. -/
theorem opRegWrite_params_safeMv (c : Cmd) (s : State) (v : Word) (x : Nat) (hc : c.params = [v])
    (ht : targetRefusal s.core c.target.toNat = none) (hp : pageOf c.target.toNat = some (.cell x)) (hl : 0x20 ≤ pageOff c.target.toNat)
    (hu : pageOff c.target.toNat < 0x38) (hv : safeMv v < -500 ∨ 1500 < safeMv v) : opRegWrite.params c s = some stParameter := by
  have hreq := requestRefusal_safeMv s.core (viewOf s.core c.folio) c.folio _ x v ht hp hl hu hv
  simp [opRegWrite, pairsRequest, regPairs_singleton c v hc, hreq, hc, inRange, outside, refuseIf]

/-- Settles O14: check 7 judges the word by its SAFE_MV, whatever the folio, before any state is looked at. -/
theorem safeMillivoltsRefused : Obligations.SafeMillivoltsRefused := by
  unfold Obligations.SafeMillivoltsRefused
  rintro c s t k v x hj hw hs rfl hf hn hp ht hc hpage hl hu hv
  have hparams := opRegWrite_params_safeMv c _ v x hc (targetRefusal_of_targetCheck _ _ _ ht) hpage hl hu hv
  exact ⟨congrArg Host.Outcome.next (takeCmd_refused _ _ _ _ _ hj hw hs (refusal_of_params _ _ _ _ hf hn hp ht hparams)), by decide⟩

end Sys2Proof.Machine
end

section
/-! What the module holds at reset (R19). -/

namespace Sys2Proof.Machine

/-- Settles O11: every register reads its table's reset value, no entry of the sparse maps standing over it. -/
theorem resetValues : Obligations.ResetValues := by
  unfold Obligations.ResetValues
  refine ⟨⟨rfl, rfl⟩, rfl, rfl, rfl, ?_, ?_, ?_, ?_, ?_, ?_, rfl, rfl, rfl, rfl, rfl, rfl⟩
  all_goals decide

end Sys2Proof.Machine
end

section
/-! SUPPORT. What the events of the level DACs, the span sequence and the drivers do where their conditions stand (R49 to R57). -/

namespace Sys2Proof.Machine

/-! ### Cells -/

/-- A cell's record reads as it was set. -/
@[simp] theorem cellOf_setCell_same (c : Nat) (x : CellInt) (k : Core) : cellOf (setCell c x k) c = x :=
  amGetD_amSet_same _ _ _ _

/-- A cell's record is read from the cells alone. -/
theorem cellOf_congr (k k' : Core) (c : Nat) (h : k'.cells = k.cells) : cellOf k' c = cellOf k c := by
  unfold cellOf
  rw [h]

/-- A driver that is stopped for its current drives nothing (R54). -/
theorem driveState_of_oc (k : Core) (c : Nat) (h : regBit k (cellReg c 0x50) 18 = true) : driveState k c = .z := by
  unfold driveState
  rw [if_pos (.inl h)]

/-- Setting OC takes a driver to high impedance (R54). -/
theorem drive_refreshDrive_oc (c : Nat) (k : Core) : (cellOf (refreshDrive c (setRegBit (cellReg c 0x50) 18 true k)) c).drive = .z := by
  have hoc (x : CellInt) : driveState (setCell c x (setRegBit (cellReg c 0x50) 18 true k)) c = .z :=
    driveState_of_oc _ c (regBit_setRegBit_same (cellReg c 0x50) 18 true k (by omega))
  unfold refreshDrive
  rw [cellOf_congr (setCell c _ _) _ c (setRegBit_cells _ _ _ _), cellOf_setCell_same]
  exact hoc _

/-! ### Levels (R49 to R51) -/

/-- One interval of a change under way. -/
theorem opLevelSlewInterval_under_way (c i : Nat) (k : Core) (h : (dacOf k c i).k < (dacOf k c i).n) :
    opLevelSlewInterval c i k = setDac c i { dacOf k c i with
      k := (dacOf k c i).k + 1
      out := ((dacOf k c i).a + roundDiv (((dacOf k c i).k + 1 : Nat) * ((dacOf k c i).b - (dacOf k c i).a : Int))
        (dacOf k c i).n).toNat } k := by
  have hdone : slewDone (dacOf k c i) = false := by
    unfold slewDone
    exact decide_eq_false (by omega)
  have hn : (dacOf k c i).n ≠ 0 := by omega
  simp only [opLevelSlewInterval, hdone, Bool.false_eq_true, if_false, slewCode, hn]

/-- At the safe level the dwell begins (Table PIN-4, step 2). -/
theorem opSpanSafeReached_at_safe (c i : Nat) (k : Core) (hp : (dacOf k c i).phase = .toSafe) (hd : (dacOf k c i).n ≤ (dacOf k c i).k) :
    opSpanSafeReached c i k = setDac c i { dacOf k c i with phase := .dwell, dwellEnd := k.clock.uptime + 400 } k :=
  if_pos ⟨hp, decide_eq_true hd⟩

/-- After the dwell the span switches and the change to the target begins (Table PIN-4, steps 3 and 4). -/
theorem opSpanDwellEnd_switches (c i : Nat) (k : Core) (hp : (dacOf k c i).phase = .dwell) (ht : (dacOf k c i).dwellEnd ≤ k.clock.uptime)
    (hs : bit (dacOf k c i).target 31 ≠ (dacOf k c i).fine) :
    opSpanDwellEnd c i k = setDac c i (startSlew i (stepMv k c) (fld (dacOf k c i).target 15 0)
      { dacOf k c i with
        fine := bit (dacOf k c i).target 31
        phase := .toTarget
        out := safeCode (bit (dacOf k c i).target 31) (codeMv (dacOf k c i).fine (dacOf k c i).out) }) k := by
  simp only [opSpanDwellEnd, hp, ht, hs, and_self, if_true, if_false]

/-- At the target the sequence ends (Table PIN-4, step 5). -/
theorem opSpanDone_at_target (c i : Nat) (k : Core) (hp : (dacOf k c i).phase = .toTarget) (hd : (dacOf k c i).n ≤ (dacOf k c i).k) :
    opSpanDone c i k = recordCause (cellReg c 0x54) 4 (setRegBit (cellReg c 0x50) i false
      (setDac c i { dacOf k c i with phase := .idle } k)) :=
  if_pos ⟨hp, decide_eq_true hd⟩

/-! ### Over-current and clamps (R54, R57) -/

/-- A driver that drives is stopped for its current. -/
theorem opDrvOc_driving (c : Nat) (k : Core) (h : (cellOf k c).drive ≠ .z) :
    opDrvOc c k = recordCause (cellReg c 0x54) 1 (refreshDrive c (setRegBit (cellReg c 0x50) 18 true k)) := if_neg h

/-- A clamp of a cell that has a pin is recorded. -/
theorem opClamp_pin (c : Nat) (k : Core) (h : c % 17 ≠ 16) : opClamp c k = recordCause (cellReg c 0x54) 0 k := if_neg h

/-! ### The commands and events together -/

/-- Settles O15: each command by its kind of immediate part, each event by the branch its condition selects. -/
theorem pinCommands : Obligations.PinCommands := by
  unfold Obligations.PinCommands
  refine ⟨⟨fun c s h => ?_, fun c s h => ?_, fun c s h => ?_, fun c s h hf => ?_, fun c s h hf => ?_, fun c s h hf => ?_⟩,
    fun c i s h => ?_, fun c i s hp hd => ?_, fun c i s hp ht hs => ?_, fun c i s hp hd => ?_, fun c s h => ?_,
    drive_refreshDrive_oc, fun c s h => ?_⟩
  · exact congrArg Host.Outcome.next (takeCmd_written _ _ _ _ _ h rfl)
  · exact congrArg Host.Outcome.next (takeCmd_written _ _ _ _ _ h rfl)
  · exact congrArg Host.Outcome.next (takeCmd_done _ _ _ _ _ _ h rfl)
  · exact congrArg Host.Outcome.next (takeCmd_ticketed _ _ _ _ _ _ _ h hf rfl)
  · exact congrArg Host.Outcome.next (takeCmd_ticketed _ _ _ _ _ _ _ h hf rfl)
  · exact congrArg Host.Outcome.next (takeCmd_ticketed _ _ _ _ _ _ _ h hf rfl)
  · exact next_onCore _ _ s (opLevelSlewInterval_under_way _ _ _ h)
  · exact next_onCore _ _ s (opSpanSafeReached_at_safe _ _ _ hp hd)
  · exact next_onCore _ _ s (opSpanDwellEnd_switches _ _ _ hp ht hs)
  · exact next_onCore _ _ s (opSpanDone_at_target _ _ _ hp hd)
  · exact next_onCore _ _ s (opDrvOc_driving _ _ h)
  · exact next_onCore _ _ s (opClamp_pin _ _ h)

end Sys2Proof.Machine
end

section
/-! SUPPORT. What the events of contact checks, hand-offs and substitutions do where their conditions stand (R64 to R75, R545). -/

namespace Sys2Proof.Machine

/-! ### Contact checks (R64, R254, R545) -/

/-- At its tick a contact check saves and sets the pins that it can connect. -/
theorem opContactCheckAccession_contact (id : Word) (pins t0 : List Nat) (ctl voh vol : Word) (start x : Nat) (k : Core)
    (hw : workOf k id = some (.contactCheck pins t0 ctl voh vol start x false)) (ht : start ≤ k.clock.chron) :
    opContactCheckAccession id k = setWork id (.contactCheck pins (pins.filter (connectable k)) ctl voh vol start
        (k.clock.chron + sampleTicks k (pins.filter (connectable k)) ctl voh vol) true)
      ((pins.filter (connectable k)).foldl (fun acc p => applyCheck ctl voh vol p acc) k) := by
  unfold opContactCheckAccession
  rw [hw]
  exact if_pos ht

/-- So does a window-monitor check. -/
theorem opContactCheckAccession_wm (id : Word) (pins t0 : List Nat) (start nx ps : Nat) (k : Core)
    (hw : workOf k id = some (.wmCheck pins t0 start none nx ps)) (ht : start ≤ k.clock.chron) :
    opContactCheckAccession id k = setWork id (.wmCheck pins (pins.filter (connectable k)) start
        (some (k.clock.chron + thresholdTicks k (pins.filter (connectable k)) 0x68BA 0x68BA)) nx ps)
      ((pins.filter (connectable k)).foldl (fun acc p => applyWmCheck p acc) k) := by
  unfold opContactCheckAccession
  rw [hw]
  exact if_pos ht

/-- At its sample a contact check restores the pins, and its result is ready 1 µs later. -/
theorem opContactCheckSample_due (id : Word) (ch cl : PinMask) (pins tested : List Nat) (ctl voh vol : Word) (start at_ : Nat) (k : Core)
    (hw : workOf k id = some (.contactCheck pins tested ctl voh vol start at_ true)) (ht : at_ ≤ k.clock.chron) :
    opContactCheckSample id ch cl k = setWork id (.ending (k.clock.chron + 200) stDone (contactResult tested ch cl))
      (tested.foldl (fun acc p => restoreRegs p acc) k) := by
  unfold opContactCheckSample
  rw [hw]
  exact if_pos ht

/-! ### Hand-offs (R70, R71) -/

/-- A host's hand-off to the spare. -/
theorem opHandoff_to_spare (b : Nat) (h : Handoff) (k : Core) (hg : amGet? k.handoffs b = some h) (hs : h.toSpare = true)
    (hr : h.reason = .host) (ht : h.ticket ≠ 0) : opHandoff b k = completeTicket h.ticket stDone []
      (recordCause (cellReg (cellOfBlock b h.cell) 0x54) 3 (spareTakes b h.cell 3 (dropHandoff b k))) := by
  unfold opHandoff
  rw [hg]
  simp only [hs, hr, if_true, if_pos ht, reduceCtorEq, if_false]

/-- A host's hand-off back to the owner. -/
theorem opHandoff_to_owner (b : Nat) (h : Handoff) (k : Core) (hg : amGet? k.handoffs b = some h) (hs : h.toSpare = false)
    (hr : h.reason = .host) (ht : h.ticket ≠ 0) (hc : spareCarrying k b = h.cell) :
    opHandoff b k = completeTicket h.ticket stDone [] (spareReturns b (dropHandoff b k)) := by
  unfold opHandoff
  rw [hg]
  simp only [hs, hr, hc, if_true, if_pos ht, Bool.false_eq_true, if_false]

/-- A host's hand-off that found no quiet beat. -/
theorem opHandoffTimeout_due (b : Nat) (h : Handoff) (k : Core) (hg : amGet? k.handoffs b = some h) (ht : h.ticket ≠ 0)
    (hd : h.since + quietLimit k b ≤ k.clock.uptime) :
    opHandoffTimeout b k = completeTicket h.ticket stWaiting [] (dropHandoff b k) := by
  unfold opHandoffTimeout
  rw [hg]
  simp only [hd, ht, ne_eq, not_false_eq_true, if_true]

/-! ### Faults of cells (R72, R73, R513) -/

/-- The fault of a cell in a stopped block is logged alone. -/
theorem opCellFault_contained (pin code : Nat) (k : Core) (hb : blockStopped k (blockOfCell (cellOfPin pin)) = true) :
    opCellFault pin code k = logFault 0 0 code (pageBase (.cell (cellOfPin pin))) 0 k :=
  if_pos (.inl hb)

/-- The fault of a cell whose idle spare may take its pin: the pin is parked, and a fault substitution starts. -/
theorem opCellFault_substitutes (pin code b c : Nat) (k k1 : Core) (hc : c = cellOfPin pin) (hb : b = blockOfCell c)
    (hk : k1 = parkPin c (endTurnOf b (c % 17) (markFault c code k)))
    (hs : blockStopped k b = false) (hf : regBit k (cellReg c 0x50) 22 = false) (hn : 16 ≤ spareCarrying k b)
    (ho : spareCarrying k b ≠ c % 17) (ha : regBit k (blockReg b 0) 0 = true) (hr : spareReason k b = 0)
    (hsub : amGet? k.faultSubs b = none) (hh : amGet? k.handoffs b = none) :
    opCellFault pin code k = logFault 0 1 code (pageBase (.cell c)) 0
      { k1 with faultSubs := amSet k1.faultSubs b { cell := c % 17, since := k.clock.uptime } } := by
  subst hc hb hk
  have hn' : ¬ spareCarrying k (blockOfCell (cellOfPin pin)) < 16 := by omega
  simp [opCellFault, cellContained, hs, hf, ho, hh, ha, hr, hsub, hn']

/-- The fault of an idle spare cell. -/
theorem opSpareFault_idle (b code : Nat) (k : Core) (hs : blockStopped k (blockOfCell (cellOfBlock b 16)) = false)
    (hr : spareReason k b ≠ 4) (hn : 16 ≤ spareCarrying k b) (hsub : amGet? k.faultSubs b = none) (hh : amGet? k.handoffs b = none) :
    opSpareFault b code k = logFault 0 0 code (pageBase (.cell (cellOfBlock b 16))) 0 (setSpare b 4 0x1F
      (recordCause (cellReg (cellOfBlock b 16) 0x54) 2 (markFault (cellOfBlock b 16) code k))) := by
  have hn' : ¬ spareCarrying k b < 16 := by omega
  simp [opSpareFault, cellContained, cancelHandoff, hs, hr, hh, hsub, hn']

/-! ### Fault substitutions (R73, R74) -/

/-- 10 µs after a fault another pin that the spare carries is forced back. -/
theorem opSpareForcedReturn_due (b : Nat) (f : FaultSub) (k : Core) (hg : amGet? k.faultSubs b = some f) (hc : spareCarrying k b < 16)
    (ho : spareCarrying k b ≠ f.cell) (hd : f.since + 2000 ≤ k.clock.uptime) :
    opSpareForcedReturn b k = spareReturns b (dropHandoff b k) := by
  unfold opSpareForcedReturn
  rw [hg]
  exact if_pos ⟨hc, ho, hd⟩

/-- A switch's position shown leaves the cells. -/
@[simp] theorem refreshSwitch_cells (c : Nat) (k : Core) : (refreshSwitch c k).cells = k.cells := rfl

/-- The spare connects to the faulted cell's pin: the owner's switch is no longer held open by the fault, and the substitution
is recorded on the owner. -/
theorem opFaultSubstitutionConnect_connects (b : Nat) (f : FaultSub) (k : Core) (hg : amGet? k.faultSubs b = some f)
    (hn : 16 ≤ spareCarrying k b) (ht : f.ticket = 0) :
    (cellOf (opFaultSubstitutionConnect b k) (cellOfBlock b f.cell)).faultOpen = false
      ∧ regBit (opFaultSubstitutionConnect b k) (cellReg (cellOfBlock b f.cell) 0x54) (16 + 5) = true := by
  unfold opFaultSubstitutionConnect
  rw [hg]
  have hn' : ¬ spareCarrying k b < 16 := by omega
  simp only [hn', ht, ne_eq, not_true_eq_false, if_false]
  refine ⟨?_, recordCause_set _ _ _ (by omega)⟩
  rw [cellOf_congr (refreshSwitch _ _) _ _ (recordCause_cells _ _ _), cellOf_congr (setCell _ _ _) _ _ (refreshSwitch_cells _ _),
    cellOf_setCell_same]

/-- A switch request older than the block's incarnation puts the cell in standby. -/
theorem opStaleSwitchRequest_old (c : Nat) (inc : Word) (k : Core) (ho : olderInc inc (reg k (blockReg (blockOfCell c) 8)) = true)
    (hs : regBit k (cellReg c 0x50) 23 = false) :
    opStaleSwitchRequest c inc k = recordCause (cellReg c 0x54) 5 (setRegBit (cellReg c 0x50) 23 true k) :=
  if_pos ⟨ho, by rw [hs]; decide⟩

/-! ### The events together -/

/-- Settles O16: each event by the branch that its condition selects. -/
theorem substitutionEvents : Obligations.SubstitutionEvents := by
  unfold Obligations.SubstitutionEvents
  refine ⟨fun id pins t0 ctl voh vol start x s hw ht => ?_, fun id pins t0 start nx ps s hw ht => ?_,
    fun id ch cl pins tested ctl voh vol start x s hw ht => ?_, fun b h s hg hs hr ht => ?_, fun b h s hg hs hr ht hc => ?_,
    fun b h s hg ht hd => ?_, fun p n s hs hf hn ho ha hr hsub hh => ?_, fun p n s hb => ?_, fun b n s hs hr hn hsub hh => ?_,
    fun b f s hg hc ho hd => ?_, fun b f s hg hn ht => ?_, fun c inc s ho hs => ?_⟩
  · exact next_onCore _ _ s (opContactCheckAccession_contact id pins t0 ctl voh vol start x _ hw ht)
  · exact next_onCore _ _ s (opContactCheckAccession_wm id pins t0 start nx ps _ hw ht)
  · exact next_onCore _ _ s (opContactCheckSample_due id ch cl pins tested ctl voh vol start x _ hw ht)
  · exact next_onCore _ _ s (opHandoff_to_spare _ h _ hg hs hr ht)
  · exact next_onCore _ _ s (opHandoff_to_owner _ h _ hg hs hr ht hc)
  · exact next_onCore _ _ s (opHandoffTimeout_due _ h _ hg ht hd)
  · exact next_onCore _ _ s (congrArg (relinquishUnspared (p.val / 16) s.core)
      (opCellFault_substitutes _ _ _ _ _ _ rfl rfl rfl hs hf hn ho ha hr hsub hh))
  · exact next_onCore _ _ s (congrArg (relinquishUnspared (p.val / 16) s.core) (opCellFault_contained _ _ _ hb))
  · exact next_onCore _ _ s (congrArg (relinquishUnspared b.val s.core) (opSpareFault_idle _ _ _ hs hr hn hsub hh))
  · exact next_onCore _ _ s (opSpareForcedReturn_due _ f _ hg hc ho hd)
  · obtain ⟨hopen, hcause⟩ := opFaultSubstitutionConnect_connects b.val f s.core hg hn ht
    exact ⟨onCore (opFaultSubstitutionConnect b.val) s, rfl, hopen, hcause, rfl, rfl, rfl⟩
  · exact next_onCore _ _ s (opStaleSwitchRequest_old _ _ _ ho hs)

end Sys2Proof.Machine
end

section
/-! SUPPORT. When two outcomes of an event are one: by what its change of the state comes to at the state at hand. -/

namespace Sys2Proof.Machine

/-- A change that leaves the state at hand leaves it whole. -/
theorem next_onCore_self (f : Core → Core) (s : State) (h : f s.core = s.core) :
    (Host.Outcome.next (onCore f s) : Host.Outcome State Fault Refusal) = .next s := by
  unfold onCore; rw [h]

/-- A change that reads the memories and one that does not give the same outcome where they agree on the state at hand. -/
theorem next_onCoreMem (f : Memory → Memory → Core → Core) (g : Core → Core) (s : State) (h : f s.qdr s.arc s.core = g s.core) :
    (Host.Outcome.next (onCoreMem f s) : Host.Outcome State Fault Refusal) = .next (onCore g s) := by
  unfold onCoreMem onCore; rw [h]

end Sys2Proof.Machine
end

section
/-! SUPPORT. What a tick of an empty queue does (R96, R107, R321, R322): the tick leaves everything but the clock, and Steward
starts the waiting command that its arbiter and the rotation choose. -/

namespace Sys2Proof.Machine

/-! ### The tick -/

/-- A step on an empty queue is the passing of a tick. -/
theorem step_of_empty (s : State) (h : s.pending = []) : step s = .next (idle s) := by
  unfold step
  rw [h]

@[simp] theorem tick_car (k : Core) : (tick k).car = k.car := rfl

/-- The tick leaves Steward as busy as it was. -/
@[simp] theorem stewardBusy_tick (k : Core) : stewardBusy (tick k) = stewardBusy k := rfl

/-- With no broadcast of this root to execute Steward looks for a waiting command. -/
theorem idle_of_no_broadcast (s : State) (hb : s.core.car.bcast = []) : idle s = serveNext (onCore tick s) := by
  unfold idle
  simp only [onCore_core, tick_car, hb, ite_self]

/-- The root's own copy of a broadcast is executed once Steward is free (R395). -/
theorem idle_of_broadcast (s : State) (op : BitVec 16) (c : Cmd) (l : List (BitVec 16 × Cmd)) (hf : stewardBusy s.core = false)
    (hb : s.core.car.bcast = (op, c) :: l) :
    idle s = runInner op c (onCore (fun k => { k with car := { k.car with bcast := l } }) (onCore tick s)) := by
  unfold idle
  simp only [onCore_core, tick_car, stewardBusy_tick, hf, hb, Bool.false_eq_true, if_false]

/-! ### The choice of the next command (R305, R322) -/

/-- No slot is first in rotation order of none. -/
theorem firstInRotation_nil (p n : Nat) : firstInRotation p n [] = none := by
  simp [firstInRotation]

/-- Without a request no slot is eligible. -/
theorem eligible_nil (k : Core) (a : ArbiterId) (ta : List Nat) : eligible k a ta [] = [] := rfl

/-- Without an eligible slot an arbiter grants none. -/
theorem granted_nil (k : Core) (a : ArbiterId) : granted k a [] = none := firstInRotation_nil _ _

/-- Where no head of a source may start, Steward starts nothing. -/
theorem serveNext_of_none (s : State) (h : ∀ e ∈ heads s.core, mayStart e.2.1 e.2.2 s = false) : serveNext s = s := by
  have hl : (heads s.core).filter (fun e => mayStart e.2.1 e.2.2 s) = [] :=
    List.filter_eq_nil_iff.2 fun e he => by rw [h e he]; decide
  unfold serveNext
  simp only [hl, List.map_nil, List.eraseDups_nil, eligible_nil, granted_nil]

/-- Where one command waits, it may start and its class is granted, the arbiter counts the decision and the command starts. -/
theorem serveNext_of_one (s : State) (h : Nat × BitVec 16 × Cmd) (hs : heads s.core = [h]) (hi : h.1 < 81)
    (hm : mayStart h.2.1 h.2.2 s = true)
    (hg : granted s.core .steward (eligible s.core .steward [] [cmdClass h.2.1 h.2.2]) = some (cmdClass h.2.1 h.2.2)) :
    serveNext s = startWaiting h (onCore (opArbiterDecision .steward [(cmdClass h.2.1 h.2.2, 0)] []) s) := by
  have hl : (heads s.core).filter (fun e => mayStart e.2.1 e.2.2 s) = [h] := by rw [hs]; exact List.filter_cons_of_pos hm
  have hc : [cmdClass h.2.1 h.2.2].eraseDups = [cmdClass h.2.1 h.2.2] := rfl
  have hr : firstInRotation s.core.stw.source 81 [h.1] = some h.1 := firstInRotation_one _ _ _ hi
  unfold serveNext
  simp only [hl, List.map_cons, List.map_nil, hc, hg, beq_self_eq_true, List.filter_cons_of_pos, List.filter_nil, hr,
    List.find?_cons_of_pos]

/-- Settles O2: the tick, and then what `idle` does by the broadcasts that stand and the commands that wait. -/
theorem idleServes : Obligations.IdleServes := by
  unfold Obligations.IdleServes
  refine ⟨fun s => ⟨rfl, rfl⟩, fun s hp hb hh => ?_, fun s op c l hp hf hb => ?_, fun s h hp hb hh hi _ hm hg => ?_⟩
  · rw [step_of_empty s hp, idle_of_no_broadcast s hb, serveNext_of_none (onCore tick s) hh]
  · rw [step_of_empty s hp, idle_of_broadcast s op c l hf hb]
  · rw [step_of_empty s hp, idle_of_no_broadcast s hb, serveNext_of_one (onCore tick s) h hh hi hm hg]

end Sys2Proof.Machine
end

section
/-! SUPPORT. What a setting of the Chronicle leaves in the clock (R105, R311), and the timing opcodes (R111). -/

namespace Sys2Proof.Machine

/-! ### The Chronicle set (R105) -/

/-- A step of the Chronicle makes the count the value; of the rest of the clock it moves the next refill alone. -/
theorem stepChronicle_clock (v : Nat) (k : Core) :
    (stepChronicle v k).clock = (refillAfterStep { k with clock := { k.clock with chron := v } }).clock := by
  unfold stepChronicle
  split
  · exact relinquishAll_clock _
  · rfl

@[simp] theorem stepChronicle_chron (v : Nat) (k : Core) : (stepChronicle v k).clock.chron = v := by
  rw [stepChronicle_clock]; rfl
@[simp] theorem stepChronicle_c0 (v : Nat) (k : Core) : (stepChronicle v k).clock.c0 = k.clock.c0 := by
  rw [stepChronicle_clock]; rfl
@[simp] theorem stepChronicle_entrySince (v : Nat) (k : Core) : (stepChronicle v k).clock.entrySince = k.clock.entrySince := by
  rw [stepChronicle_clock]; rfl

/-- CHRONICLE_SET while the keeper counts. -/
theorem setChronicle_of_keeper (v : Nat) (k : Core) (h : k.clock.by_ = .keeper) :
    setChronicle v k = stepChronicle v { k with clock := { k.clock with
      reSetMark := k.clock.reSetMark || role k == 1, c0 := v, entrySince := k.clock.uptime } } := if_pos h

/-- CHRONICLE_SET while the keeper does not count. -/
theorem setChronicle_of_not_keeper (v : Nat) (k : Core) (h : k.clock.by_ ≠ .keeper) :
    setChronicle v k = setRegBit 0x8FF0000C 2 false (stepChronicle v { k with clock := { k.clock with
      reSetMark := k.clock.reSetMark || role k == 1 } }) := if_neg h

/-- Whatever counts it, the Chronicle takes the value. -/
theorem setChronicle_chron (v : Nat) (k : Core) : (setChronicle v k).clock.chron = v := by
  by_cases h : k.clock.by_ = .keeper
  · rw [setChronicle_of_keeper v k h, stepChronicle_chron]
  · rw [setChronicle_of_not_keeper v k h, setRegBit_clock, stepChronicle_chron]

/-! ### The opcodes (Table TIME-7) -/

/-- BEAT_PERIOD_SET writes the period of the region whose tree page it names. -/
theorem periodPairs_of_page (c : Cmd) (r : Nat) (h : treePage (pw c.params 0) = some r) :
    periodPairs c = [(treeReg r (0x100 + 4 * pn c.params 1), pw c.params 2)] := by
  unfold periodPairs
  rw [h, Option.getD_some]

/-- Settles O17: each opcode by its kind of immediate part, and CHRONICLE_SET by what counts the Chronicle. -/
theorem timingCommands : Obligations.TimingCommands := by
  unfold Obligations.TimingCommands
  refine ⟨fun c s h => ?_, fun c s h => ?_, setChronicle_chron, fun v k h => ?_, fun v k h => ?_, fun c s h => ?_, fun c s h => ?_,
    fun c s r h hp => ?_, fun c s h => ?_⟩
  · exact congrArg Host.Outcome.next (takeCmd_done _ _ _ _ _ _ h rfl)
  · exact congrArg Host.Outcome.next (takeCmd_done _ _ _ _ _ _ h rfl)
  · rw [setChronicle_of_keeper v k h]
    exact ⟨stepChronicle_c0 _ _, stepChronicle_entrySince _ _⟩
  · rw [setChronicle_of_not_keeper v k h]
    exact regBit_setRegBit_same _ _ _ _ (by omega)
  · exact congrArg Host.Outcome.next (takeCmd_written _ _ _ _ _ h rfl)
  · exact congrArg Host.Outcome.next (takeCmd_written _ _ _ _ _ h rfl)
  · rw [← periodPairs_of_page c r hp]
    exact congrArg Host.Outcome.next (takeCmd_written _ _ _ _ _ h rfl)
  · exact congrArg Host.Outcome.next (takeCmd_done _ _ _ _ _ _ h rfl)

end Sys2Proof.Machine
end

section
/-! SUPPORT. What the events of TREF, the keeper, the beacons and the strobe trees do where their conditions stand (R80 to R84, R94,
R95, R99 to R109). -/

namespace Sys2Proof.Machine

/-! ### TREF (R82, R84, R108, R109) -/

/-- A bit of REGION_TIMING leaves the clock. -/
@[simp] theorem timingBit_clock (i : Nat) (v : Bool) (k : Core) : (timingBit i v k).clock = k.clock :=
  foldl_clock _ (fun k r => setRegBit_clock (treeReg r 0x40) i v k) _ k

/-- TREF lost while the keeper does not count: the engines stop and the Chronicle passes to it. -/
theorem opTrefLost_passes (k k1 : Core) (hp : trefPresent k = true) (hk : k1 = (List.range 8).foldl (fun acc r => faultStop r 7 acc) k)
    (hb : k1.clock.by_ ≠ .keeper) : opTrefLost k = recordCause 0x8FF0002C 0 (passToKeeper k1) := by
  subst hk
  unfold opTrefLost
  rw [if_pos hp]
  exact congrArg (recordCause 0x8FF0002C 0) (if_neg hb)

/-- TREF accepted while it is absent and the Chronicle's domain is awake. -/
theorem opTrefAccepted_absent (k : Core) (hp : trefPresent k = false) (hs : k.clock.sleeping = false) :
    opTrefAccepted k =
      let k1 := timingBit 0 true (setRegBit 0x8FF0000C 0 true { k with clock := { k.clock with acceptedAt := k.clock.uptime } })
      if k1.clock.by_ = .none then { k1 with clock := { k1.clock with by_ := .tref, firstTick := some k1.clock.chron } } else k1 := by
  unfold opTrefAccepted
  rw [if_neg (by simp [hp, hs])]

/-- Accepted when nothing counts the Chronicle, TREF counts it from here on. -/
theorem opTrefAccepted_clock_of_none (k : Core) (hp : trefPresent k = false) (hs : k.clock.sleeping = false) (hb : k.clock.by_ = .none) :
    (opTrefAccepted k).clock =
      { k.clock with acceptedAt := k.clock.uptime, by_ := .tref, firstTick := some k.clock.chron } := by
  rw [opTrefAccepted_absent k hp hs]
  simp only [timingBit_clock, setRegBit_clock, hb, if_true]

/-- Accepted while the Chronicle is counted, TREF is present and the count goes on as it was. -/
theorem opTrefAccepted_of_counted (k : Core) (hp : trefPresent k = false) (hs : k.clock.sleeping = false) (hb : k.clock.by_ ≠ .none) :
    opTrefAccepted k =
      timingBit 0 true (setRegBit 0x8FF0000C 0 true { k with clock := { k.clock with acceptedAt := k.clock.uptime } }) := by
  rw [opTrefAccepted_absent k hp hs]
  exact if_neg (by simpa only [timingBit_clock, setRegBit_clock] using hb)

/-- TREF not accepted 100 ms after a wake. -/
theorem opTrefAcceptTimeout_late (k : Core) (hw : k.clock.waking = true) (hp : trefPresent k = false) (hl : k.clock.acceptLate = false)
    (ht : k.clock.wakeAt + msTicks 100 ≤ k.clock.uptime) :
    opTrefAcceptTimeout k = recordCause 0x8FF0002C 0 { k with clock := { k.clock with acceptLate := true } } :=
  if_pos ⟨hw, by simp [hp], by simp [hl], ht⟩

/-- TREF changed against the keeper. -/
theorem opTrefChanged_present (k : Core) (hp : trefPresent k = true) :
    opTrefChanged k = recordCause 0x8FF0002C 2 (setRegBit 0x8FF0000C 7 true k) := if_pos hp

/-- A multiplier locked while TREF counts the Chronicle makes timing ready. -/
theorem opMultiplierLocked_ready (r : Nat) (k : Core) (hp : trefPresent k = true) (hd : 2 ≤ domState k (128 + 2 * r))
    (hb : k.clock.by_ = .tref) :
    opMultiplierLocked r k = setRegBit (treeReg r 0x40) 2 true (setRegBit (treeReg r 0x40) 1 true k) := by
  unfold opMultiplierLocked
  rw [if_pos ⟨hp, hd⟩]
  exact if_pos hb

/-! ### The keeper and the hand-back (R106 to R108) -/

/-- A measured ratio that is due, with no hand-back set yet. -/
theorem opKeeperRatioMeasured_due (v : Word) (k : Core) (hb : k.clock.by_ = .keeper) (hp : trefPresent k = true)
    (hn : k.clock.handbackAt = none)
    (hd : k.clock.acceptedAt + 262144 + (if k.clock.waking = true then 0 else msTicks 1) ≤ k.clock.uptime) :
    opKeeperRatioMeasured v k =
      if 10000 < ratioChange v.toNat k.clock.ratioAtEntry.toNat ∨ ratioChange v.toNat k.clock.ratioAtEntry.toNat < -10000 then
        recordCause 0x8FF0002C 2 (setReg 0x8FF00028 (BitVec.ofNat 32 (unsigned (ratioChange v.toNat k.clock.ratioAtEntry.toNat) 32))
          { setReg 0x8FF00014 v k with clock := { k.clock with handbackAt := some (k.clock.uptime + 1048576) } })
      else { setReg 0x8FF00014 v k with clock := { k.clock with handbackAt := some k.clock.uptime } } := by
  unfold opKeeperRatioMeasured
  simp only [hb, hp, hd, hn, and_self, if_true, setReg_clock]

/-- The hand-back of a wake (R108), when due: the count becomes C0 + E and rests on TREF. -/
theorem opChronicleHandback_of_wake (n : Nat) (temp : Int) (d : Nat) (k : Core) (hb : k.clock.by_ = .keeper) (hp : trefPresent k = true)
    (hh : k.clock.handbackAt = some d) (hd : d ≤ k.clock.uptime) (hw : k.clock.waking = true) :
    opChronicleHandback n temp k =
      readyLocked (setRegBit 0x8FF0000C 2 true (setReg 0x8FF00020 (BitVec.ofNat 32 (uncertainty k (elapsedTicks k n) temp))
        (setReg64 0x8FF00018 (elapsedTicks k n) (refillAfterStep { k with clock := { k.clock with
          chron := k.clock.c0 + elapsedTicks k n, by_ := .tref, handbackAt := none, temperature := temp, waking := false
          acceptLate := false } })))) := by
  unfold opChronicleHandback
  rw [if_pos ⟨hb, hp, by simpa [hh] using hd⟩]
  exact if_pos hw

/-- The keeper's calibration is valid 2^24 ticks after the first one from TREF. -/
theorem opKeeperCalValid_due (v : Word) (d : Nat) (k : Core) (hb : k.clock.by_ = .tref) (hf : k.clock.firstTick = some d)
    (hd : d + 2 ^ 24 ≤ k.clock.chron) :
    opKeeperCalValid v k = setRegBit 0x8FF0000C 4 true (setReg 0x8FF00014 v k) := by
  unfold opKeeperCalValid
  rw [hf, Option.any_some, if_pos ⟨hb, decide_eq_true hd⟩]

/-! ### Beacons (R99 to R103) -/

/-- A master's beacon at a multiple of 2,048. -/
theorem opBeaconSend_due (k : Core) (hr : role k = 1) (hc : k.clock.chron % 2048 = 0) :
    opBeaconSend k = (fwdPorts k).foldl (fun acc p => sendPort p (.beacon k.clock.chron 0 k.clock.reSetMark (ownNumber k)) acc)
      { k with clock := { k.clock with reSetMark := false } } := if_pos ⟨hr, hc⟩

/-- No beacon is sent at other ticks or in other roles. -/
theorem opBeaconSend_not_due (k : Core) (h : ¬ (role k = 1 ∧ k.clock.chron % 2048 = 0)) : opBeaconSend k = k := if_neg h

/-- A beacon that arrives at a master is a conflict. -/
theorem opBeaconReceive_master (p v h : Nat) (m : Bool) (root : Nat) (k : Core) (hs : k.clock.sleeping = false) (hr : role k = 1) :
    opBeaconReceive p v h m root k = recordCause 0x8FF0002C 6 (setRegBit 0x8FF0000C 5 true k) := by
  unfold opBeaconReceive
  rw [if_neg (by simp [hs]), if_pos hr]

/-- A follower takes a beacon of its upstream port and forwards it with one more hop. -/
theorem opBeaconReceive_follower (p v h : Nat) (m : Bool) (root : Nat) (k k1 k2 : Core) (hs : k.clock.sleeping = false)
    (hr : role k = 2) (hu : regFld k 0x8FF00008 5 4 = p) (hh : h ≤ 63)
    (h1 : k1 = measurePhase (takeBeacon (v + linkDelayTicks k p) m k))
    (h2 : k2 = setRegFld 0x83F00008 11 0 root (setRegBit 0x8FF0000C 3 false
      { k1 with clock := { k1.clock with lastBeacon := some k1.clock.chron } })) :
    opBeaconReceive p v h m root k =
      (fwdPorts k2).foldl (fun acc q => sendPort q (.beacon k2.clock.chron (h + 1) m root) acc) k2 := by
  subst h1 h2
  unfold opBeaconReceive
  rw [if_neg (by simp [hs]), if_neg (by omega), if_pos ⟨hr, hu, hh⟩]

/-- Eight intervals without a beacon at a follower that has had one. -/
theorem opBeaconLost_due (k : Core) (d : Nat) (hr : role k = 2) (hs : k.clock.sleeping = false) (hl : k.clock.lastBeacon = some d)
    (hd : d + 16384 ≤ k.clock.chron) (hb : regBit k 0x8FF0000C 3 = false) :
    opBeaconLost k = recordCause 0x8FF0002C 3 (setRegBit 0x8FF0000C 3 true k) := by
  unfold opBeaconLost
  rw [hl]
  exact if_pos ⟨hr, by simp [hs], hd, by simp [hb]⟩

/-! ### Strobe trees (R94, R95) -/

/-- The old output released at its falling edge. -/
theorem opTreeSwitchRelease_edge (r i : Nat) (x : TreeSwitch) (k : Core) (hx : amGet? k.trees (treeKey r i) = some x)
    (hr : x.released = false) :
    opTreeSwitchRelease r i false k = { k with trees := amSet k.trees (treeKey r i) { x with released := true } } := by
  unfold opTreeSwitchRelease
  rw [hx]
  simp only [hr, Bool.false_eq_true, false_and, or_self, if_false]

/-- The old output released by force, 1 µs after the accession. -/
theorem opTreeSwitchRelease_forced (r i : Nat) (x : TreeSwitch) (k : Core) (hx : amGet? k.trees (treeKey r i) = some x)
    (hr : x.released = false) (ht : x.since + 200 ≤ k.clock.uptime) :
    opTreeSwitchRelease r i true k = setRegBit (treeReg r (0x10 * i + 4)) 1 true
      { k with trees := amSet k.trees (treeKey r i) { x with released := true } } := by
  have hlate : ¬ k.clock.uptime < x.since + 200 := by omega
  unfold opTreeSwitchRelease
  rw [hx]
  simp only [hr, hlate, Bool.false_eq_true, and_false, or_self, if_false, if_true]

/-- The new output connected once the old one is released. -/
theorem opTreeSwitchConnect_released (r i : Nat) (x : TreeSwitch) (k : Core) (hx : amGet? k.trees (treeKey r i) = some x)
    (hr : x.released = true) :
    opTreeSwitchConnect r i k = setRegBit (treeReg r (0x10 * i + 4)) 0 false { k with trees := amErase k.trees (treeKey r i) } := by
  unfold opTreeSwitchConnect
  rw [hx]
  exact if_pos hr

/-! ### The events together -/

/-- Settles O18: each event by the branch that its condition selects. -/
theorem chronicleEvents : Obligations.ChronicleEvents := by
  unfold Obligations.ChronicleEvents
  refine ⟨fun s k hp hk hb => ?_, fun s hp hs hb => ?_, fun s hp hs hb => ?_, fun v s hb hp hn hd hc => ?_, fun v s hb hp hn hd hc => ?_,
    fun n temp s d hb hp hh hd hw => ?_, fun s hw hp hl ht => ?_, fun s hp => ?_, fun r s hp hd hb => ?_, fun v s d hb hf hd => ?_,
    fun s hr hc => ?_, fun s h => ?_, fun p v h m root s hs hr => ?_, fun p v h m root s k1 k2 hs hr hu hh h1 h2 => ?_,
    fun s d hr hs hl hd hb => ?_, fun r i x s hx hr => ?_, fun r i x s hx hr ht => ?_, fun r i x s hx hr => ?_⟩
  · exact next_onCore _ _ s (opTrefLost_passes _ k hp hk hb)
  · have hclock := opTrefAccepted_clock_of_none s.core hp hs hb
    exact ⟨onCore opTrefAccepted s, rfl, by rw [onCore_core, hclock], by rw [onCore_core, hclock], by rw [onCore_core, hclock],
      by rw [onCore_core, hclock], rfl, rfl, rfl⟩
  · exact next_onCore _ _ s (opTrefAccepted_of_counted _ hp hs hb)
  · exact next_onCore _ _ s ((opKeeperRatioMeasured_due v _ hb hp hn hd).trans (if_neg (by omega)))
  · exact next_onCore _ _ s ((opKeeperRatioMeasured_due v _ hb hp hn hd).trans (if_pos (.inl hc)))
  · exact next_onCore _ _ s (opChronicleHandback_of_wake n temp d _ hb hp hh hd hw)
  · exact next_onCore _ _ s (opTrefAcceptTimeout_late _ hw hp hl ht)
  · exact next_onCore _ _ s (opTrefChanged_present _ hp)
  · exact next_onCore _ _ s (opMultiplierLocked_ready _ _ hp hd hb)
  · exact next_onCore _ _ s (opKeeperCalValid_due v d _ hb hf hd)
  · exact next_onCore _ _ s (opBeaconSend_due _ hr hc)
  · exact next_onCore_self _ s (opBeaconSend_not_due _ h)
  · exact next_onCore _ _ s (opBeaconReceive_master _ _ _ _ _ _ hs hr)
  · exact next_onCore _ _ s (opBeaconReceive_follower _ v h m _ _ k1 k2 hs hr hu hh h1 h2)
  · exact next_onCore _ _ s (opBeaconLost_due _ d hr hs hl hd hb)
  · exact next_onCore _ _ s (opTreeSwitchRelease_edge _ _ x _ hx hr)
  · exact next_onCore _ _ s (opTreeSwitchRelease_forced _ _ x _ hx hr ht)
  · exact next_onCore _ _ s (opTreeSwitchConnect_released _ _ x _ hx hr)

end Sys2Proof.Machine
end

section
/-! SUPPORT. What priming, the beats and the decisions of BRF and MATCH do where their conditions stand (R86, R132 to R134, R137). -/

namespace Sys2Proof.Machine

/-! ### Priming and beats (R86, R137) -/

/-- A priming engine without a pending fault that has ended, or whose FIFO is full, is PRIMED. -/
theorem opItinPrimed_no_further (r : Nat) (k : Core) (hs : engState k r = 1) (hf : (engOf k r).ended = true ∨ fifoRoom (engOf k r) = 0)
    (he : (engOf k r).err = 0) :
    opItinPrimed r k = setRegBit (engReg r 0x10) 0 true (setRegFld (engReg r 0x10) 18 16 2 k) := by
  have hstop : fifoRoom (engOf k r) = 0 ∨ (engOf k r).ended = true ∨ (engOf k r).blocked = true ∨ (engOf k r).err ≠ 0 := by tauto
  exact if_pos ⟨hs, hstop, by omega⟩

/-- In a run whose stop beat has not come the beat of the next frame plays. -/
theorem opBeatStart_plays (r : Nat) (l : List PinSample) (e : Engine) (f : ItinFrame) (k : Core) (hr : inRun k r = true)
    (hs : stopDue (engOf k r) = false) (hn : nextFrame k r (engOf k r) = some e) (hf : e.cur = some f) :
    opBeatStart r l k = playBeat r l f (dueSites r (enableTenants r (setEng r e k))) := by
  unfold opBeatStart
  rw [if_pos ⟨hr, by simp [hs]⟩, hn]
  simp only [hf]

/-! ### BRF (R132, R133) -/

/-- A BRF that is ready sends the engine along the path that its condition and its sense choose. -/
theorem opBrfResolve_ready (r : Nat) (qdr arc : Memory) (k : Core) (h : brfReady k r (engOf k r) = true) :
    opBrfResolve r qdr arc k = setEng r (goTo
      (if brfHolds k r (engOf k r) (fetchIns qdr r (engOf k r) (engOf k r).pc).arg
          != (fetchIns qdr r (engOf k r) (engOf k r).pc).arg.testBit 16
        then (fetchIns qdr r (engOf k r) (engOf k r).pc).operand else (engOf k r).pc + 1)
      { engOf k r with blocked := false, wait := some (.brf true) }) k := if_pos h

/-! ### MATCH (R134) -/

/-- The engine stands at an iteration boundary of a MATCH that is not decided: every frame of the iteration is known and has
played. -/
def atBoundary (k : Core) (r : Nat) (frames : List ItinFrame) (iter m : Nat) (fails : AMap Nat) : Prop :=
  (engOf k r).wait = some (.match_ frames frames.length iter m fails false) ∧ inRun k r = true ∧ (engOf k r).lane = 0
    ∧ iterComplete frames = true

/-- What an undecided boundary comes to: the condition met, the counter used up, or the iteration repeated. -/
theorem opMatchIterationEnd_atBoundary {r : Nat} {qdr arc : Memory} {k : Core} {frames : List ItinFrame} {iter m : Nat} {fails : AMap Nat}
    {i : ItinIns} {m1 : Nat} (h : atBoundary k r frames iter m fails) (hi : i = fetchIns qdr r (engOf k r) (engOf k r).pc)
    (hm : m1 = matchedBy k r (engOf k r) iter m fails) :
    opMatchIterationEnd r qdr arc k =
      if matchMet (i.arg.testBit 3) (matchSites k r) m1 = true then
        setEng r (goTo ((engOf k r).pc + 1)
          { engOf k r with blocked := false, wait := some (.match_ frames frames.length iter m1 fails true) }) k
      else if gen (engOf k r) (40 + i.arg % 8) = 0 then
        markTimeouts r (engOf k r).pc ((matchSites k r).filter (fun x => !m1.testBit x)) (recordCause (engReg r 0x30) 4
          (setEng r (goTo i.operand
            { engOf k r with blocked := false, wait := some (.match_ frames frames.length iter m1 fails true) }) k))
      else
        commitGen r (setEng r (setGen (40 + i.arg % 8) (gen (engOf k r) (40 + i.arg % 8) - 1)
          { engOf k r with wait := some (.match_ frames 0 (iter + 1) m1 fails false) }) k) := by
  obtain ⟨hw, hr, hl, hc⟩ := h
  subst hi hm
  unfold opMatchIterationEnd
  dsimp only
  rw [hw]
  exact if_pos ⟨hr, hl, hc, rfl⟩

/-! ### The events together -/

/-- Settles O21: each event by the branch that its condition selects. -/
theorem beatsAndWaits : Obligations.BeatsAndWaits := by
  unfold Obligations.BeatsAndWaits
  refine ⟨fun r s hs hf he => ?_, fun r l e f s hr hs hn hf => ?_, fun r s h => ?_, fun r frames iter m fails s hw hr hl hc hm => ?_,
    fun r frames iter m fails s hw hr hl hc hm hg => ?_, fun r frames iter m n fails s hw hr hl hc hm hg => ?_⟩
  · exact next_onCore _ _ s (opItinPrimed_no_further _ _ hs hf he)
  · exact next_onCore _ _ s (opBeatStart_plays _ l e f _ hr hs hn hf)
  · exact next_onCoreMem _ _ s (opBrfResolve_ready _ _ _ _ h)
  · exact next_onCoreMem _ _ s ((opMatchIterationEnd_atBoundary ⟨hw, hr, hl, hc⟩ rfl rfl).trans (if_pos hm))
  · exact next_onCoreMem _ _ s ((opMatchIterationEnd_atBoundary ⟨hw, hr, hl, hc⟩ rfl rfl).trans
      ((if_neg (Bool.eq_false_iff.1 hm)).trans (if_pos hg)))
  · have hend := opMatchIterationEnd_atBoundary (arc := s.arc) (i := nextIns r.val s) ⟨hw, hr, hl, hc⟩ rfl rfl
    rw [if_neg (Bool.eq_false_iff.1 hm), hg, if_neg (by omega), Nat.add_sub_cancel] at hend
    exact next_onCoreMem _ _ s hend

end Sys2Proof.Machine
end

section
/-! SUPPORT. What a folio's vote, decision, accession and outcome do where their conditions stand (R369 to R377). -/

namespace Sys2Proof.Machine

/-! ### Votes (R371, R372) -/

/-- A folio with this module's own vote in it, by the code of the reason: 0 accedes. -/
def votedWith (f : Folio) (code : Nat) (k : Core) : Folio :=
  { f with state := if code = 0 then .voted else .refusing
           reason := BitVec.ofNat 8 code
           votes := amSet f.votes (ownNumber k) (code == 0, BitVec.ofNat 8 code) }

/-- The vote of a prepared participant at V. -/
theorem opFolioVote_prepared (slot : Nat) (k : Core) (f : Folio) (d : Bool × Core) (code : Nat)
    (hf : amGet? k.car.folios slot = some f) (hs : f.state = .prepared) (hv : hasVoted k f = false)
    (ht : voteTick f ≤ k.clock.chron) (hd : d = distributed f k) (hc : code = voteReason d.2 f d.1) :
    opFolioVote slot k =
      if f.chain then flood (.vote f.id (code == 0) (BitVec.ofNat 8 code)) (setFolio slot (votedWith f code k) (noteRefusals f d.2))
      else setFolio slot (votedWith f code k) (noteRefusals f d.2) := by
  subst hd hc
  unfold opFolioVote
  rw [hf]
  exact if_pos ⟨.inl hs, by simp [hv], ht⟩

/-- Before V no participant votes. -/
theorem opFolioVote_early (slot : Nat) (k : Core) (f : Folio) (hf : amGet? k.car.folios slot = some f) (ht : k.clock.chron < voteTick f) :
    opFolioVote slot k = k := by
  unfold opFolioVote
  rw [hf]
  exact if_neg fun h => absurd h.2.2 (by omega)

/-- A vote of another module that arrives before the decision, and by Q where the folio is prepared, is held. -/
theorem opVoteReceive_in_time (id : Word) (m : Nat) (acc : Bool) (x : Byte) (k : Core) (e : Nat × Folio) (he : folioBy k id = some e)
    (hs : e.2.state ≠ .decided) (ht : unprepared e.2 = true ∨ k.clock.chron ≤ decideTick e.2) (hm : m ≠ ownNumber k) :
    opVoteReceive id m acc x k = setFolio e.1 { e.2 with votes := amSet e.2.votes m (acc, x) } k := by
  have hlate : ¬ (¬ unprepared e.2 = true ∧ decideTick e.2 < k.clock.chron) := by
    rintro ⟨hu, hq⟩
    rcases ht with ht | ht
    · exact hu ht
    · omega
  unfold opVoteReceive
  rw [he]
  exact if_neg (by simp only [hs, hlate, hm, or_self, not_false_eq_true])

/-! ### The decision (R372) -/

/-- The decision at Q of a participant that has voted. -/
theorem opFolioDecide_due (slot : Nat) (k : Core) (f : Folio) (hf : amGet? k.car.folios slot = some f)
    (hs : f.state = .voted ∨ f.state = .refusing) (hb : f.tombstone = false) (hv : hasVoted k f = true)
    (hq : decideTick f ≤ k.clock.chron) :
    opFolioDecide slot k =
      if accedes f then setFolio slot { f with state := .decided, decidedAccede := true } k
      else withdrawFolio slot f (decideReason k f).1 (decideReason k f).2 k := by
  unfold opFolioDecide
  rw [hf]
  exact if_pos ⟨hs, by simp [hb], hv, hq⟩

/-! ### The accession (R83, R373) -/

/-- The accession at A of the decided folio that is first in order. -/
theorem opFolioAccession_due (slot : Nat) (k : Core) (f : Folio) (hf : amGet? k.car.folios slot = some f) (hs : f.state = .decided)
    (ha : f.acc ≤ k.clock.chron) (ho : accedesBefore k f = false) :
    opFolioAccession slot k =
      if notTimed k f then withdrawFolio slot f 0x0E (ownNumber k) k
      else endFolio slot f true { applyFolio f k with car := { (applyFolio f k).car with lastAcceded := f.id } } := by
  unfold opFolioAccession
  rw [hf]
  exact if_pos ⟨hs, ha, by simp [ho]⟩

/-! ### The ticket's result (R377) -/

/-- At A + 100 µs a report ends. -/
theorem opFolioTicketTimeout_due (id : Word) (k : Core) (f : Folio) (hf : k.car.reports.find? (fun g => g.id == id) = some f)
    (ht : f.acc + 20000 ≤ k.clock.chron) : opFolioTicketTimeout id k = endReport f k := by
  unfold opFolioTicketTimeout
  rw [hf]
  exact if_pos ht

/-! ### The events together -/

/-- Settles O44: each event by the branch that its condition selects. -/
theorem folioOutcomes : Obligations.FolioOutcomes := by
  unfold Obligations.FolioOutcomes
  refine ⟨fun slot s f d code hf hs hv ht hd hc hl => ?_, fun slot s f d code hf hs hv ht hd hc hl => ?_, fun slot s f hf ht => ?_,
    fun id m acc x s e he hs ht hm => ?_, fun slot s f hf hs hb hv hq ha => ?_, fun slot s f hf hs hb hv hq ha => ?_,
    fun slot s f hf hs ha ho hn => ?_, fun slot s f hf hs ha ho hn => ?_, fun id m acc x s => rfl, fun id s f hf ht => ?_⟩
  · have hvote := (opFolioVote_prepared slot s.core f d code hf hs hv ht hd hc).trans (if_neg (by simp [hl]))
    exact next_onCore _ _ s (hd ▸ hvote)
  · have hvote := (opFolioVote_prepared slot s.core f d code hf hs hv ht hd hc).trans (if_pos hl)
    exact next_onCore _ _ s (hd ▸ hvote)
  · exact next_onCore_self _ s (opFolioVote_early slot _ f hf ht)
  · exact next_onCore _ _ s (opVoteReceive_in_time id m.toNat acc x _ e he hs ht hm)
  · exact next_onCore _ _ s ((opFolioDecide_due slot _ f hf (.inl hs) hb hv hq).trans (if_pos ha))
  · exact next_onCore _ _ s ((opFolioDecide_due slot _ f hf hs hb hv hq).trans (if_neg (by simp [ha])))
  · exact next_onCore _ _ s ((opFolioAccession_due slot _ f hf hs ha ho).trans (if_neg (by simp [hn])))
  · exact next_onCore _ _ s ((opFolioAccession_due slot _ f hf hs ha ho).trans (if_pos hn))
  · exact next_onCore _ _ s (opFolioTicketTimeout_due id _ f hf ht)

end Sys2Proof.Machine
end

section
/-! SUPPORT. What a fault of a block and of a memory region comes to, by its code and by what is contained already (R505 to R508,
R513). -/

namespace Sys2Proof.Machine

/-! ### Blocks (R505, R506) -/

/-- A code that no block fault has does nothing. -/
theorem blockFault_other_code (b code : Nat) (k : Core) (hc : code = 0 ∨ 7 < code) : blockFault b code k = k := if_pos hc

/-- A fault in a block that has stopped is logged alone. -/
theorem blockFault_stopped (b code : Nat) (k : Core) (h1 : 1 ≤ code) (h7 : code ≤ 7) (hs : blockStopped k b = true) :
    blockFault b code k = logFault 1 0 code (pageBase (.block b)) 0 k := by
  unfold blockFault
  rw [if_neg (by omega), if_pos hs]

/-- The codes CONVERTER and FABRIC are shown and logged, and park no block. -/
theorem blockFault_unparked (b code : Nat) (k : Core) (h6 : 6 ≤ code) (h7 : code ≤ 7) (hs : blockStopped k b = false) :
    blockFault b code k = logFault 1 0 code (pageBase (.block b)) 0 (setRegFld (blockReg b 0xC00) 23 16 code k) := by
  unfold blockFault
  rw [if_neg (by omega), if_neg (by simp [hs]), if_pos (by omega)]

/-- A block before its holder relinquishes: its substitution and calibration ended, its park shown, its pins refreshed and marked
invalid, and the cause recorded. -/
def parkedBlock (b code : Nat) (k : Core) : Core :=
  recordCause (pageBase (.rfault (b / 8)) + 4) 0 (blockPinsInvalid b (refreshBlock b (setRegBit (pageBase (.rfault (b / 8))) (b % 8) true
    (setRegBit (blockReg b 0xC00) 31 true (setRegFld (blockReg b 0xC00) 23 16 code (stopCalibration b (supersede b k)))))))

/-- Any other fault parks the block; a holder with tenanted pins there relinquishes. -/
theorem blockFault_parks (b code : Nat) (k : Core) (h1 : 1 ≤ code) (h5 : code ≤ 5) (hs : blockStopped k b = false) :
    blockFault b code k = logFault 1 3 code (pageBase (.block b)) (folioInto k (pageInBlock b))
      (if blockTenanted (parkedBlock b code k) b = true ∧ tenRole (parkedBlock b code k) (b / 8) = 1
        then relinquish (b / 8) (parkedBlock b code k) else parkedBlock b code k) := by
  unfold blockFault
  rw [if_neg (by omega), if_neg (by simp [hs]), if_neg (by omega)]
  rfl

/-! ### Regions (R81, R505, R507) -/

/-- A code that no region fault has does nothing. -/
theorem regionFault_other_code (r code : Nat) (k : Core) (hc : code = 0 ∨ 7 < code) : regionFault r code k = k := if_pos hc

/-- A fault of a region that is shut, or of a module that is halted, is logged alone. -/
theorem regionFault_shut (r code : Nat) (k : Core) (h1 : 1 ≤ code) (h7 : code ≤ 7) (hs : (regionShut k r || moduleHalted k) = true) :
    regionFault r code k = logFault 2 0 code (pageBase (.rfault r)) 0 k := by
  unfold regionFault
  rw [if_neg (by omega), if_pos (by simpa using hs)]

/-- Any other fault fences the region: its code, the die's side, the hub's side, the cause and the log. -/
theorem regionFault_fences (r code : Nat) (k k1 : Core) (ran : Bool) (h1 : 1 ≤ code) (h7 : code ≤ 7)
    (hs : (regionShut k r || moduleHalted k) = false) (hr : ran = (amGet? k.pwr.selfFenced r).getD (runInProgress k r))
    (hk : k1 = setRegBit (pageBase (.rfault r)) 31 true (setRegFld (pageBase (.rfault r)) 23 16 code
      { k with pwr := { k.pwr with selfFenced := amErase k.pwr.selfFenced r } })) :
    regionFault r code k = logFault 2 4 code (pageBase (.rfault r))
      (folioInto k (fun p => pageInRegion r p || (List.range 8).any (fun b => pageInBlock (8 * r + b) p)))
      (recordCause (pageBase (.rfault r) + 4) 1 (fenceHub r ran (fenceDie r k1))) := by
  subst hr hk
  unfold regionFault
  rw [if_neg (by omega), if_neg (by simpa using hs)]

/-- A locked multiplier that loses lock while TREF is present faults its region. -/
theorem opLockLost_locked (r : Nat) (k : Core) (hp : trefPresent k = true) (hl : regBit k (treeReg r 0x40) 1 = true) :
    opLockLost r k = regionFault r 1 (setRegBit (treeReg r 0x40) 1 false (setRegBit (treeReg r 0x40) 2 false k)) :=
  if_pos ⟨hp, hl⟩

/-- Without TREF, or without lock, there is none to lose. -/
theorem opLockLost_not_locked (r : Nat) (k : Core) (h : trefPresent k = false ∨ regBit k (treeReg r 0x40) 1 = false) :
    opLockLost r k = k := by
  refine if_neg fun hpl => ?_
  rcases h with h | h
  · simp [h] at hpl
  · simp [h] at hpl

/-! ### The commands and events together -/

/-- Settles O59: each command by its kind of immediate part, each fault by its code and by what is contained already. -/
theorem blockAndRegionFaults : Obligations.BlockAndRegionFaults := by
  unfold Obligations.BlockAndRegionFaults
  refine ⟨⟨fun c s h => ?_, fun c s h hf => ?_, fun c s h hf => ?_⟩, fun b c s k3 h1 h5 hs hk => ?_, fun b c s h1 h7 hs => ?_,
    fun b c s h6 h7 hs => ?_, fun b r c s hc => ⟨?_, ?_⟩, fun r c s h1 h7 hs => ?_, fun r c s ran k1 h1 h7 hs hr hk => ?_,
    fun r s => rfl, fun r s hp hl => ?_, fun r s h => ?_⟩
  · exact congrArg Host.Outcome.next (takeCmd_done _ _ _ _ _ _ h rfl)
  · exact congrArg Host.Outcome.next (takeCmd_ticketed _ _ _ _ _ _ _ h hf rfl)
  · exact congrArg Host.Outcome.next (takeCmd_ticketed _ _ _ _ _ _ _ h hf rfl)
  · have hpark := blockFault_parks b.val c.toNat s.core h1 h5 hs
    rw [show parkedBlock b.val c.toNat s.core = k3 from hk.symm] at hpark
    refine ⟨fun ht => next_onCore _ _ s (hpark.trans ?_), fun ht => next_onCore _ _ s (hpark.trans ?_)⟩
    · rw [if_pos (by simpa using ht)]
    · rw [if_neg (by simpa using ht)]
  · exact next_onCore _ _ s (blockFault_stopped _ _ _ h1 h7 hs)
  · exact next_onCore _ _ s (blockFault_unparked _ _ _ h6 h7 hs)
  · exact next_onCore_self _ s (blockFault_other_code _ _ _ hc)
  · exact next_onCore_self _ s (regionFault_other_code _ _ _ hc)
  · exact next_onCore _ _ s (regionFault_shut _ _ _ h1 h7 hs)
  · exact next_onCore _ _ s (regionFault_fences _ _ _ k1 ran h1 h7 hs hr hk)
  · exact next_onCore _ _ s (opLockLost_locked _ _ hp hl)
  · exact next_onCore_self _ s (opLockLost_not_locked _ _ h)

end Sys2Proof.Machine
end

section
/-! SUPPORT. What each itinerary instruction comes to once its frames are in the FIFO: its register writes and flow, by opcode (R125,
R131, R133 to R135, R146, R147). -/

namespace Sys2Proof.Machine

/-! ### The engine after the frames -/

@[simp] theorem framesOut_pc (r : Nat) (s : State) : (framesOut r s).pc = (engOf s.core r).pc :=
  (emitFrames_frame _ _ _ _ _).2.1
@[simp] theorem framesOut_stack (r : Nat) (s : State) : (framesOut r s).stack = (engOf s.core r).stack :=
  (emitFrames_frame _ _ _ _ _).2.2.1
@[simp] theorem framesOut_shadow (r : Nat) (s : State) : (framesOut r s).shadow = (engOf s.core r).shadow :=
  (emitFrames_frame _ _ _ _ _).2.2.2.1

/-! ### Generator registers (R125) -/

/-- A working generator register is a 32-bit word. -/
theorem gen_lt (e : Engine) (i : Nat) : gen e i < 2 ^ 32 := BitVec.isLt _

/-- A working generator register reads as it was set. -/
theorem gen_setGen_same (i v : Nat) (e : Engine) (hi : i < e.gen.length) (hv : v < 2 ^ 32) : gen (setGen i v e) i = v := by
  unfold gen setGen
  rw [List.getD_eq_getElem?_getD, List.getElem?_set_self hi, Option.getD_some, BitVec.toNat_ofNat, Nat.mod_eq_of_lt hv]

/-! ### Register writes and flow (R131), by opcode -/

/-- STEP and VSTREAM go on. -/
theorem finishIns_step (k : Core) (r : Nat) (i : ItinIns) (e : Engine) (h : i.op = 0x00) : finishIns k r i e = goTo (e.pc + 1) e := by
  simp only [finishIns, h]
theorem finishIns_vstream (k : Core) (r : Nat) (i : ItinIns) (e : Engine) (h : i.op = 0x0A) : finishIns k r i e = goTo (e.pc + 1) e := by
  simp only [finishIns, h]

theorem finishIns_jump (k : Core) (r : Nat) (i : ItinIns) (e : Engine) (h : i.op = 0x01) : finishIns k r i e = goTo i.operand e := by
  simp only [finishIns, h]

/-- A CALL with room on the stack. -/
theorem finishIns_call (k : Core) (r : Nat) (i : ItinIns) (e : Engine) (h : i.op = 0x02) (hs : e.stack.length < 16) :
    finishIns k r i e = goTo i.operand { e with stack := (e.pc + 1) :: e.stack } := by
  simp only [finishIns, h, Nat.not_le.2 hs, if_false]

/-- A CALL on a full stack is a pending fault STACK. -/
theorem finishIns_call_full (k : Core) (r : Nat) (i : ItinIns) (e : Engine) (h : i.op = 0x02) (hs : 16 ≤ e.stack.length) :
    finishIns k r i e = { e with err := 3 } := by
  simp only [finishIns, h, hs, if_true]

theorem finishIns_ret (k : Core) (r : Nat) (i : ItinIns) (e : Engine) (n : Nat) (l : List Nat) (h : i.op = 0x03) (hs : e.stack = n :: l) :
    finishIns k r i e = goTo n { e with stack := l } := by
  simp only [finishIns, h, hs]

/-- A RET on an empty stack is a pending fault STACK. -/
theorem finishIns_ret_empty (k : Core) (r : Nat) (i : ItinIns) (e : Engine) (h : i.op = 0x03) (hs : e.stack = []) :
    finishIns k r i e = { e with err := 3 } := by
  simp only [finishIns, h, hs]

theorem finishIns_ldreg (k : Core) (r : Nat) (i : ItinIns) (e : Engine) (h : i.op = 0x04) :
    finishIns k r i e = goTo (e.pc + 1) (setGen i.arg (i.operand &&& genMask i.arg) e) := by
  simp only [finishIns, h]

/-- A LOOP whose counter is 0 goes on. -/
theorem finishIns_loop_zero (k : Core) (r : Nat) (i : ItinIns) (e : Engine) (h : i.op = 0x05) (hg : gen e (40 + i.arg % 8) = 0) :
    finishIns k r i e = goTo (e.pc + 1) e := by
  simp only [finishIns, h, hg, if_true]

/-- Any other LOOP decrements its counter, and branches unless that leaves 0. -/
theorem finishIns_loop_succ (k : Core) (r n : Nat) (i : ItinIns) (e : Engine) (h : i.op = 0x05) (hl : e.gen.length = 48)
    (hg : gen e (40 + i.arg % 8) = n + 1) :
    finishIns k r i e = goTo (if n = 0 then e.pc + 1 else i.operand) (setGen (40 + i.arg % 8) n e) := by
  have hlt := gen_lt e (40 + i.arg % 8)
  have hset : gen (setGen (40 + i.arg % 8) n e) (40 + i.arg % 8) = n := gen_setGen_same _ _ _ (by omega) (by omega)
  simp only [finishIns, h, hg, Nat.succ_ne_zero, if_false, Nat.add_sub_cancel, hset]
  split <;> rfl

/-- A BRC branches when its condition differs from NEG. -/
theorem finishIns_brc (k : Core) (r : Nat) (i : ItinIns) (e : Engine) (h : i.op = 0x06) :
    finishIns k r i e =
      goTo (if brcHolds k r e (nfld i.arg 7 0) ≠ i.arg.testBit 16 then i.operand else e.pc + 1) e := by
  simp only [finishIns, h, bne_iff_ne]
  split <;> rfl

/-- BRF and MATCH wait for the pin side. -/
theorem finishIns_brf (k : Core) (r : Nat) (i : ItinIns) (e : Engine) (h : i.op = 0x07) :
    finishIns k r i e = { e with blocked := true } := by
  simp only [finishIns, h]
theorem finishIns_match (k : Core) (r : Nat) (i : ItinIns) (e : Engine) (h : i.op = 0x08) :
    finishIns k r i e = { e with blocked := true } := by
  simp only [finishIns, h]

/-- A WAYPOINT takes its snapshot into a free shadow bank. -/
theorem finishIns_waypoint_free (k : Core) (r : Nat) (i : ItinIns) (e : Engine) (h : i.op = 0x09) (hs : e.shadow = none) :
    finishIns k r i e = goTo (e.pc + 1) { e with shadow := some (snapOf e i) } := by
  simp only [finishIns, h, hs, Option.isNone_none, if_true]

/-- A WAYPOINT leaves a shadow bank that holds a snapshot. -/
theorem finishIns_waypoint_held (k : Core) (r : Nat) (i : ItinIns) (e : Engine) (w : WpSnap) (h : i.op = 0x09) (hs : e.shadow = some w) :
    finishIns k r i e = goTo (e.pc + 1) e := by
  simp only [finishIns, h, hs, Option.isNone_some, Bool.false_eq_true, if_false]

theorem finishIns_halt (k : Core) (r : Nat) (i : ItinIns) (e : Engine) (h : i.op = 0x0B) :
    finishIns k r i e = { e with ended := true } := by
  simp only [finishIns, h]

/-! ### The instructions -/

/-- A runnable instruction is one of its opcode. -/
theorem nextIns_op_of_runnable {op r : Nat} {s : State} (h : runnable op r s = true) : (nextIns r s).op = op := by
  simp only [runnable, Bool.and_eq_true, beq_iff_eq] at h
  obtain ⟨⟨⟨⟨-, hop⟩, -⟩, -⟩, -⟩ := h
  exact hop

/-- A runnable instruction whose frames fit and that skips no snapshot leaves the engine as its register writes and flow do. -/
theorem next_runIns {op r : Nat} {s : State} {e : Engine} (h : runnable op r s = true) (hr : roomForAll r s)
    (hskip : op ≠ 0x09 ∨ (engOf s.core r).shadow = none)
    (he : (nextIns r s).op = op → finishIns s.core r (nextIns r s) (framesOut r s) = e) :
    (Host.Outcome.next (onCoreMem (runIns op r) s) : Host.Outcome State Fault Refusal) = .next (engineTo r e s) := by
  have hno : (op == 0x09 && (framesOut r s).shadow.isSome) = false := by
    rcases hskip with hop | hsh
    · simp [hop]
    · simp [hsh]
  rw [runIns_done op r s h hr, he (nextIns_op_of_runnable h), hno]
  rfl

/-- A WAYPOINT that finds the shadow bank held is counted and recorded as skipped (R147). -/
theorem runIns_waypoint_skipped {r : Nat} {w : WpSnap} {s : State} (h : runnable 0x09 r s = true) (hr : roomForAll r s)
    (hw : (engOf s.core r).shadow = some w) :
    onCoreMem (runIns 0x09 r) s = onCore (fun k => showEngine r (commitGen r (recordCause (engReg r 0x30) 5
      (countFld (engReg r 0x38) 31 16 1 (setEng r (goTo ((engOf s.core r).pc + 1) (framesOut r s)) k))))) s := by
  rw [runIns_done 0x09 r s h hr,
    finishIns_waypoint_held _ _ _ _ w (nextIns_op_of_runnable h) ((framesOut_shadow r s).trans hw),
    framesOut_shadow, hw, framesOut_pc]
  rfl

/-- Settles O20: each instruction by its opcode's register writes and flow, and the last clause by the frames that fit. -/
theorem instructionFlow : Obligations.InstructionFlow := by
  unfold Obligations.InstructionFlow
  refine ⟨fun r s h hr => ?_, fun r s h hr => ?_, fun r s h hr hs => ?_, fun r s h hr hs => ?_, fun r n l s h hr hs => ?_,
    fun r s h hr hs => ?_, fun r s h hr => ?_, fun r s h hr hg => ?_, fun r n s h hr hn hl hg => ?_, fun r s h hr hl hg => ?_,
    fun r s h hr => ?_, fun r s h hr => ?_, fun r s h hr => ?_, fun r s h hr hs => ?_, fun r w s h hr hs => ?_,
    fun r s h hr => ?_, fun r s h hr => ?_, fun r s h hr => ?_⟩
  · exact next_runIns h hr (.inl (by decide)) fun hop => by rw [finishIns_step _ _ _ _ hop, framesOut_pc]
  · exact next_runIns h hr (.inl (by decide)) fun hop => finishIns_jump _ _ _ _ hop
  · rw [← framesOut_stack] at hs
    exact next_runIns h hr (.inl (by decide)) fun hop => by
      rw [← framesOut_pc, ← framesOut_stack]
      exact finishIns_call _ _ _ _ hop hs
  · rw [← framesOut_stack] at hs
    exact next_runIns h hr (.inl (by decide)) fun hop => finishIns_call_full _ _ _ _ hop hs
  · rw [← framesOut_stack] at hs
    exact next_runIns h hr (.inl (by decide)) fun hop => finishIns_ret _ _ _ _ n l hop hs
  · rw [← framesOut_stack] at hs
    exact next_runIns h hr (.inl (by decide)) fun hop => finishIns_ret_empty _ _ _ _ hop hs
  · exact next_runIns h hr (.inl (by decide)) fun hop => by rw [finishIns_ldreg _ _ _ _ hop, framesOut_pc]
  · exact next_runIns h hr (.inl (by decide)) fun hop => by rw [finishIns_loop_zero _ _ _ _ hop hg, framesOut_pc]
  · exact next_runIns h hr (.inl (by decide)) fun hop => by rw [finishIns_loop_succ _ _ n _ _ hop hl hg, if_neg hn]
  · exact next_runIns h hr (.inl (by decide)) fun hop => by
      rw [finishIns_loop_succ _ _ 0 _ _ hop hl hg, if_pos rfl, framesOut_pc]
  · exact next_runIns h hr (.inl (by decide)) fun hop => by rw [finishIns_brc _ _ _ _ hop, framesOut_pc]
  · exact next_runIns h hr (.inl (by decide)) fun hop => finishIns_brf _ _ _ _ hop
  · exact next_runIns h hr (.inl (by decide)) fun hop => finishIns_match _ _ _ _ hop
  · exact next_runIns h hr (.inr hs) fun hop => by
      rw [← framesOut_pc]
      exact finishIns_waypoint_free _ _ _ _ hop ((framesOut_shadow _ _).trans hs)
  · exact congrArg Host.Outcome.next (runIns_waypoint_skipped h hr hs)
  · exact next_runIns h hr (.inl (by decide)) fun hop => by rw [finishIns_vstream _ _ _ _ hop, framesOut_pc]
  · exact next_runIns h hr (.inl (by decide)) fun hop => finishIns_halt _ _ _ _ hop
  · exact congrArg Host.Outcome.next (runIns_part _ _ _ h hr)

end Sys2Proof.Machine
end

section
/-! SUPPORT. The itinerary opcodes (Table ITIN-15), and what ITIN_STOP_NOW does to the engines of its mask (R142). -/

namespace Sys2Proof.Machine

/-! ### Engines -/

/-- An engine reads as it was set. -/
@[simp] theorem engOf_setEng_same (r : Nat) (x : Engine) (k : Core) : engOf (setEng r x k) r = x := amGetD_amSet_same _ _ _ _

/-! ### ITIN_STOP_NOW (R142) -/

/-- A running engine without a stop time takes the first beat more than 1 µs ahead, and the ticket awaits it. -/
theorem engOf_stopNow_running (r m : Nat) (id : Word) (k : Core) (hr : inRun k r = true) (hs : (engOf k r).stopAt = none) :
    engOf (stopNow [r] m id k) r = { engOf k r with
      stopAt := some (20000 * k.clock.chron + 4000001), stopTickets := (engOf k r).stopTickets ++ [id] } := by
  have hlive : [r].filter (inRun k) = [r] := by simp [hr]
  unfold stopNow
  simp only [hlive, List.isEmpty_cons, Bool.false_eq_true, if_false, List.foldl_cons, List.foldl_nil, engOf_setEng_same, hs,
    Option.getD_none, Nat.min_self]

/-- With none of its engines running the ticket completes at once. -/
theorem stopNow_none_running (l : List Nat) (m : Nat) (id : Word) (k : Core) (h : ∀ r ∈ l, inRun k r = false) :
    stopNow l m id k = completeTicket id stDone (statusWords k m) k := by
  have hlive : l.filter (inRun k) = [] := List.filter_eq_nil_iff.2 fun r hr => by simp [h r hr]
  unfold stopNow
  simp only [hlive, List.isEmpty_nil, if_true]

/-! ### The opcodes (Table ITIN-15) -/

/-- A WAYPOINT_READ of a staging slot that is readable is a result read of it. -/
theorem opWaypointRead_run_readable (c : Cmd) (n slot : Nat) (s : State) (hslot : slot = readSlot s.core (pn c.params 0) (pn c.params 1))
    (hq : qdrBadIn s.core (pn c.params 0) (stageAddr s.core (pn c.params 0) slot) 256 = false) :
    opWaypointRead.run c n s = resultRead 0x0405 c n [version s.core (verWaypoint (pn c.params 0) slot)]
      (slotWords s.qdr s.core (pn c.params 0) slot) s := by
  subst hslot
  exact if_neg (Bool.eq_false_iff.1 hq)

/-- Settles O19: each opcode by its kind of immediate part, and ITIN_STOP_NOW's work by the engines that run. -/
theorem itineraryCommands : Obligations.ItineraryCommands := by
  unfold Obligations.ItineraryCommands
  refine ⟨fun c s h hf => ?_, fun c s h => ?_, fun c s h hf => ?_, engOf_stopNow_running, stopNow_none_running, fun c s h => ?_,
    fun c s slot h hslot hq => ?_, fun c s h => ?_, fun c s h => ?_⟩
  · exact congrArg Host.Outcome.next (takeCmd_ticketed _ _ _ _ _ _ _ h hf rfl)
  · exact congrArg Host.Outcome.next (takeCmd_written _ _ _ _ _ h rfl)
  · exact congrArg Host.Outcome.next (takeCmd_ticketed _ _ _ _ _ _ _ h hf rfl)
  · exact congrArg Host.Outcome.next (takeCmd_done _ _ _ _ _ _ h rfl)
  · have hrun := opWaypointRead_run_readable c (sender c s) slot (begun opWaypointRead c s) hslot hq
    rw [begun_qdr] at hrun
    exact congrArg Host.Outcome.next (takeCmd_result _ _ _ _ _ h hrun)
  · exact congrArg Host.Outcome.next (takeCmd_written _ _ _ _ _ h rfl)
  · exact congrArg Host.Outcome.next (takeCmd_written _ _ _ _ _ h rfl)

end Sys2Proof.Machine
end

section
/-! SUPPORT. What the ends of a run, the faults of the engine and the staging of a waypoint do where their conditions stand (R124,
R135, R141, R142, R145, R146). -/

namespace Sys2Proof.Machine

/-! ### HALT and the stop beat (R135, R142) -/

/-- Once the last frame of HALT has left, the late edges fire, the late fails are kept, and the run ends HALTED. -/
theorem opItinDone_at_end (r : Nat) (k : Core) (late : List FailBit) (hr : inRun k r = true) (hs : stopDue (engOf k r) = false)
    (hw : (engOf k r).wait = none) (hl : (engOf k r).lane = 0) (hc : curEnds (engOf k r) 0xB = true)
    (hg : lagPending k r (engOf k r) = false) (hlate : late = (engOf k r).lateFails.filter (fun b => !isMatch k b)) :
    opItinDone r k = recordCause (engReg r 0x30) 0 (endRun r 1 0 (setEngState r 5
      (captureBeat r (beatTime (engOf k r) / 4000) (nextBeat k r) late
        (fireEdges (engOf k r).lateEdges (setEng r { engOf k r with flags := flagFails k (engOf k r) late } k))))) := by
  subst hlate
  exact if_pos ⟨hr, Bool.eq_false_iff.1 hs, hw, hl, hc, Bool.eq_false_iff.1 hg⟩

/-- Once the stop beat has come the run ends STOPPED. -/
theorem opStopBeat_due (r : Nat) (k : Core) (hr : inRun k r = true) (hs : stopDue (engOf k r) = true) :
    opStopBeat r k = recordCause (engReg r 0x30) 8 (endRun r 2 0 (setEngState r 6 k)) := if_pos ⟨hr, hs⟩

/-! ### Pending faults (R141) -/

/-- A run that has used up the frames before a pending fault stops with its code, UNDERRUN with none. -/
theorem faultIfDry_dry (r : Nat) (k : Core) (hr : inRun k r = true) (hs : stopDue (engOf k r) = false)
    (hd : starved (engOf k r) = true) :
    faultIfDry r k = faultStop r (if (engOf k r).err = 0 then 1 else (engOf k r).err) k :=
  if_pos ⟨hr, Bool.eq_false_iff.1 hs, hd⟩

/-- While the pin side needs no frame that is missing, a pending fault waits. -/
theorem faultIfDry_not_dry (r : Nat) (k : Core) (hd : starved (engOf k r) = false) : faultIfDry r k = k :=
  if_neg fun ⟨_, _, h⟩ => Bool.eq_false_iff.1 hd h

/-- A fault code set is pending while the pin side needs no frame that is missing. -/
theorem faultIfDry_setErr_pending (r code : Nat) (k : Core) (hd : starved (engOf k r) = false) :
    faultIfDry r (setEng r { engOf k r with err := code } k) = setEng r { engOf k r with err := code } k :=
  faultIfDry_not_dry _ _ (by rw [engOf_setEng_same]; exact hd)

/-- A fault code set while the pin side needs a frame stops the run with it. -/
theorem faultIfDry_setErr_dry (r code : Nat) (k : Core) (hc : code ≠ 0) (hr : inRun k r = true) (hs : stopDue (engOf k r) = false)
    (hd : starved (engOf k r) = true) :
    faultIfDry r (setEng r { engOf k r with err := code } k) = faultStop r code (setEng r { engOf k r with err := code } k) := by
  have hdry := faultIfDry_dry r (setEng r { engOf k r with err := code } k) hr
    (by rw [engOf_setEng_same]; exact hs) (by rw [engOf_setEng_same]; exact hd)
  rwa [engOf_setEng_same, if_neg hc] at hdry

/-! ### Illegal instructions and stream faults (R124, R145) -/

/-- An illegal instruction sets the pending fault code ILLEGAL. -/
theorem opIllegalInstruction_illegal (r : Nat) (qdr arc : Memory) (k : Core) (he : engineReady k r = true)
    (hi : insLegal k r (engOf k r) (fetchIns qdr r (engOf k r) (engOf k r).pc) = false) :
    opIllegalInstruction r qdr arc k = faultIfDry r (setEng r { engOf k r with err := 2 } k) :=
  if_pos ⟨he, Bool.eq_false_iff.1 hi⟩

/-- A transfer's fault sets the pending fault code CODE_FETCH or STREAM. -/
theorem opStreamFault_ready (r : Nat) (code : Bool) (k : Core) (he : engineReady k r = true) :
    opStreamFault r code k = faultIfDry r (setEng r { engOf k r with err := if code then 5 else 4 } k) := if_pos he

/-! ### Waypoints (R146) -/

/-- A snapshot that stands is stored in the staging slot of WP_SLOT, or is lost. -/
theorem opWaypointStageWrite_taken (r : Nat) (stored : Bool) (w : WpSnap) (t : Nat × Nat × Nat × Nat) (s : State)
    (hw : (engOf s.core r).shadow = some w) (ht : w.taken = some t) :
    opWaypointStageWrite r stored s =
      if stored then onCore (noteStaged r (waypointRecord s.core r w t))
        (writeQdr r (stageAddr s.core r (b2n (regBit s.core (engReg r 0x10) 1))) (waypointRecord s.core r w t) s)
      else onCore (fun k => setEng r { engOf k r with shadow := none } k) s := by
  simp only [opWaypointStageWrite, hw, ht]

/-! ### The events together -/

/-- Settles O22: each event by the branch that its condition selects. -/
theorem runEnds : Obligations.RunEnds := by
  unfold Obligations.RunEnds
  refine ⟨fun r s hr hs hw hl hc hg => ?_, fun r s hr hs => ?_, fun r s hr hs hd he => ?_, fun r n s hr hs hd he => ?_,
    fun r s he hi hd => ?_, fun r s he hi hr hs hd => ?_, fun r code s he hd => ?_, fun r w t s hw ht => ?_, fun r w t s hw ht => ?_⟩
  · exact next_onCore _ _ s (opItinDone_at_end _ _ _ hr hs hw hl hc hg rfl)
  · exact next_onCore _ _ s (opStopBeat_due _ _ hr hs)
  · exact next_onCore _ _ s ((faultIfDry_dry _ _ hr hs hd).trans (by rw [if_pos he]))
  · exact next_onCore _ _ s ((faultIfDry_dry _ _ hr hs hd).trans (by rw [if_neg (by omega), he]))
  · exact next_onCoreMem _ _ s ((opIllegalInstruction_illegal _ _ _ _ he hi).trans (faultIfDry_setErr_pending _ _ _ hd))
  · exact next_onCoreMem _ _ s ((opIllegalInstruction_illegal _ _ _ _ he hi).trans
      (faultIfDry_setErr_dry _ _ _ (by decide) hr hs hd))
  · exact next_onCore _ _ s ((opStreamFault_ready _ _ _ he).trans (faultIfDry_setErr_pending _ _ _ hd))
  · exact congrArg Host.Outcome.next (opWaypointStageWrite_taken _ true w t s hw ht)
  · exact congrArg Host.Outcome.next (opWaypointStageWrite_taken _ false w t s hw ht)

end Sys2Proof.Machine
end

section
/-! SUPPORT. What catalogue_update does by the ways of a key's set (R166 to R168): the first way that holds the key, and the first
that holds no entry. -/

namespace Sys2Proof.Machine

/-- The index of a way of an update's set. -/
def wayIndex (k : Core) (u : CatUpd) (w : Nat) : Nat := catSet k u.site u.x u.y * 4 + w

/-- An entry holds an update's key. -/
def holdsKey (u : CatUpd) (e : CatEntry) : Prop := e.site = u.site ∧ e.x = u.x ∧ e.y = u.y

/-- The first way of an update's set that holds its key. -/
def keyWay (k : Core) (u : CatUpd) : Option Nat :=
  (List.range 4).find? (fun w => (amGet? k.hub.entries (wayIndex k u w)).any
    (fun e => e.site == u.site && e.x == u.x && e.y == u.y))

/-- The first way of an update's set without an entry. -/
def freeWay (k : Core) (u : CatUpd) : Option Nat :=
  (List.range 4).find? (fun w => (amGet? k.hub.entries (wayIndex k u w)).isNone)

/-- A way holds an update's key when its entry does. -/
theorem any_holdsKey (o : Option CatEntry) (u : CatUpd) :
    o.any (fun e => e.site == u.site && e.x == u.x && e.y == u.y) = true ↔ ∃ e, o = some e ∧ holdsKey u e := by
  simp [Option.any_eq_true, holdsKey, and_assoc]

/-- The key's way, from the entry found there and none in the ways before it. -/
theorem keyWay_eq_some {k : Core} {u : CatUpd} {w : Nat} {e : CatEntry} (hw : w < 4)
    (he : amGet? k.hub.entries (wayIndex k u w) = some e) (hkey : holdsKey u e)
    (hbefore : ∀ v f, v < w → amGet? k.hub.entries (wayIndex k u v) = some f → ¬ holdsKey u f) : keyWay k u = some w := by
  refine List.find?_range_eq_some.2 ⟨(any_holdsKey _ u).2 ⟨e, he, hkey⟩, List.mem_range.2 hw, fun v hv => ?_⟩
  rw [Bool.not_eq_true', ← Bool.not_eq_true, any_holdsKey]
  rintro ⟨f, hf, hk⟩
  exact hbefore v f hv hf hk

/-- A set that holds no entry of the key has no way of it. -/
theorem keyWay_eq_none {k : Core} {u : CatUpd}
    (h : ∀ v f, v < 4 → amGet? k.hub.entries (wayIndex k u v) = some f → ¬ holdsKey u f) : keyWay k u = none := by
  refine List.find?_eq_none.2 fun v hv => ?_
  rw [any_holdsKey]
  rintro ⟨f, hf, hk⟩
  exact h v f (List.mem_range.1 hv) hf hk

/-- The free way, from its being free and an entry in every way before it. -/
theorem freeWay_eq_some {k : Core} {u : CatUpd} {w : Nat} (hw : w < 4) (hfree : amGet? k.hub.entries (wayIndex k u w) = none)
    (hbefore : ∀ v, v < w → (amGet? k.hub.entries (wayIndex k u v)).isSome = true) : freeWay k u = some w :=
  List.find?_range_eq_some.2 ⟨by rw [hfree]; rfl, List.mem_range.2 hw, fun v hv => by
    rw [Option.not_isNone]; exact hbefore v hv⟩

/-- A full set has no free way. -/
theorem freeWay_eq_none {k : Core} {u : CatUpd} (h : ∀ v, v < 4 → (amGet? k.hub.entries (wayIndex k u v)).isSome = true) :
    freeWay k u = none :=
  List.find?_eq_none.2 fun v hv => by simp [Option.isSome_iff_ne_none.1 (h v (List.mem_range.1 hv))]

/-- The procedure of R167 by the ways of the set. -/
theorem catalogueUpdate_catalogued (u : CatUpd) (k : Core) (hu : uncat k u.site = false) :
    catalogueUpdate u k =
      match (keyWay k u).map (wayIndex k u) with
      | some i => match amGet? k.hub.entries i with
        | some e => changeSite u.site (putEntry i { e with io := e.io ||| u.io, count := min (e.count + 1) 255 } u) k
        | none => k
      | none =>
        if regFld k (catReg 8) 19 0 = (k.hub.entries.filter (fun e => e.2.site == u.site)).length then makeUncat u.site 2 k
        else match (freeWay k u).map (wayIndex k u) with
          | some i => changeSite u.site (putEntry i { site := u.site, y := u.y, x := u.x, count := 1, io := u.io } u) k
          | none => makeUncat u.site 1 k := by
  unfold catalogueUpdate
  rw [if_neg (Bool.eq_false_iff.1 hu)]
  dsimp only
  rw [List.find?_map, List.find?_map]
  rfl

/-- An update of an uncatalogued site is ignored. -/
theorem catalogueUpdate_uncatalogued (u : CatUpd) (k : Core) (hu : uncat k u.site = true) : catalogueUpdate u k = k := if_pos hu

/-- An update whose key has an entry counts there. -/
theorem catalogueUpdate_known {u : CatUpd} {k : Core} {w : Nat} {e : CatEntry} (hu : uncat k u.site = false) (hk : keyWay k u = some w)
    (he : amGet? k.hub.entries (wayIndex k u w) = some e) :
    catalogueUpdate u k = changeSite u.site
      (putEntry (wayIndex k u w) { e with io := e.io ||| u.io, count := min (e.count + 1) 255 } u) k := by
  rw [catalogueUpdate_catalogued u k hu, hk]
  simp only [Option.map_some, he]

/-- A new key of a site that has used its allowance. -/
theorem catalogueUpdate_allowance {u : CatUpd} {k : Core} (hu : uncat k u.site = false) (hk : keyWay k u = none)
    (ha : (k.hub.entries.filter (fun e => e.2.site == u.site)).length = regFld k (catReg 8) 19 0) :
    catalogueUpdate u k = makeUncat u.site 2 k := by
  rw [catalogueUpdate_catalogued u k hu, hk]
  exact if_pos ha.symm

/-- A new key within the allowance takes the free way of its set. -/
theorem catalogueUpdate_free_way {u : CatUpd} {k : Core} {w : Nat} (hu : uncat k u.site = false) (hk : keyWay k u = none)
    (ha : (k.hub.entries.filter (fun e => e.2.site == u.site)).length ≠ regFld k (catReg 8) 19 0) (hf : freeWay k u = some w) :
    catalogueUpdate u k = changeSite u.site
      (putEntry (wayIndex k u w) { site := u.site, y := u.y, x := u.x, count := 1, io := u.io } u) k := by
  rw [catalogueUpdate_catalogued u k hu, hk, hf]
  exact if_neg ha.symm

/-- A new key within the allowance of a full set makes the site uncatalogued. -/
theorem catalogueUpdate_full_set {u : CatUpd} {k : Core} (hu : uncat k u.site = false) (hk : keyWay k u = none)
    (ha : (k.hub.entries.filter (fun e => e.2.site == u.site)).length ≠ regFld k (catReg 8) 19 0) (hf : freeWay k u = none) :
    catalogueUpdate u k = makeUncat u.site 1 k := by
  rw [catalogueUpdate_catalogued u k hu, hk, hf]
  exact if_neg ha.symm

/-- The oldest update of a region's queue is applied. -/
theorem opCatalogueUpdate_cons (r : Nat) (u : CatUpd) (l : List CatUpd) (k : Core) (hq : (fpOf k r).catQ = u :: l) :
    opCatalogueUpdate r k = catalogueUpdate u (setFp r { fpOf k r with catQ := l } k) := by
  unfold opCatalogueUpdate
  rw [hq]

/-- Settles O24: each case by the key's way, the allowance and the free way. (The procedure of the model has the obligation's own
name.) -/
theorem catalogueUpdate_cases : Obligations.CatalogueUpdate := by
  unfold Obligations.CatalogueUpdate
  refine ⟨fun r u l s hq => ?_, catalogueUpdate_uncatalogued, fun u w e k hu hw he hs hx hy hbefore => ?_, fun u k hu hkey ha => ?_,
    fun u w k hu hw hkey ha hfree hbefore => ?_, fun u k hu hfull ha => ?_⟩
  · exact next_onCore _ _ s (opCatalogueUpdate_cons _ u l _ hq)
  · exact catalogueUpdate_known hu (keyWay_eq_some hw he ⟨hs, hx, hy⟩ hbefore) he
  · exact catalogueUpdate_allowance hu (keyWay_eq_none hkey) ha
  · exact catalogueUpdate_free_way hu (keyWay_eq_none hkey) ha (freeWay_eq_some hw hfree hbefore)
  · have hkey : keyWay k u = none := keyWay_eq_none fun v f hv hf => by
      obtain ⟨g, hg, hne⟩ := hfull v hv
      exact Option.some.inj (hg.symm.trans hf) ▸ hne
    have hfree : freeWay k u = none := freeWay_eq_none fun v hv => by
      obtain ⟨g, hg, -⟩ := hfull v hv
      exact Option.isSome_of_eq_some hg
    exact catalogueUpdate_full_set hu hkey ha hfree

end Sys2Proof.Machine
end

section
/-! SUPPORT. The fail capture, Ledger, Catalogue and repair commands (R161 to R178). -/

namespace Sys2Proof.Machine

/-- While a solve covers its sites a read of the allocator answers with the solve's bound (R177). -/
theorem solveRead_solving {op : BitVec 16} {c : Cmd} {n m t : Nat} {stamp : List Nat} {data : List Word} {s : State}
    (h : solveUntil s.core m = some t) : solveRead op c n m stamp data s = .done stNotReady (words64 t) s := by
  unfold solveRead
  rw [h]
  rfl

/-- With no such solve it is a result read (R349). -/
theorem solveRead_idle {op : BitVec 16} {c : Cmd} {n m : Nat} {stamp : List Nat} {data : List Word} {s : State}
    (h : solveUntil s.core m = none) : solveRead op c n m stamp data s = resultRead op c n stamp data s := by
  unfold solveRead
  rw [h]

/-- Settles O23: each opcode by its kind of immediate part, and the allocator's reads by the solves that run. -/
theorem failCommands : Obligations.FailCommands := by
  unfold Obligations.FailCommands
  refine ⟨fun c s h => ?_, fun c s h => ?_, fun c s h => ?_, fun c s h hf => ?_, fun c s h => ?_, fun c s h => ?_, fun c s h hf => ?_,
    fun c s h => ?_, fun c s h hf => ?_, fun c s h hu => ?_, fun c s t h hu => ?_, fun c s h hu => ?_, fun c s h => ?_⟩
  · exact congrArg Host.Outcome.next (takeCmd_written _ _ _ _ _ h rfl)
  · exact congrArg Host.Outcome.next (takeCmd_written _ _ _ _ _ h rfl)
  · exact congrArg Host.Outcome.next (takeCmd_done _ _ _ _ _ _ h rfl)
  · exact congrArg Host.Outcome.next (takeCmd_ticketed _ _ _ _ _ _ _ h hf rfl)
  · exact congrArg Host.Outcome.next (takeCmd_done _ _ _ _ _ _ h rfl)
  · exact congrArg Host.Outcome.next (takeCmd_done _ _ _ _ _ _ h rfl)
  · exact congrArg Host.Outcome.next (takeCmd_ticketed _ _ _ _ _ _ _ h hf rfl)
  · exact congrArg Host.Outcome.next (takeCmd_done _ _ _ _ _ _ h rfl)
  · exact congrArg Host.Outcome.next (takeCmd_ticketed _ _ _ _ _ _ _ h hf rfl)
  · exact congrArg Host.Outcome.next (takeCmd_result _ _ _ _ _ h (solveRead_idle hu))
  · exact congrArg Host.Outcome.next (takeCmd_done _ _ _ _ _ _ h (solveRead_solving hu))
  · exact congrArg Host.Outcome.next (takeCmd_result _ _ _ _ _ h (solveRead_idle hu))
  · exact congrArg Host.Outcome.next (takeCmd_done _ _ _ _ _ _ h rfl)

end Sys2Proof.Machine
end

section
/-! SUPPORT. What the events of the Ledger, the catch windows, the Catalogue's sweep and the repair allocator do where their
conditions stand (R158 to R176). -/

namespace Sys2Proof.Machine

/-! ### The Ledger (R158 to R160) -/

/-- A block that has room and a working place is drained. -/
theorem opLedgerBlockWrite_drains (r : Nat) (s : State) (hb : 8 ≤ (fpOf s.core r).buf.length) (hr : ringRoom s.core = true)
    (ha : s.core.order = .a000 ∨ arcFailed s.core (ledgerBase s.core + ledgerWr s.core % ledgerLen s.core) 256 = false) :
    opLedgerBlockWrite r true s = putBlock r s := by
  unfold opLedgerBlockWrite
  rw [if_neg (by omega), if_neg (by simp [hr]), if_pos ⟨rfl, ha.imp_right Bool.eq_false_iff.1⟩]

/-- On a full ring the writer stops. -/
theorem opLedgerBlockWrite_ring_full (r : Nat) (written : Bool) (s : State) (hb : 8 ≤ (fpOf s.core r).buf.length)
    (hr : ringRoom s.core = false) : opLedgerBlockWrite r written s = onCore noteRingFull s := by
  unfold opLedgerBlockWrite
  rw [if_neg (by omega), if_pos (by simp [hr])]

/-- A block whose transfer faults is dropped. -/
theorem opLedgerBlockWrite_faulted (r : Nat) (s : State) (hb : 8 ≤ (fpOf s.core r).buf.length) (hr : ringRoom s.core = true) :
    opLedgerBlockWrite r false s = onCore (fun k => showFill r (enterGap r (inInterval r (nsNow k) (dropBlock r k)))) s := by
  unfold opLedgerBlockWrite
  rw [if_neg (by omega), if_neg (by simp [hr]), if_neg (by simp)]

/-- 20 µs after its first record a partly filled block is completed. -/
theorem opLedgerBlockPad_due (r : Nat) (k : Core) (hb : (fpOf k r).buf.length % 8 ≠ 0) (ht : (fpOf k r).firstAt + 4000 ≤ k.clock.uptime) :
    opLedgerBlockPad r k = padBlock r k := if_pos ⟨hb, ht⟩

/-! ### Catch windows (R162) -/

/-- The oldest catch update of a region that runs sets its bit in a word that is readable. -/
theorem opCatchUpdate_cons (r n a b : Nat) (l : List (Nat × Nat × Nat)) (s : State) (hr : regionStopped s.core r = false)
    (hq : (fpOf s.core r).catchQ = (n, a, b) :: l) (hg : qdrBadIn s.core r a 1 = false) :
    opCatchUpdate r s = writeQdr r a [readByte s.qdr (qdrKey r a) ||| BitVec.ofNat 8 (2 ^ b)]
      (onCore (fun k => setFp r { fpOf k r with catchQ := l } k) s) := by
  simp only [opCatchUpdate, hr, hq, hg, Bool.false_eq_true, if_false, onCore_qdr]

/-! ### The sweep (R168, R170) -/

/-- The Catalogue once the sweep has told the mirror of every entry that it removed. -/
def swept (k : Core) : Core := k.hub.purge.foldl (fun acc e => queueMirror (0x100000 + 16 * e.1) (bytesOf [0, 0, 0, 0]) acc) k

/-- A sweep under way ends: it is empty, its tickets complete and the cause is recorded. -/
theorem opPurgeDone_busy (k : Core) (h : regBit k (catReg 4) 30 = true) :
    opPurgeDone k = recordCause (catReg 0x60) 5 (k.hub.purgeTickets.foldl (fun acc t => completeTicket t stDone [] acc)
      (setRegBit (catReg 4) 30 false (showCat { swept k with hub := { (swept k).hub with purge := [], purgeTickets := [] } }))) :=
  if_pos h

/-! ### Repair (R174 to R176) -/

/-- A region of the delta queue leaves it and is derived again. -/
theorem opMustRepairEval_queued (d : Nat) (k : Core) (h : d ∈ k.hub.deltas) :
    opMustRepairEval d k =
      changeSite (descSite k d) (evalRepair d) { k with hub := { k.hub with deltas := k.hub.deltas.erase d } } :=
  if_pos (List.contains_iff_mem.2 h)

/-- An automatic solve that is due starts. -/
theorem opAutoSolve_due (x : Nat) (k : Core) (h : autoSolveDue k x = true) :
    opAutoSolve x k = startSolve (2 ^ x) 0 { k with hub := { k.hub with due := k.hub.due &&& (2 ^ 128 - 1 - 2 ^ x) } } := if_pos h

/-- The allocator once its oldest solve has ended, before a ticket completes: the sites left behind are derived again, the regions
of the solve take their results and the cause is recorded. -/
def solveEnded (x : Solve) (l : List Solve) (k : Core) : Core :=
  recordCause (catReg 0x60) 2 (setRegBit (catReg 4) 31 (!l.isEmpty)
    ((bitList x.sites 128).foldl (fun acc n => changeSite n (fun a => (repairsOf a n).foldl (fun b d => solveRegion d b) a) acc)
      { rescanAll k with hub := { (rescanAll k).hub with solves := l } }))

/-- The oldest solve ends, and its ticket completes where it has one. -/
theorem opSolveDone_cons (x : Solve) (l : List Solve) (k : Core) (hs : k.hub.solves = x :: l) :
    opSolveDone k = if x.ticket = 0 then solveEnded x l k else completeTicket x.ticket stDone [] (solveEnded x l k) := by
  unfold opSolveDone
  rw [hs]
  rfl

/-- An automatic solve, which has no ticket, ends with its cause alone. -/
theorem causeSet_opSolveDone_unticketed (x : Solve) (l : List Solve) (s : State) (hs : s.core.hub.solves = x :: l) (ht : x.ticket = 0) :
    causeSet (onCore opSolveDone s) (catReg 0x60) 2 = true := by
  unfold causeSet
  rw [onCore_core, opSolveDone_cons x l _ hs, if_pos ht]
  exact recordCause_set _ _ _ (by omega)

/-! ### The events together -/

/-- Settles O25: each event by the branch that its condition selects. -/
theorem ledgerAndCatalogueEvents : Obligations.LedgerAndCatalogueEvents := by
  unfold Obligations.LedgerAndCatalogueEvents
  refine ⟨fun r s hb hr ha => ?_, fun r w s hb hr => ?_, fun r s hb hr => ?_, fun r s hb ht => ?_, fun r n a b l s hr hq hg => ?_,
    fun s h => ?_, fun d s h => ?_, fun x s h => ?_, fun x l s hs ht => ?_, fun x l s hs ht => ?_⟩
  · exact congrArg Host.Outcome.next (opLedgerBlockWrite_drains _ s hb hr ha)
  · exact congrArg Host.Outcome.next (opLedgerBlockWrite_ring_full _ w s hb hr)
  · exact congrArg Host.Outcome.next (opLedgerBlockWrite_faulted _ s hb hr)
  · exact next_onCore _ _ s (opLedgerBlockPad_due _ _ hb ht)
  · exact congrArg Host.Outcome.next (opCatchUpdate_cons _ n a b l s hr hq hg)
  · exact next_onCore _ _ s (opPurgeDone_busy _ h)
  · exact next_onCore _ _ s (opMustRepairEval_queued _ _ h)
  · exact next_onCore _ _ s (opAutoSolve_due _ _ h)
  · exact next_onCore _ _ s ((opSolveDone_cons x l _ hs).trans (if_neg ht))
  · exact ⟨onCore opSolveDone s, rfl, causeSet_opSolveDone_unticketed x l s hs ht, sameMemory_onCore _ s⟩

end Sys2Proof.Machine
end

section
/-! SUPPORT. The measurement commands (R198, R199, R206, R207). -/

namespace Sys2Proof.Machine

/-- The words at `n` positions of a channel's ring, from `p` (R198, R199). -/
def ringWords (m : Memory) (k : Core) (b ch p n : Nat) : List Word :=
  (List.range n).map (fun i => readWord m (qdrKey (b / 8) (ringAddr k b ch (p + i))))

/-- Positions that have all been written are a result read of the ring's words (R199). -/
theorem runMeasRead_behind_wpos {c : Cmd} {n b ch : Nat} {s : State} (hc : readChan c = (b, ch))
    (h : pn64 c.params 1 + pn c.params 3 ≤ chanWpos s.core b ch) :
    runMeasRead c n s =
      resultRead opMeasRead.opcode c n [] (ringWords s.qdr s.core b ch (pn64 c.params 1) (pn c.params 3)) s := by
  simp only [runMeasRead, hc]
  exact if_pos h

/-- Where one has not, the tick of the last position is answered (R199). -/
theorem runMeasRead_beyond_wpos {c : Cmd} {n b ch : Nat} {s : State} (hc : readChan c = (b, ch))
    (h : chanWpos s.core b ch < pn64 c.params 1 + pn c.params 3) :
    runMeasRead c n s = notReady (positionTick s.core b ch (pn64 c.params 1 + pn c.params 3 - 1)) s := by
  simp only [runMeasRead, hc]
  exact if_neg (Nat.not_le.2 h)

/-- The start of a command leaves the ring: MEAS_READ replies its words from the state in which the command came. -/
theorem takeCmd_measRead_behind_wpos {c : Cmd} {b ch : Nat} {s : State} (ha : accepted opMeasRead c s = true)
    (hc : readChan c = (b, ch)) (h : pn64 c.params 1 + pn c.params 3 ≤ chanWpos (begun opMeasRead c s).core b ch) :
    takeCmd opMeasRead c s = resultReplied opMeasRead c []
      (ringWords s.qdr (begun opMeasRead c s).core b ch (pn64 c.params 1) (pn c.params 3)) s := by
  rw [takeCmd_result _ _ _ _ _ ha (runMeasRead_behind_wpos hc h), begun_qdr]

/-- Settles O26: each opcode by its kind of immediate part, and MEAS_READ by whether its positions lie behind MEAS_WPOS. -/
theorem measurementCommands : Obligations.MeasurementCommands := by
  unfold Obligations.MeasurementCommands
  refine ⟨fun c s h => ?_, fun c s h => ?_, fun c s h => ?_, fun c s b ch h hc hw => ?_, fun c s b ch h hc hw => ?_,
    fun c s h => ?_, fun c s h => ?_⟩
  · exact congrArg Host.Outcome.next (takeCmd_written _ _ _ _ _ h rfl)
  · exact congrArg Host.Outcome.next (takeCmd_written _ _ _ _ _ h rfl)
  · exact congrArg Host.Outcome.next (takeCmd_written _ _ _ _ _ h rfl)
  · exact congrArg Host.Outcome.next (takeCmd_measRead_behind_wpos h hc hw)
  · exact congrArg Host.Outcome.next (takeCmd_done _ _ _ _ _ _ h (runMeasRead_beyond_wpos hc hw))
  · exact congrArg Host.Outcome.next (takeCmd_result _ _ _ _ _ h rfl)
  · exact congrArg Host.Outcome.next (takeCmd_result _ _ _ _ _ h rfl)

end Sys2Proof.Machine
end

section
/-! SUPPORT. What the events of a measuring channel do where their conditions stand (R184 to R201). -/

namespace Sys2Proof.Machine

/-! ### Outputs (R187, R197, R198) -/

/-- A channel that does not run has no outputs. -/
theorem opMeasOutput_stopped (b ch : Nat) (raw : Int) (lost : Bool) (s : State) (hr : chanRuns s.core b ch = false) :
    opMeasOutput b ch raw lost s = s := if_pos (by simp [hr])

/-- A lost output of a running channel counts as an overrun and is tagged on the next word. -/
theorem opMeasOutput_lost (b ch : Nat) (raw : Int) (s : State) (hr : chanRuns s.core b ch = true) :
    opMeasOutput b ch raw true s = onCore (fun k => refreshMeas b ch (passOutput b ch false (loseOutput b ch k))) s := by
  unfold opMeasOutput
  rw [if_neg (by simp [hr]), if_pos (Or.inl rfl)]

/-- A channel once its output `w` has been delivered: the tag of a loss is past, the output counts, and the detectors take it. -/
def outputDone (b ch : Nat) (w : Word) (k : Core) : Core :=
  refreshMeas b ch (detectOutput b ch w (passOutput b ch (!bit w 7 && !bit w 6) (setChan b ch { chanOf k b ch with overrun := false } k)))

/-- Any other output of a running channel that is not silent is delivered. -/
theorem opMeasOutput_delivered (b ch : Nat) (raw : Int) (s : State) (hr : chanRuns s.core b ch = true) (hs : chanSilent s.core b ch = false) :
    opMeasOutput b ch raw false s =
      onCore (outputDone b ch (chanWord s.core b ch raw false)) (deliverWord b ch (chanWord s.core b ch raw false) s) := by
  unfold opMeasOutput
  rw [if_neg (by simp [hr]), if_neg (by simp [hs])]
  rfl

/-! ### Coarse values (R191, R201) -/

/-- The end of a channel's fast window: it counts, and its value meets the limit monitor. -/
def windowEnded (b ch : Nat) (raw : Int) (k : Core) : Core :=
  checkLimit b ch (chanValue k b ch raw).1 (setChan b ch { chanOf k b ch with windows := (chanOf k b ch).windows + 1 } k)

/-- A coarse value with no COARSE word due only ends its window. -/
theorem opCoarseValue_not_due (b ch : Nat) (raw : Int) (s : State) (hr : chanRuns s.core b ch = true)
    (hd : (chanOf s.core b ch).coarseDue = false) : opCoarseValue b ch raw s = onCore (windowEnded b ch raw) s := by
  unfold opCoarseValue
  rw [if_neg (by simp [hr])]
  exact if_neg (by simp [hd])

/-- The first window that starts at or after the change delivers the COARSE word that is due. -/
theorem opCoarseValue_due (b ch : Nat) (raw : Int) (s : State) (hr : chanRuns s.core b ch = true)
    (hd : (chanOf s.core b ch).coarseDue = true) (hs : chanSilent s.core b ch = false)
    (hw : (chanOf s.core b ch).since ≤ chanP0 s.core b ch + 128 * (chanOf s.core b ch).windows) :
    opCoarseValue b ch raw s = onCore (fun k => setChan b ch { chanOf k b ch with coarseDue := false, overrun := false } k)
      (deliverWord b ch (chanWord s.core b ch raw true) (onCore (windowEnded b ch raw) s)) := by
  unfold opCoarseValue
  rw [if_neg (by simp [hr])]
  exact if_pos ⟨hd, hw, by simp [hs]⟩

/-! ### Over range (R192, R193) -/

/-- The detector's first assertion after a clean output is recorded. -/
theorem opOvrStart_first (b ch : Nat) (positive : Bool) (k : Core) (hr : chanRuns k b ch = true) (ho : (chanOf k b ch).ovr = false)
    (hn : (chanOf k b ch).overNoted = false) :
    opOvrStart b ch positive k =
      recordCause (blockReg b 0x210) 0 (setRegBit (blockReg b 0x218) ch true (refreshMeas b ch (setChan b ch
        { chanOf k b ch with ovr := true, positive := positive, recovering := false, overSeen := true, overNoted := true } k))) := by
  unfold opOvrStart
  rw [if_neg (by simp [hr, ho])]
  exact if_neg (by simp [hn])

/-- The release of an asserted detector begins the recovery of 4 µs. -/
theorem opOvrRelease_asserted (b ch : Nat) (k : Core) (ho : (chanOf k b ch).ovr = true) :
    opOvrRelease b ch k = refreshMeas b ch
      (setChan b ch { chanOf k b ch with ovr := false, recovering := true, recoverAt := k.clock.uptime + 800 } k) := if_pos ho

/-- The end of the recovery restarts the channel. -/
theorem opOvrRecoveryEnd_due (b ch : Nat) (k : Core) (hr : (chanOf k b ch).recovering = true)
    (ht : (chanOf k b ch).recoverAt ≤ k.clock.uptime) :
    opOvrRecoveryEnd b ch k = noteChange true false b ch (setChan b ch { chanOf k b ch with recovering := false } k) :=
  if_pos ⟨hr, ht⟩

/-! ### Range changes (R184) -/

/-- A range change whose time has come is over. -/
theorem opRangeChangeComplete_due (c : Nat) (x : PpmuChange) (k : Core) (hx : amGet? k.ppmus c = some x) (ht : x.due ≤ k.clock.uptime) :
    opRangeChangeComplete c k = { k with ppmus := amErase k.ppmus c } := by
  unfold opRangeChangeComplete
  rw [hx]
  exact if_pos ht

/-! ### The events together -/

/-- Settles O27: each event by the branch that its condition selects. -/
theorem measurementEvents : Obligations.MeasurementEvents := by
  unfold Obligations.MeasurementEvents
  refine ⟨fun b ch raw s hr hs => ?_, fun b ch raw s hr => ?_, fun b ch raw l s hr => ?_, fun b ch raw s hr hd => ?_,
    fun b ch raw s hr hd hs hw => ?_, fun b ch pos s hr ho hn => ?_, fun b ch s ho => ?_, fun b ch s hr ht => ?_, fun c x s hx ht => ?_⟩
  · exact congrArg Host.Outcome.next (opMeasOutput_delivered _ _ raw s hr hs)
  · exact congrArg Host.Outcome.next (opMeasOutput_lost _ _ raw s hr)
  · exact congrArg Host.Outcome.next (opMeasOutput_stopped _ _ raw l s hr)
  · exact congrArg Host.Outcome.next (opCoarseValue_not_due _ _ raw s hr hd)
  · exact congrArg Host.Outcome.next (opCoarseValue_due _ _ raw s hr hd hs hw)
  · exact next_onCore _ _ s (opOvrStart_first _ _ pos _ hr ho hn)
  · exact next_onCore _ _ s (opOvrRelease_asserted _ _ _ ho)
  · exact next_onCore _ _ s (opOvrRecoveryEnd_due _ _ _ hr ht)
  · exact next_onCore _ _ s (opRangeChangeComplete_due _ x _ hx ht)

end Sys2Proof.Machine
end

section
/-! SUPPORT. What the triggers, starts and ends of conversions and the fabric's requests do where their conditions stand (R225 to
R231, R276). -/

namespace Sys2Proof.Machine

/-! ### Triggers (R227) -/

/-- A tree edge of an enabled schedule on a good converter makes the next entry pending. -/
theorem opMonSchedTrigger_good (b i : Nat) (k : Core) (ho : schedOn k b i = true) (ht : regFld k (schedReg b i) 13 12 ≠ 0)
    (hc : selfcalRuns k b = false) (ha : analogRuns k b = true) (hb : convBad k b i = false) :
    opMonSchedTrigger b i k = triggerEntry b i k := by
  unfold opMonSchedTrigger
  rw [if_neg (by simp [ho, ht, hc, ha])]
  exact if_neg (by simp [hb])

/-! ### Starts (R225, R227, R228) -/

/-- A pending entry of a converter that may start: it starts where its class has budget, and is skipped where not. -/
theorem opMonConversionStart_pending (b i e : Nat) (k : Core) (hb : convBad k b i = false) (hy : convBusy k b i = false)
    (hs : blockStopped k b = false) (hp : (convOf k b i).pending = some e) :
    opMonConversionStart b i k =
      if convFunded k b (entryClass (regFld k (entryReg b i e) 31 29)) then
        startConv b i (.entry e) (regFld k (entryReg b i e) 8 0) (entryClass (regFld k (entryReg b i e) 31 29))
          (setConv b i { convOf k b i with pending := none } k)
      else skipEntry b i e (setConv b i { convOf k b i with pending := none } k) := by
  simp only [opMonConversionStart, hb, hy, hs, hp]
  exact if_neg (by simp)

/-- With no entry pending, the oldest queued request starts under TE. -/
theorem opMonConversionStart_queued (b i : Nat) (q : ConvFor × Nat) (l : List (ConvFor × Nat)) (k : Core)
    (hb : convBad k b i = false) (hy : convBusy k b i = false) (hs : blockStopped k b = false)
    (hp : (convOf k b i).pending = none) (hq : (convOf k b i).queue = q :: l) (hf : convFunded k b 4 = true) :
    opMonConversionStart b i k = startConv b i q.1 q.2 4 (setConv b i { convOf k b i with queue := l } k) := by
  simp only [opMonConversionStart, hb, hy, hs, hp, hq, hf]
  exact if_neg (by simp)

/-! ### Ends (R230, R231) -/

/-- A conversion that ends within range does what its kind of request asks, and a waiting plausibility check may start. -/
theorem opMonConversionDone_in_range (b i n : Nat) (run : ConvRun) (k : Core) (hr : (convOf k b i).run = some run) (h0 : n ≠ 0)
    (h1 : n ≠ 65535) :
    opMonConversionDone b i n k = startPlaus b (convDone b i run n (setConv b i { convOf k b i with run := none } k)) := by
  simp [opMonConversionDone, hr, h0, h1]

theorem convDone_entry (b i n e : Nat) (run : ConvRun) (k : Core) (hw : run.what = .entry e) :
    convDone b i run n k = entryDone b i e run n k := by rw [convDone, hw]

theorem convDone_host (b i n : Nat) (run : ConvRun) (op : BitVec 16) (c : Cmd) (k : Core) (hw : run.what = .host op c) :
    convDone b i run n k = answer op c stDone [(urgentDone b i run n k).1] (urgentDone b i run n k).2 := by rw [convDone, hw]

theorem convDone_fabric (b i n : Nat) (run : ConvRun) (k : Core) (hw : run.what = .fabric) :
    convDone b i run n k = toggleFab b i (urgentDone b i run n k).2 := by rw [convDone, hw]

/-! ### The fabric's requests (R276) -/

/-- A rise is seen where its bit stands. -/
@[simp] theorem takeRise_rose (r b o : Nat) (k : Core) : (takeRise r b o k).1 = (amGetD (fabOf k r).rises b 0).testBit o := by
  simp only [takeRise]
  split <;> simp [*]

/-- Taking a rise leaves the registers. -/
@[simp] theorem reg_takeRise (r b o a : Nat) (k : Core) : reg (takeRise r b o k).2 a = reg k a := by
  simp only [takeRise]
  split <;> rfl

@[simp] theorem convBad_takeRise (r b o c i : Nat) (k : Core) : convBad (takeRise r b o k).2 c i = convBad k c i := by
  simp only [convBad, regBit, reg_takeRise]

@[simp] theorem convBusy_takeRise (r b o c i : Nat) (k : Core) : convBusy (takeRise r b o k).2 c i = convBusy k c i := by
  simp only [convBusy, regBit, reg_takeRise]

@[simp] theorem convFunded_takeRise (r b o c cls : Nat) (k : Core) :
    convFunded (takeRise r b o k).2 c cls = convFunded k c cls := by
  rw [convFunded, convFunded, remain, remain, regFld, regFld, reg_takeRise]

/-- A request of the fabric starts at once on an idle good converter with budget of TH. -/
theorem opFabConvert_free (b i : Nat) (k : Core) (hb : convBad k b i = false) (hy : convBusy k b i = false)
    (hf : convFunded k b 7 = true) :
    opFabConvert true b i k = startConv b i .fabric (regFld k (blockReg b 0xA04) (16 * i + 8) (16 * i)) 7 k := by
  simp [opFabConvert, hb, hy, hf]

/-- The request that a rise of output 52 or 53 makes, judged and addressed by the registers as they stood before it was taken. -/
theorem opFabConvert_takeRise (b i : Nat) (k : Core) (hu : (amGetD (fabOf k (b / 8)).rises (b % 8) 0).testBit (52 + i) = true)
    (hb : convBad k b i = false) (hy : convBusy k b i = false) (hf : convFunded k b 7 = true) :
    opFabConvert (takeRise (b / 8) (b % 8) (52 + i) k).1 b i (takeRise (b / 8) (b % 8) (52 + i) k).2 =
      startConv b i .fabric (regFld k (blockReg b 0xA04) (16 * i + 8) (16 * i)) 7 (takeRise (b / 8) (b % 8) (52 + i) k).2 := by
  rw [takeRise_rose, hu, opFabConvert_free b i _ (by simpa using hb) (by simpa using hy) (by simpa using hf)]
  simp only [regFld, reg_takeRise]

/-! ### The events together -/

/-- Settles O29: each event by the branch that its condition selects, and a conversion's end by the kind of its request. -/
theorem conversionEvents : Obligations.ConversionEvents := by
  unfold Obligations.ConversionEvents
  refine ⟨fun b i s ho ht hc ha hb => ?_, fun b i e s hb hy hs hp hf => ?_, fun b i e s hb hy hs hp hf => ?_,
    fun b i q l s hb hy hs hp hq hf => ?_, fun b i n run e s hr hw h0 h1 => ?_, fun b i n run op c s hr hw h0 h1 => ?_,
    fun b i n run s hr hw h0 h1 => ?_, fun b i s hu hb hy hf => ?_⟩
  · exact next_onCore _ _ s (opMonSchedTrigger_good _ _ _ ho ht hc ha hb)
  · exact next_onCore _ _ s ((opMonConversionStart_pending _ _ e _ hb hy hs hp).trans (if_pos hf))
  · exact next_onCore _ _ s ((opMonConversionStart_pending _ _ e _ hb hy hs hp).trans (if_neg (by simp [hf])))
  · exact next_onCore _ _ s (opMonConversionStart_queued _ _ q l _ hb hy hs hp hq hf)
  · exact next_onCore _ _ s ((opMonConversionDone_in_range _ _ _ run _ hr h0 h1).trans
      (congrArg (startPlaus b.val) (convDone_entry _ _ _ e run _ hw)))
  · exact next_onCore _ _ s ((opMonConversionDone_in_range _ _ _ run _ hr h0 h1).trans
      (congrArg (startPlaus b.val) (convDone_host _ _ _ run op c _ hw)))
  · exact next_onCore _ _ s ((opMonConversionDone_in_range _ _ _ run _ hr h0 h1).trans
      (congrArg (startPlaus b.val) (convDone_fabric _ _ _ run _ hw)))
  · exact next_onCore _ _ s (opFabConvert_takeRise _ _ _ hu hb hy hf)

end Sys2Proof.Machine
end

section
/-! SUPPORT. What the edges, the blanking, the undecided comparators and the comparator check of a window monitor do where their
conditions stand (R242 to R249, R254). -/

namespace Sys2Proof.Machine

/-! ### Edges (R247) -/

/-- A change of a decided comparator of a monitor that is not blanked is set and reported. -/
theorem opWmEdge_unblanked (b m kind fine : Nat) (k : Core) (hv : wmBit k b m (kind / 2) ≠ (kind % 2 == 0))
    (hd : wmBit k b m (6 + kind / 2) = false) (hb : wmBit k b m 3 = false) :
    opWmEdge b m kind fine k = reportEdge b m kind fine {} (setRegBit (wmReg b m 0x20C) (kind / 2) (kind % 2 == 0) k) := by
  unfold opWmEdge
  exact (if_neg (by simp [hv, hd])).trans (if_neg (by simp [hb]))

/-! ### Blanking (R248, R249) -/

/-- A monitor that a tree blanks keeps both outputs in its blanking memory. -/
theorem opBlankStart_unblanked (b m : Nat) (k : Core) (ht : regFld k (wmReg b m 0x200) 13 12 ≠ 0) (hb : wmBit k b m 3 = false) :
    opBlankStart b m k = setRegBit (wmReg b m 0x20C) 3 true
      (setWmon b m { wmonOf k b m with memH := wmBit k b m 0, memL := wmBit k b m 1 } k) :=
  if_neg (by simp [ht, hb])

/-- A blanking interval that ends with both outputs as it began reports nothing. -/
theorem opBlankEnd_unchanged (b m : Nat) (k : Core) (hb : wmBit k b m 3 = true) (hh : wmBit k b m 0 = (wmonOf k b m).memH)
    (hl : wmBit k b m 1 = (wmonOf k b m).memL) :
    opBlankEnd b m k = setRegBit (wmReg b m 0x20C) 3 false (blankFine b m k).2 := by
  have hch : ¬ (wmBit k b m 0 ≠ (wmonOf k b m).memH ∧ ¬ wmBit k b m 6) := fun h => h.1 hh
  have hcl : ¬ (wmBit k b m 1 ≠ (wmonOf k b m).memL ∧ ¬ wmBit k b m 7) := fun h => h.1 hl
  unfold opBlankEnd
  rw [if_neg (not_not.2 hb)]
  exact (if_neg hcl).trans (if_neg hch)

/-- One that ends with both decided outputs changed reports CH, then CL. -/
theorem opBlankEnd_changed (b m : Nat) (k : Core) (hb : wmBit k b m 3 = true) (hh : wmBit k b m 0 ≠ (wmonOf k b m).memH)
    (hdh : wmBit k b m 6 = false) (hl : wmBit k b m 1 ≠ (wmonOf k b m).memL) (hdl : wmBit k b m 7 = false) :
    opBlankEnd b m k = reportEdge b m (edgeKind false (wmBit k b m 1)) (blankFine b m k).1 { blanked := true }
      (reportEdge b m (edgeKind true (wmBit k b m 0)) (blankFine b m k).1 { blanked := true }
        (setRegBit (wmReg b m 0x20C) 3 false (blankFine b m k).2)) := by
  have hch : wmBit k b m 0 ≠ (wmonOf k b m).memH ∧ ¬ wmBit k b m 6 := ⟨hh, Bool.eq_false_iff.1 hdh⟩
  have hcl : wmBit k b m 1 ≠ (wmonOf k b m).memL ∧ ¬ wmBit k b m 7 := ⟨hl, Bool.eq_false_iff.1 hdl⟩
  unfold opBlankEnd
  rw [if_neg (not_not.2 hb)]
  exact (if_pos hcl).trans (congrArg _ (if_pos hch))

/-! ### Undecided comparators (R242, R243) -/

/-- An undecided comparator of a blanked monitor takes its value, and its edge is left to the end of the blanking. -/
theorem opUndecidedExit_blanked (b m : Nat) (high above : Bool) (k : Core)
    (hu : wmBit k b m (6 + (if high then 0 else 1)) = true) (hb : wmBit k b m 3 = true) :
    opUndecidedExit b m high above k = setRegBit (wmReg b m 0x20C) (if high then 0 else 1) (high == above)
      (setRegBit (wmReg b m 0x20C) (6 + (if high then 0 else 1)) false (drawWord k).2) := by
  unfold opUndecidedExit
  exact (if_neg (not_not.2 hu)).trans (if_pos hb)

/-! ### The comparator check (R254) -/

/-- A phase that comes in order and is sampled in time adds its passes; the last one also restores every pin. -/
theorem opWmCheckPhase_in_order (id : Word) (n : Nat) (ch cl : PinMask) (pins tested : List Nat) (start ready ps : Nat) (k : Core)
    (hw : workOf k id = some (.wmCheck pins tested start (some ready) n ps)) (ht : ready + 200 * (n + 1) ≤ k.clock.chron) :
    opWmCheckPhase id n ch cl k =
      if n = 3 then setWork id (.wmCheck pins tested start (some (k.clock.chron + 200)) 4 (ps ||| phasePasses tested n ch cl))
        (tested.foldl (fun acc p => endWmCheck p acc) k)
      else setWork id (.wmCheck pins tested start (some ready) (n + 1) (ps ||| phasePasses tested n ch cl)) k := by
  unfold opWmCheckPhase
  rw [hw]
  exact if_pos ⟨rfl, ht⟩

/-! ### The commands and events together -/

/-- Settles O31: each command by its kind of immediate part, each event by the branch that its condition selects. -/
theorem windowMonitors : Obligations.WindowMonitors := by
  unfold Obligations.WindowMonitors
  refine ⟨fun c s h => ?_, fun c s h => ?_, fun c s h => ?_, fun c s b m h hm => ?_, fun c s h hf => ?_,
    fun b m kind fine s hv hd hb => ?_, fun b m s ht hb => ?_, fun b m s hb hh hl => ?_, fun b m s hb hh hdh hl hdl => ?_,
    fun b m high above s hu hb => ?_, fun id n ch cl pins tested start ready ps s hw hn ht => ?_,
    fun id n ch cl pins tested start ready ps s hw hn ht => ?_, fun b s => rfl⟩
  · exact congrArg Host.Outcome.next (takeCmd_written _ _ _ _ _ h rfl)
  · exact congrArg Host.Outcome.next (takeCmd_written _ _ _ _ _ h rfl)
  · exact congrArg Host.Outcome.next (takeCmd_written _ _ _ _ _ h rfl)
  · exact congrArg Host.Outcome.next (takeCmd_done _ _ _ _ _ _ h (by simp only [opWmCaptureRead, hm, Option.getD_some, captData]))
  · exact congrArg Host.Outcome.next (takeCmd_ticketed _ _ _ _ _ _ _ h hf rfl)
  · exact next_onCore _ _ s (opWmEdge_unblanked _ _ _ _ _ hv hd hb)
  · exact next_onCore _ _ s (opBlankStart_unblanked _ _ _ ht hb)
  · exact next_onCore _ _ s (opBlankEnd_unchanged _ _ _ hb hh hl)
  · exact next_onCore _ _ s (opBlankEnd_changed _ _ _ hb hh hdh hl hdl)
  · exact next_onCore _ _ s (opUndecidedExit_blanked _ _ _ _ _ hu hb)
  · exact next_onCore _ _ s ((opWmCheckPhase_in_order id _ ch cl pins tested start ready ps _ hw ht).trans (if_neg hn))
  · obtain rfl : n = 3 := Fin.ext hn
    exact next_onCore _ _ s ((opWmCheckPhase_in_order id 3 ch cl pins tested start ready ps _ hw ht).trans (if_pos rfl))

end Sys2Proof.Machine
end

section
/-! SUPPORT. What a load's outcomes, a clock edge, a user event and a fault of the logic fabric do where their conditions stand
(R262 to R286; the load checks and the rises kept are those of log entry 43). -/

namespace Sys2Proof.Machine

/-! ### The outcomes of a load (R280, R282) -/

/-- A load whose blocks have all arrived and whose data pass every check fills its shadows and completes its ticket. -/
theorem opLoadDone_passed (id : Word) (m n i a : Nat) (f : Word) (s : State) (hw : workOf s.core id = some (.fabLoad m n i a f))
    (ha : loadArrived s.core id = true) (hu : loadUnread s id ⟨n, i, a⟩ = false) (hf : loadFailure s m ⟨n, i, a⟩ = none) :
    opLoadDone id s = onCore (fun k => completeTicket id stDone []
      ((bitList m 8).foldl (fun acc r => shadowLoaded r (regionPlane s ⟨n, i, a⟩ r) acc) (dropXfer id k))) s := by
  unfold opLoadDone
  rw [hw]
  exact if_pos ⟨ha, Bool.eq_false_iff.1 hu, hf⟩

/-- Of data that can be read, the code of the first failed check is the one that a load fails with. -/
theorem loadFailsWith_readable (s : State) (id : Word) (m code : Nat) (im : ImageAt) (hu : loadUnread s id im = false)
    (hf : loadFailure s m im = some code) : loadFailsWith s id m im code = true := by
  simp [loadFailsWith, hu, hf]

/-- A load whose data can be read and fail a check discards its shadows, records IMAGE_REJECT where the first failed check is
SIGNATURE or ROLLBACK, and completes its ticket with that check's status. -/
theorem opLoadReject_failed (id : Word) (m n i a code : Nat) (f : Word) (s : State)
    (hw : workOf s.core id = some (.fabLoad m n i a f)) (hu : loadUnread s id ⟨n, i, a⟩ = false)
    (hf : loadFailure s m ⟨n, i, a⟩ = some code) :
    opLoadReject id code s = onCore (fun k => completeTicket id (loadStatus code) [] (if code = 2 ∨ code = 3
      then recordCause 0x8BF00030 2 ((bitList m 8).foldl (fun acc r => shadowRejected code r acc) (dropXfer id k))
      else (bitList m 8).foldl (fun acc r => shadowRejected code r acc) (dropXfer id k))) s := by
  unfold opLoadReject
  rw [hw]
  exact if_pos (loadFailsWith_readable s id m code _ hu hf)

/-! ### Clock edges (R262, R265, R269, R274) -/

/-- An edge of a declared tree whose region runs loads every flop, wire register and tap from the fabric as it stood before the
edge, after the waveform cells have taken the code that stood. -/
theorem opFabricClockEdge_declared (r tree : Nat) (p : Plane) (k : Core) (hp : (fabOf k r).active = some p) (ht : tree ≠ 0)
    (hd : fld (declWord p tree) 31 30 ≠ 0) (hr : regionStopped k r = false) :
    opFabricClockEdge r tree k = presentRegion r (setFab r
      { fabOf k r with
        flops := updateBits (fabOf k r).flops ((openBlocks k r).flatMap (flopLoads p (fabOf k r) tree))
        wires := updateBits (fabOf k r).wires
          ((openBlocks k r).flatMap (wireLoads p (fabOf k r) tree) ++ longLoads p (fabOf k r) tree)
        taps1 := updateBits (fabOf k r).taps1 (((openBlocks k r).filter (fun b => fld (treesWord p b) 1 0 == tree)).flatMap
          (fun b => (List.range 64).map (fun t => (64 * b + t, (tapInputs k r b).testBit t))))
        taps2 := updateBits (fabOf k r).taps2 (((openBlocks k r).filter (fun b => fld (treesWord p b) 1 0 == tree)).flatMap
          (fun b => (List.range 64).map (fun t => (64 * b + t, (fabOf k r).taps1.testBit (64 * b + t))))) }
      (((openBlocks k r).filter (fun b => fld (treesWord p b) 5 4 == tree)).foldl (fun acc b => fabWave r b acc) k)) := by
  have hopen : ¬ (tree = 0 ∨ fld (declWord p tree) 31 30 = 0 ∨ regionStopped k r = true) := by simp [ht, hd, hr]
  unfold opFabricClockEdge
  simp only [hp]
  exact if_neg hopen

/-! ### User events (R277) -/

/-- The first rise of a user-event output is taken and its time kept, its bit of FAB_USER_HIT is set, and cause USER is recorded. -/
theorem opUser_first (blk e : Nat) (k : Core) (hu : (amGetD (fabOf k (blk / 8)).rises (blk % 8) 0).testBit (54 + e) = true)
    (hl : amGet? (fabOf (takeRise (blk / 8) (blk % 8) (54 + e) k).2 (blk / 8)).lastUser (8 * (blk % 8) + e) = none) :
    opUser blk e k = recordCause (treeReg (blk / 8) 0x218) 3
      (setRegBit (treeReg (blk / 8) (0x220 + 4 * (blk % 8 / 4))) (8 * (blk % 8 % 4) + e) true
        (setFab (blk / 8) { fabOf (takeRise (blk / 8) (blk % 8) (54 + e) k).2 (blk / 8) with
          lastUser := amSet (fabOf (takeRise (blk / 8) (blk % 8) (54 + e) k).2 (blk / 8)).lastUser (8 * (blk % 8) + e) k.clock.uptime }
          (takeRise (blk / 8) (blk % 8) (54 + e) k).2)) := by
  have hrose := (takeRise_rose (blk / 8) (blk % 8) (54 + e) k).trans hu
  unfold opUser
  simp only [hrose, hl, if_true, Option.any_none, Bool.false_eq_true, if_false]

/-- The first rise of a user-event output leaves cause USER standing. -/
theorem causeSet_opUser_first (blk e : Nat) (s : State)
    (hu : (amGetD (fabOf s.core (blk / 8)).rises (blk % 8) 0).testBit (54 + e) = true)
    (hl : amGet? (fabOf (takeRise (blk / 8) (blk % 8) (54 + e) s.core).2 (blk / 8)).lastUser (8 * (blk % 8) + e) = none) :
    causeSet (onCore (opUser blk e) s) (treeReg (blk / 8) 0x218) 3 = true := by
  rw [causeSet, onCore_core, opUser_first blk e s.core hu hl]
  exact recordCause_set _ _ _ (by omega)

/-! ### Faults of the fabric (R286, R515) -/

/-- A wrong word in the active plane of a block that is not yet held holds the block, records its cause and is logged. -/
theorem opFabFault_active (blk : Nat) (p : Plane) (k : Core) (hp : (fabOf k (blk / 8)).active = some p)
    (hh : fabHeld k (blk / 8) (blk % 8) = false) :
    opFabFault blk k = logFault 1 0 7 (pageBase (.block blk)) 0 (setRegFld (blockReg blk 0xC00) 23 16 7
      (recordCause (treeReg (blk / 8) 0x218) 2 (presentRegion (blk / 8)
        (setRegBit (fabStatus (blk / 8)) (24 + blk % 8) true k)))) :=
  if_neg (by simp [hp, hh])

/-! ### The commands and events together -/

/-- Settles O32: each opcode by its kind of immediate part, each event by the branch that its condition selects. -/
theorem logicFabric : Obligations.LogicFabric := by
  unfold Obligations.LogicFabric
  refine ⟨fun c s h hf => ?_, fun c s h => ?_, fun c s h => ?_, fun id m n i a f s hw ha hu hf => ?_,
    fun id m n i a f code s hw hu hf h2 h3 => ?_, fun id m n i a f code s hw hu hf h23 => ?_,
    fun r tree p s hp ht hd hr => ?_, fun b e s hu hl => ?_, fun b p s hp hh => ?_⟩
  · exact congrArg Host.Outcome.next (takeCmd_ticketed _ _ _ _ _ _ _ h hf rfl)
  · exact congrArg Host.Outcome.next (takeCmd_done _ _ _ _ _ _ h rfl)
  · exact congrArg Host.Outcome.next (takeCmd_done _ _ _ _ _ _ h rfl)
  · exact congrArg Host.Outcome.next (opLoadDone_passed _ _ _ _ _ f _ hw ha hu hf)
  · refine (congrArg Host.Outcome.next (opLoadReject_failed _ _ _ _ _ _ f _ hw hu hf)).trans (next_onCore _ _ s ?_)
    exact congrArg (completeTicket id _ []) (if_neg (not_or.2 ⟨h2, h3⟩))
  · refine (congrArg Host.Outcome.next (opLoadReject_failed _ _ _ _ _ _ f _ hw hu hf)).trans (next_onCore _ _ s ?_)
    exact congrArg (completeTicket id _ []) (if_pos h23)
  · exact next_onCore _ _ s (opFabricClockEdge_declared _ _ _ _ hp ht hd hr)
  · exact ⟨_, rfl, causeSet_opUser_first _ _ s hu hl, sameMemory_onCore _ s⟩
  · exact next_onCore _ _ s (opFabFault_active _ _ _ hp hh)

end Sys2Proof.Machine
end

section
/-! SUPPORT. A step keeps the memories in canonical form, and a command that stores nothing leaves every byte of them
(R292, R295, R296; that bytes not written read 0 is the choice of log entry 5). -/

namespace Sys2Proof.Machine

/-- A step takes the command at the front of the queue. -/
theorem step_of_pending (s : State) (i : Instr) (l : List Instr) (h : s.pending = i :: l) :
    step s = exec i { s with pending := l } := by
  unfold step
  rw [h]

/-- Settles O4: the command at the front of the queue keeps the memories' form, and so does a tick on an empty queue. -/
theorem stepKeepsMemory : Obligations.StepKeepsMemory := by
  unfold Obligations.StepKeepsMemory
  intro s t hs ht
  cases hp : s.pending with
  | nil =>
    rw [step_of_empty s hp] at ht
    cases ht
    exact (idle_keeps s).2 hs
  | cons i l =>
    rw [step_of_pending s i l hp] at ht
    exact (exec_keeps { s with pending := l } t i ht).2 hs

/-- Settles O5: such a command leaves both memories as they are listed. -/
theorem memoryFrame : Obligations.MemoryFrame := by
  unfold Obligations.MemoryFrame
  intro i s t hm ht a
  obtain ⟨hqdr, harc, -⟩ := exec_same s t i hm ht
  exact ⟨congrArg (readByte · a) hqdr, congrArg (readByte · a) harc⟩

end Sys2Proof.Machine
end

section
/-! SUPPORT. What becomes of a command before its immediate part, and of a ticketed one without a slot (R312, R322, R339, R347,
R544; that it waits at its source is log entry 15, that a refused one is charged Steward time log entry 9). -/

namespace Sys2Proof.Machine

/-- Every row of the opcode tables is taken by Steward with the description of its opcode. -/
theorem exec_of_commandOf (i : Instr) (d : OpDef) (c : Cmd) (s : State) (h : commandOf i = some (d, c)) :
    exec i s = .next (takeCmd d c s) := by
  cases i <;> cases h <;> rfl

/-- A command of the chain that is older than its session is discarded and counted in CHAIN_DISCARD. -/
theorem takeCmd_discarded (d : OpDef) (c : Cmd) (s : State) (h : joinChain c s.core = none) :
    takeCmd d c s = onCore (countFld 0x81F0001C 31 0 1) s := by
  unfold takeCmd
  rw [h]

/-- A command behind another of its source, or one that may not start yet, waits at its source. -/
theorem takeCmd_held (d : OpDef) (c : Cmd) (s : State) (k : Core) (hj : joinChain c s.core = some k)
    (hw : sourceWaits k c = true ∨ startable d c { s with core := k } = false) :
    takeCmd d c s = onCore (holdCmd d.opcode c) { s with core := k } := by
  have hstart : ¬ (¬ sourceWaits k c = true ∧ startable d c { s with core := k } = true) := by
    rintro ⟨hfirst, hready⟩
    rcases hw with hw | hw
    · exact hfirst hw
    · rw [hw] at hready; cases hready
  unfold takeCmd
  rw [hj]
  exact if_neg hstart

/-- Work that would go on under a ticket is refused with TICKETS where no slot is left. -/
theorem takeCmd_noTicket (d : OpDef) (c : Cmd) (s : State) (w : Work) (tick : Nat) (extra : List Word)
    (go : Word → State → State) (h : accepted d c s = true) (hf : ticketLeft d c s = false)
    (hr : d.run c (sender c s) (begun d c s) = .ticketed w tick extra go) :
    takeCmd d c s = replied d c stTickets [] (begun d c s) := by
  rw [takeCmd_accepted d c s h, hr]
  exact if_neg (Bool.eq_false_iff.1 hf)

/-- Settles O7: each command by what `takeCmd` does with it, whatever its opcode. -/
theorem refusedOrHeld : Obligations.RefusedOrHeld := by
  unfold Obligations.RefusedOrHeld
  refine ⟨fun i d c s hi hj => ?_, fun i d c s k hi hj hw => ?_, fun i d c s k e hi hj hw hs hr => ?_,
    fun i d c s w n l g hi ha hr hf => ?_⟩
  · rw [exec_of_commandOf i d c s hi, takeCmd_discarded d c s hj]
  · rw [exec_of_commandOf i d c s hi, takeCmd_held d c s k hj hw]
  · rw [exec_of_commandOf i d c s hi, takeCmd_refused d c s k e hj hw hs hr]
  · rw [exec_of_commandOf i d c s hi, takeCmd_noTicket d c s w n l g ha hf hr]

end Sys2Proof.Machine
end

section
/-! SUPPORT. A whole decision of an arbiter: the slot granted, the wait counts and the pointer (R303 to R305). -/

namespace Sys2Proof.Machine

/-- Only slots that hold a request are eligible. -/
theorem mem_of_mem_eligible (k : Core) (a : ArbiterId) (ta req : List Nat) (x : Nat) (h : x ∈ eligible k a ta req) : x ∈ req := by
  unfold eligible at h
  split at h
  · exact List.mem_of_mem_filter h
  · exact List.mem_of_mem_filter h

/-- An arbiter's own state reads as it was set. -/
@[simp] theorem arbState_setArb (a : ArbiterId) (y : ArbState) (k : Core) : arbState (setArb a y k) a = y := by
  simp [arbState, setArb]

/-- The pointer moved leaves the wait counts. -/
theorem slotWait_setPointer (a : ArbiterId) (g x : Nat) (k : Core) :
    slotWait (setArb a { arbState k a with pointer := g } k) a x = slotWait k a x := by
  unfold slotWait
  cases arbWords a with
  | some w => rfl
  | none => simp only [arbState_setArb]

/-- The requests of a decision that name a slot of the arbiter. -/
def slotRequests (a : ArbiterId) (requests : List (Nat × Nat)) : List Nat :=
  (requests.map Prod.fst).filter (fun x => decide (x < arbSlots a))

/-- An eligible slot is a slot of the arbiter. -/
theorem lt_arbSlots_of_eligible (k : Core) (a : ArbiterId) (ta : List Nat) (requests : List (Nat × Nat)) (x : Nat)
    (h : x ∈ eligible k a ta (slotRequests a requests)) : x < arbSlots a :=
  of_decide_eq_true (List.mem_filter.1 (mem_of_mem_eligible _ _ _ _ _ h)).2

/-- The state in which a decision has stepped the wait counts and not yet moved the pointer or charged the grant. -/
def waitsStepped (a : ArbiterId) (req e : List Nat) (g : Nat) (k : Core) : Core :=
  setSlotWait a g 0 ((e.filter (fun x => x != g)).foldl (fun acc x => setSlotWait a x (min (slotWait k a x + 1) 255) acc)
    (countDenied a (req.filter (fun x => !e.contains x)) k))

/-- A decision that grants a slot. -/
theorem opArbiterDecision_granted (a : ArbiterId) (requests : List (Nat × Nat)) (ta : List Nat) (k : Core) (e : List Nat) (g : Nat)
    (he : e = eligible k a ta (slotRequests a requests)) (hg : granted k a e = some g) :
    ∃ cost, opArbiterDecision a requests ta k = chargeGrant a ta g cost
      (setArb a { arbState (waitsStepped a (slotRequests a requests) e g k) a with pointer := g }
        (waitsStepped a (slotRequests a requests) e g k)) := by
  subst he
  unfold slotRequests at hg
  unfold opArbiterDecision
  simp only [hg]
  exact ⟨_, rfl⟩

/-- The wait counts as a decision steps them: 0 for the slot granted, one more up to 255 for the other eligible slots. -/
theorem slotWait_waitsStepped (a : ArbiterId) (req e : List Nat) (g x : Nat) (k : Core) (hreq : ∀ y ∈ req, y < arbSlots a) :
    slotWait (waitsStepped a req e g k) a x
      = if x = g then 0 else if x ∈ e then min (slotWait k a x + 1) 255 else slotWait k a x := by
  have hstep : ∀ y, min (slotWait k a y + 1) 255 < 256 := fun y => by omega
  have hden : ∀ y ∈ req.filter (fun y => !e.contains y), y < arbSlots a := fun y hy => hreq y (List.mem_of_mem_filter hy)
  unfold waitsStepped
  rw [slotWait_setSlotWait _ _ _ _ _ (by decide), slotWait_stepped a _ hstep, slotWait_countDenied a _ hden]
  by_cases hx : x = g
  · simp only [hx, if_true]
  · simp [hx]

/-- The wait counts after a decision, and its pointer. -/
theorem opArbiterDecision_waits (a : ArbiterId) (requests : List (Nat × Nat)) (ta : List Nat) (k : Core) (e : List Nat) (g : Nat)
    (he : e = eligible k a ta (slotRequests a requests)) (hg : granted k a e = some g) (hlt : g < arbSlots a) :
    (∀ x, slotWait (opArbiterDecision a requests ta k) a x
      = if x = g then 0 else if x ∈ e then min (slotWait k a x + 1) 255 else slotWait k a x)
    ∧ (arbState (opArbiterDecision a requests ta k) a).pointer = g := by
  obtain ⟨cost, hd⟩ := opArbiterDecision_granted a requests ta k e g he hg
  obtain ⟨hwait, hstate⟩ := chargeGrant_waits a ta g cost hlt
    (setArb a { arbState (waitsStepped a (slotRequests a requests) e g k) a with pointer := g }
      (waitsStepped a (slotRequests a requests) e g k))
  rw [hd]
  refine ⟨fun x => ?_, by rw [hstate, arbState_setArb]⟩
  rw [hwait, slotWait_setPointer]
  exact slotWait_waitsStepped a _ e g x k fun y hy => of_decide_eq_true (List.mem_filter.1 hy).2

/-- Settles O34: the slot that `granted` finds, and the wait counts and pointer that the decision leaves. -/
theorem arbiterDecides : Obligations.ArbiterDecides := by
  unfold Obligations.ArbiterDecides
  intro a w l ta s e he hne
  have hreq : slotRequests a (l.map (fun q => (q.1.val, q.2))) = (l.map (fun q => q.1.val)).filter (fun x => decide (x < arbSlots a)) := by
    simp only [slotRequests, List.map_map, Function.comp_def]
  rw [← hreq] at he
  have hslots : ∀ x ∈ e, x < arbSlots a := fun x hx => lt_arbSlots_of_eligible _ _ _ _ x (he ▸ hx)
  obtain ⟨g, hg⟩ := granted_some s.core a e hne hslots
  obtain ⟨hwin, i, hi, hgi, hfirst⟩ := granted_spec s.core a e g hg
  obtain ⟨hwaits, hpointer⟩ := opArbiterDecision_waits a _ _ s.core e g he hg (hslots g hwin.1)
  refine ⟨g, i, _, rfl, hwin, hi, hgi, hfirst, fun x hx hxg => ?_, ?_, hpointer, fun x hx => ?_, sameMemory_onCore _ s⟩
  · exact (hwaits x).trans (by rw [if_neg hxg, if_pos hx])
  · exact (hwaits g).trans (if_pos rfl)
  · have hxg : x ≠ g := fun h => hx (h ▸ hwin.1)
    exact (hwaits x).trans (by rw [if_neg hxg, if_neg hx])

end Sys2Proof.Machine
end

section
/-! SUPPORT. REMAIN of a class after a charge and after a refill (R311, R312, Table MEM-7). -/

namespace Sys2Proof.Machine

/-- A field is smaller than its width allows. -/
theorem regFld_lt (k : Core) (a hi lo : Nat) : regFld k a hi lo < 2 ^ (hi + 1 - lo) := Nat.mod_lt _ (Nat.two_pow_pos _)

/-- A 17-bit number reads back from its low 17 bits. -/
theorem signed_unsigned_mod (v : Int) (hl : -65536 ≤ v) (hu : v < 65536) : signed (unsigned v 17 % 2 ^ 17) 17 = v := by
  unfold signed unsigned
  norm_num
  split <;> omega

/-- REMAIN is a 17-bit number. -/
theorem remain_bounds (k : Core) (b cls : Nat) : -65536 ≤ remain k b cls ∧ remain k b cls < 65536 := by
  have hf := regFld_lt k (b + 0x40 + 4 * cls) 16 0
  unfold remain signed
  norm_num at hf ⊢
  split <;> omega

/-- BUDGET is a 16-bit number. -/
theorem budget_lt (k : Core) (b cls : Nat) : budget k b cls < 65536 := regFld_lt k _ 15 0

/-- REMAIN reads as it was set. -/
theorem remain_setRemain (b cls : Nat) (v : Int) (k : Core) (hl : -65536 ≤ v) (hu : v < 65536) :
    remain (setRemain b cls v k) b cls = v := by
  unfold remain setRemain
  rw [regFld_setRegFld_same _ _ _ _ _ (by decide)]
  exact signed_unsigned_mod v hl hu

/-- REMAIN set leaves every other register. -/
theorem reg_setRemain_ne (b cls : Nat) (v : Int) (k : Core) (x : Nat) (h : x ≠ b + 0x40 + 4 * cls) :
    reg (setRemain b cls v k) x = reg k x := reg_setRegFld_ne _ _ _ _ _ _ h

/-- BUDGET less the debt of REMAIN. -/
theorem lessDebt_eq (v : Nat) (rem : Int) : lessDebt v rem = if 0 ≤ rem then (v : Int) else v + rem := by
  unfold lessDebt
  split <;> split <;> omega

/-- BUDGET less the debt of REMAIN is a 17-bit number. -/
theorem lessDebt_bounds (k : Core) (b cls : Nat) : -65536 ≤ lessDebt (budget k b cls) (remain k b cls)
    ∧ lessDebt (budget k b cls) (remain k b cls) < 65536 := by
  have hb := budget_lt k b cls
  have hr := remain_bounds k b cls
  unfold lessDebt
  split <;> omega

/-- Settles O35: REMAIN and SPENT_LAST lie in registers of their own, and each reads as it was set. -/
theorem refillRule : Obligations.RefillRule := by
  unfold Obligations.RefillRule
  refine ⟨fun b cls k => ?_, fun b cls k => ?_, fun b cls x k hr hs => ?_, fun b cls n k hn => ?_⟩
  · obtain ⟨hl, hu⟩ := lessDebt_bounds k b cls
    exact (remain_setRemain b cls _ _ hl hu).trans (lessDebt_eq _ _)
  · have hspent : min (amGetD k.mem.spent (b + 0x40 + 4 * cls) 0) 0xFFFF < 2 ^ 16 := by omega
    have hne : b + 0xA0 + 4 * cls ≠ b + 0x40 + 4 * cls := by omega
    unfold refillClass
    rw [regFld, reg_setRemain_ne _ _ _ _ _ hne]
    exact (regFld_setRegFld_same _ 15 0 _ k (by decide)).trans (Nat.mod_eq_of_lt hspent)
  · unfold refillClass
    rw [reg_setRemain_ne _ _ _ _ _ hr]
    exact reg_setRegFld_ne _ _ _ _ _ k hs
  · have hr := remain_bounds k b cls
    exact remain_setRemain b cls _ k (by omega) (by omega)

end Sys2Proof.Machine
end

section
/-! SUPPORT. The memory commands (R295, R296, R307, R316, R317): reads and writes that meet an uncorrectable word or block or a
FAILED stack, by how far they come (whole moves without a ticket are log entry 21). -/

namespace Sys2Proof.Machine

/-! ### Reads (R295, R296) -/

/-- A QDR_READ of a range without an uncorrectable word. -/
theorem runQdrRead_whole {c : Cmd} {n : Nat} {s : State}
    (h : firstBad s.core.mem.qdrBad (qdrKey (pn c.params 0) (pn c.params 1)) (pn c.params 2) = none) :
    opQdrRead.run c n s = .done stDone (wordsOf (pn c.params 2 / 4)
      (readBytes s.qdr (qdrKey (pn c.params 0) (pn c.params 1)) (pn c.params 2))) s := by
  simp only [opQdrRead, h]

/-- One that meets an uncorrectable word ends before the block of the first. -/
theorem runQdrRead_short {c : Cmd} {n w : Nat} {s : State}
    (h : firstBad s.core.mem.qdrBad (qdrKey (pn c.params 0) (pn c.params 1)) (pn c.params 2) = some w) :
    opQdrRead.run c n s = shortRead stUncorrectable (beforeBlock (qdrKey (pn c.params 0) (pn c.params 1)) w)
      (readBytes s.qdr (qdrKey (pn c.params 0) (pn c.params 1))
        (beforeBlock (qdrKey (pn c.params 0) (pn c.params 1)) w)) s := by
  simp only [opQdrRead, h]

/-- An ARC_READ of a range of which every block can be read. -/
theorem runArcRead_whole {c : Cmd} {n : Nat} {s : State}
    (h : arcFirstFail s.core (pn64 c.params 0) (pn c.params 2) = none) :
    opArcRead.run c n s = .done stDone (wordsOf (pn c.params 2 / 4) (readBytes s.arc (pn64 c.params 0) (pn c.params 2))) s := by
  simp only [opArcRead, h]

/-- One that meets a block that fails ends before it, with that block's status. -/
theorem runArcRead_short {c : Cmd} {n stands : Nat} {st : Status} {s : State}
    (h : arcFirstFail s.core (pn64 c.params 0) (pn c.params 2) = some (stands, st)) :
    opArcRead.run c n s = shortRead st stands (readBytes s.arc (pn64 c.params 0) stands) s := by
  simp only [opArcRead, h]

/-! ### Writes (R296, R299) -/

/-- An ARC_WRITE clear of every FAILED stack. -/
theorem runArcWrite_whole {c : Cmd} {n : Nat} {s : State} (h : arcWriteFail s.core (pn64 c.params 0) (dataBytes c) = none) :
    opArcWrite.run c n s = .done stDone [] (writeArc (pn64 c.params 0) (bytesOf (c.params.drop 2)) s) := by
  simp only [opArcWrite, h]

/-- One that meets a FAILED stack writes the bytes before its block alone. -/
theorem runArcWrite_short {c : Cmd} {n stands : Nat} {s : State}
    (h : arcWriteFail s.core (pn64 c.params 0) (dataBytes c) = some stands) :
    opArcWrite.run c n s = .done stTransfer (words64 stands)
      (writeArc (pn64 c.params 0) ((bytesOf (c.params.drop 2)).take stands) s) := by
  simp only [opArcWrite, h]

/-! ### DMA and tariffs (R316, R317) -/

/-- An ARC_DMA opens its ticket with the transfer of its blocks; its costs are the archive's and, where it uses one, a region's
QDR SRAM's. -/
theorem runArcDma_ticketed (c : Cmd) (n : Nat) (s : State) :
    opArcDma.run c n s = .ticketed (dmaWork c) (readyTick s.core 3 ((0x99F00000, ceilDiv (pn64 c.params 5) 256)
      :: (if pn c.params 0 < 2 then [(arbReg (pn c.params 3) 0, ceilDiv (pn64 c.params 5) 8)] else []))) []
      (fun id => onCore (startXfer id (dmaWork c))) := by
  simp only [opArcDma, dmaQdr, decide_eq_true_eq, arcPage]

/-- A TARIFF_READ replies the words of the tariff register set that its parameters name. -/
theorem runTariffRead {c : Cmd} {n b : Nat} {s : State} (h : tariffBase (pn c.params 0) (pn c.params 1) = some b) :
    opTariffRead.run c n s = .done stDone (tariffWords s.core (pn c.params 0) b) s := by
  simp only [opTariffRead, h, Option.getD_some]

/-! ### The commands together -/

/-- Settles O33: each opcode by its kind of immediate part, and the reads and writes by whether they meet a failure. -/
theorem memoryCommands : Obligations.MemoryCommands := by
  unfold Obligations.MemoryCommands
  refine ⟨⟨fun c s h hb => ?_, fun c s w n h hb hn => ?_, fun c s h => ?_, fun c s h hb => ?_, fun c s n st h hb => ?_,
    fun c s h hb => ?_, fun c s n h hb => ?_, fun c s h hf => ?_⟩, fun c s h => ?_, fun c s b h hb => ?_, fun c s h => ?_,
    fun c s h => ?_⟩
  · rw [← begun_qdr opQdrRead c s]
    exact congrArg Host.Outcome.next (takeCmd_done _ _ _ _ _ _ h (runQdrRead_whole hb))
  · rw [← begun_qdr opQdrRead c s, hn]
    exact congrArg Host.Outcome.next (takeCmd_done _ _ _ _ _ _ h (runQdrRead_short hb))
  · exact congrArg Host.Outcome.next (takeCmd_done _ _ _ _ _ _ h rfl)
  · rw [← begun_arc opArcRead c s]
    exact congrArg Host.Outcome.next (takeCmd_done _ _ _ _ _ _ h (runArcRead_whole hb))
  · rw [← begun_arc opArcRead c s]
    exact congrArg Host.Outcome.next (takeCmd_done _ _ _ _ _ _ h (runArcRead_short hb))
  · exact congrArg Host.Outcome.next (takeCmd_done _ _ _ _ _ _ h (runArcWrite_whole hb))
  · exact congrArg Host.Outcome.next (takeCmd_done _ _ _ _ _ _ h (runArcWrite_short hb))
  · exact congrArg Host.Outcome.next (takeCmd_ticketed _ _ _ _ _ _ _ h hf (runArcDma_ticketed c _ _))
  · exact congrArg Host.Outcome.next (takeCmd_written _ _ _ _ _ h rfl)
  · exact congrArg Host.Outcome.next (takeCmd_done _ _ _ _ _ _ h (runTariffRead hb))
  · exact congrArg Host.Outcome.next (takeCmd_written _ _ _ _ _ h rfl)
  · exact congrArg Host.Outcome.next (takeCmd_done _ _ _ _ _ _ h rfl)

end Sys2Proof.Machine
end

section
/-! SUPPORT. What scrubs, transfer blocks, failed stacks and refills do where their conditions stand (R293 to R301, R311, Table
MEM-2; when a transfer moves and ends is log entry 21, TARIFF_REFILL as the refill log entry 22). -/

namespace Sys2Proof.Machine

/-! ### Scrubs (R294, R298) -/

/-- A region's scrub once it has read its next word: TH is charged one unit, and the position advances. -/
def qdrScrubbed (r : Nat) (k : Core) : Core :=
  setRegFld (arbReg r 0x208) 25 3 (regFld k (arbReg r 0x208) 25 3 + 1) (chargeClass (arbReg r 0) 7 1 k)

/-- A region's scrub that runs: an uncorrectable word, found now or marked before, is noted, and a corrected one counted. -/
theorem opQdrScrub_runs (r : Nat) (x : ScrubResult) (k : Core) (he : regBit k (arbReg r 0x208) 31 = true)
    (hr : regionStopped k r = false) (hd : 2 ≤ domState k (129 + 2 * r)) (hb : 0 < remain k (arbReg r 0) 7) :
    opQdrScrub r x k = if qdrBadIn k r (8 * regFld k (arbReg r 0x208) 25 3) 8 = true ∨ x = .uncorrectable
      then noteQdrUncorr r (8 * regFld k (arbReg r 0x208) 25 3) (qdrScrubbed r k)
      else if x = .corrected then countFld (arbReg r 0x200) 15 0 1 (qdrScrubbed r k) else qdrScrubbed r k := by
  have hruns := And.intro he (And.intro (Bool.eq_false_iff.1 hr) (And.intro hd hb))
  unfold opQdrScrub
  rw [if_pos hruns]
  by_cases hbad : qdrBadIn k r (8 * regFld k (arbReg r 0x208) 25 3) 8 = true
  · simp only [hbad, true_or, if_true]
    rfl
  · cases x <;> simp [hbad, qdrScrubbed]

/-- The archive's scrub that runs, in the same way over blocks. -/
theorem opArcScrub_runs (x : ScrubResult) (k : Core) (p : Nat) (hp : p = regFld k 0x99F00210 28 0)
    (he : regBit k 0x99F00210 31 = true) (hb : 0 < remain k 0x99F00000 7) (hc : 0 < arcCapacity k.order)
    (hd : 2 ≤ domState k (144 + stackOf k.order (256 * p))) :
    opArcScrub x k = (fun k' => if arcBadIn k (256 * p) 256 = true ∨ x = .uncorrectable then noteArcUncorr (256 * p) k'
        else if x = .corrected then countFld 0x99F00200 15 0 1 k' else k')
      (setRegFld 0x99F00210 28 0 ((p + 1) % (arcCapacity k.order / 256)) (chargeClass 0x99F00000 7 1 k)) := by
  subst hp
  unfold opArcScrub
  rw [if_pos ⟨he, hb, hc, hd⟩]
  by_cases hbad : arcBadIn k (256 * regFld k 0x99F00210 28 0) 256 = true
  · simp only [hbad, true_or, if_true]
  · cases x <;> simp [hbad]

/-! ### Transfer blocks (R300, R301) -/

/-- A block that arrives intact and can be read or written takes effect, and the sequence steps. -/
theorem deliverBlock_readable (id : Word) (l : List Word) (s : State) (x : Xfer) (w : Work)
    (hx : amGet? s.core.mem.xfers id.toNat = some x) (hw : workOf s.core id = some w) (hs : x.seq < x.blocks)
    (hu : (blockUnread s.core w x.seq).isNone = true) :
    deliverBlock id l s = onCore (fun k => { k with mem := { k.mem with
        xfers := amSet k.mem.xfers id.toNat { x with seq := x.seq + 1, attempts := 0 } } })
      (moveBytes w (256 * x.seq) (min 256 (workLen w - 256 * x.seq)) (bytesOf l) s) := by
  unfold deliverBlock
  simp only [hx, hw]
  exact if_pos ⟨hs, hu⟩

/-- An intact block of a work whose region runs is delivered. -/
theorem execTransferBlockReceive_intact (id : Word) (l : List Word) (s : State) (w : Work) (hw : workOf s.core id = some w)
    (hr : (workRegion w).any (regionStopped s.core) = false) :
    execTransferBlockReceive id true l s = .next (deliverBlock id l s) := by
  have hgo : (true = true) ∧ ¬ (workOf s.core id).any (fun w => (workRegion w).any (regionStopped s.core)) = true := by
    simp [hw, hr]
  exact congrArg Host.Outcome.next (if_pos hgo)

/-- A block that is not intact is a failed attempt. -/
theorem execTransferBlockReceive_broken (id : Word) (l : List Word) (s : State) :
    execTransferBlockReceive id false l s = .next (onCore (opAttemptFailed id) s) :=
  congrArg Host.Outcome.next (if_neg (by simp))

/-- A failed attempt before the fourth is counted, and the block tried again. -/
theorem opAttemptFailed_again (id : Word) (k : Core) (x : Xfer) (w : Work) (hx : amGet? k.mem.xfers id.toNat = some x)
    (hw : workOf k id = some w) (hs : x.seq < x.blocks) (ha : x.attempts + 1 < 4) :
    opAttemptFailed id k = countXfer w false { k with mem := { k.mem with
      xfers := amSet k.mem.xfers id.toNat { x with attempts := x.attempts + 1 } } } := by
  unfold opAttemptFailed
  simp only [hx, hw, hs, ha, if_true]

/-- The fourth faults the transfer, whose ticket completes with TRANSFER and the count of the bytes that stand. -/
theorem opAttemptFailed_fourth (id : Word) (k : Core) (x : Xfer) (w : Work) (hx : amGet? k.mem.xfers id.toNat = some x)
    (hw : workOf k id = some w) (hs : x.seq < x.blocks) (ha : 4 ≤ x.attempts + 1) (hl : isLoad w = false) :
    opAttemptFailed id k = completeTicket id stTransfer (words64 (256 * x.seq))
      (countStackFault w x.seq (countXfer w true (dropXfer id k))) := by
  unfold opAttemptFailed
  simp only [hx, hw, hs, Nat.not_lt.2 ha, hl, if_true, if_false, Bool.false_eq_true]

/-! ### Stacks and refills (R299, R311) -/

/-- A fitted stack that fails its training or passes a limit becomes FAILED. -/
theorem opStackFailed_fails (n : Nat) (k : Core) (hn : n < stacksFitted k.order) (hs : stackState k n ≠ 3)
    (h : stackState k n = 1 ∨ 8 ≤ recent k n (msTicks 1000) k.mem.stackFaults
      ∨ 64 ≤ recent k n (msTicks 1000) k.mem.stackLines) : opStackFailed n k = failStack n k := if_pos ⟨hn, hs, h⟩

/-- A refill that falls due refills every class, and the held packets that may now leave do. -/
theorem opTariffRefill_due (k : Core) (h : refillNow k = true) :
    opTariffRefill k = (List.range 4).foldl (fun acc p => drainHeld p acc) (refillAll k) := if_pos h

/-- No refill falls otherwise. -/
theorem opTariffRefill_not_due (k : Core) (h : refillNow k = false) : opTariffRefill k = k := if_neg (Bool.eq_false_iff.1 h)

/-! ### The events together -/

/-- Settles O36: each event by the branch that its condition selects. -/
theorem memoryEvents : Obligations.MemoryEvents := by
  unfold Obligations.MemoryEvents
  refine ⟨fun r s he hr hd hb hg => ⟨?_, ?_⟩, fun r s he hr hd hb => ?_, fun x s p hp he hb hc hd => ?_,
    fun id l s x w hx hw hr hs hu => ?_, fun id l s x w hx hw hs ha => ?_, fun id s x w hx hw hs ha hl => ?_,
    fun n s hn hs h => ?_, fun n k => rfl, fun s h => ?_, fun s h => ?_⟩
  · exact next_onCore _ _ s ((opQdrScrub_runs _ _ _ he hr hd hb).trans (by simp [hg, qdrScrubbed]))
  · exact next_onCore _ _ s ((opQdrScrub_runs _ _ _ he hr hd hb).trans (by simp [hg, qdrScrubbed]))
  · exact next_onCore _ _ s ((opQdrScrub_runs _ _ _ he hr hd hb).trans (if_pos (.inr rfl)))
  · exact next_onCore _ _ s (opArcScrub_runs x s.core p hp he hb hc hd)
  · exact (execTransferBlockReceive_intact id l s w hw hr).trans
      (congrArg Host.Outcome.next (deliverBlock_readable id l s x w hx hw hs hu))
  · refine ⟨_, ?_, (execTransferBlockReceive_broken id l s).trans ?_, rfl⟩
    all_goals exact next_onCore _ _ s (opAttemptFailed_again id s.core x w hx hw hs ha)
  · exact next_onCore _ _ s (opAttemptFailed_fourth id s.core x w hx hw hs ha hl)
  · exact next_onCore _ _ s (opStackFailed_fails _ _ hn hs h)
  · exact next_onCore _ _ s (opTariffRefill_due _ h)
  · exact next_onCore_self _ s (opTariffRefill_not_due _ h)

end Sys2Proof.Machine
end

section
/-! SUPPORT. One step by the front of the queue, and that every command and event goes on and leaves the queue (R321, R322, R332, R333). -/

namespace Sys2Proof.Machine

/-- No table word spells a command. -/
theorem decodeTableWord_none (n w : Nat) : decodeTableWord n w = none := rfl

/-- So a fetch word leaves the state. -/
theorem withFetchWord_self (s : State) (n w : Nat) : s.withFetchWord n w = s := by
  unfold State.withFetchWord
  rw [decodeTableWord_none]

/-- Every row of the table has an arm that answers a next state. -/
theorem exec_next (i : Instr) (s : State) : ∃ t, exec i s = .next t := by
  cases i <;> exact ⟨_, rfl⟩

/-- Settles O1: a step by whether a command waits at the front. -/
theorem stepTakesTheFront : Obligations.StepTakesTheFront := by
  unfold Obligations.StepTakesTheFront
  exact ⟨fun i l s h => step_of_pending s i l h, step_of_empty, fun s n w => ⟨decodeTableWord_none n w, withFetchWord_self s n w⟩⟩

/-- Settles O3: an arm answers a next state, and what every arm keeps of the state has the queue in it. -/
theorem everyCommandGoesOn : Obligations.EveryCommandGoesOn := by
  unfold Obligations.EveryCommandGoesOn
  intro i s
  obtain ⟨t, ht⟩ := exec_next i s
  obtain ⟨hqueue, -⟩ := exec_keeps s t i ht
  exact ⟨t, ht, hqueue⟩

end Sys2Proof.Machine
end

section
/-! SUPPORT. The checks of a command in their order (Table CMD-5), and the table of opcodes (R332, Table CMD-8). -/

namespace Sys2Proof.Machine

/-! ### The first refusal (Table CMD-5) -/

/-- Check 2: a reserved flag. -/
def flagsCheck (c : Cmd) : Option Status := refuseIf (c.flags &&& 0xFC#8 != 0) stFlags

/-- Check 3: no session, on an opcode that needs one. -/
def sessionCheck (d : OpDef) (c : Cmd) (k : Core) : Option Status := refuseIf (!d.exempt && sessionOf k c == 0) stNoSession

/-- The last of check 7: a FOLIO on an opcode that cannot be staged. -/
def stageCheck (d : OpDef) (c : Cmd) : Option Status := refuseIf (!d.stage && c.folio != 0) stNotStageable

/-- Checks 2, 3 and 5 to 7 of Table CMD-5, in order. -/
def requestChecks (d : OpDef) (c : Cmd) (s : State) : List (Option Status) :=
  [flagsCheck c, sessionCheck d c s.core, permission d c s, targetCheck d c s, d.params c s, stageCheck d c]

@[simp] theorem refuseIf_true (st : Status) : refuseIf true st = some st := rfl
@[simp] theorem refuseIf_false (st : Status) : refuseIf false st = none := rfl
@[simp] theorem firstSome_nil : firstSome [] = none := rfl

/-- Checks 2 to 7 are judged before any reservation, unit or cost. -/
theorem refusal_of_request {d : OpDef} {c : Cmd} {s : State} {st : Status} (h : firstSome (requestChecks d c s) = some st) :
    refusal d c s = some (st, []) := by
  unfold requestChecks flagsCheck sessionCheck stageCheck at h
  unfold refusal
  rw [h]

/-- Check 8 is judged next. -/
theorem refusal_of_reservation {d : OpDef} {c : Cmd} {s : State} {r : Reservation} (h : firstSome (requestChecks d c s) = none)
    (hr : reservationCheck d c s = some r) : refusal d c s = some (stReserved, reservedData r) := by
  unfold requestChecks flagsCheck sessionCheck stageCheck at h
  unfold refusal
  rw [h, hr]

/-- Checks 9 and 10 are judged last. -/
theorem refusal_of_unreserved {d : OpDef} {c : Cmd} {s : State} (h : firstSome (requestChecks d c s) = none)
    (hr : reservationCheck d c s = none) :
    refusal d c s = (firstSome [d.state c s, costCheck d c s]).map (fun st => (st, [])) := by
  unfold requestChecks flagsCheck sessionCheck stageCheck at h
  unfold refusal
  rw [h, hr]

theorem flagsCheck_fails {c : Cmd} (h : c.flags &&& 0xFC#8 ≠ 0) : flagsCheck c = some stFlags := by
  rw [flagsCheck, bne_iff_ne.2 h, refuseIf_true]

theorem flagsCheck_passes {c : Cmd} (h : c.flags &&& 0xFC#8 = 0) : flagsCheck c = none := by
  rw [flagsCheck, bne_eq_false_iff_eq.2 h, refuseIf_false]

theorem sessionCheck_fails {d : OpDef} {c : Cmd} {k : Core} (he : d.exempt = false) (hn : sessionOf k c = 0) :
    sessionCheck d c k = some stNoSession := by
  rw [sessionCheck, he, hn]
  rfl

theorem sessionCheck_passes {d : OpDef} {c : Cmd} {k : Core} (h : d.exempt = true ∨ sessionOf k c ≠ 0) :
    sessionCheck d c k = none := by
  unfold sessionCheck
  rcases h with h | h
  · rw [h, Bool.not_true, Bool.false_and, refuseIf_false]
  · rw [beq_eq_false_iff_ne.2 h, Bool.and_false, refuseIf_false]

theorem stageCheck_fails {d : OpDef} {c : Cmd} (hs : d.stage = false) (hf : c.folio ≠ 0) : stageCheck d c = some stNotStageable := by
  rw [stageCheck, hs, bne_iff_ne.2 hf, Bool.not_false, Bool.true_and, refuseIf_true]

theorem stageCheck_passes {d : OpDef} {c : Cmd} (h : d.stage = true ∨ c.folio = 0) : stageCheck d c = none := by
  unfold stageCheck
  rcases h with h | h
  · rw [h, Bool.not_true, Bool.false_and, refuseIf_false]
  · rw [bne_eq_false_iff_eq.2 h, Bool.and_false, refuseIf_false]

/-- Settles O8: each check stands first of those that are left once the ones before it pass. -/
theorem checkOrder : Obligations.CheckOrder := by
  unfold Obligations.CheckOrder
  intro d c s
  refine ⟨fun hflags => refusal_of_request ?_, fun hflags => ⟨fun ⟨hneeds, hnone⟩ => refusal_of_request ?_,
    fun hsession => ⟨fun st hst => refusal_of_request ?_, fun hperm => ⟨fun st hst => refusal_of_request ?_,
    fun htarget => ⟨fun st hst => refusal_of_request ?_, fun hparams => ⟨fun ⟨hstage, hfolio⟩ => refusal_of_request ?_,
    fun hstage => ?_⟩⟩⟩⟩⟩⟩
  · simp [requestChecks, flagsCheck_fails hflags]
  · simp [requestChecks, flagsCheck_passes hflags, sessionCheck_fails hneeds hnone]
  · simp [requestChecks, flagsCheck_passes hflags, sessionCheck_passes hsession, hst]
  · simp [requestChecks, flagsCheck_passes hflags, sessionCheck_passes hsession, hperm, hst]
  · simp [requestChecks, flagsCheck_passes hflags, sessionCheck_passes hsession, hperm, htarget, hst]
  · simp [requestChecks, flagsCheck_passes hflags, sessionCheck_passes hsession, hperm, htarget, hparams, stageCheck_fails hstage hfolio]
  · have hrequest : firstSome (requestChecks d c s) = none := by
      simp [requestChecks, flagsCheck_passes hflags, sessionCheck_passes hsession, hperm, htarget, hparams, stageCheck_passes hstage]
    refine ⟨fun r hr => refusal_of_reservation hrequest hr, fun hr => ?_⟩
    rw [refusal_of_unreserved hrequest hr]
    exact ⟨fun st hst => by simp [hst], fun hstate => ⟨fun st hst => by simp [hstate, hst], fun hcost => by simp [hstate, hcost]⟩⟩

/-! ### The table of opcodes -/

set_option maxRecDepth 2000 in
/-- The table lists its opcodes in rising order of their numbers. -/
theorem opTable_rising : (opTable.map (fun d => d.opcode.toNat)).IsChain (· < ·) := by decide

/-- No two opcodes share a number. -/
theorem opTable_nodup : (opTable.map (fun d => d.opcode)).Nodup := by
  have hnat : ((opTable.map (fun d => d.opcode)).map BitVec.toNat).Nodup := by
    rw [List.map_map]
    exact (List.isChain_iff_pairwise.1 opTable_rising).imp Nat.ne_of_lt
  exact hnat.of_map _

/-- A description of the table is found under its number, with that number. -/
theorem opDefOf_opcode {d : OpDef} (h : d ∈ opTable) : (opDefOf d.opcode).map (fun e => e.opcode) = some d.opcode := by
  cases hf : opDefOf d.opcode with
  | none =>
    have hmiss := List.find?_eq_none.1 hf d h
    exact absurd (beq_self_eq_true _) hmiss
  | some e =>
    have hsame := List.find?_some hf
    exact congrArg some (eq_of_beq hsame)

/-- A number without a description is answered OPCODE once the flags and the session pass (check 4). -/
theorem serveOp_unknown {op : BitVec 16} {c : Cmd} {s : State} (ho : opDefOf op = none) (hf : c.flags &&& 0xFC#8 = 0)
    (hn : sessionOf s.core c ≠ 0) : serveOp op c s = onCore (answer op c stOpcode []) (onCore (markStart op c) s) := by
  unfold serveOp
  rw [ho, bne_eq_false_iff_eq.2 hf, beq_eq_false_iff_ne.2 hn]
  rfl

/-- Settles O10: the numbers rise along the table, so they differ, and a lookup answers by the number. -/
theorem opcodeNumbers : Obligations.OpcodeNumbers := by
  unfold Obligations.OpcodeNumbers
  exact ⟨opTable_nodup, fun d hd => opDefOf_opcode hd, by decide, by decide, by decide,
    fun op c s ho hf hn => serveOp_unknown ho hf hn⟩

end Sys2Proof.Machine
end

section
/-! SUPPORT. Event registers: a cause recorded, a clear, and the pending and summary words (R352 to R354, R359). -/

namespace Sys2Proof.Machine

/-! ### A cause recorded (R352) -/

/-- The register after a cause that is enabled. -/
theorem reg_recordCause_enabled (a i : Nat) (k : Core) (h : regBit k (a + 4) i = true) :
    reg (recordCause a i k) a = setFld (putBit (putBit (reg k a) (16 + i) true) 8 true) 7 0 (fld (reg k a) 7 0 + 1) := by
  unfold recordCause
  simp only [h, if_true]
  split
  · exact reg_setReg_same _ _ _
  · split
    · rw [reg_raiseRoute, reg_setReg_same]
    · exact reg_setReg_same _ _ _

/-- The register after a cause that is not. -/
theorem reg_recordCause_disabled (a i : Nat) (k : Core) (h : regBit k (a + 4) i = false) :
    reg (recordCause a i k) a = putBit (reg k a) (16 + i) true := by
  unfold recordCause
  simp only [h, Bool.false_eq_true, if_false, reg_setReg_same]

/-- An enabled cause sets FLAG. -/
theorem recordCause_flag (a i : Nat) (k : Core) (h : regBit k (a + 4) i = true) : regBit (recordCause a i k) a 8 = true := by
  rw [regBit, reg_recordCause_enabled a i k h, bit_setFld_ne _ _ _ _ _ (by omega), bit_putBit_same _ _ _ (by omega)]

/-- An enabled cause steps COUNT modulo 256. -/
theorem recordCause_count (a i : Nat) (k : Core) (h : regBit k (a + 4) i = true) :
    regFld (recordCause a i k) a 7 0 = (regFld k a 7 0 + 1) % 256 := by
  rw [regFld, reg_recordCause_enabled a i k h, fld_setFld_same _ _ _ _ (by omega)]
  rfl

/-! ### The pending and summary words (R352) -/

/-- A bit of a number built from a list of bits is set already or listed. -/
theorem foldl_setBits_testBit (l : List Nat) (n i : Nat) :
    (l.foldl (fun acc j => acc ||| 2 ^ j) n).testBit i = (n.testBit i || decide (i ∈ l)) := by
  induction l generalizing n with
  | nil => simp
  | cons j t ih => simp [ih, Nat.testBit_or, Nat.testBit_two_pow, Bool.or_assoc, eq_comm]

/-- The bits of `listBits` are those listed. -/
theorem listBits_testBit (l : List Nat) (i : Nat) : (listBits l).testBit i = decide (i ∈ l) := by
  rw [listBits, foldl_setBits_testBit, Nat.zero_testBit, Bool.false_or]

/-- The word of the numbers below a bound that a test picks out. -/
theorem bit_listBits_filter (p : Nat → Bool) (n i : Nat) (hn : i < n) (hi : i < 32) :
    bit (BitVec.ofNat 32 (listBits ((List.range n).filter p))) i = p i := by
  rw [bit, BitVec.getLsbD_ofNat, listBits_testBit]
  simp [hn, hi]

/-- A pending bit is the FLAG of its source's register. -/
theorem bit_pendingWord (k : Core) (w i : Nat) (hi : i < 32) :
    bit (pendingWord k w) i = ((evtReg (32 * w + i)).map (fun a => regBit k a 8)).getD false := by
  unfold pendingWord
  rw [bit_listBits_filter _ _ _ hi hi]
  cases evtReg (32 * w + i) <;> rfl

/-- A summary bit of the first 32 words. -/
theorem bit_summaryWord_zero (k : Core) (i : Nat) (hi : i < 32) : bit (summaryWord k 0) i = (pendingWord k i != 0) := by
  unfold summaryWord
  rw [if_pos rfl, bit_listBits_filter _ _ _ hi hi, Nat.mul_zero, Nat.zero_add]

/-- A summary bit of the other 16 words. -/
theorem bit_summaryWord_one (k : Core) (i : Nat) (hi : i < 16) : bit (summaryWord k 1) i = (pendingWord k (32 + i) != 0) := by
  unfold summaryWord
  rw [if_neg (by decide), bit_listBits_filter _ _ _ hi (by omega)]

/-- Settles O41: the register after a cause by its EN bit, and the words that mirror the FLAGs. -/
theorem eventRecorded : Obligations.EventRecorded := by
  unfold Obligations.EventRecorded
  refine ⟨fun a i k hi => recordCause_set a i k (by omega), fun a i k _ he => ⟨recordCause_flag a i k he, recordCause_count a i k he⟩,
    fun a i k hi he => ⟨?_, ?_⟩, fun a i b k hb => reg_recordCause_ne a i b k hb, fun k w i a hi ha => ?_, fun k w i hi ha => ?_,
    bit_summaryWord_zero, bit_summaryWord_one⟩
  · rw [regBit, reg_recordCause_disabled a i k he, bit_putBit_ne _ _ _ _ (by omega) (by omega)]
    rfl
  · rw [regFld, reg_recordCause_disabled a i k he, fld_putBit_ne _ _ _ _ _ (by omega) (by omega)]
    rfl
  · rw [bit_pendingWord k w i hi, ha]
    rfl
  · rw [bit_pendingWord k w i hi, ha]
    rfl

/-! ### A clear (R353, R354) -/

/-- A clear with the register's COUNT is accepted. -/
theorem clearEvent_accepted (a count : Nat) (k : Core) (h : fld (reg k a) 7 0 = count % 256) :
    clearEvent a count k = (true, clearCompanions a (setReg a (reg k a &&& 0xFF#32) k)) := if_pos h

/-- Any other is not. -/
theorem clearEvent_ignored (a count : Nat) (k : Core) (h : fld (reg k a) 7 0 ≠ count % 256) : (clearEvent a count k).1 = false := by
  unfold clearEvent
  rw [if_neg h]
  split <;> rfl

/-- A clear that is not accepted leaves every register. -/
theorem reg_clearEvent_ignored (a count b : Nat) (k : Core) (h : fld (reg k a) 7 0 ≠ count % 256) :
    reg (clearEvent a count k).2 b = reg k b := by
  unfold clearEvent
  rw [if_neg h]
  split
  · dsimp only
    split
    · exact reg_raiseRoute _ _ _
    · rfl
  · rfl

/-- One that is accepted leaves COUNT alone in the register. -/
theorem reg_clearEvent_accepted (a count : Nat) (k : Core) (h : fld (reg k a) 7 0 = count % 256) :
    reg (clearEvent a count k).2 a = reg k a &&& 0xFF#32 := by
  rw [clearEvent_accepted a count k h, reg_clearCompanions, reg_setReg_same]

/-- The bits above COUNT are 0 in a word's low byte. -/
theorem bit_and_low8 (w : Word) (i : Nat) (h : 8 ≤ i) : bit (w &&& 0xFF#32) i = false := by
  rw [bit, BitVec.getLsbD_and, low8_getLsbD, decide_eq_false (by omega), Bool.and_false]

/-- EVT_CLEAR of one pair whose register is not refused. -/
theorem clearAll_one (n count : Word) (a : Nat) (k : Core) (ha : evtReg n.toNat = some a) (hu : unitRefusal k a = none) :
    clearAll (clearPairs [n, count]) k = ([putBit (readReg (clearEvent a count.toNat k).2 a) 31 (clearEvent a count.toNat k).1],
      (clearEvent a count.toNat k).2) := by
  have hone : clearSource n.toNat count.toNat k = (putBit (readReg (clearEvent a count.toNat k).2 a) 31 (clearEvent a count.toNat k).1,
      (clearEvent a count.toNat k).2) := by
    unfold clearSource
    simp only [ha, hu, Option.isSome_none, Bool.false_eq_true, if_false]
  simp [clearAll, clearPairs, hone]

/-- The immediate part of such an EVT_CLEAR. -/
theorem runEvtClear_one {c : Cmd} {m : Nat} {s : State} {n count : Word} {a : Nat} (hp : c.params = [n, count])
    (ha : evtReg n.toNat = some a) (hu : unitRefusal s.core a = none) :
    opEvtClear.run c m s = .done stDone
      [putBit (readReg (clearEvent a count.toNat s.core).2 a) 31 (clearEvent a count.toNat s.core).1]
      (onCore (fun k => (clearEvent a count.toNat k).2) s) := by
  show CmdRes.done stDone (clearAll (clearPairs c.params) s.core).1 { s with core := (clearAll (clearPairs c.params) s.core).2 } = _
  rw [hp, clearAll_one n count a s.core ha hu]
  rfl

/-- Settles O39: a clear by whether its count is COUNT, and the two commands by that one operation. -/
theorem eventClears : Obligations.EventClears := by
  unfold Obligations.EventClears
  refine ⟨fun a count k h => ⟨?_, reg_clearEvent_accepted a count k h, ?_, fun i _ => ?_, ?_⟩,
    fun a count k h => ⟨clearEvent_ignored a count k h, fun b => reg_clearEvent_ignored a count b k h⟩, fun c s h => ?_,
    fun c s n count a h hp ha hu => ?_⟩
  · rw [clearEvent_accepted a count k h]
  · rw [regBit, reg_clearEvent_accepted a count k h, bit_and_low8 _ _ (by omega)]
  · rw [regBit, reg_clearEvent_accepted a count k h, bit_and_low8 _ _ (by omega)]
  · rw [regFld, reg_clearEvent_accepted a count k h, fld_low8]
    rfl
  · exact congrArg Host.Outcome.next (takeCmd_done _ _ _ _ _ _ h rfl)
  · exact congrArg Host.Outcome.next (takeCmd_done _ _ _ _ _ _ h (runEvtClear_one hp ha hu))

end Sys2Proof.Machine
end

section
/-! SUPPORT. The general reads and the register writes (R335 to R338, R359); that a staged write replies ticket 0 in three words is
log entry 13. -/

namespace Sys2Proof.Machine

/-! ### Register reads (R336) -/

/-- A read that latches nothing and meets no latched half gives the register's value. -/
theorem readRegEff_plain (k : Core) (a : Nat) (hl : latchesHi a = false) (hh : amGet? k.hiLatch a = none) :
    readRegEff k a = (readReg k a, k) := by
  unfold readRegEff
  simp only [hh, hl, Bool.false_eq_true, if_false]

/-- One more register read after others. -/
theorem readRegs_append_one (l : List Nat) (a : Nat) (k : Core) : readRegs (l ++ [a]) k
    = ((readRegs l k).1 ++ [(readRegEff (readRegs l k).2 a).1], (readRegEff (readRegs l k).2 a).2) := by
  unfold readRegs
  rw [List.foldl_append]
  rfl

/-- Reads that latch nothing give the values in order and change nothing. -/
theorem readRegs_plain (l : List Nat) (k : Core) (h : ∀ a ∈ l, latchesHi a = false ∧ amGet? k.hiLatch a = none) :
    readRegs l k = (l.map (readReg k), k) := by
  induction l using List.reverseRecOn with
  | nil => rfl
  | append_singleton l a ih =>
    obtain ⟨hl, hh⟩ := h a (by simp)
    rw [readRegs_append_one, ih fun b hb => h b (by simp [hb]), readRegEff_plain k a hl hh, List.map_append]
    rfl

/-- The immediate part of a REG_READ of such registers. -/
theorem runRegRead_plain {c : Cmd} {n : Nat} {s : State}
    (h : ∀ i < pn c.params 0, latchesHi (c.target.toNat + 4 * i) = false ∧ amGet? s.core.hiLatch (c.target.toNat + 4 * i) = none) :
    opRegRead.run c n s
      = .done stDone ((List.range (pn c.params 0)).map (fun i => readReg s.core (c.target.toNat + 4 * i))) s := by
  have hread : readRegs (regRange c.target.toNat (pn c.params 0)) s.core
      = ((List.range (pn c.params 0)).map (fun i => readReg s.core (c.target.toNat + 4 * i)), s.core) := by
    rw [readRegs_plain _ _ fun a ha => ?_, regRange, List.map_map]
    · rfl
    · obtain ⟨i, hi, rfl⟩ := List.mem_map.1 ha
      exact h i (List.mem_range.1 hi)
  show CmdRes.done stDone (readRegs (regRange c.target.toNat (pn c.params 0)) s.core).1
    { s with core := (readRegs (regRange c.target.toNat (pn c.params 0)) s.core).2 } = _
  rw [hread]

/-! ### Register writes (R337, R338) -/

/-- Words written with FOLIO 0 are applied at once. -/
theorem written_immediate (d : OpDef) (c : Cmd) (l : List (Nat × Word)) (data : List Word) (s : State) (h : c.folio = 0) :
    written d c l data s = replied d c stDone data (onCore (applyWords l) (begun d c s)) := if_pos h

/-- Words written with a FOLIO are staged. -/
theorem written_staged (d : OpDef) (c : Cmd) (l : List (Nat × Word)) (data : List Word) (s : State) (h : c.folio ≠ 0) :
    written d c l data s = replied d c stAccepted ([0, 0, 0] ++ data) (onCore (stageWords c.folio (sender c s) l) (begun d c s)) :=
  if_neg h

/-- With FOLIO 0 a word is judged against the registers. -/
theorem viewOf_zero (k : Core) (folio : Word) (h : folio = 0) : viewOf k folio = reg k := if_pos h

/-- A REG_MODIFY with FOLIO 0 starts from the value in effect. -/
theorem modifyWord_immediate (c : Cmd) (s : State) (h : c.folio = 0) :
    modifyWord c s = (reg s.core c.target.toNat &&& ~~~(pw c.params 0)) ||| (pw c.params 1 &&& pw c.params 0) := by
  unfold modifyWord
  rw [viewOf_zero _ _ h]

/-- An accepted REG_MODIFY writes its one word and replies with the value before. -/
theorem takeCmd_regModify {c : Cmd} {s : State} (h : accepted opRegModify c s = true) :
    takeCmd opRegModify c s = written opRegModify c [(c.target.toNat, modifyWord c (begun opRegModify c s))]
      [readReg (begun opRegModify c s).core c.target.toNat] s := takeCmd_written _ _ _ _ _ h rfl

/-- Settles O37: the reads by the data they reply with, the writes by FOLIO. -/
theorem generalCommands : Obligations.GeneralCommands := by
  unfold Obligations.GeneralCommands
  refine ⟨⟨fun c s h => ?_, fun c s h => ?_, fun c s h => ?_, fun c s h => ?_, fun c s h => ?_, fun c s h hplain => ?_⟩,
    fun c s h hf => ?_, fun c s h hf => ?_, fun c s h hf => ?_, fun c s h hf => ?_, fun c s h hf => ?_⟩
  · exact congrArg Host.Outcome.next (takeCmd_done _ _ _ _ _ _ h rfl)
  · exact congrArg Host.Outcome.next (takeCmd_done _ _ _ _ _ _ h rfl)
  · exact congrArg Host.Outcome.next (takeCmd_done _ _ _ _ _ _ h rfl)
  · exact congrArg Host.Outcome.next (takeCmd_done _ _ _ _ _ _ h rfl)
  · exact congrArg Host.Outcome.next (takeCmd_done _ _ _ _ _ _ h rfl)
  · exact congrArg Host.Outcome.next (takeCmd_done _ _ _ _ _ _ h (runRegRead_plain hplain))
  · exact congrArg Host.Outcome.next ((takeCmd_written _ _ _ _ _ h rfl).trans (written_immediate _ _ _ _ _ hf))
  · exact congrArg Host.Outcome.next ((takeCmd_written _ _ _ _ _ h rfl).trans (written_staged _ _ _ _ _ hf))
  · rw [← modifyWord_immediate c _ hf]
    exact congrArg Host.Outcome.next ((takeCmd_regModify h).trans (written_immediate _ _ _ _ _ hf))
  · exact congrArg Host.Outcome.next ((takeCmd_regModify h).trans (written_staged _ _ _ _ _ hf))
  · exact congrArg Host.Outcome.next ((takeCmd_written _ _ _ _ _ h rfl).trans (written_immediate _ _ _ _ _ hf))

end Sys2Proof.Machine
end

section
/-! SUPPORT. The immediate parts of the commands of sessions, reservations and tickets where their conditions stand (R339 to R349). -/

namespace Sys2Proof.Machine

/-- SESSION_OPEN on an unbound queue, a session being free. -/
theorem runSessionOpen_unbound {c : Cmd} {m : Nat} {s : State} {q : QueueNo} {n : Nat} (hq : c.src = .host q)
    (hu : (queueOf s.core q.val).session = 0) (hn : freeSession s.core = some n) :
    opSessionOpen.run c m s
      = .done stDone [BitVec.ofNat 32 n, reg s.core 0x81F00018] (onCore (openSession q.val n) s) := by
  show runSessionOpen c m s = _
  unfold runSessionOpen
  rw [hq]
  simp only [hu, if_true, hn]
  rfl

/-- RESERVE with ID 0 that overlaps no other session's reservation, a slot being free. -/
theorem runReserve_new {c : Cmd} {n : Nat} {s : State} {slot : Nat} (h0 : pw c.params 2 = 0)
    (ho : overlapping s.core n (pw c.params 0) c.target.toNat = none) (hf : amFree s.core.stw.reservations 128 = some slot) :
    opReserve.run c n s = .done stDone
      (BitVec.ofNat 32 (s.core.stw.reservationSerial * 2 ^ 8 + slot) :: words64 (s.core.clock.chron + 200 * pn c.params 1))
      (onCore (fun k => setReservation slot
        { id := BitVec.ofNat 32 (s.core.stw.reservationSerial * 2 ^ 8 + slot), scope := pw c.params 0
          target := c.target.toNat, session := n, expiry := s.core.clock.chron + 200 * pn c.params 1, ending := false }
        { k with stw := { k.stw with reservationSerial := nextSerial k.stw.reservationSerial (2 ^ 24) } }) s) := by
  show runReserve c n s = _
  unfold runReserve
  simp only [h0, if_true, ho, hf]

/-- RESERVE with the ID of a reservation of the same scope and target. -/
theorem runReserve_renewal {c : Cmd} {n : Nat} {s : State} {slot : Nat} {r : Reservation} (h0 : pw c.params 2 ≠ 0)
    (ho : ownReservation s.core n (pw c.params 2) = some (slot, r)) (hs : r.scope = pw c.params 0) (ht : r.target = c.target.toNat)
    (he : r.ending = false) :
    opReserve.run c n s = .done stDone (r.id :: words64 (s.core.clock.chron + 200 * pn c.params 1))
      (onCore (setReservation slot { r with expiry := s.core.clock.chron + 200 * pn c.params 1 }) s) := by
  show runReserve c n s = _
  unfold runReserve
  simp only [h0, if_false, ho]
  exact if_pos ⟨hs, ht, by simp [he]⟩

/-- RELEASE with WITHDRAW, or of a reservation without a bound folio. -/
theorem runRelease_unbound {c : Cmd} {n : Nat} {s : State} {slot : Nat} {r : Reservation}
    (ho : ownReservation s.core n (pw c.params 0) = some (slot, r)) (he : r.ending = false)
    (hw : bit (pw c.params 1) 0 = true ∨ hasBound s.core slot = false) :
    opRelease.run c n s = .done stDone [] (onCore (releaseReservation slot) s) := by
  have hfree : ¬ (¬ bit (pw c.params 1) 0 = true ∧ hasBound s.core slot = true) := by
    rcases hw with hw | hw <;> simp [hw]
  show runRelease c n s = _
  unfold runRelease
  simp only [ho, he, Bool.false_eq_true, if_false]
  exact if_neg hfree

/-- RESULT_READ of a completed ticket is a result read of its status and result. -/
theorem runResultRead_completed {c : Cmd} {n : Nat} {s : State} {t : Ticket} {st : Status}
    (ho : ownTicket s.core n (pw c.params 0) = some t) (hs : t.status = some st) :
    opResultRead.run c n s = resultRead opResultRead.opcode c n [] (st.setWidth 32 :: t.result) s := by
  unfold opResultRead
  simp only [ho, hs]

/-- What a session without remembered reads reads is new to it, and is remembered. -/
theorem readOnce_of_no_reads (op : BitVec 16) (c : Cmd) (stamp : List Nat) (x : Session) (h : x.reads = []) :
    readOnce op c stamp x
      = (true, { x with reads := [{ opcode := op.toNat, target := c.target, params := c.params, stamp := stamp }] }) := by
  unfold readOnce
  rw [h]
  rfl

/-- A result read of such a session. -/
theorem resultReplied_first {d : OpDef} {c : Cmd} {stamp : List Nat} {data : List Word} {s : State} {x : Session}
    (hx : amGet? (begun d c s).core.stw.sessions (sender c s) = some x) (hr : x.reads = []) :
    resultReplied d c stamp data s = replied d c stDone data (onCore (fun k => { k with stw := { k.stw with
      sessions := amSet k.stw.sessions (sender c s)
        { x with reads := [{ opcode := d.opcode.toNat, target := c.target, params := c.params, stamp := stamp }] } } })
      (begun d c s)) := by
  unfold resultReplied
  rw [hx]
  simp only [readOnce_of_no_reads d.opcode c stamp x hr, if_true]

/-- TICKET_RELEASE of a session's own ticket. -/
theorem runTicketRelease_own {c : Cmd} {n : Nat} {s : State} {t : Ticket} (ho : ownTicket s.core n (pw c.params 0) = some t) :
    opTicketRelease.run c n s = .done stDone [] (onCore (releaseTicket t) s) := by
  unfold opTicketRelease
  simp only [ho]

/-- Settles O38: each command by the branch of its immediate part that its conditions select. -/
theorem sessionAndReservationCommands : Obligations.SessionAndReservationCommands := by
  unfold Obligations.SessionAndReservationCommands
  refine ⟨fun c s q n h hq hu hn => ?_, fun c s h => ?_, fun c s slot h h0 ho hf => ?_, fun c s slot r h h0 ho hs ht he => ?_,
    fun c s slot r h ho he hw => ?_, fun c s t st x h ho hs hx hr => ?_, fun c s t h ho => ?_⟩
  · exact congrArg Host.Outcome.next (takeCmd_done _ _ _ _ _ _ h (runSessionOpen_unbound hq hu hn))
  · exact congrArg Host.Outcome.next (takeCmd_done _ _ _ _ _ _ h rfl)
  · exact congrArg Host.Outcome.next (takeCmd_done _ _ _ _ _ _ h (runReserve_new h0 ho hf))
  · exact congrArg Host.Outcome.next (takeCmd_done _ _ _ _ _ _ h (runReserve_renewal h0 ho hs ht he))
  · exact congrArg Host.Outcome.next (takeCmd_done _ _ _ _ _ _ h (runRelease_unbound ho he hw))
  · exact congrArg Host.Outcome.next ((takeCmd_result _ _ _ _ _ h (runResultRead_completed ho hs)).trans (resultReplied_first hx hr))
  · exact congrArg Host.Outcome.next (takeCmd_done _ _ _ _ _ _ h (runTicketRelease_own ho))

end Sys2Proof.Machine
end

section
/-! SUPPORT. The host port (R325 to R330, R356, R534): what its writes and events do where their conditions stand. That packets come
with the tail's write and are fetched at once is log entry 16. -/

namespace Sys2Proof.Machine

/-- Where a change of everything but the memories and the queue leads to a state, the outcome is that state. -/
theorem next_onCore_to (f : Core → Core) (s t : State) (hc : f s.core = t.core) (hm : sameMemory s t) :
    (Host.Outcome.next (onCore f s) : Host.Outcome State Fault Refusal) = .next t := by
  obtain ⟨hqdr, harc, hqueue⟩ := hm
  unfold onCore
  rw [hc, ← hqdr, ← harc, ← hqueue]

/-! ### Queues -/

/-- A queue's record reads as it was set. -/
@[simp] theorem queueOf_setQueue_same (q : Nat) (x : Queue) (k : Core) : queueOf (setQueue q x k) q = x := amGetD_amSet_same _ _ _ _

/-- A queue's record is read from the queues alone. -/
theorem queueOf_congr {k k' : Core} (q : Nat) (h : k'.stw.queues = k.stw.queues) : queueOf k' q = queueOf k q := by
  unfold queueOf
  rw [h]

/-- A recorded cause leaves the queues. -/
@[simp] theorem queueOf_recordCause (a i q : Nat) (k : Core) : queueOf (recordCause a i k) q = queueOf k q :=
  queueOf_congr q (recordCause_stw_queues a i k)

/-- A raised vector leaves the queues. -/
@[simp] theorem queueOf_raiseVector (v q : Nat) (k : Core) : queueOf (raiseVector v k) q = queueOf k q :=
  queueOf_congr q (raiseVector_stw_queues v k)

/-- A queue set leaves the power state. -/
@[simp] theorem powerState_setQueue (q : Nat) (x : Queue) (k : Core) : powerState (setQueue q x k) = powerState k := rfl

/-- A queue that enters ERROR shows it, and QUEUE_ERROR is recorded (R327). -/
theorem queueError_shows (q : Nat) (err : Byte) (st : Option Status) (k : Core) :
    (queueOf (queueError q err st k) q).state = .error ∧ (queueOf (queueError q err st k) q).err = err
      ∧ regBit (queueError q err st k) 0x81F00020 (16 + 2) = true := by
  unfold queueError
  refine ⟨?_, ?_, recordCause_set _ _ _ (by omega)⟩
  · rw [queueOf_recordCause, queueOf_setQueue_same]
  · rw [queueOf_recordCause, queueOf_setQueue_same]

/-! ### The submission ring (R325, R327) -/

/-- A packet with a good header and length for this module waits in its queue. -/
theorem fetchPacket_good {q : QueueNo} {p : RawPacket} {k : Core} (hr : (queueOf k q.val).state = .running) (hh : headerCheck p = p.hchk)
    (hl : p.plen.toNat ≤ 4096) (h4 : p.plen.toNat % 4 = 0) (hd : (queueOf k q.val).qdest = 0) :
    fetchPacket q.val p k = setQueue q.val { queueOf k q.val with
      sqHead := ((queueOf k q.val).sqHead + padded (16 + p.plen.toNat)) % sqSize (queueOf k q.val)
      waiting := (queueOf k q.val).waiting ++ [(p.opcode, Cmd.mk (.host q) p.tag p.flags p.target p.folio
        (p.params.take (p.plen.toNat / 4)))] } k := by
  have hlen : ¬ (4096 < p.plen.toNat ∨ p.plen.toNat % 4 ≠ 0) := by omega
  have hq : Fin.ofNat 16 q.val = q := Fin.ofNat_val_eq_self q
  have hown : (queueOf k q.val).qdest.toNat = 0 ∨ (queueOf k q.val).qdest.toNat = ownNumber k := .inl (by rw [hd]; rfl)
  unfold fetchPacket
  rw [if_neg (not_not.2 hr), if_neg (not_not.2 hh), if_neg hlen, if_pos hown, hq]

/-- The write of a tail that lies in the ring, in a module that is not in Slumber, fetches the packet up to it. -/
theorem opSqTailWrite_one {q : QueueNo} {v : Word} {p : RawPacket} {k : Core} (hr : (queueOf k q.val).state = .running)
    (hm : fld v 23 0 % 16 = 0) (ht : fld v 23 0 < sqSize (queueOf k q.val)) (hh : headerCheck p = p.hchk) (hl : p.plen.toNat ≤ 4096)
    (h4 : p.plen.toNat % 4 = 0) (hd : (queueOf k q.val).qdest = 0) (hp : powerState k ≠ 1) :
    opSqTailWrite q.val v [p] k = setQueue q.val { queueOf k q.val with
      sqTail := fld v 23 0
      sqHead := ((queueOf k q.val).sqHead + padded (16 + p.plen.toNat)) % sqSize (queueOf k q.val)
      waiting := (queueOf k q.val).waiting ++ [(p.opcode, Cmd.mk (.host q) p.tag p.flags p.target p.folio
        (p.params.take (p.plen.toNat / 4)))] } (setQueue q.val { queueOf k q.val with sqTail := fld v 23 0 } k) := by
  have hgood : ¬ (fld v 23 0 % 16 ≠ 0 ∨ sqSize (queueOf k q.val) ≤ fld v 23 0) := by omega
  have hx := queueOf_setQueue_same q.val { queueOf k q.val with sqTail := fld v 23 0 } k
  unfold opSqTailWrite
  rw [if_neg (not_not.2 hr), if_neg hgood, List.foldl_cons, List.foldl_nil,
    fetchPacket_good (by rw [hx]; exact hr) hh hl h4 (by rw [hx]; exact hd), hx]
  exact if_neg hp

/-- The write of an ill tail stops the queue. -/
theorem opSqTailWrite_ill {q : Nat} {v : Word} {l : List RawPacket} {k : Core} (hr : (queueOf k q).state = .running)
    (ht : fld v 23 0 % 16 ≠ 0 ∨ sqSize (queueOf k q) ≤ fld v 23 0) : opSqTailWrite q v l k = queueError q 3 (some stRequest) k := by
  unfold opSqTailWrite
  rw [if_neg (not_not.2 hr)]
  exact if_pos ht

/-- A number that no session has faults none. -/
theorem faultSession_none (n : Nat) (k : Core) (h : amGet? k.stw.sessions n = none) : faultSession n k = k := by
  unfold faultSession
  rw [h]
  rfl

/-- Without a status to reply, a queue's error leaves the sessions. -/
theorem queueError_none_sessions (q : Nat) (err : Byte) (k : Core) : (queueError q err none k).stw.sessions = k.stw.sessions :=
  recordCause_stw_sessions _ _ _

/-- A failed host access on a queue without a session stops the queue. -/
theorem opHostDmaFault_unbound {q : Nat} {k : Core} (hr : (queueOf k q).state = .running) (hn : (queueOf k q).session = 0)
    (h0 : amGet? k.stw.sessions 0 = none) : opHostDmaFault q k = queueError q 4 none k := by
  unfold opHostDmaFault
  rw [if_pos hr, hn, faultSession_none 0 _ (by rw [queueError_none_sessions]; exact h0)]

/-! ### The queue registers (R356) -/

/-- EN set on a disabled queue, with sizes within the limits, empties both rings, and the queue runs. -/
theorem opQcfgWrite_enables {q : Nat} {v : Word} {k : Core} (he : bit (queueOf k q).qcfg 31 = false) (ho : qcfgOk (v &&& qcfgBits) = true)
    (hv : bit (v &&& qcfgBits) 31 = true) : opQcfgWrite q v k = setQueue q { queueOf k q with
      qcfg := v &&& qcfgBits, sqTail := 0, sqHead := 0, rqHead := 0, rqTail := 0, err := 0, waiting := [], replies := []
      held := [], state := .running } k := by
  unfold opQcfgWrite
  simp only [he, ho, hv, Bool.false_eq_true, not_true_eq_false, if_false, if_true]

/-- A write that leaves EN set does nothing. -/
theorem opQcfgWrite_enabled {q : Nat} {v : Word} {k : Core} (he : bit (queueOf k q).qcfg 31 = true)
    (hv : bit (v &&& qcfgBits) 31 = true) : opQcfgWrite q v k = k := by
  unfold opQcfgWrite
  simp only [he, hv, if_true]

/-- The other registers of a queue that is enabled take no write. -/
theorem opQueueRegisterWrite_enabled {q : Nat} {r : QueueReg} {v : Word} {k : Core} (he : bit (queueOf k q).qcfg 31 = true) :
    opQueueRegisterWrite q r v k = k := if_pos he

theorem opQueueRegisterWrite_sqBaseLo {q : Nat} {v : Word} {k : Core} (he : bit (queueOf k q).qcfg 31 = false) :
    opQueueRegisterWrite q .sqBaseLo v k = setQueue q { queueOf k q with sqBaseLo := v &&& 0xFFFFF000#32 } k :=
  if_neg (Bool.eq_false_iff.1 he)

theorem opQueueRegisterWrite_qdest {q : Nat} {v : Word} {k : Core} (he : bit (queueOf k q).qcfg 31 = false) :
    opQueueRegisterWrite q .qdest v k = setQueue q { queueOf k q with qdest := v.extractLsb' 0 12 } k :=
  if_neg (Bool.eq_false_iff.1 he)

/-! ### The function's power states and resets (R328 to R330, R534) -/

/-- A running queue as D3hot stops it. -/
theorem stopQueue_eq (x : Queue) : (if x.state = .running then { x with state := .stopped, resume := x.state } else x)
    = if x.state = .running then { x with state := .stopped, resume := .running } else x := by
  by_cases h : x.state = .running
  · rw [h]
  · rw [if_neg h, if_neg h]

/-- D3HOT_ENTRY from D0 stops the running queues. -/
theorem opD3hotEntry_from_d0 (k : Core) (h : k.stw.d3hot = false) : opD3hotEntry k = mapQueues
    (fun x => if x.state = .running then { x with state := .stopped, resume := .running } else x)
    { k with stw := { k.stw with d3hot := true } } := by
  unfold opD3hotEntry
  rw [if_neg (Bool.eq_false_iff.1 h), funext stopQueue_eq]

/-- What a Function Level Reset leaves of the host port. -/
theorem opFunctionLevelReset_leaves (k : Core) : (opFunctionLevelReset k).stw.queues = [] ∧ (opFunctionLevelReset k).stw.busMaster = false
    ∧ (opFunctionLevelReset k).sec.spdm = 0 ∧ regBit (opFunctionLevelReset k) 0x81F00020 (16 + 3) = true :=
  ⟨recordCause_stw_queues _ _ _, recordCause_stw_busMaster _ _ _, congrArg Sec.spdm (recordCause_sec _ _ _),
    recordCause_set _ _ _ (by omega)⟩

/-- PCIE_PERST_N rising outside start-up, with VIO on, trains the link. -/
theorem opPciePerst_rises (k : Core) (hs : k.pwr.startup = none) (hv : regBit k 0x89F00050 5 = true) :
    opPciePerst true k = { k with stw := { k.stw with perst := true, linkUp := true } } := by
  unfold opPciePerst
  rw [if_pos rfl, hs]
  exact if_pos hv

/-! ### The events together -/

/-- Settles O40: each write and event by the branch that its condition selects. -/
theorem hostPortEvents : Obligations.HostPortEvents := by
  unfold Obligations.HostPortEvents
  refine ⟨fun q v p s hr hm ht hh hl h4 hd hp => ?_, fun q v l s hr ht => ?_, fun q s hr hn h0 => ?_, fun q v s => rfl,
    fun q v s he ho hv => ?_, fun q v s he hv => ?_, fun q v s he => ⟨?_, ?_⟩, fun q r v s he => ?_, fun s h => ?_, fun s => rfl,
    fun s => rfl, fun s => ?_, fun s hs hv => ?_, fun s => rfl, fun s => rfl⟩
  · exact next_onCore_to _ s _ (opSqTailWrite_one hr hm ht hh hl h4 hd hp) (sameMemory_trans (sameMemory_onCore _ _) (sameMemory_onCore _ _))
  · obtain ⟨hstate, herr, hcause⟩ := queueError_shows q.val 3 (some stRequest) s.core
    exact ⟨onCore (queueError q.val 3 (some stRequest)) s, next_onCore _ _ s (opSqTailWrite_ill hr ht), hstate, herr, hcause,
      sameMemory_onCore _ _⟩
  · obtain ⟨hstate, herr, hcause⟩ := queueError_shows q.val 4 none s.core
    exact ⟨onCore (queueError q.val 4 none) s, next_onCore _ _ s (opHostDmaFault_unbound hr hn h0), hstate, herr, hcause,
      sameMemory_onCore _ _⟩
  · exact next_onCore _ _ s (opQcfgWrite_enables he ho hv)
  · exact next_onCore_self _ s (opQcfgWrite_enabled he hv)
  · exact next_onCore _ _ s (opQueueRegisterWrite_sqBaseLo he)
  · exact next_onCore _ _ s (opQueueRegisterWrite_qdest he)
  · exact next_onCore_self _ s (opQueueRegisterWrite_enabled he)
  · exact next_onCore _ _ s (opD3hotEntry_from_d0 _ h)
  · obtain ⟨hqueues, hmaster, hspdm, hcause⟩ := opFunctionLevelReset_leaves s.core
    exact ⟨onCore opFunctionLevelReset s, rfl, hqueues, hmaster, hspdm, hcause, sameMemory_onCore _ _⟩
  · exact next_onCore _ _ s (opPciePerst_rises _ hs hv)

end Sys2Proof.Machine
end

section
/-! SUPPORT. Replies, tickets and Steward's events (R325, R333, R339, R343, R344, R347, R355, R390): what each does where its
conditions stand. -/

namespace Sys2Proof.Machine

/-! ### Replies (R325, R333) -/

/-- A reply to a queue that runs is appended, and RQ_TAIL moves past it. -/
theorem queueOf_writeReply_running (q : Nat) (r : Reply) (k : Core) (h : (queueOf k q).state = .running) :
    queueOf (writeReply q r k) q = { queueOf k q with
      replies := (queueOf k q).replies ++ [r]
      rqTail := ((queueOf k q).rqTail + replyLen r) % rqSize (queueOf k q) } := by
  unfold writeReply
  simp only [h]
  rw [queueOf_raiseVector, queueOf_setQueue_same]

/-- QUIET suppresses DONE, and ACCEPTED with ticket 0. -/
theorem answer_quiet {op : BitVec 16} {c : Cmd} {st : Status} {data : List Word} {k : Core} (hf : c.flags.getLsbD 1 = true)
    (hs : st = stDone ∨ (st = stAccepted ∧ pw data 0 = 0)) : answer op c st data k = k := if_pos ⟨hf, hs⟩

/-- Any other reply to a host queue is written to it. -/
theorem answer_host {op : BitVec 16} {c : Cmd} {q : QueueNo} {st : Status} {data : List Word} {k : Core} (hq : c.src = .host q)
    (hs : c.flags.getLsbD 1 = false ∨ (st ≠ stDone ∧ ¬ (st = stAccepted ∧ pw data 0 = 0))) :
    answer op c st data k = writeReply q.val
      { tag := c.tag, status := st, opcode := op, chron := BitVec.ofNat 32 k.clock.chron, notice := false, data := data } k := by
  have hsent : ¬ (c.flags.getLsbD 1 = true ∧ (st = stDone ∨ (st = stAccepted ∧ pw data 0 = 0))) := by
    rintro ⟨hflag, hstatus⟩
    rcases hs with hloud | ⟨hdone, haccepted⟩
    · rw [hloud] at hflag
      cases hflag
    · exact hstatus.elim hdone haccepted
  unfold answer
  rw [if_neg hsent, hq]
  rfl

/-! ### Tickets (R347) -/

/-- The record of a ticket replaced. -/
def setTicket (id : Word) (t : Ticket) (k : Core) : Core :=
  { k with stw := { k.stw with tickets := amSet k.stw.tickets (fld id 9 0) t } }

@[simp] theorem setTicket_tickets (id : Word) (t : Ticket) (k : Core) :
    (setTicket id t k).stw.tickets = amSet k.stw.tickets (fld id 9 0) t := rfl
@[simp] theorem setTicket_clock (id : Word) (t : Ticket) (k : Core) : (setTicket id t k).clock = k.clock := rfl
@[simp] theorem queueOf_setTicket (id : Word) (t : Ticket) (q : Nat) (k : Core) : queueOf (setTicket id t k) q = queueOf k q := rfl

/-- A running ticket that completes keeps its final status and result, and its notice is sent. -/
theorem completeTicket_running {id : Word} {st : Status} {res : List Word} {t : Ticket} {k : Core}
    (ht : amGet? k.stw.tickets (fld id 9 0) = some t) (hid : t.id = id) (hr : t.status = none) :
    completeTicket id st res k = sendNotice t st res (setTicket id { t with status := some st, result := res } k) := by
  unfold completeTicket
  rw [ht]
  exact if_pos ⟨hid, by rw [hr]; rfl⟩

/-- NOTIFY of a command of a host queue sends the notice there. -/
theorem sendNotice_queue {t : Ticket} {st : Status} {res : List Word} {q : Nat} {k : Core} (hn : t.notify = true)
    (hq : t.queue = some q) : sendNotice t st res k = writeReply q (noticeOf k t st res) k := by
  unfold sendNotice
  rw [if_pos hn, hq]

/-- Without NOTIFY no notice is sent. -/
theorem sendNotice_none {t : Ticket} {st : Status} {res : List Word} {k : Core} (hn : t.notify = false) : sendNotice t st res k = k :=
  if_neg (Bool.eq_false_iff.1 hn)

/-- A reply leaves the tickets. -/
@[simp] theorem writeReply_tickets (q : Nat) (r : Reply) (k : Core) : (writeReply q r k).stw.tickets = k.stw.tickets := by
  unfold writeReply
  dsimp only
  split
  · rw [raiseVector_stw_tickets]
    rfl
  · rfl
  · rfl

/-- TICKET_COMPLETE of work that ends at a tick, once that has come. -/
theorem opTicketComplete_ending {id : Word} {e : WorkEnd} {t : Nat} {st : Status} {res : List Word} {s : State}
    (hw : workOf s.core id = some (.ending t st res)) (ht : t ≤ s.core.clock.chron) :
    opTicketComplete id e s = onCore (completeTicket id st res) s := by
  unfold opTicketComplete
  rw [hw]
  exact if_pos ht

/-! ### Commands and replies of other modules (R339, R390) -/

/-- A command taken by the number of an opcode is taken with its description. -/
theorem takeOp_of_opDefOf {op : BitVec 16} {d : OpDef} {c : Cmd} {s : State} (hd : opDefOf op = some d) (ho : d.opcode = op) :
    takeOp op c s = takeCmd d c s := by
  subst ho
  unfold takeOp takeCmd mayStart serveOp
  rw [hd]
  rfl

/-- Outside Slumber a command wakes nothing. -/
theorem wakeForCommand_awake (source : Nat) (k : Core) (h : powerState k ≠ 1) : wakeForCommand source k = k := if_neg h

/-- An accepted command of the chain is served as from its chain session. -/
theorem opChainCommandReceive_accepted {op : BitVec 16} {d : OpDef} {c : Cmd} {s : State} (hd : opDefOf op = some d) (ho : d.opcode = op)
    (hc : fromChain c = true) (hp : powerState s.core ≠ 1) (ha : accepted d c s = true) :
    opChainCommandReceive op c s = finish d c (d.run c (sender c s) (begun d c s)) (begun d c s) := by
  have hawake : onCore (wakeForCommand 3) s = s := by
    unfold onCore
    rw [wakeForCommand_awake 3 _ hp]
  unfold opChainCommandReceive
  rw [if_pos hc, hawake, takeOp_of_opDefOf hd ho, takeCmd_accepted d c s ha]

/-- A reply that is awaited is written to its queue. -/
theorem opChainReplyReceive_awaited {q : Nat} {tag op : BitVec 16} {st : Status} {data : List Word} {f : FwdCmd} {k : Core}
    (hf : k.stw.forwarded.find? (fun e => e.queue == q && e.tag == tag) = some f) :
    opChainReplyReceive q tag op st data k = writeReply q
      { tag := tag, status := st, opcode := op, chron := BitVec.ofNat 32 k.clock.chron, notice := false, data := data }
      { k with stw := { k.stw with forwarded := k.stw.forwarded.erase f } } := by
  unfold opChainReplyReceive
  rw [hf]
  rfl

/-- One that is not is discarded. -/
theorem opChainReplyReceive_unknown {q : Nat} {tag op : BitVec 16} {st : Status} {data : List Word} {k : Core}
    (hf : k.stw.forwarded.find? (fun e => e.queue == q && e.tag == tag) = none) : opChainReplyReceive q tag op st data k = k := by
  unfold opChainReplyReceive
  rw [hf]

/-- After CMD_TIMEOUT the module answers FAULT itself. -/
theorem opCommandTimeout_due {q : Nat} {tag : BitVec 16} {f : FwdCmd} {k : Core}
    (hf : k.stw.forwarded.find? (fun e => e.queue == q && e.tag == tag) = some f)
    (ht : f.since + 200 * regFld k 0x83F0000C 26 0 ≤ k.clock.uptime) :
    opCommandTimeout q tag k = writeReply q
      { tag := tag, status := 0x0500, opcode := f.opcode, chron := BitVec.ofNat 32 k.clock.chron, notice := false, data := [] }
      { k with stw := { k.stw with forwarded := k.stw.forwarded.erase f } } := by
  unfold opCommandTimeout
  rw [hf]
  exact if_pos ht

/-! ### Leases and holdoffs (R343, R344, R355) -/

/-- A lease past its expiry releases its reservation and is recorded. -/
theorem opLeaseExpired_due {slot : Nat} {r : Reservation} {k : Core} (hr : amGet? k.stw.reservations slot = some r)
    (ht : r.expiry ≤ k.clock.chron) (he : r.ending = false) :
    opLeaseExpired slot k = recordCause 0x81F00020 0 (releaseReservation slot k) := by
  unfold opLeaseExpired
  rw [hr]
  exact if_pos ⟨ht, Bool.eq_false_iff.1 he⟩

/-- A holdoff that ends for a vector raised meanwhile sends its message. -/
theorem opHoldoffEnd_raised {v : Nat} {h : VecHold} {k : Core} (hv : amGet? k.stw.vecHold v = some h) (ht : h.until_ ≤ k.clock.uptime)
    (hr : h.raised = true) (hd : k.stw.d3hot = false) : opHoldoffEnd v k = sendVector v k := by
  unfold opHoldoffEnd
  simp only [hv, ht, hr, hd, Bool.false_eq_true, not_false_eq_true, and_self, if_true]

/-- One that ends for a vector not raised meanwhile leaves no holdoff. -/
theorem opHoldoffEnd_silent {v : Nat} {h : VecHold} {k : Core} (hv : amGet? k.stw.vecHold v = some h) (ht : h.until_ ≤ k.clock.uptime)
    (hr : h.raised = false) : opHoldoffEnd v k = { k with stw := { k.stw with vecHold := amErase k.stw.vecHold v } } := by
  unfold opHoldoffEnd
  simp only [hv, ht, hr, Bool.false_eq_true, false_and, if_true, if_false]

/-! ### The events together -/

/-- Settles O42: each reply, ticket and event by the branch that its conditions select. -/
theorem stewardEvents : Obligations.StewardEvents := by
  unfold Obligations.StewardEvents
  refine ⟨⟨fun op c q st data k hq hr hs => ?_, fun op c st data k hf hs => answer_quiet hf hs,
      fun id st res t q k ht hid hn hf hq hr => ?_, fun id st res t k ht hid hn hf => ?_⟩,
    fun port op d c s hd ho hc hp ha => ?_, fun port tag op st q data f s hf => ?_, fun port tag op st q data s hf => ?_,
    fun tag q f s hf ht => ?_, fun id e n st res s hw ht => ?_, fun slot r s hr ht he => ?_, fun v h s hv ht hr hd => ?_,
    fun v h s hv ht hr => ?_⟩
  · rw [answer_host hq hs, queueOf_writeReply_running _ _ _ hr]
    exact ⟨rfl, rfl⟩
  · have hruns : (queueOf (setTicket id { t with status := some st, result := res } k) q).state = .running := hr
    rw [completeTicket_running ht hid hn, sendNotice_queue hf hq, writeReply_tickets, setTicket_tickets, amGet?_amSet_same,
      queueOf_writeReply_running _ _ _ hruns, queueOf_setTicket]
    exact ⟨rfl, rfl⟩
  · rw [completeTicket_running ht hid hn, sendNotice_none hf]
    rfl
  · exact congrArg Host.Outcome.next (opChainCommandReceive_accepted hd ho hc hp ha)
  · exact next_onCore _ _ s (opChainReplyReceive_awaited hf)
  · exact next_onCore_self _ s (opChainReplyReceive_unknown hf)
  · exact next_onCore _ _ s (opCommandTimeout_due hf ht)
  · exact congrArg Host.Outcome.next (opTicketComplete_ending hw ht)
  · exact ⟨_, next_onCore _ _ s (opLeaseExpired_due hr ht he), rfl, recordCause_set _ _ _ (by omega)⟩
  · exact ⟨onCore (sendVector v.val) s, next_onCore _ _ s (opHoldoffEnd_raised hv ht hr hd), rfl, sameMemory_onCore _ _⟩
  · exact next_onCore _ _ s (opHoldoffEnd_silent hv ht hr)

end Sys2Proof.Machine
end

section
/-! SUPPORT. The immediate parts of the folio commands, and what the messages and the deadline of a folio do where their conditions
stand (R364 to R371, R374, R398). -/

namespace Sys2Proof.Machine

/-! ### The commands -/

/-- FOLIO_OPEN of a folio of this module alone, a slot being free. -/
theorem runFolioOpen_own {c : Cmd} {n slot : Nat} {s : State} (h0 : pw c.params 0 = 0) (hf : amFree s.core.car.folios 64 = some slot) :
    opFolioOpen.run c n s = .done stDone (nextFolioId s.core false slot :: words64 (s.core.clock.chron + 200 * pn c.params 1))
      (onCore (fun k => setFolio slot { id := nextFolioId s.core false slot, chain := false, coord := true, state := .opened
                                        words := [], deadline := s.core.clock.chron + 200 * pn c.params 1, session := n }
        { k with car := { k.car with folioSerial := nextSerial k.car.folioSerial (2 ^ 14) } }) s) := by
  have hchain : (pw c.params 0 == 1) = false := by rw [h0]; rfl
  show runFolioOpen c n s = _
  simp only [runFolioOpen, hf, hchain, Bool.false_eq_true, if_false]

/-- FOLIO_OPEN of a chain folio, a slot being free. -/
theorem runFolioOpen_chain {c : Cmd} {n slot : Nat} {s : State} (h1 : pw c.params 0 = 1) (hf : amFree s.core.car.folios 64 = some slot) :
    opFolioOpen.run c n s = .done stDone (nextFolioId s.core true slot :: words64 (s.core.clock.chron + 200 * pn c.params 1))
      (onCore (fun k => flood (.announce (nextFolioId s.core true slot) (s.core.clock.chron + 200 * pn c.params 1))
        (setFolio slot { id := nextFolioId s.core true slot, chain := true, coord := true, state := .opened
                         words := [], deadline := s.core.clock.chron + 200 * pn c.params 1, session := n }
          { k with car := { k.car with folioSerial := nextSerial k.car.folioSerial (2 ^ 14) } })) s) := by
  have hchain : (pw c.params 0 == 1) = true := by rw [h1]; rfl
  show runFolioOpen c n s = _
  simp only [runFolioOpen, hf, hchain, if_true]

/-- FOLIO_OPEN with no slot free. -/
theorem runFolioOpen_full {c : Cmd} {n : Nat} {s : State} (hf : amFree s.core.car.folios 64 = none) :
    opFolioOpen.run c n s = .refuse stResource [] := by
  show runFolioOpen c n s = _
  simp only [runFolioOpen, hf]

/-- FOLIO_ACCEDE of a folio that a slot holds. -/
theorem runFolioAccede_held {c : Cmd} {n : Nat} {s : State} {e : Nat × Folio} (he : slotFolio s.core (pw c.params 0) = some e) :
    opFolioAccede.run c n s = .ticketed (.folio e.1)
      (if 1 < (accedeMembers s.core e.2.chain c).length then accedeTick s.core e.2.chain (pn64 c.params 1) + 20000
        else accedeTick s.core e.2.chain (pn64 c.params 1)) [] (startAccede c) := by
  show runFolioAccede c n s = _
  simp only [runFolioAccede, he, decide_eq_true_eq]

/-- FOLIO_WITHDRAW of a folio that a slot holds. -/
theorem runFolioWithdraw_held {c : Cmd} {n : Nat} {s : State} {e : Nat × Folio} (he : slotFolio s.core (pw c.params 0) = some e) :
    opFolioWithdraw.run c n s = .done stDone [] (onCore (withdrawByHost e.1 e.2) s) := by
  simp only [opFolioWithdraw, onCore, he]

/-! ### Announcements and prepares (R366, R369) -/

/-- Two changes that read the memories and agree on the state at hand give the same outcome. -/
theorem next_onCoreMem_congr (f g : Memory → Memory → Core → Core) (s : State) (h : f s.qdr s.arc s.core = g s.qdr s.arc s.core) :
    (Host.Outcome.next (onCoreMem f s) : Host.Outcome State Fault Refusal) = .next (onCoreMem g s) := by
  unfold onCoreMem; rw [h]

/-- A folio announced to a numbered module takes a free slot. -/
theorem opFolioAnnounceReceive_free {id : Word} {d slot : Nat} {k : Core} (hn : ownNumber k ≠ 0) (hi : folioBy k id = none)
    (hf : amFree k.car.folios 64 = some slot) : opFolioAnnounceReceive id d k = setFolio slot
      { id := id, chain := true, coord := false, state := .opened, words := [], deadline := d } k := by
  unfold opFolioAnnounceReceive
  rw [if_neg (by simp [hn, hi]), hf]

/-- With no slot free, MEMBER_FULL is recorded. -/
theorem opFolioAnnounceReceive_full {id : Word} {d : Nat} {k : Core} (hn : ownNumber k ≠ 0) (hi : folioBy k id = none)
    (hf : amFree k.car.folios 64 = none) : opFolioAnnounceReceive id d k = recordCause 0x8FF00110 4 k := by
  unfold opFolioAnnounceReceive
  rw [if_neg (by simp [hn, hi]), hf]

/-- A prepare that names this module prepares its open member entry. -/
theorem opPrepareReceive_entry {p : Prepare} {qdr arc : Memory} {k : Core} {e : Nat × Folio} (hn : ownNumber k ≠ 0)
    (hm : p.members.contains (BitVec.ofNat 12 (ownNumber k)) = true) (he : folioBy k p.id = some e) (hc : e.2.coord = false)
    (hs : e.2.state = .opened) : opPrepareReceive p qdr arc k = prepareFolio qdr e.1 p 0 e.2 k := by
  unfold opPrepareReceive
  rw [if_neg (not_or.2 ⟨hn, not_not.2 hm⟩), he]
  exact if_pos ⟨Bool.eq_false_iff.1 hc, .inl hs⟩

/-- One without an entry prepares a participation. -/
theorem opPrepareReceive_participation {p : Prepare} {qdr arc : Memory} {k : Core} (hn : ownNumber k ≠ 0)
    (hm : p.members.contains (BitVec.ofNat 12 (ownNumber k)) = true) (he : folioBy k p.id = none) :
    opPrepareReceive p qdr arc k = prepareFolio qdr (freePart k) p 0
      { id := p.id, chain := true, coord := false, state := .opened, words := [], deadline := 0 } k := by
  unfold opPrepareReceive
  rw [if_neg (not_or.2 ⟨hn, not_not.2 hm⟩), he]

/-- One that does not name this module is not for it. -/
theorem opPrepareReceive_unnamed {p : Prepare} {qdr arc : Memory} {k : Core}
    (hm : p.members.contains (BitVec.ofNat 12 (ownNumber k)) = false) : opPrepareReceive p qdr arc k = k :=
  if_pos (.inr (Bool.eq_false_iff.1 hm))

/-! ### Withdrawals and the open deadline (R365, R374) -/

/-- A withdrawal received discards a member entry that is not prepared. -/
theorem opFolioWithdrawalReceive_unprepared {id : Word} {k : Core} {e : Nat × Folio} (he : folioBy k id = some e)
    (hc : e.2.coord = false) (hu : unprepared e.2 = true) : opFolioWithdrawalReceive id k = resolveFolio e.1 k := by
  unfold opFolioWithdrawalReceive
  rw [he]
  exact if_pos ⟨Bool.eq_false_iff.1 hc, hu⟩

/-- Past its open deadline a folio that is not prepared is discarded. -/
theorem opFolioOpenDeadline_passed {slot : Nat} {k : Core} {f : Folio} (hf : amGet? k.car.folios slot = some f)
    (hu : unprepared f = true) (hd : f.deadline < k.clock.chron) : opFolioOpenDeadline slot k = resolveFolio slot k := by
  unfold opFolioOpenDeadline
  rw [hf]
  exact if_pos ⟨hu, hd⟩

/-- Up to the deadline it stays. -/
theorem opFolioOpenDeadline_early {slot : Nat} {k : Core} {f : Folio} (hf : amGet? k.car.folios slot = some f)
    (hd : k.clock.chron ≤ f.deadline) : opFolioOpenDeadline slot k = k := by
  unfold opFolioOpenDeadline
  rw [hf]
  exact if_neg fun h => absurd h.2 (by omega)

/-! ### The commands and events together -/

/-- Settles O43: each command by its kind of immediate part, each event by the branch that its condition selects. -/
theorem folioCommands : Obligations.FolioCommands := by
  unfold Obligations.FolioCommands
  refine ⟨⟨fun c s slot h h0 hf => ?_, fun c s slot id d h h1 hf hid hd => ?_, fun c s h hf => ?_, fun c s h => ?_,
      fun c s e a h ht he ha => ?_, fun c s e h he => ?_, fun c s h => ?_⟩,
    fun id d s slot hn hi hf => ?_, fun id d s hn hi hf => ?_, fun p s e hn hm he hc hs => ?_, fun p s hn hm he => ?_,
    fun p s hm => ?_, fun id s e he hc hu => ?_, fun i s f hf hu hd => ?_, fun i s f hf hd => ?_⟩
  · exact congrArg Host.Outcome.next (takeCmd_done _ _ _ _ _ _ h (runFolioOpen_own h0 hf))
  · subst hid hd
    exact congrArg Host.Outcome.next (takeCmd_done _ _ _ _ _ _ h (runFolioOpen_chain h1 hf))
  · exact congrArg Host.Outcome.next (takeCmd_refuse _ _ _ _ _ h (runFolioOpen_full hf))
  · exact congrArg Host.Outcome.next (takeCmd_written _ _ _ _ _ h rfl)
  · subst ha
    exact congrArg Host.Outcome.next (takeCmd_ticketed _ _ _ _ _ _ _ h ht (runFolioAccede_held he))
  · exact congrArg Host.Outcome.next (takeCmd_done _ _ _ _ _ _ h (runFolioWithdraw_held he))
  · exact congrArg Host.Outcome.next (takeCmd_done _ _ _ _ _ _ h rfl)
  · exact next_onCore _ _ s (opFolioAnnounceReceive_free hn hi hf)
  · exact next_onCore _ _ s (opFolioAnnounceReceive_full hn hi hf)
  · exact next_onCoreMem_congr _ _ s (opPrepareReceive_entry hn hm he hc hs)
  · exact next_onCoreMem_congr _ _ s (opPrepareReceive_participation hn hm he)
  · exact next_onCoreMem _ id s (opPrepareReceive_unnamed hm)
  · exact next_onCore _ _ s (opFolioWithdrawalReceive_unprepared he hc hu)
  · exact next_onCore _ _ s (opFolioOpenDeadline_passed hf hu hd)
  · exact next_onCore_self _ s (opFolioOpenDeadline_early hf hd)

end Sys2Proof.Machine
end

section
/-! SUPPORT. What the barriers, broadcasts, snapshots and resets of the Caravan do where their conditions stand (R394 to R397); barrier
timeouts and the root's own part are log entry 50. -/

namespace Sys2Proof.Machine

/-! ### Barriers (R394) -/

/-- An arrival of a numbered module is entered at the root. -/
theorem opBarrierArrivalReceive_root {n m d : Nat} {inc : Word} {k : Core} (hr : isRoot k = true) (hm : m ≠ 0) :
    opBarrierArrivalReceive n m inc d k = arriveAt n m inc d k := if_pos ⟨hr, hm⟩

/-- The end of a barrier that this module waits in completes its ticket. -/
theorem endBarrier_waiting {n : Nat} {res : List Word} {k : Core} {x : Word × Nat × Nat} (hx : amGet? k.car.barrierTickets n = some x) :
    endBarrier n res k = completeTicket x.1 stDone res
      { k with car := { k.car with barrierTickets := amErase k.car.barrierTickets n } } := by
  unfold endBarrier
  rw [hx]

/-- A barrier whose timeout has passed is abandoned by a flood. -/
theorem opBarrierTimeout_passed {n : Nat} {b : Barrier} {k : Core} (hb : amGet? k.car.barriers n = some b)
    (ht : b.first + usTicks b.timeout ≤ k.clock.uptime) : opBarrierTimeout n k = endBarrier n [2] (flood (.barrierRelease n false 0)
      { k with car := { k.car with barriers := amErase k.car.barriers n } }) := by
  unfold opBarrierTimeout
  rw [hb]
  exact if_pos ht

/-! ### Snapshots (R396) -/

/-- The module with its snapshot record of a serial and tick taken, and the last four records kept. -/
def withSnapshot (serial tick : Nat) (k : Core) : Core :=
  { k with car := { k.car with
      snapPending := k.car.snapPending.filter (· != (serial, tick))
      snapRecords := (k.car.snapRecords ++ [SnapRec.mk serial (snapshotWords serial tick k)]).drop (k.car.snapRecords.length + 1 - 4) } }

/-- At S a module that is not the root takes its record and reports to the root. -/
theorem opSnapshotCapture_member {i d : Nat} {k : Core} (hd : d ≤ k.clock.chron) (hn : ownNumber k ≠ 0) (hr : isRoot k = false) :
    opSnapshotCapture i d k = sendRouted (.snapshotDone i) (withSnapshot i d k) := by
  have hlate : ¬ k.clock.chron < d := by omega
  simp only [opSnapshotCapture, hlate, hn, hr, Bool.false_eq_true, false_and, or_self, if_false, withSnapshot]

/-- The root takes its record of a snapshot that it announced, and notes it. -/
theorem opSnapshotCapture_root {i d : Nat} {k : Core} (hd : d ≤ k.clock.chron) (hn : ownNumber k ≠ 0) (hr : isRoot k = true)
    (hp : k.car.snapPending.contains (i, d) = true) :
    opSnapshotCapture i d k = noteSnapshot i (ownNumber k) (withSnapshot i d k) := by
  have hlate : ¬ k.clock.chron < d := by omega
  simp only [opSnapshotCapture, hlate, hn, hr, hp, not_true_eq_false, and_false, or_self, if_false, if_true, withSnapshot]

/-- A completion of a numbered module is noted at its snapshot. -/
theorem noteSnapshot_numbered {i m : Nat} {k : Core} (hm : m ≠ 0) : noteSnapshot i m k = checkSnapshot i { k with car := { k.car with
    snapWait := k.car.snapWait.map (fun w => if w.serial = i then { w with done := m :: w.done.filter (· != m) } else w) } } := by
  unfold noteSnapshot
  rw [if_neg hm]

/-! ### Resets (R397) -/

/-- At R a module that is not the root resets itself. -/
theorem opGlobalResetTick_member {d : Nat} {k : Core} (hd : d ≤ k.clock.chron) (hn : ownNumber k ≠ 0) (hr : isRoot k = false) :
    opGlobalResetTick d k = requestReset 0 k := by
  unfold opGlobalResetTick
  rw [if_neg (not_or.2 ⟨by omega, hn⟩), if_neg (Bool.eq_false_iff.1 hr)]

/-- At R the root does its part. -/
theorem opGlobalResetTick_root {d : Nat} {k : Core} (hd : d ≤ k.clock.chron) (hn : ownNumber k ≠ 0) (hr : isRoot k = true) :
    opGlobalResetTick d k = rootResetTick d k := by
  unfold opGlobalResetTick
  rw [if_neg (not_or.2 ⟨by omega, hn⟩), if_pos hr]

/-! ### Broadcasts (R395) -/

/-- A broadcast that comes first to a module other than the root is executed there. -/
theorem opBroadcastReceive_first {m : Nat} {i : Word} {op : BitVec 16} {c : Cmd} {s : State} (hn : ownNumber s.core ≠ 0)
    (hs : s.core.car.bcastSeen.contains (m, i) = false) (hr : isRoot s.core = false) : opBroadcastReceive m i op c s =
      runInner op c (onCore (fun k => { k with car := { k.car with bcastSeen := (m, i) :: k.car.bcastSeen } }) s) := by
  unfold opBroadcastReceive
  rw [if_neg (not_or.2 ⟨hn, Bool.eq_false_iff.1 hs⟩)]
  simp only [onCore, hr, Bool.false_eq_true, false_and, if_false]

/-- One that has come before is not executed again. -/
theorem opBroadcastReceive_again {m : Nat} {i : Word} {op : BitVec 16} {c : Cmd} {s : State}
    (hs : s.core.car.bcastSeen.contains (m, i) = true) : opBroadcastReceive m i op c s = s := if_pos (.inr hs)

/-! ### The commands and events together -/

/-- SNAPSHOT_READ of a record that is kept. -/
theorem runSnapshotRead_kept {c : Cmd} {n : Nat} {s : State} {x : SnapRec} (hx : keptSnapshot s.core (pn c.params 0) = some x) :
    opSnapshotRead.run c n s = .done stDone x.words s := by
  simp only [opSnapshotRead, hx]

/-- Settles O45: each command by its kind of immediate part, each event by the branch that its condition selects. -/
theorem globalCommands : Obligations.GlobalCommands := by
  unfold Obligations.GlobalCommands
  refine ⟨⟨fun c s h ht => ?_, fun c s h ht => ?_, fun c s h ht => ?_, fun c s x h hx => ?_, fun c s h ht => ?_, fun c s h => ?_,
      fun c s h => ?_, fun c s h => ?_, fun c s h => ?_, fun c s h => ?_, fun c s h => ?_, fun c s h => ?_⟩,
    fun n m inc d s hr hm => ?_, fun n d b x s hx => ?_, fun n b s hb ht => ?_, fun i d s hd hn hr => ?_,
    fun i d s hd hn hr hp => ?_, fun i m s hm => ?_, fun d s hd hn hr => ?_, fun d s hd hn hr => ?_,
    fun m i op c s hn hs hr => ?_, fun m i op c s hs => ?_⟩
  · exact congrArg Host.Outcome.next (takeCmd_ticketed _ _ _ _ _ _ _ h ht rfl)
  · exact congrArg Host.Outcome.next (takeCmd_ticketed _ _ _ _ _ _ _ h ht rfl)
  · exact congrArg Host.Outcome.next (takeCmd_ticketed _ _ _ _ _ _ _ h ht rfl)
  · exact congrArg Host.Outcome.next (takeCmd_done _ _ _ _ _ _ h (runSnapshotRead_kept hx))
  · exact congrArg Host.Outcome.next (takeCmd_ticketed _ _ _ _ _ _ _ h ht rfl)
  · exact congrArg Host.Outcome.next (takeCmd_written _ _ _ _ _ h rfl)
  · exact congrArg Host.Outcome.next (takeCmd_done _ _ _ _ _ _ h rfl)
  · exact congrArg Host.Outcome.next (takeCmd_written _ _ _ _ _ h rfl)
  · exact congrArg Host.Outcome.next (takeCmd_written _ _ _ _ _ h rfl)
  · exact congrArg Host.Outcome.next (takeCmd_written _ _ _ _ _ h rfl)
  · exact congrArg Host.Outcome.next (takeCmd_written _ _ _ _ _ h rfl)
  · exact congrArg Host.Outcome.next (takeCmd_written _ _ _ _ _ h rfl)
  · exact next_onCore _ _ s (opBarrierArrivalReceive_root hr hm)
  · exact next_onCore _ _ s (endBarrier_waiting hx)
  · exact next_onCore _ _ s (opBarrierTimeout_passed hb ht)
  · exact ⟨onCore (fun k => sendRouted (.snapshotDone i.toNat) (withSnapshot i.toNat d k)) s,
      next_onCore _ _ s (opSnapshotCapture_member hd hn hr), rfl, rfl, sameMemory_onCore _ _⟩
  · exact next_onCore _ _ s (opSnapshotCapture_root hd hn hr hp)
  · exact next_onCore _ _ s (noteSnapshot_numbered hm)
  · exact next_onCore _ _ s (opGlobalResetTick_member hd hn hr)
  · exact next_onCore _ _ s (opGlobalResetTick_root hd hn hr)
  · exact congrArg Host.Outcome.next (opBroadcastReceive_first hn hs hr)
  · exact congrArg Host.Outcome.next (opBroadcastReceive_again hs)

end Sys2Proof.Machine
end

section
/-! SUPPORT. What training, frames and the leaving of ACTIVE do at a Caravan port where their conditions stand (R380 to R387, R498). -/

namespace Sys2Proof.Machine

/-! ### Training (R380, R381, Table FOL-8) -/

/-- A port that trains, at a step of Table FOL-8. -/
def trainsAt (k : Core) (p step : Nat) : Prop := portState k p = 2 ∧ regFld k (portReg p 4) 27 24 = step

section
variable {p : Nat} {k : Core}

theorem opLinkTraining_detect (signal : Bool) (h : trainsAt k p 1) :
    opLinkTraining p (.detect signal) k = if signal then setPortState p 2 2 k else portVacant p k := by
  obtain ⟨hstate, hstep⟩ := h
  simp only [opLinkTraining, hstate, hstep, if_true]

theorem opLinkTraining_equalised (h : trainsAt k p 2) : opLinkTraining p .equalised k = setPortState p 2 3 k := by
  obtain ⟨hstate, hstep⟩ := h
  simp only [opLinkTraining, hstate, hstep, if_true]

theorem opLinkTraining_aligned (h : trainsAt k p 3) : opLinkTraining p .aligned k = setPortState p 2 4 k := by
  obtain ⟨hstate, hstep⟩ := h
  simp only [opLinkTraining, hstate, hstep, if_true]

theorem opLinkTraining_delay (d : Nat) (h : trainsAt k p 4) :
    opLinkTraining p (.delay d) k = setPortState p 2 5 (setRegFld (portReg p 0x10) 19 0 d k) := by
  obtain ⟨hstate, hstep⟩ := h
  simp only [opLinkTraining, hstate, hstep, if_true]

/-- A partner with a number other than this module's goes on to admission. -/
theorem opLinkTraining_identified {q : Partner} (h : trainsAt k p 5) (hq : q.number.toNat ≠ ownNumber k) :
    opLinkTraining p (.identified q) k = identifyPartner p q k := by
  obtain ⟨hstate, hstep⟩ := h
  simp only [opLinkTraining, hstate, hstep, hq, false_and, if_true, if_false]

/-- A port that does not train takes no step. -/
theorem opLinkTraining_not_training (i : TrainInfo) (h : portState k p ≠ 2) : opLinkTraining p i k = k := if_neg h

theorem opTrainingAttemptFail_equalise (h : trainsAt k p 2) : opTrainingAttemptFail p .equalise k = failStep p 2 k := by
  obtain ⟨hstate, hstep⟩ := h
  simp only [opTrainingAttemptFail, hstate, hstep, if_true]

theorem opTrainingAttemptFail_align (h : trainsAt k p 3) : opTrainingAttemptFail p .align k = failStep p 3 k := by
  obtain ⟨hstate, hstep⟩ := h
  simp only [opTrainingAttemptFail, hstate, hstep, if_true]

theorem opTrainingAttemptFail_delay (h : trainsAt k p 4) : opTrainingAttemptFail p .delay k = failStep p 4 k := by
  obtain ⟨hstate, hstep⟩ := h
  simp only [opTrainingAttemptFail, hstate, hstep, if_true]

theorem opTrainingAttemptFail_admission (h : trainsAt k p 6) : opTrainingAttemptFail p .admission k = failAdmission p k := by
  obtain ⟨hstate, hstep⟩ := h
  simp only [opTrainingAttemptFail, hstate, hstep, if_true]

/-- A port that does not train fails no step. -/
theorem opTrainingAttemptFail_not_training (x : TrainStep) (h : portState k p ≠ 2) : opTrainingAttemptFail p x k = k := if_neg h

/-- A VACANT, FAULTED or BARRED port whose wait is over starts training. -/
theorem opTrainingRetry_over (hs : portState k p = 1 ∨ portState k p = 4 ∨ portState k p = 5) (he : regBit k (portReg p 0) 31 = true)
    (ht : (portOf k p).waitUntil ≤ k.clock.uptime) : opTrainingRetry p k = startTraining p k := if_pos ⟨hs, he, ht⟩

/-! ### Frames (R384, R385) -/

/-- An intact frame that is next in order acknowledges, returns credits and hands over its flits. -/
theorem opFrameReceive_next {f : Frame} (hs : portState k p = 3) (hi : f.intact = true) (hn : f.nak = false)
    (hf : f.fseq.toNat = ((portOf k p).lastGood + 1) % 65536) : opFrameReceive p f k =
      f.classes.foldl (fun acc c => takeFlit p c.val acc) (drainHeld p (setPort p (takeCredits f.credits { portOf k p with
        unacked := dropAcked f.fack.toNat (portOf k p).unacked, lastFrame := k.clock.uptime, lastGood := f.fseq.toNat }) k)) := by
  unfold opFrameReceive
  rw [if_pos hs, if_pos hi]
  simp only [if_pos hf, hn, Bool.false_eq_true, if_false]

/-- A frame that is not intact is answered with NAK. -/
theorem opFrameReceive_broken {f : Frame} (hs : portState k p = 3) (hi : f.intact = false) : opFrameReceive p f k =
    { k with car := { k.car with outbox := k.car.outbox ++ [⟨some p, .frame (portOf k p).fseq (portOf k p).lastGood true⟩] } } := by
  unfold opFrameReceive
  rw [if_pos hs, if_neg (Bool.eq_false_iff.1 hi)]

/-- The oldest frame, not acknowledged in time: it is sent again until it has been sent four times. -/
theorem opFrameResendTimeout_oldest {n sends : Nat} {rest : List (Nat × Nat)} (hs : portState k p = 3)
    (hu : (portOf k p).unacked = (n, sends) :: rest) : opFrameResendTimeout p k = if 4 ≤ sends then leaveActive p .crc k
      else countFld (portReg p 0x14) 31 0 1 (setPort p { portOf k p with unacked := (n, sends + 1) :: rest } k) := by
  simp only [opFrameResendTimeout, hs, hu]

/-- A port silent for 10 µs leaves ACTIVE. -/
theorem opPortSilent_due (hs : portState k p = 3) (ht : (portOf k p).lastFrame + usTicks 10 ≤ k.clock.uptime) :
    opPortSilent p k = leaveActive p .silent k := if_pos ⟨hs, ht⟩

/-- A port that was ACTIVE for 1 s has its counts at 0. -/
theorem opBackoffCountReset_due (hs : portState k p = 3) (ht : (portOf k p).activeSince + msTicks 1000 ≤ k.clock.uptime) :
    opBackoffCountReset p k = setRegFld (portReg p 4) 19 16 0 (setPort p { portOf k p with faults := 0, bars := 0 } k) :=
  if_pos ⟨hs, ht⟩

/-! ### The leaving of ACTIVE (R386) -/

theorem leaveActive_retrain (hs : portState k p = 3) :
    leaveActive p .retrain k = dropPort p (startTraining p (if p = 2 then losePartner k else k)) := if_pos hs

theorem leaveActive_crc (hs : portState k p = 3) : leaveActive p .crc k
    = dropPort p (recordCause (portReg p 0x20) 2 (portFaulted p 7 (if p = 2 then losePartner k else k))) := if_pos hs

/-- A port that is not ACTIVE has nothing to leave. -/
theorem leaveActive_not_active (x : LeaveCause) (hs : portState k p ≠ 3) : leaveActive p x k = k := if_neg hs

end

/-! ### The events together -/

/-- Settles O46: each event by the state and step of its port. -/
theorem portEvents : Obligations.PortEvents := by
  unfold Obligations.PortEvents
  refine ⟨fun p s hs h => ⟨?_, ?_⟩, fun p s hs h => ⟨?_, ?_⟩, fun p s hs h => ⟨?_, ?_⟩, fun p d s hs h => ⟨?_, ?_⟩,
    fun p q s hs h hq => ?_, fun p s hs h => ?_, fun p i x s hs => ⟨?_, ?_⟩, fun p s hs he ht => ?_,
    fun p f s x hs hi hn hx hf => ?_, fun p f s hs hi => ?_, fun p n sends rest s hs hu hl => ?_, fun p n sends rest s hs hu hl => ?_,
    fun p s hs ht => ?_, fun p s hs ht => ?_, fun p s hs => ⟨?_, ?_⟩, fun p x s hs => ?_⟩
  · exact next_onCore _ _ s (opLinkTraining_detect true ⟨hs, h⟩)
  · exact next_onCore _ _ s (opLinkTraining_detect false ⟨hs, h⟩)
  · exact next_onCore _ _ s (opLinkTraining_equalised ⟨hs, h⟩)
  · exact next_onCore _ _ s (opTrainingAttemptFail_equalise ⟨hs, h⟩)
  · exact next_onCore _ _ s (opLinkTraining_aligned ⟨hs, h⟩)
  · exact next_onCore _ _ s (opTrainingAttemptFail_align ⟨hs, h⟩)
  · exact next_onCore _ _ s (opLinkTraining_delay d ⟨hs, h⟩)
  · exact next_onCore _ _ s (opTrainingAttemptFail_delay ⟨hs, h⟩)
  · exact next_onCore _ _ s (opLinkTraining_identified ⟨hs, h⟩ hq)
  · exact next_onCore _ _ s (opTrainingAttemptFail_admission ⟨hs, h⟩)
  · exact next_onCore_self _ s (opLinkTraining_not_training i hs)
  · exact next_onCore_self _ s (opTrainingAttemptFail_not_training x hs)
  · exact next_onCore _ _ s (opTrainingRetry_over hs he ht)
  · subst hx
    exact next_onCore _ _ s (opFrameReceive_next hs hi hn hf)
  · exact next_onCore _ _ s (opFrameReceive_broken hs hi)
  · exact next_onCore _ _ s ((opFrameResendTimeout_oldest hs hu).trans (if_neg (by omega)))
  · exact next_onCore _ _ s ((opFrameResendTimeout_oldest hs hu).trans (if_pos hl))
  · exact next_onCore _ _ s (opPortSilent_due hs ht)
  · exact next_onCore _ _ s (opBackoffCountReset_due hs ht)
  · exact next_onCore _ _ s (leaveActive_retrain hs)
  · exact next_onCore _ _ s (leaveActive_crc hs)
  · exact next_onCore_self _ s (leaveActive_not_active x hs)

end Sys2Proof.Machine
end

section
/-! SUPPORT. What becomes of a packet that a port hands over, and of one that waits (R384, R387 to R390); that its buffers are free
once it is taken is log entry 56. -/

namespace Sys2Proof.Machine

section
variable {port : Nat} {p : Packet} {k0 k : Core}

/-- A port that is not ACTIVE hands over nothing. -/
theorem opPacketReceive_not_active (hs : portState k0 port ≠ 3) : opPacketReceive port p k0 = k0 := if_pos hs

/-- A malformed packet is dropped and counted. -/
theorem opPacketReceive_malformed (hs : portState k0 port = 3) (hk : k = freeFlits port (pkClass p) p.flits k0)
    (hm : malformed k port p = true) : opPacketReceive port p k0 = noteMalformed port k := by
  subst hk
  unfold opPacketReceive
  simp only [hs, not_true_eq_false, if_false, hm, if_true, ne_eq]

/-- A well-formed packet for one module, at a numbered module, with a port to leave on: it is forwarded, but not past 63 hops. -/
theorem opPacketReceive_forwarded {q : Nat} (hs : portState k0 port = 3) (hk : k = freeFlits port (pkClass p) p.flits k0)
    (hm : malformed k port p = false) (hn : ownNumber k ≠ 0) (h2 : pkKind p ≠ 2) (ho : outPort k p = some q) :
    opPacketReceive port p k0 = if pkHops p = 63 then noteMalformed port k else forwardOn q (hopped p) k := by
  subst hk
  unfold opPacketReceive
  simp only [hs, hm, hn, h2, ho, not_true_eq_false, false_and, Bool.false_eq_true, if_false, ne_eq]

/-- One without a port to leave on: it is this module's, or no route leads to its destination. -/
theorem opPacketReceive_unforwarded (hs : portState k0 port = 3) (hk : k = freeFlits port (pkClass p) p.flits k0)
    (hm : malformed k port p = false) (hn : ownNumber k ≠ 0) (h2 : pkKind p ≠ 2) (ho : outPort k p = none) :
    opPacketReceive port p k0 = if pkPath p ∨ pkDest p = ownNumber k ∨ routeOf k (pkDest p) = 1 then
        { k with car := { k.car with inbox := k.car.inbox ++ [p] } }
      else unroutable p k := by
  subst hk
  unfold opPacketReceive
  simp only [hs, hm, hn, h2, ho, not_true_eq_false, false_and, Bool.false_eq_true, if_false, ne_eq]

/-- A packet with a destination and no path that is addressed to this module has no port to leave on. -/
theorem outPort_own (hp : pkPath p = false) (hd : pkDest p = ownNumber k) : outPort k p = none := by
  unfold outPort
  rw [if_neg (Bool.eq_false_iff.1 hp), if_pos (.inl hd)]

/-- A packet that has waited 100 µs is discarded and counted. -/
theorem opStallDrop_due {i : Nat} {e : Nat × Nat × Nat × Packet} (he : k.car.held[i]? = some e)
    (ht : e.2.2.1 + usTicks 100 ≤ k.clock.uptime) : opStallDrop i k = recordCause 0x83F0001C 3 (countFld 0x83F00014 31 16 1
      { k with car := { k.car with held := k.car.held.eraseIdx i } }) := by
  unfold opStallDrop
  rw [he]
  exact if_pos ht

end

/-- Settles O47: the packet's form, then its route, say what becomes of it. -/
theorem packetEvents : Obligations.PacketEvents := by
  unfold Obligations.PacketEvents
  refine ⟨fun port p s hs => ?_, fun port p s k hs hk hm => ?_, fun port p s k hs hk hm hn h2 hp hd => ?_,
    fun port p s k q hs hk hm hn h2 ho h63 => ?_, fun port p s k q hs hk hm hn h2 ho h63 => ?_,
    fun port p s k hs hk hm hn h2 hp ho hd hr => ?_, fun i e s he ht => ?_⟩
  · exact next_onCore_self _ s (opPacketReceive_not_active hs)
  · exact next_onCore _ _ s (opPacketReceive_malformed hs hk hm)
  · exact next_onCore _ _ s ((opPacketReceive_unforwarded hs hk hm hn h2 (outPort_own hp hd)).trans (if_pos (.inr (.inl hd))))
  · exact next_onCore _ _ s ((opPacketReceive_forwarded hs hk hm hn h2 ho).trans (if_neg h63))
  · exact next_onCore _ _ s ((opPacketReceive_forwarded hs hk hm hn h2 ho).trans (if_pos h63))
  · exact next_onCore _ _ s ((opPacketReceive_unforwarded hs hk hm hn h2 ho).trans (if_neg (by simp [hp, hd, hr])))
  · exact next_onCore _ _ s (opStallDrop_due he ht)

end Sys2Proof.Machine
end

section
/-! SUPPORT. Which regions of a tenancy flit count, and how a tenancy expires and is taken over (R410, R412, R415). -/

namespace Sys2Proof.Machine

/-! ### What a flit brings (R415) -/

/-- The regions of a mask are its bits. -/
theorem testBit_of_mem_maskRegions {m r : Nat} (h : r ∈ maskRegions m) : m.testBit r = true := (List.mem_filter.1 h).2

/-- The regions of a flit's mask with a role here, for which the flit is not stale. -/
def liveRegions (f : TenFlit) (k : Core) : List Nat :=
  ((maskRegions f.regions.toNat).filter (fun r => tenRole k r != 0)).filter (fun r => !olderInc (flitInc f r) (tenInc k r))

theorem mem_liveRegions {f : TenFlit} {k : Core} {r : Nat} (h : r ∈ liveRegions f k) :
    f.regions.toNat.testBit r = true ∧ tenRole k r ≠ 0 ∧ olderInc (flitInc f r) (tenInc k r) = false := by
  obtain ⟨hall, hlive⟩ := List.mem_filter.1 h
  obtain ⟨hmask, hrole⟩ := List.mem_filter.1 hall
  exact ⟨testBit_of_mem_maskRegions hmask, by simpa using hrole, by simpa using hlive⟩

/-- A flit counts for all its live regions or for none. -/
theorem openFlit_regions (f : TenFlit) (k : Core) : (openFlit f k).1 = liveRegions f k ∨ (openFlit f k).1 = [] := by
  unfold openFlit
  dsimp only
  split
  · exact .inl rfl
  · split
    · exact .inr rfl
    · split
      · exact .inr rfl
      · exact .inl rfl

/-- A flit that is not the witness's, and not the partner's or of an older module incarnation of it, counts for none. -/
theorem openFlit_old_module {f : TenFlit} {k : Core} (hw : f.src.toNat ≠ witnessNo k)
    (ho : olderInc f.srcInc (reg k (portReg 2 0xC)) = true) : (openFlit f k).1 = [] := by
  unfold openFlit
  dsimp only
  rw [if_neg (fun h => hw h.2)]
  by_cases hp : f.src.toNat ≠ partnerNo k ∨ k.pair.replaced = true
  · rw [if_pos hp]
  · rw [if_neg hp, if_pos ho]

/-- One of neither the partner nor the witness changes nothing. -/
theorem openFlit_stranger {f : TenFlit} {k : Core} (hw : f.src.toNat ≠ witnessNo k) (hp : f.src.toNat ≠ partnerNo k) :
    openFlit f k = ([], k) := by
  unfold openFlit
  dsimp only
  rw [if_neg (fun h => hw h.2), if_pos (.inl hp)]

/-! ### Expiry and takeover (R410, R412) -/

section
variable {r : Nat} {k : Core}

/-- At E the holder stands by, and any handover of the region is void. -/
theorem opTenancyExpiry_due (hr : tenRole k r = 1) (ht : tenExp k r ≤ k.clock.chron) :
    opTenancyExpiry r k = recordCause (pairReg 0x560) 5 (enterStandby r (voidHandover r k)) := if_pos ⟨hr, ht⟩

theorem opTenancyExpiry_early (ht : k.clock.chron < tenExp k r) : opTenancyExpiry r k = k := if_neg fun h => by omega

/-- At E_rec + 10,000 a region in SHADOW asks the witness, or takes where there is none. -/
theorem opTakeoverTimer_shadow (hr : tenRole k r = 2) (ht : tenExp k r + 10000 ≤ k.clock.chron) :
    opTakeoverTimer r k =
      if witnessNo k = 0 then takeTenancy r (k.clock.chron + 40000) k else setRole r 3 (askTakeover r k) := if_pos ⟨hr, ht⟩

/-- A region in TAKING asks again 10,000 ticks after it asked. -/
theorem opTakeoverTimer_taking (hr : tenRole k r = 3) (ht : amGetD k.pair.asked r 0 + 10000 ≤ k.clock.chron) :
    opTakeoverTimer r k = askTakeover r k := by
  unfold opTakeoverTimer
  rw [if_neg (fun h => by omega), if_pos ⟨hr, ht⟩]

theorem opTakeoverTimer_early (hr : tenRole k r = 2) (ht : k.clock.chron < tenExp k r + 10000) : opTakeoverTimer r k = k := by
  unfold opTakeoverTimer
  rw [if_neg (fun h => by omega), if_neg (fun h => by omega)]

end

/-- Settles O49: a flit by its sender, each timer by the role of its region and the tick. -/
theorem tenancyRules : Obligations.TenancyRules := by
  unfold Obligations.TenancyRules
  refine ⟨fun f k r hr => ?_, fun f k hw ho => openFlit_old_module hw ho, fun f k hw hp => openFlit_stranger hw hp, fun r s hr ht => ?_,
    fun r s ht => ?_, fun r s hr ht hw => ?_, fun r s hr ht hw => ?_, fun r s hr ht => ?_, fun r s hr ht => ?_⟩
  · rcases openFlit_regions f k with hlive | hnone
    · exact mem_liveRegions (hlive ▸ hr)
    · rw [hnone] at hr
      cases hr
  · exact ⟨_, next_onCore _ (fun k => recordCause (pairReg 0x560) 5 (enterStandby r.val (voidHandover r.val k))) s
      (opTenancyExpiry_due hr ht), recordCause_set _ _ _ (by omega), rfl⟩
  · exact next_onCore_self _ s (opTenancyExpiry_early ht)
  · exact next_onCore _ _ s ((opTakeoverTimer_shadow hr ht).trans (if_pos hw))
  · exact next_onCore _ _ s ((opTakeoverTimer_shadow hr ht).trans (if_neg hw))
  · exact next_onCore _ _ s (opTakeoverTimer_taking hr ht)
  · exact next_onCore_self _ s (opTakeoverTimer_early hr ht)

end Sys2Proof.Machine
end

section
/-! SUPPORT. What the tenancy flits and the renewal tick do where their conditions stand (R409, R412 to R415); the ages of flits are
log entry 37. -/

namespace Sys2Proof.Machine

/-! ### Renewal (R409, R413) -/

/-- The module at a renewal tick, with the witness's answer shown and awaited anew. -/
def showWitness (k : Core) : Core :=
  setRegBit (pairReg 0x404) 20 k.pair.witnessHeard { k with pair := { k.pair with witnessHeard := false } }

/-- A member of a pair that holds no region sends no RENEW. -/
theorem opRenewSend_holds_none {k : Core} (ht : k.clock.chron % 10000 = 0) (hp : pairState k ≠ 0)
    (hh : heldRegions (setRegBit (pairReg 0x404) 20 k.pair.witnessHeard k) = []) : opRenewSend k = showWitness k := by
  have hheld : heldRegions (showWitness k) = [] := hh
  unfold opRenewSend
  rw [if_pos ⟨ht, hp⟩]
  exact if_pos (by rw [List.isEmpty_iff]; exact hheld)

/-- One that holds regions sends one RENEW for them. -/
theorem opRenewSend_holds {k : Core} (ht : k.clock.chron % 10000 = 0) (hp : pairState k ≠ 0) (hh : heldRegions (showWitness k) ≠ []) :
    opRenewSend k = tenBoth 0x01
      (tenFlit (showWitness k) (heldRegions (showWitness k)) ((showWitness k).clock.chron + 40000)) (showWitness k) := by
  unfold opRenewSend
  rw [if_pos ⟨ht, hp⟩]
  exact if_neg (by rw [List.isEmpty_iff]; exact hh)

/-- Between renewal ticks nothing is sent. -/
theorem opRenewSend_between {k : Core} (ht : k.clock.chron % 10000 ≠ 0) : opRenewSend k = k := if_neg fun h => ht h.1

/-- The regions for which a partner grants a RENEW: those that it neither holds nor takes over. -/
def renewGrants (f : TenFlit) (k : Core) : List Nat :=
  (openFlit f k).1.filter (fun r => tenRole k r != 1 && tenRole k r != 3)

/-- The partner with what a RENEW teaches it, before it answers. -/
def renewLearnt (f : TenFlit) (k : Core) : Core :=
  (openFlit f k).1.foldl (fun acc r => learnInc f r (clash f r acc)) (openFlit f k).2

section
variable {f : TenFlit} {k : Core}

/-- A RENEW of the partner's current incarnation that is granted for no region is refused for all. -/
theorem partnerRenew_refused (hs : f.src.toNat = partnerNo k) (hr : k.pair.replaced = false)
    (ho : olderInc f.srcInc (reg k (portReg 2 0xC)) = false) (hg : renewGrants f k = []) (hm : maskRegions f.regions.toNat ≠ []) :
    partnerRenew f k = tenPartner 0x03 (tenFlit (renewLearnt f k) (maskRegions f.regions.toNat) 0) (renewLearnt f k) := by
  unfold renewGrants at hg
  unfold partnerRenew
  simp only [hs, hr, ho, ne_eq, not_true_eq_false, Bool.false_eq_true, or_self, if_false, hg, List.foldl_nil, List.isEmpty_nil, if_true,
    List.contains_nil, Bool.not_false, List.filter_true, List.isEmpty_iff, hm]
  rfl

/-- One that is granted for every region of its mask is refused for none. -/
theorem partnerRenew_granted (hs : f.src.toNat = partnerNo k) (hr : k.pair.replaced = false)
    (ho : olderInc f.srcInc (reg k (portReg 2 0xC)) = false) (hg : renewGrants f k ≠ [])
    (hn : (maskRegions f.regions.toNat).filter (fun r => !(renewGrants f k).contains r) = []) {k2 : Core}
    (hk : k2 = (renewGrants f k).foldl (fun acc r => setTenExp r (max (tenExp acc r) f.tick) acc) (renewLearnt f k)) :
    partnerRenew f k = tenPartner 0x02 (tenFlit k2 (renewGrants f k) f.tick) k2 := by
  subst hk
  unfold partnerRenew
  rw [if_neg (by simp [hs, hr, ho])]
  refine (if_pos (List.isEmpty_iff.2 hn)).trans (if_neg ?_)
  rw [List.isEmpty_iff]
  exact hg

end

/-! ### Handover (R414) -/

/-- At the boundary of a handover the holder enters SHADOW and sends HANDOVER. -/
theorem opHandoverBoundary_due {r : Nat} {k : Core} {h : Handover} (hh : k.pair.handover = some h) (hl : h.left.contains r = true)
    (ht : h.tick ≤ k.clock.chron) (hr : tenRole k r = 1) {k1 : Core} (hk : k1 = enterShadow r { k with pair := { k.pair with
      handover := some { h with left := h.left.filter (· != r), waits := r :: h.waits.filter (· != r) } } }) :
    opHandoverBoundary r k = tenPartner 0x08 (tenFlit k1 [r] h.tick) k1 := by
  subst hk
  unfold opHandoverBoundary
  rw [hh]
  exact if_pos ⟨hl, ht, hr⟩

/-- Without a handover there is no boundary of one. -/
theorem opHandoverBoundary_none {r : Nat} {k : Core} (hh : k.pair.handover = none) : opHandoverBoundary r k = k := by
  unfold opHandoverBoundary
  rw [hh]

/-! ### The flits together -/

/-- Settles O50: the renewal tick by what this member holds, the partner's RENEW by what it grants, every other flit by what its
row does region by region. -/
theorem tenancyFlits : Obligations.TenancyFlits := by
  unfold Obligations.TenancyFlits
  refine ⟨fun s ht hp hh => ?_, fun s k1 ht hp hk hh => ?_, fun s ht => ?_, fun f s => rfl, fun f s k1 hs hr ho hk hg hm => ?_,
    fun f s k2 g hs hr ho hg hne hno hk => ?_, fun f s => rfl, fun f s => rfl, fun f s => rfl, fun f s => rfl, fun f s => rfl,
    fun f s => rfl, fun f s => ⟨rfl, rfl⟩, fun r s h k1 hh hl ht hr hk => ?_, fun r s hh => ?_⟩
  · exact next_onCore _ _ s (opRenewSend_holds_none ht hp hh)
  · subst hk
    exact next_onCore _ _ s (opRenewSend_holds ht hp hh)
  · exact next_onCore_self _ s (opRenewSend_between ht)
  · subst hk
    exact next_onCore _ _ s (partnerRenew_refused hs hr ho hg hm)
  · subst hg
    exact next_onCore _ _ s (partnerRenew_granted hs hr ho hne hno hk)
  · exact next_onCore _ _ s (opHandoverBoundary_due hh hl ht hr hk)
  · exact next_onCore_self _ s (opHandoverBoundary_none hh)

end Sys2Proof.Machine
end

section
/-! SUPPORT. What resynchronisation, checkpoints and the mirror's packets do where their conditions stand (R416, R418 to R421). -/

namespace Sys2Proof.Machine

/-! ### Resynchronisation (R416) -/

/-- A STANDBY region that runs with the partner's newest waypoint record, and without a divergence, returns to SHADOW. -/
theorem opResynchronisation_agrees {r beat tick : Nat} {tag : Word} {qdr arc : Memory} {k : Core} (hr : tenRole k r = 4)
    (hn : regionRuns k r = true) (ht : pw (slotWords qdr k r (newestSlot k r)) 1 = tag)
    (hb : pn64 (slotWords qdr k r (newestSlot k r)) 2 = beat) (hd : pn64 (slotWords qdr k r (newestSlot k r)) 4 = tick) :
    opResynchronisation r tag beat tick false qdr arc k = enterShadow r k :=
  if_pos ⟨hr, hn, Bool.false_ne_true, ht, hb, hd⟩

/-- One that diverged stays. -/
theorem opResynchronisation_diverged {r beat tick : Nat} {tag : Word} {qdr arc : Memory} {k : Core} :
    opResynchronisation r tag beat tick true qdr arc k = k := if_neg fun h => h.2.2.1 rfl

/-! ### Checkpoints (R418) -/

/-- The oldest staged record of a region leaves the stage, and is copied and counted where it is stored. -/
theorem opCheckpointCopy_staged {r : Nat} {stored : Bool} {s : State} {e : Nat × Nat}
    (he : s.core.pair.ckpt.find? (fun e => e.1 == r) = some e) : opCheckpointCopy r stored s =
      if stored then onCore (setReg (pairReg (0x520 + 4 * r)) (BitVec.ofNat 32 ((reg s.core (pairReg (0x520 + 4 * r))).toNat + 1)))
        (writeArc (ckptAddr s.core r (reg s.core (pairReg (0x520 + 4 * r))).toNat)
          (readBytes s.qdr (qdrKey r (stageAddr s.core r e.2)) 256)
          (onCore (fun k => { k with pair := { k.pair with ckpt := k.pair.ckpt.erase e } }) s))
      else onCore (fun k => { k with pair := { k.pair with ckpt := k.pair.ckpt.erase e } }) s := by
  unfold opCheckpointCopy
  rw [he]

/-! ### Mirror packets (R419 to R421) -/

/-- The data of a mirror packet fill whole blocks of the mirror area. -/
def mirrorFits (off : Nat) (l : List Byte) : Prop := l.length % 16 = 0 ∧ l.length ≠ 0 ∧ l.length ≤ 4096 ∧ off + l.length ≤ 9437184

/-- This member takes the mirror packets of its partner. -/
def mirrorOpen (k : Core) : Prop := pairState k = 2 ∧ k.pair.replaced = false ∧ k.pair.restoring = false

section
variable {i : Word} {off : Nat} {l : List Byte} {s : State}

/-- A packet that fits is judged by the incarnation of the header, where one is valid. -/
theorem opMirrorReceive_fits (ho : mirrorOpen s.core) (hf : mirrorFits off l) : opMirrorReceive i off l s =
    if regBit s.core (pairReg 0x404) 23 ∧ olderInc i (wordOf (mirrorRead 4 4 s)) then onCore (countFld (pairReg 0x418) 31 0 1) s
    else onCore (noteHeader off l) (mirrorWrite off l s) := by
  obtain ⟨hstate, hreplaced, hrestoring⟩ := ho
  obtain ⟨hblocks, hdata, hlen, hend⟩ := hf
  unfold opMirrorReceive
  rw [if_neg (by simp [hstate, hreplaced, hrestoring]), if_neg (by omega)]

/-- One outside the area is discarded. -/
theorem opMirrorReceive_outside (ho : mirrorOpen s.core) (hf : 9437184 < off + l.length) : opMirrorReceive i off l s = s := by
  obtain ⟨hstate, hreplaced, hrestoring⟩ := ho
  unfold opMirrorReceive
  rw [if_neg (by simp [hstate, hreplaced, hrestoring]), if_pos (by omega)]

end

/-- With no waypoint record waiting none enters the stream. -/
theorem admitWaypoints_none {k : Core} (hw : k.pair.wpWait = []) : admitWaypoints k = k := by
  unfold admitWaypoints
  simp only [hw, List.filter_nil, List.foldl_nil]
  rw [← hw]

/-- The next packet of the queue leaves on T. -/
theorem opMirrorSend_queued {k : Core} {off : Nat} {l : List Byte} {rest : List (Nat × List Byte)} (hm : mirroring k = true)
    (hw : k.pair.wpWait = []) (hr : k.pair.resync = false) (hq : k.pair.mirrorQ = (off, l) :: rest) :
    opMirrorSend k = sendPort 2 (.mirror off l) (setReg (pairReg 0x50C) (BitVec.ofNat 32 rest.length) { k with pair := { k.pair with
      mirrorQ := rest, mirrorHeader := if off = 0 then l else k.pair.mirrorHeader } }) := by
  unfold opMirrorSend
  simp only [admitWaypoints_none hw, hm, hr, hq, not_true_eq_false, Bool.false_eq_true, false_and, if_false]

/-- The receiving side of a resynchronised mirror. -/
theorem opMirrorResync_receiver {k : Core} (hp : pairState k = 2) (hv : regBit k (pairReg 0x404) 21 = true) :
    opMirrorResync true k = recordCause (pairReg 0x560) 7 k := by
  unfold opMirrorResync
  rw [if_pos rfl, if_pos ⟨hp, hv⟩]

/-- The sending side: once the queue has drained after the header without CAT_VALID, the full resend enters the stream. -/
theorem opMirrorResync_sender {k : Core} (hm : mirroring k = true) (hr : k.pair.resync = true) (hq : k.pair.mirrorQ = [])
    (hh : (k.pair.mirrorHeader.getD 0 1).getLsbD 0 = false) : opMirrorResync false k = recordCause (pairReg 0x560) 7
      (setReg (pairReg 0x50C) (BitVec.ofNat 32 (resendPackets k).length)
        { k with pair := { k.pair with mirrorQ := resendPackets k, resync := false } }) := by
  unfold opMirrorResync
  rw [if_neg Bool.false_ne_true, if_pos ⟨hm, hr, List.isEmpty_iff.2 hq, Bool.eq_false_iff.1 hh⟩]

/-! ### The events together -/

/-- Settles O51: each event by the branch that its condition selects. -/
theorem mirrorEvents : Obligations.MirrorEvents := by
  unfold Obligations.MirrorEvents
  refine ⟨fun r x b d s w hw hr hn ht hb hd => ?_, fun r x b d s => ?_, fun r s e n he hn => ?_, fun r s e he => ?_,
    fun i off l s hp hr ht h16 h0 hl ho hv => ?_, fun i off l s hp hr ht h16 h0 hl ho hv hi => ?_, fun i off l s hp hr ht ho => ?_,
    fun s off l rest hm hw hr hq => ?_, fun s hp hv => ?_, fun s hm hr hq hh => ?_⟩
  · subst hw
    exact next_onCoreMem _ _ s (opResynchronisation_agrees hr hn ht hb hd)
  · exact next_onCoreMem _ id s opResynchronisation_diverged
  · subst hn
    exact congrArg Host.Outcome.next ((opCheckpointCopy_staged he).trans (if_pos rfl))
  · exact congrArg Host.Outcome.next ((opCheckpointCopy_staged he).trans (if_neg Bool.false_ne_true))
  · exact congrArg Host.Outcome.next
      ((opMirrorReceive_fits ⟨hp, hr, ht⟩ ⟨h16, h0, hl, ho⟩).trans (if_neg fun h => Bool.eq_false_iff.1 hv h.1))
  · exact congrArg Host.Outcome.next ((opMirrorReceive_fits ⟨hp, hr, ht⟩ ⟨h16, h0, hl, ho⟩).trans (if_pos ⟨hv, hi⟩))
  · exact congrArg Host.Outcome.next (opMirrorReceive_outside ⟨hp, hr, ht⟩ ho)
  · exact next_onCore _ _ s (opMirrorSend_queued hm hw hr hq)
  · exact next_onCore _ _ s (opMirrorResync_receiver hp hv)
  · exact next_onCore _ _ s (opMirrorResync_sender hm hr hq hh)

end Sys2Proof.Machine
end

section
/-! SUPPORT. What attestation, the test access port, admission and the nonce's lapse do where their conditions stand (R422, R423, R495 to
R502); EXTEST's record and the debug instructions are log entry 46, the responder's details log entry 10. -/

namespace Sys2Proof.Machine

/-! ### Attestation (R495, R496) -/

/-- With the link up and Steward serving the responder answers, and Steward time is charged to TD. -/
theorem opSpdmRequest_served {l : List Byte} {k k0 : Core} {r : SpdmAnswer × Nat × Core} (hs : k.stw.restarting = false)
    (hl : k.stw.linkUp = true) (hp : powerHolds k 0 = false)
    (hk : k0 = chargeClass 0x81F0F000 3 (Config.stewardTime 0 k.freeCtr) { k with freeCtr := k.freeCtr + 1 }) (hr : r = spdmAnswer l k0) :
    opSpdmRequest l k = { r.2.2 with sec := { r.2.2.sec with
      spdm := r.2.1, transcript := (if (l.getD 1 0).toNat = 0x84 then l else k0.sec.transcript ++ l)
      answers := r.2.2.sec.answers ++ [r.1] } } := by
  subst hk hr
  exact if_neg (by simp [hs, hl, hp])

/-- Otherwise it does not. -/
theorem opSpdmRequest_unserved {l : List Byte} {k : Core} (h : k.stw.restarting = true ∨ k.stw.linkUp = false ∨ powerHolds k 0 = true) :
    opSpdmRequest l k = k := by
  refine if_pos ?_
  rcases h with h | h | h <;> simp [h]

/-! ### The test access port (R500, R501) -/

/-- An instruction is selected and run; its data shows while VIO is up. -/
theorem opTapInstruction_eq {i : TapOp} {k : Core} {r : List Word × Core}
    (hr : r = tapRun (tapSelect k i) { k with sec := { k.sec with extest := none } }) : opTapInstruction i k =
      { r.2 with sec := { r.2.sec with tap := tapSelect k i, tapData := if regFld k 0x89F00050 5 4 = 2 then r.1 else [] } } := by
  subst hr
  rfl

/-- EXTEST and the debug instructions are selected where debug is unlocked, and BYPASS otherwise. -/
theorem tapSelect_extest (k : Core) (x y : List Bool) :
    tapSelect k (.extest x y) = if debugUnlocked k then .extest x y else .bypass := rfl

theorem tapSelect_debug (k : Core) (n : Nat) : tapSelect k (.debug n) = if debugUnlocked k then .debug n else .bypass := rfl

/-! ### Admission (R422, R423, R498) -/

/-- A port at step 6 of training that admits its partner: on port T the pair admits it too. -/
theorem opPortAdmit_admits {p : Nat} {q : Partner} {k : Core} (hs : portState k p = 2) (h6 : regFld k (portReg p 4) 27 24 = 6)
    (ha : admitOk k k.sec.allow q = true) :
    opPortAdmit p q k = if p = 2 then pairAdmitted q (admitPort 2 q k) else admitPort p q k := by
  unfold opPortAdmit
  rw [if_pos ⟨hs, h6⟩, if_pos ha]
  by_cases hp : p = 2
  · rw [hp]
  · rw [if_neg hp, if_neg hp]

/-- One that does not fails the admission. -/
theorem opPortAdmit_fails {p : Nat} {q : Partner} {k : Core} (hs : portState k p = 2) (h6 : regFld k (portReg p 4) 27 24 = 6)
    (ha : admitOk k k.sec.allow q = false) : opPortAdmit p q k = failAdmission p k := by
  unfold opPortAdmit
  rw [if_pos ⟨hs, h6⟩, if_neg (Bool.eq_false_iff.1 ha)]

/-- Elsewhere no partner is admitted. -/
theorem opPortAdmit_elsewhere {p : Nat} {q : Partner} {k : Core} (h : portState k p ≠ 2 ∨ regFld k (portReg p 4) 27 24 ≠ 6) :
    opPortAdmit p q k = k := if_neg fun ⟨hs, h6⟩ => h.elim (· hs) (· h6)

/-! ### The nonce (R501) -/

/-- The nonce that stands has or has not reached an age, stated for every age so that no proof counts the ticks of a minute. -/
theorem nonce_any_aged {k : Core} {n : DebugNonce} (hn : k.sec.nonce = some n) (t : Nat) :
    k.sec.nonce.any (fun x => decide (x.since + t ≤ k.clock.uptime)) = decide (n.since + t ≤ k.clock.uptime) := by
  rw [hn, Option.any_some]

/-- 60 s after its issue the nonce lapses. -/
theorem opDebugNonceLapse_due {k : Core} {n : DebugNonce} (hn : k.sec.nonce = some n) (ht : n.since + msTicks 60000 ≤ k.clock.uptime) :
    opDebugNonceLapse k = { k with sec := { k.sec with nonce := none } } := by
  unfold opDebugNonceLapse
  rw [nonce_any_aged hn, if_pos (decide_eq_true ht)]

theorem opDebugNonceLapse_early {k : Core} {n : DebugNonce} (hn : k.sec.nonce = some n) (ht : k.clock.uptime < n.since + msTicks 60000) :
    opDebugNonceLapse k = k := by
  unfold opDebugNonceLapse
  rw [nonce_any_aged hn, if_neg (Bool.eq_false_iff.1 (decide_eq_false (Nat.not_le_of_lt ht)))]

theorem opDebugNonceLapse_none {k : Core} (hn : k.sec.nonce = none) : opDebugNonceLapse k = k := by
  unfold opDebugNonceLapse
  simp only [hn, Option.any_none, Bool.false_eq_true, if_false]

/-! ### The events together -/

/-- Settles O58: each event by the branch that its condition selects. -/
theorem securityEvents : Obligations.SecurityEvents := by
  unfold Obligations.SecurityEvents
  refine ⟨fun l s k0 r hs hl hp hk hr => ?_, fun l s h => ?_, fun i s r hr => ⟨fun hv => ?_, fun hv => ?_⟩,
    fun k x y n => ⟨fun hd => ⟨?_, ?_⟩, fun hd => ⟨?_, ?_⟩, rfl, rfl, rfl, rfl, rfl, rfl⟩,
    fun p q s hs h6 => ⟨fun ha => ⟨fun hp => ?_, fun hp => ?_⟩, fun ha => ?_⟩, fun p q s h => ?_,
    fun s n hn => ⟨fun ht => ?_, fun ht => ?_⟩, fun s hn => ?_⟩
  · exact next_onCore _ _ s (opSpdmRequest_served hs hl hp hk hr)
  · exact next_onCore_self _ s (opSpdmRequest_unserved h)
  · have htap := opTapInstruction_eq hr
    rw [if_pos hv] at htap
    exact next_onCore _ _ s htap
  · have htap := opTapInstruction_eq hr
    rw [if_neg hv] at htap
    exact next_onCore _ _ s htap
  · rw [tapSelect_extest, if_neg (Bool.eq_false_iff.1 hd)]
  · rw [tapSelect_debug, if_neg (Bool.eq_false_iff.1 hd)]
  · rw [tapSelect_extest, if_pos hd]
  · rw [tapSelect_debug, if_pos hd]
  · exact next_onCore _ _ s ((opPortAdmit_admits hs h6 ha).trans (if_neg hp))
  · exact next_onCore _ _ s ((opPortAdmit_admits hs h6 ha).trans (if_pos hp))
  · exact next_onCore _ _ s (opPortAdmit_fails hs h6 ha)
  · exact next_onCore_self _ s (opPortAdmit_elsewhere h)
  · exact next_onCore _ _ s (opDebugNonceLapse_due hn ht)
  · exact next_onCore_self _ s (opDebugNonceLapse_early hn ht)
  · exact next_onCore_self _ s (opDebugNonceLapse_none hn)

end Sys2Proof.Machine
end

section
/-! SUPPORT. What the power requests and the rails' events do where their conditions stand (R437 to R457, R531); rails' failures are log
entry 47, resets that join are log entry 48. -/

namespace Sys2Proof.Machine

/-! ### Requests (R437, R438) -/

/-- A request for the current target, with nothing queued and no transition running, completes at once. -/
theorem requestPower_current {x : PowerTarget} {id : Word} {k : Core} (hx : x = currentTarget k) (hq : k.pwr.queued = none)
    (hr : k.pwr.run = none) : requestPower x id k = endPowerTickets [id] 1 x k := by
  unfold requestPower
  simp only [if_pos hx, hq, hr]

/-- Another request supersedes the queued one, and waits while a transition runs. -/
theorem requestPower_supersedes {x : PowerTarget} {id : Word} {k : Core} {q : PowerReq} {p : Transition} (hx : x ≠ currentTarget k)
    (hq : k.pwr.queued = some q) (hr : (endPowerTickets [q.ticket] 2 q.target k).pwr.run = some p) :
    requestPower x id k = showPower { endPowerTickets [q.ticket] 2 q.target k with
      pwr := { (endPowerTickets [q.ticket] 2 q.target k).pwr with queued := some { target := x, ticket := id } } } := by
  unfold requestPower
  simp only [if_neg hx, hq, showPower, setReg_pwr, hr, Option.isNone_some, Bool.false_eq_true, false_and, if_false]

/-- A reset with no power request queued waits with its ticket and raises a wake. -/
theorem requestReset_unqueued {id : Word} {k : Core} (hq : k.pwr.queued = none) :
    requestReset id k = raiseWake 5 0 { k with pwr := { k.pwr with reset := some ((k.pwr.reset.getD []) ++ [id]) } } := by
  unfold requestReset
  simp only [hq]

/-! ### Rails (R450 to R455) -/

section
variable {n : Nat} {q : RailReq} {rest : List RailReq} {s : State}

/-- The acknowledgement of the request in progress gives its rail the state wanted. -/
theorem opRailAck_current (hq : s.core.pwr.rails = q :: rest) (hn : q.rail = n) :
    opRailAck n s = afterRails (onCore (fun k => popRail (setRail n q.want k)) s) := by
  unfold opRailAck
  rw [hq]
  exact if_pos hn

/-- Without a request in progress there is nothing to acknowledge. -/
theorem opRailAck_idle (hq : s.core.pwr.rails = []) : opRailAck n s = s := by
  unfold opRailAck
  rw [hq]

/-- A rail whose request was not acknowledged in time: as it was, with TIMEOUT set and the cause recorded. -/
def railTimedOut (n : Nat) (q : RailReq) (k : Core) : Core :=
  recordCause (pwrReg 0x88) 4 (setRegBit (pwrReg 0x50) (4 * n + 2) true (setRail n q.was k))

/-- After its time the request in progress has failed; what follows depends on the state wanted and on a start-up. -/
theorem opRailTimeout_due (hq : s.core.pwr.rails = q :: rest) (hn : q.rail = n)
    (ht : q.since + 4000 * regFld s.core (pwrReg 0x58) 15 0 ≤ s.core.clock.uptime) : opRailTimeout n s =
      if q.want ≠ 2 then afterRails (onCore (fun k => popRail (railTimedOut n q k)) s)
      else if s.core.pwr.startup.any (fun x => decide (x.step ≤ 2)) then onCore (fun k => startFails (railTimedOut n q k)) s
      else afterRails (onCore (fun k => popRail (railLost n (railTimedOut n q k))) s) := by
  have hdue : ¬ (q.rail ≠ n ∨ s.core.clock.uptime < q.since + 4000 * regFld s.core (pwrReg 0x58) 15 0) := by omega
  unfold opRailTimeout
  simp only [hq, if_neg hdue]
  rfl

/-- Without a request in progress none times out. -/
theorem opRailTimeout_idle (hq : s.core.pwr.rails = []) : opRailTimeout n s = s := by
  unfold opRailTimeout
  simp only [hq]

end

/-! ### VCORE (R449, R456) -/

/-- Is VCORE free to be adjusted: in Awake without a transition, a start-up or a request, the rail commanded, and a millisecond after
the adjustment before? -/
def vcoreFree (k : Core) : Prop :=
  powerState k = 3 ∧ k.pwr.run = none ∧ k.pwr.startup = none ∧ k.pwr.rails = [] ∧ railCommanded k 0 = true
    ∧ k.pwr.vcoreAt + msTicks 1 ≤ k.clock.uptime

/-- May VCORE step from one value to another: to a value on its grid, by at most 10 mV? -/
def vcoreStep (now mv : Nat) : Prop := 650 ≤ mv ∧ mv ≤ 850 ∧ mv % 5 = 0 ∧ mv ≠ now ∧ mv ≤ now + 10 ∧ now ≤ mv + 10

/-- An adjustment that may be made requests VCORE at its value. -/
theorem opVcoreAdjust_requests {mv : Nat} {k : Core} (hf : vcoreFree k) (hv : vcoreStep (regFld k (pwrReg 0x54) 9 0) mv) :
    opVcoreAdjust mv k = sendRail { k with pwr := { k.pwr with
      vcoreAwake := mv, vcoreAt := k.clock.uptime, rails := [{ rail := 0, want := 2, was := 2, since := 0 }] } } := by
  obtain ⟨hstate, hrun, hstart, hrails, hcommanded, htime⟩ := hf
  obtain ⟨hlow, hhigh, hgrid, hnew, hup, hdown⟩ := hv
  exact if_pos ⟨hstate, by simp [hrun], by simp [hstart], by simp [hrails], hcommanded, hlow, hhigh, hgrid, hnew, hup, hdown, htime⟩

/-- One outside VCORE's range, or by more than 10 mV upwards, does nothing. -/
theorem opVcoreAdjust_refused {mv : Nat} {k : Core} (hv : mv < 650 ∨ 850 < mv ∨ regFld k (pwrReg 0x54) 9 0 + 10 < mv) :
    opVcoreAdjust mv k = k := by
  refine if_neg fun h => ?_
  obtain ⟨-, -, -, -, -, hlow, hhigh, -, -, hup, -⟩ := h
  omega

/-! ### PORST and VAON (R453, R457, R531) -/

/-- PORST_N rising begins a start-up in a module held in Off. -/
theorem opPorstRise_held {k : Core} (hp : k.pwr.porst = false) : opPorstRise k = { k with pwr := { k.pwr with
    porst := true, rails := [], failedStarts := 0, startup := some ⟨0, k.clock.uptime⟩ } } := if_neg (Bool.eq_false_iff.1 hp)

/-- PORST_N falling leaves the module cold, with its rails requested off. -/
theorem opPorstFall_high {s : State} (hp : s.core.pwr.porst = true) : opPorstFall s = { s with
    qdr := [], arc := []
    core := railsOff { coldCore true s.core with pwr := { (coldCore true s.core).pwr with porst := false, rails := [] } } } := if_pos hp

/-! ### The commands and events together -/

/-- Settles O52: each command by its kind of immediate part, each request and event by the branch that its condition selects. -/
theorem powerAndRails : Obligations.PowerAndRails := by
  unfold Obligations.PowerAndRails
  refine ⟨⟨fun c s h ht => ?_, fun c s h => ?_, fun c s h => ?_, fun c s h ht => ?_, fun x id k hx hq hr => requestPower_current hx hq hr,
      fun x id k q p hx hq hr => requestPower_supersedes hx hq hr, fun id k hq => requestReset_unqueued hq⟩,
    fun n q rest s hq hn => ?_, fun n s hq => ⟨?_, ?_⟩, fun n q rest s hq hn ht hw => ?_, fun n q rest s y hq hn ht hw hy hy2 => ?_,
    fun n q rest s hq hn ht hw hy => ?_, fun m s => rfl,
    fun mv now s hnow hs hr hy hq hc hlow hhigh hgrid hnew hup hdown ht => ?_, fun mv s hv => ?_, fun s hp => ?_, fun s hp => ?_,
    fun s => ?_⟩
  · exact congrArg Host.Outcome.next (takeCmd_ticketed _ _ _ _ _ _ _ h ht rfl)
  · exact congrArg Host.Outcome.next (takeCmd_done _ _ _ _ _ _ h rfl)
  · exact congrArg Host.Outcome.next (takeCmd_done _ _ _ _ _ _ h rfl)
  · exact congrArg Host.Outcome.next (takeCmd_ticketed _ _ _ _ _ _ _ h ht rfl)
  · exact congrArg Host.Outcome.next (opRailAck_current hq hn)
  · exact congrArg Host.Outcome.next (opRailAck_idle hq)
  · exact congrArg Host.Outcome.next (opRailTimeout_idle hq)
  · exact congrArg Host.Outcome.next ((opRailTimeout_due hq hn ht).trans (if_pos hw))
  · have hstart : s.core.pwr.startup.any (fun x => decide (x.step ≤ 2)) = true := by simp [hy, hy2]
    exact congrArg Host.Outcome.next ((opRailTimeout_due hq hn ht).trans ((if_neg (not_not.2 hw)).trans (if_pos hstart)))
  · have hstart : ¬ s.core.pwr.startup.any (fun x => decide (x.step ≤ 2)) = true := by simp [hy]
    exact congrArg Host.Outcome.next ((opRailTimeout_due hq hn ht).trans ((if_neg (not_not.2 hw)).trans (if_neg hstart)))
  · subst hnow
    exact next_onCore _ _ s (opVcoreAdjust_requests ⟨hs, hr, hy, hq, hc, ht⟩ ⟨hlow, hhigh, hgrid, hnew, hup, hdown⟩)
  · exact next_onCore_self _ s (opVcoreAdjust_refused hv)
  · exact next_onCore _ _ s (opPorstRise_held hp)
  · exact ⟨_, congrArg Host.Outcome.next (opPorstFall_high hp), rfl, rfl, rfl, rfl⟩
  · exact ⟨opVaonDrop s, rfl, rfl, rfl, rfl, rfl⟩

end Sys2Proof.Machine
end

section
/-! SUPPORT. The immediate parts of the calibration commands where their conditions stand (R473, R475); CAL_REVERT at once is log
entry 44. -/

namespace Sys2Proof.Machine

/-- CAL_STORE with a free slot. -/
theorem runCalStore_free {c : Cmd} {m n : Nat} {s : State} (h : (freeSlots s.core).head? = some n) : opCalStore.run c m s =
    .ticketed .calStore (s.core.clock.chron + msTicks 301) [] (fun id => onCore (startStore n id)) := by
  simp only [opCalStore, h]

/-- CAL_STORE with none. -/
theorem runCalStore_full {c : Cmd} {m : Nat} {s : State} (h : freeSlots s.core = []) :
    opCalStore.run c m s = .done stResource [] (onCore (recordCause 0x8DF00010 5) s) := by
  simp only [opCalStore, h, List.head?_nil]

/-- Settles O55: each command by its kind of immediate part, CAL_STORE by the free slots. -/
theorem calibrationCommands : Obligations.CalibrationCommands := by
  unfold Obligations.CalibrationCommands
  refine ⟨fun c s h ht => ?_, fun c s h => ?_, fun c s h => ?_, fun c s h => ?_, fun c s n h ht hn => ?_, fun c s h hn => ?_,
    fun c s h => ?_⟩
  · exact congrArg Host.Outcome.next (takeCmd_ticketed _ _ _ _ _ _ _ h ht rfl)
  · exact congrArg Host.Outcome.next (takeCmd_done _ _ _ _ _ _ h rfl)
  · exact congrArg Host.Outcome.next (takeCmd_written _ _ _ _ _ h rfl)
  · exact congrArg Host.Outcome.next (takeCmd_done _ _ _ _ _ _ h rfl)
  · exact congrArg Host.Outcome.next (takeCmd_ticketed _ _ _ _ _ _ _ h ht (runCalStore_free hn))
  · exact congrArg Host.Outcome.next (takeCmd_done _ _ _ _ _ _ h (runCalStore_full hn))
  · exact congrArg Host.Outcome.next (takeCmd_done _ _ _ _ _ _ h rfl)

end Sys2Proof.Machine
end

section
/-! SUPPORT. What a SELFCAL, a background turn and a store do as they go on (R463 to R475, Tables CAL-2, CAL-4 and CAL-9); what is
judged, and when, is log entry 44, the word of STORE_FAIL log entry 1. -/

namespace Sys2Proof.Machine

/-! ### SELFCAL (R463, R464, Table CAL-2) -/

section
variable {v : List CalValue} {f : List Nat} {x : List (Block × Fin 2)} {k : Core} {r : SelfcalRun}

theorem opSelfcalStep_opens (hr : k.cal.selfcal = some r) (hs : r.step = 0) :
    opSelfcalStep v f x k = nextStep ((bitList r.blocks 64).foldl (fun acc b => openBlock b acc) k) := by
  simp only [opSelfcalStep, hr, hs]

theorem opSelfcalStep_converters (hr : k.cal.selfcal = some r) (hs : r.step = 1) :
    opSelfcalStep v f x k = nextStep (selfcalConverters v x r k) := by
  simp only [opSelfcalStep, hr, hs]

/-- The steps in which the channels measure. -/
theorem opSelfcalStep_measures (hr : k.cal.selfcal = some r) (h2 : 2 ≤ r.step) (h5 : r.step ≤ 5) : opSelfcalStep v f x k = nextStep k := by
  unfold opSelfcalStep
  simp only [hr]
  split
  · omega
  · omega
  · omega
  · exact if_pos (by omega)

theorem opSelfcalStep_applies (hr : k.cal.selfcal = some r) (hs : r.step = 6) :
    opSelfcalStep v f x k = nextStep (selfcalApply v f r k) := by
  simp only [opSelfcalStep, hr, hs]

/-- Without a run there is no step. -/
theorem opSelfcalStep_none (hr : k.cal.selfcal = none) : opSelfcalStep v f x k = k := by
  simp only [opSelfcalStep, hr]

end

/-! ### Background turns (R467 to R469, Table CAL-4) -/

/-- A turn of a block falls: calibration runs in the background, the turn is due and none is under way. -/
def turnFalls (k : Core) (b : Nat) : Prop :=
  regBit k 0x8DF00008 31 = true ∧ amGetD k.cal.nextTurn b 0 ≤ k.clock.uptime ∧ amGet? k.cal.turns b = none

/-- The cell whose turn it is: the next in order that is eligible. -/
def turnCell (k : Core) (b : Nat) : Option Nat :=
  ((List.range 17).map (fun n => (amGetD k.cal.nextCell b 0 + n) % 17)).find? (turnEligible k b)

/-- The module with the next turn of a block due. -/
def turnMoved (b : Nat) (k : Core) : Core :=
  { k with cal := { k.cal with nextTurn := amSet k.cal.nextTurn b (amGetD k.cal.nextTurn b 0 + turnTicks k) } }

section
variable {b : Nat} {k : Core}

theorem turnFalls_not_held (h : turnFalls k b) :
    ¬ (¬ regBit k 0x8DF00008 31 = true ∨ k.clock.uptime < amGetD k.cal.nextTurn b 0 ∨ (amGet? k.cal.turns b).isSome = true) := by
  obtain ⟨hon, hdue, hnone⟩ := h
  simp [hon, hnone, hdue]

/-- The turn of the next eligible cell starts. -/
theorem opBgTurn_starts {i : Nat} (h : turnFalls k b) (hi : turnCell k b = some i) : opBgTurn b k = startTurn b i
    { turnMoved b k with cal := { (turnMoved b k).cal with nextCell := amSet (turnMoved b k).cal.nextCell b ((i + 1) % 17) } } := by
  unfold turnCell at hi
  unfold opBgTurn
  simp only [if_neg (turnFalls_not_held h), hi, turnMoved]

/-- With none eligible the turn is skipped. -/
theorem opBgTurn_skips (h : turnFalls k b) (hi : turnCell k b = none) : opBgTurn b k = turnMoved b k := by
  unfold turnCell at hi
  unfold opBgTurn
  simp only [if_neg (turnFalls_not_held h), hi, turnMoved]

/-- Otherwise no turn falls. -/
theorem opBgTurn_holds (h : regBit k 0x8DF00008 31 = false ∨ k.clock.uptime < amGetD k.cal.nextTurn b 0
    ∨ (amGet? k.cal.turns b).isSome = true) : opBgTurn b k = k := by
  unfold opBgTurn
  exact if_pos (h.imp_left Bool.eq_false_iff.1)

/-- The values of a turn are judged; its pin is handed back, or its cell faulted after three rejections and a failed read-back. -/
theorem opBgCalibrationDone_judged {v : List CalValue} {f : Bool} {t : BgTurn} {l : List CalValue} {k1 : Core}
    (ht : amGet? k.cal.turns b = some t) (hs : regFld k (blockReg b 0xB00) 1 0 = 2) (hl : l = v.filter (ofTurn b t.cell))
    (hk : k1 = l.foldl (fun acc v => judgeBackground v acc) k) : opBgCalibrationDone b v f k =
      if threeRejects k1 l ∧ f then readbackFault (cellOfBlock b t.cell) (if t.handed then k1 else endTurn b k1) else handBack b t k1 := by
  subst hl hk
  unfold opBgCalibrationDone
  simp only [ht, hs, ne_eq, not_true_eq_false, if_false]

end

/-- In Awake a cell's age is judged, and in no other state (R472). -/
theorem opBgStale_awake {c : Nat} {k : Core} (hp : regFld k 0x89F00000 31 30 = 3) : opBgStale c k = refreshStale c k := if_pos hp

theorem opBgStale_not_awake {c : Nat} {k : Core} (hp : regFld k 0x89F00000 31 30 ≠ 3) : opBgStale c k = k := if_neg hp

/-! ### Stores (R475, Table CAL-9) -/

section
variable {k : Core} {r : StoreRun}

/-- The next word of the record, 8 µs after the one before. -/
theorem opStoreWordProgrammed_next {w : Word} {k1 : Core} (hr : k.cal.store = some r) (hd : r.done < recordLen)
    (ht : r.start + 1600 * (r.done + 1) ≤ k.clock.chron) (hw : w = r.words.getD r.done 0) (hk : k1 = { k with cal := { k.cal with
      store := some { r with done := r.done + 1 }, words := if w = 0 then k.cal.words else amSet k.cal.words (65536 * r.slot + r.done) w } }) :
    opStoreWordProgrammed k = if w = 0 then k1 else setRegFld 0x8DF00004 (2 * r.slot + 1) (2 * r.slot) 1 k1 := by
  subst hw hk
  unfold opStoreWordProgrammed
  simp only [hr, if_pos (And.intro hd ht)]

/-- A store whose words are all programmed ends DONE. -/
theorem opStoreDone_programmed (hr : k.cal.store = some r) (hd : r.done = recordLen) : opStoreDone k =
    completeTicket r.ticket stDone [BitVec.ofNat 32 r.slot] (recordCause 0x8DF00010 3 (setRegBit 0x8DF00000 29 false
      (setRegFld 0x8DF00000 19 16 r.slot (endStore { k with cal := { k.cal with commits := amSet k.cal.commits r.slot (2 ^ 32 - 1) } })))) := by
  unfold opStoreDone
  simp only [hr, if_pos hd]

/-- One whose read-back fails leaves a word other than the snapshot and ends FAULT. -/
theorem opStoreFail_programmed {i v : Word} {k0 k1 : Core} (hr : k.cal.store = some r) (hd : r.done = recordLen)
    (hi : drawWord k = (i, k0)) (hv : drawWord k0 = (v, k1)) : opStoreFail k =
      completeTicket r.ticket stFault [] (recordCause 0x8DF00010 4 (endStore { k1 with cal := { k1.cal with
        words := amSet k1.cal.words (65536 * r.slot + i.toNat % recordLen) v } })) := by
  unfold opStoreFail
  simp only [hr, if_pos hd, hi, hv]

theorem opStoreWordProgrammed_none (hr : k.cal.store = none) : opStoreWordProgrammed k = k := by
  simp only [opStoreWordProgrammed, hr]

theorem opStoreDone_none (hr : k.cal.store = none) : opStoreDone k = k := by
  simp only [opStoreDone, hr]

theorem opStoreFail_none (hr : k.cal.store = none) : opStoreFail k = k := by
  simp only [opStoreFail, hr]

end

/-! ### The events together -/

/-- Settles O56: each event by the run, the turn or the store under way, and by its step. -/
theorem calibrationEvents : Obligations.CalibrationEvents := by
  unfold Obligations.CalibrationEvents
  refine ⟨fun v f x s r hr => ⟨fun hs => ?_, fun hs => ?_, fun h2 h5 => ?_, fun hs => ?_⟩, fun v f x s hr => ?_,
    fun b s k1 i hon hdue hnone hk hi => ?_, fun b s hon hdue hnone hi => ?_, fun b s h => ?_,
    fun b v f s t l k1 ht hs hl hk => ⟨fun hj => ?_, fun hj => ?_⟩, fun c s => ⟨fun hp => ?_, fun hp => ?_⟩,
    fun s r w k1 hr hd ht hw hk => ?_, fun s r hr hd => ⟨?_, fun i v k0 k hi hv => ?_⟩, fun s hr => ⟨?_, ?_, ?_⟩⟩
  · exact next_onCore _ _ s (opSelfcalStep_opens hr hs)
  · exact next_onCore _ _ s (opSelfcalStep_converters hr hs)
  · exact next_onCore _ _ s (opSelfcalStep_measures hr h2 h5)
  · exact next_onCore _ _ s (opSelfcalStep_applies hr hs)
  · exact next_onCore_self _ s (opSelfcalStep_none hr)
  · subst hk
    exact next_onCore _ _ s (opBgTurn_starts ⟨hon, hdue, hnone⟩ hi)
  · exact next_onCore _ _ s (opBgTurn_skips ⟨hon, hdue, hnone⟩ hi)
  · exact next_onCore_self _ s (opBgTurn_holds h)
  · exact next_onCore _ _ s ((opBgCalibrationDone_judged ht hs hl hk).trans (if_neg (by simpa using hj)))
  · exact next_onCore _ _ s ((opBgCalibrationDone_judged ht hs hl hk).trans (if_pos (by simpa using hj)))
  · exact next_onCore _ _ s (opBgStale_awake hp)
  · exact next_onCore_self _ s (opBgStale_not_awake hp)
  · exact next_onCore _ _ s (opStoreWordProgrammed_next hr hd ht hw hk)
  · exact next_onCore _ _ s (opStoreDone_programmed hr hd)
  · exact next_onCore _ _ s (opStoreFail_programmed hr hd hi hv)
  · exact next_onCore_self _ s (opStoreWordProgrammed_none hr)
  · exact next_onCore_self _ s (opStoreDone_none hr)
  · exact next_onCore_self _ s (opStoreFail_none hr)

end Sys2Proof.Machine
end

section
/-! SUPPORT. What chip faults, keep-alives, escalations and the end of a self-test do where their conditions stand (R463, R464, R508 to
R513, R540); a halt's runs and a self-fenced die are log entry 45. -/

namespace Sys2Proof.Machine

/-! ### Chip faults (R509, R510, Table ERR-3) -/

/-- A code that no halt has does nothing. -/
theorem moduleHalt_other_code {code : Nat} {k : Core} (h : code < 4 ∨ 6 < code) : moduleHalt code k = k := if_pos (by omega)

/-- A fault of a module that is halted is logged alone. -/
theorem moduleHalt_halted {code : Nat} {k : Core} (h4 : 4 ≤ code) (h6 : code ≤ 6) (hm : moduleHalted k = true) :
    moduleHalt code k = logFault 3 0 code 0x81F00000 0 k := by
  unfold moduleHalt
  rw [if_neg (by omega), if_pos hm]
  rfl

/-- Any other stops the engines, relinquishes and halts. -/
theorem moduleHalt_halts {code : Nat} {k : Core} (h4 : 4 ≤ code) (h6 : code ≤ 6) (hm : moduleHalted k = false) :
    moduleHalt code k = noteChip code 6 (some 3) 0 (refreshAllBlocks (setRegBit 0x81F00100 31 true
      (haltTenancies ((List.range 8).foldl (fun acc r => haltEngine r acc) k)))) := by
  unfold moduleHalt
  rw [if_neg (by omega), if_neg (Bool.eq_false_iff.1 hm)]

/-- A restart that is under way does not begin again. -/
theorem opStewardRestart_restarting {k : Core} (h : k.stw.restarting = true) : opStewardRestart k = k := if_pos h

/-- A restart answers the commands in progress and faults every session. -/
theorem opStewardRestart_begins {k k1 : Core} (h : k.stw.restarting = false)
    (hk : k1 = ((failConversions (List.range 128) k).stw.sessions.map Prod.fst).foldl (fun acc n => faultSession n acc)
      (failConversions (List.range 128) k)) :
    opStewardRestart k = noteChip 1 5 (some 0) 0 { k1 with stw := { k1.stw with restarting := true } } := by
  rw [hk]
  unfold opStewardRestart
  rw [if_neg (Bool.eq_false_iff.1 h)]

theorem opHubMemory_none {n : Nat} {k : Core} (h : amGet? k.hub.entries n = none) : opHubMemory n k = k := by
  unfold opHubMemory
  rw [h]

/-- An entry that cannot be read is dropped, and its site is uncatalogued. -/
theorem opHubMemory_entry {n : Nat} {k : Core} {e : CatEntry} (h : amGet? k.hub.entries n = some e) : opHubMemory n k =
    noteChip 2 8 (some 1) 0 (makeUncat e.site 4 { k with hub := { k.hub with entries := amErase k.hub.entries n } }) := by
  unfold opHubMemory
  rw [h]

/-- A Strongroom that is not valid has no page to lose. -/
theorem opStrongroomError_invalid {p : Nat} {k : Core} (h : regBit k 0x89F00080 31 = false) : opStrongroomError p k = k :=
  if_neg (Bool.eq_false_iff.1 h)

/-- A page of a valid one is marked bad. -/
theorem opStrongroomError_valid {p : Nat} {k : Core} (h : regBit k 0x89F00080 31 = true) : opStrongroomError p k =
    noteChip 3 0 (some 2) 0 (setRegBit 0x89F00080 31 false { k with pwr := { k.pwr with badPages := p :: k.pwr.badPages } }) := if_pos h

/-! ### Region links (R508) -/

theorem opRegionLinkKeepalive_fenced {r : Nat} {k : Core} (h : regionFenced k r = true) : opRegionLinkKeepalive r k = k := if_pos h

theorem opRegionLinkKeepalive_sends {r : Nat} {k : Core} (h : regionFenced k r = false) : opRegionLinkKeepalive r k =
    { k with car := { k.car with outbox := k.car.outbox ++ [⟨none, .keepAlive r⟩] } } := if_neg (Bool.eq_false_iff.1 h)

theorem opRegionLinkSilent_stopped {r : Nat} {k : Core} (h : regionStopped k r = true) : opRegionLinkSilent r k = k := if_pos h

/-- A die that hears nothing fences itself. -/
theorem opRegionLinkSilent_fences {r : Nat} {k : Core} (h : regionStopped k r = false) : opRegionLinkSilent r k =
    fenceDie r { k with pwr := { k.pwr with selfFenced := amSet k.pwr.selfFenced r (runInProgress k r) } } :=
  if_neg (Bool.eq_false_iff.1 h)

/-! ### Escalation (R511) -/

/-- A cell whose substitution still waits 20 µs after its fault: its block is contained. -/
theorem opContainmentEscalate_cell_late {c : Cell} {k : Core} {f : FaultSub} (hf : amGet? k.faultSubs (blockOfCell c.val) = some f)
    (hc : f.cell = c.val % 17) (ht : f.since + usTicks 20 ≤ k.clock.uptime) :
    opContainmentEscalate (.cell c) k = blockFault (blockOfCell c.val) 5 k :=
  if_pos (by simp [hf, hc, ht])

/-- One without a substitution has nothing to escalate. -/
theorem opContainmentEscalate_cell_none {c : Cell} {k : Core} (hf : amGet? k.faultSubs (blockOfCell c.val) = none) :
    opContainmentEscalate (.cell c) k = k := if_neg (by simp [hf])

/-- A parked block, and a fenced region, are contained at the next level up. -/
theorem opContainmentEscalate_block (b : Block) (k : Core) :
    opContainmentEscalate (.block b) k = if blockParked k b.val then regionFault (b.val / 8) 7 k else k := rfl

theorem opContainmentEscalate_region (r : Region) (k : Core) :
    opContainmentEscalate (.region r) k = if regionFenced k r.val then moduleHalt 5 k else k := rfl

/-! ### The end of a self-test (R463, R464, R513) -/

/-- Step 8 of a SELFCAL restores its blocks, faults the cells that failed and ends its ticket. -/
theorem opSelfcalDone_last {k k2 k3 : Core} {r : SelfcalRun} (hr : k.cal.selfcal = some r) (hs : r.step = 7) (ht : r.restore = false)
    (h2 : k2 = r.faulted.foldl (fun acc c => readbackFault c acc) ((bitList r.blocks 64).foldl (fun acc b => restoreBlock b acc)
      { k with cal := { k.cal with selfcal := none } }))
    (h3 : k3 = setRegBit 0x8DF00000 30 false (if r.passed then setRegBit 0x8DF00000 26 true k2 else k2)) :
    opSelfcalDone k = completeTicket r.ticket stDone (selfcalResult r)
      (recordCause 0x8DF00010 0 (if r.accepted then setRegBit 0x8DF00000 29 true k3 else k3)) := by
  subst h3 h2
  unfold opSelfcalDone
  simp only [hr, hs, ht, ne_eq, not_true_eq_false, Bool.false_eq_true, or_self, if_false]

/-- SELFCAL_DONE of a SELFCAL is its step 8. -/
theorem execSelfcalDone_selfcal {s : State} {r : SelfcalRun} (hr : s.core.cal.selfcal = some r) (ht : r.restore = false) :
    execSelfcalDone s = .next (onCore opSelfcalDone s) :=
  next_onCore _ _ s (by simp only [hr, ht, Bool.false_eq_true, if_false])

/-- SELFCAL_DONE of the self-test of a module reset ends its restores. -/
theorem execSelfcalDone_restores {s : State} {r : SelfcalRun} (hr : s.core.cal.selfcal = some r) (hs : r.step = 7)
    (ht : r.restore = true) (h0 : r.ticket = 0) : execSelfcalDone s = .next (onCore (endResetRestores r) s) :=
  next_onCore _ _ s (by simp only [hr, hs, ht, h0, and_self, if_true])

/-- Without a run there is nothing to end. -/
theorem execSelfcalDone_none {s : State} (hr : s.core.cal.selfcal = none) : execSelfcalDone s = .next s :=
  next_onCore_self _ s (by simp only [hr])

/-! ### The events together -/

/-- Settles O60: each event by its code and by what is contained already, the end of a self-test by its run. -/
theorem chipFaults : Obligations.ChipFaults := by
  unfold Obligations.ChipFaults
  refine ⟨fun c s h => ?_, fun c s h4 h6 => ⟨fun hm => ?_, fun hm => ?_⟩, fun s => ⟨fun h => ?_, fun h k1 hk => ?_⟩, fun s => rfl,
    fun n s => ⟨fun h => ?_, fun e h => ?_⟩, fun p s => ⟨fun h => ?_, fun h => ?_⟩, fun r s => ⟨fun h => ?_, fun h => ?_⟩,
    fun r s => ⟨fun h => ?_, fun h => ?_⟩, fun c b r s => ⟨rfl, rfl, rfl, rfl, rfl⟩, fun c s f hf hc ht => ?_, fun c s hf => ?_,
    fun b r s => ⟨fun h => ?_, fun h => ?_, fun h => ?_, fun h => ?_⟩, fun s r k2 hr hs ht h2 k3 h3 => ?_, fun s r hr hs ht h0 => ?_,
    fun s hr => ?_⟩
  · exact next_onCore_self _ s (moduleHalt_other_code h)
  · exact next_onCore _ _ s (moduleHalt_halted h4 h6 hm)
  · exact next_onCore _ _ s (moduleHalt_halts h4 h6 hm)
  · exact next_onCore_self _ s (opStewardRestart_restarting h)
  · exact next_onCore _ _ s (opStewardRestart_begins h hk)
  · exact next_onCore_self _ s (opHubMemory_none h)
  · exact next_onCore _ _ s (opHubMemory_entry h)
  · exact next_onCore_self _ s (opStrongroomError_invalid h)
  · exact next_onCore _ _ s (opStrongroomError_valid h)
  · exact next_onCore_self _ s (opRegionLinkKeepalive_fenced h)
  · exact next_onCore _ _ s (opRegionLinkKeepalive_sends h)
  · exact next_onCore_self _ s (opRegionLinkSilent_stopped h)
  · exact next_onCore _ _ s (opRegionLinkSilent_fences h)
  · exact next_onCore _ _ s (opContainmentEscalate_cell_late hf hc ht)
  · exact next_onCore_self _ s (opContainmentEscalate_cell_none hf)
  · exact next_onCore _ _ s ((opContainmentEscalate_block b _).trans (if_pos h))
  · exact next_onCore_self _ s ((opContainmentEscalate_block b _).trans (if_neg (Bool.eq_false_iff.1 h)))
  · exact next_onCore _ _ s ((opContainmentEscalate_region r _).trans (if_pos h))
  · exact next_onCore_self _ s ((opContainmentEscalate_region r _).trans (if_neg (Bool.eq_false_iff.1 h)))
  · exact (execSelfcalDone_selfcal hr ht).trans (next_onCore _ _ s (opSelfcalDone_last hr hs ht h2 h3))
  · exact execSelfcalDone_restores hr hs ht h0
  · exact execSelfcalDone_none hr

end Sys2Proof.Machine
end

section
/-! SUPPORT. What an accepted command has passed of Table CMD-5, what check 9 refuses, and the revocation of image keys (R494). -/

namespace Sys2Proof.Machine

/-! ### What an accepted command has passed (Table CMD-5) -/

/-- No check of a list fails first where none fails. -/
theorem eq_none_of_firstSome {l : List (Option Status)} (h : firstSome l = none) : ∀ x ∈ l, x = none := by
  intro x hx
  unfold firstSome at h
  cases hf : l.find? Option.isSome with
  | none => simpa using List.find?_eq_none.1 hf x hx
  | some y =>
    rw [hf, Option.getD_some] at h
    have hy := List.find?_some hf
    rw [h] at hy
    cases hy

/-- A command that no check refuses passes check 7. -/
theorem params_of_refusal {d : OpDef} {c : Cmd} {s : State} (h : refusal d c s = none) : d.params c s = none := by
  cases hr : firstSome (requestChecks d c s) with
  | none => exact eq_none_of_firstSome hr _ (by simp [requestChecks])
  | some st =>
    rw [refusal_of_request hr] at h
    cases h

/-- So does an accepted command, in the state in which it has started. -/
theorem params_of_accepted {d : OpDef} {c : Cmd} {s : State} (h : accepted d c s = true) :
    d.params c (onCore (markStart d.opcode c) (joined c s)) = none := by
  unfold accepted at h
  exact params_of_refusal (Option.isNone_iff_eq_none.1 (Bool.and_eq_true_iff.1 h).2)

/-- A number in its range is not refused, and no other. -/
theorem inRange_eq_none {n lo hi : Nat} : inRange n lo hi = none ↔ lo ≤ n ∧ n ≤ hi := by
  have hin : outside n lo hi = false ↔ lo ≤ n ∧ n ≤ hi := by simp [outside]
  rw [← hin, inRange]
  cases outside n lo hi
  · simp
  · simp

/-- A command that passes checks 2 to 8 and fails check 9 is refused with the status of that check. -/
theorem refusal_of_state {d : OpDef} {c : Cmd} {s : State} {st : Status} (hf : c.flags &&& 0xFC#8 = 0) (hn : sessionOf s.core c ≠ 0)
    (hp : permission d c s = none) (ht : targetCheck d c s = none) (hq : d.params c s = none) (hg : d.stage = true ∨ c.folio = 0)
    (hr : reservationCheck d c s = none) (h : d.state c s = some st) : refusal d c s = some (st, []) := by
  have hrequest : firstSome (requestChecks d c s) = none := by
    simp [requestChecks, flagsCheck_passes hf, sessionCheck_passes (.inr hn), hp, ht, hq, stageCheck_passes hg]
  rw [refusal_of_unreserved hrequest hr, h]
  rfl

/-! ### Keys (R494) -/

/-- Setting a bit of a register leaves its others. -/
theorem regBit_setRegBit_other {a i j : Nat} {v : Bool} {k : Core} (hi : i < 32) (hj : j ≠ i) :
    regBit (setRegBit a i v k) a j = regBit k a j := by
  rw [regBit, reg_setRegBit_same, bit_putBit_ne _ _ _ _ hi hj]
  rfl

/-- The revoke bit of a key set revokes it. -/
theorem keyRevoked_set {i : Nat} {k : Core} (hi : i ≤ 3) : keyRevoked (setRegBit (secReg 0) (20 + i) true k) i = true :=
  regBit_setRegBit_same _ _ _ _ (by omega)

/-- It revokes no other key. -/
theorem keyRevoked_set_other {i j : Nat} {k : Core} (hi : i ≤ 3) (hj : j ≠ i) :
    keyRevoked (setRegBit (secReg 0) (20 + i) true k) j = keyRevoked k j :=
  regBit_setRegBit_other (by omega) (by omega)

/-- An accepted SEC_KEY_REVOKE names one of the four keys. -/
theorem keyRevoke_names_key {c : Cmd} {s : State} (h : accepted opSecKeyRevoke c s = true) : pn c.params 0 ≤ 3 := by
  have hrange : inRange (pn c.params 0) 0 3 = none := eq_none_of_firstSome (params_of_accepted h) _ (by simp)
  exact (inRange_eq_none.1 hrange).2

/-- Check 9 refuses the running key, and the last that is not revoked. -/
theorem keyRevoke_state {c : Cmd} {s : State} (hu : unitRefusal s.core c.target.toNat = none)
    (hk : s.core.sec.runKey = pn c.params 0 ∨ ∀ i, i ≤ 3 → i ≠ pn c.params 0 → keyRevoked s.core i = true) :
    opSecKeyRevoke.state c s = some stState := by
  have hbar : (s.core.sec.runKey == pn c.params 0
      || (List.range 4).all (fun i => i == pn c.params 0 || keyRevoked s.core i)) = true := by
    rcases hk with hrun | hlast
    · rw [hrun, beq_self_eq_true, Bool.true_or]
    · rw [Bool.or_eq_true, List.all_eq_true]
      refine .inr fun i hi => ?_
      by_cases he : i = pn c.params 0
      · rw [he, beq_self_eq_true, Bool.true_or]
      · rw [hlast i (by have := List.mem_range.1 hi; omega) he, Bool.or_true]
  simp only [opSecKeyRevoke, hu, hbar, firstSome_cons_none, refuseIf_true, firstSome_cons_some]

/-- Settles O13: an accepted revocation names a key, and sets its bit alone; the running key and the last one fail check 9. -/
theorem keyRevocation : Obligations.KeyRevocation := by
  unfold Obligations.KeyRevocation
  refine ⟨fun c s h => ?_, ?_⟩
  · have hkey := keyRevoke_names_key h
    exact ⟨hkey, fun k => ⟨keyRevoked_set hkey, fun i _ hi => keyRevoked_set_other hkey hi⟩,
      congrArg Host.Outcome.next (takeCmd_done _ _ _ _ _ _ h rfl)⟩
  · rintro c s t k hj hw hs rfl hf hn hp ht hlen hkey hfolio hr hu hk
    have hparams : opSecKeyRevoke.params c (onCore (markStart 0x0E04 c) { s with core := k }) = none := by
      simp [opSecKeyRevoke, exactly, hlen, inRange_eq_none.2 ⟨Nat.zero_le _, hkey⟩]
    exact congrArg Host.Outcome.next (takeCmd_refused _ _ _ _ _ hj hw hs
      (refusal_of_state hf hn hp ht hparams (.inr hfolio) hr (keyRevoke_state hu hk)))

end Sys2Proof.Machine
end

section
/-! SUPPORT. The immediate parts of the security commands where their conditions stand (R490 to R493, R501 to R504); the preferred bank,
the erased word and the nonce spent on a wrong unlock are log entry 46, the signatures log entry 10. -/

namespace Sys2Proof.Machine

/-! ### Images (R491, R492) -/

section
variable {c : Cmd} {n : Nat} {s : State}

/-- SEC_IMAGE_COMMIT of a bank that passes its check. -/
theorem runSecImageCommit_passes (h : bankCheck s.core (1 - bootBank s.core) = none) : opSecImageCommit.run c n s =
    .done stDone [] (onCore (fun k => { k with sec := { k.sec with preferred := some (1 - bootBank k) } }) s) := by
  simp only [opSecImageCommit, h]
  rfl

/-- SEC_IMAGE_COMMIT of a bank that does not. -/
theorem runSecImageCommit_fails {st : Status} (h : bankCheck s.core (1 - bootBank s.core) = some st) : opSecImageCommit.run c n s =
    .done st [] (onCore (fun k => recordCause (secReg 0x30) 2
      { k with sec := { k.sec with erased := (1 - bootBank k) :: k.sec.erased } }) s) := by
  simp only [opSecImageCommit, h]
  rfl

/-- SEC_ROLLBACK_ADVANCE sets the counter that it names (R493). -/
theorem runSecRollbackAdvance_steward (h : pn c.params 0 = 0) :
    opSecRollbackAdvance.run c n s = .done stDone [] (onCore (setRegFld (secReg 0x10) 6 0 (pn c.params 1)) s) := by
  simp only [opSecRollbackAdvance, h, if_true]

theorem runSecRollbackAdvance_fabric (h : pn c.params 0 = 1) :
    opSecRollbackAdvance.run c n s = .done stDone [] (onCore (setRegFld (secReg 0x10) 22 16 (pn c.params 1)) s) := by
  simp only [opSecRollbackAdvance, h, Nat.one_ne_zero, if_false]

/-! ### Debug unlock (R501) -/

/-- SEC_DEBUG_CHALLENGE replies the nonce drawn and the serial. -/
theorem runSecDebugChallenge {l : List Word} {k1 : Core} (h : drawWords 8 s.core = (l, k1)) : opSecDebugChallenge.run c n s =
    .done stDone (l ++ [reg s.core (secReg 4), reg s.core (secReg 8)]) (onCore (fun k =>
      { k1 with sec := { k1.sec with nonce := some { words := l, since := k.clock.uptime } } }) s) := by
  simp only [opSecDebugChallenge, debugChallenge, h]
  rfl

/-- The nonce sent back under the debug key's signature unlocks. -/
theorem debugUnlock_verifies {l : List Word} {sig : List Byte} {k : Core} {x : DebugNonce} (hx : k.sec.nonce = some x)
    (hl : l = x.words) (hv : Config.verify 4 (bytesOf (x.words ++ serialWords k)) sig = true) : debugUnlock (some l) sig k =
      (true, recordCause (secReg 0x30) 3 (setRegBit (secReg 0) 29 true { k with sec := { k.sec with nonce := none } })) := by
  have hsent : (some l).all (fun l => l == x.words) = true := by rw [hl]; exact beq_self_eq_true _
  unfold debugUnlock
  simp only [hx]
  exact if_pos ⟨hsent, hv⟩

/-- Another nonce, or a signature that does not verify, spends the nonce. -/
theorem debugUnlock_fails {l : List Word} {sig : List Byte} {k : Core} {x : DebugNonce} (hx : k.sec.nonce = some x)
    (hv : l ≠ x.words ∨ Config.verify 4 (bytesOf (x.words ++ serialWords k)) sig = false) :
    debugUnlock (some l) sig k = (false, { k with sec := { k.sec with nonce := none } }) := by
  unfold debugUnlock
  simp only [hx]
  refine if_neg fun ⟨hsent, hsig⟩ => ?_
  rcases hv with hv | hv
  · exact hv (eq_of_beq hsent)
  · rw [hv] at hsig
    cases hsig

/-- Without a nonce there is nothing to sign. -/
theorem debugUnlock_none {nonce : Option (List Word)} {sig : List Byte} {k : Core} (hx : k.sec.nonce = none) :
    debugUnlock nonce sig k = (false, { k with sec := { k.sec with nonce := none } }) := by
  unfold debugUnlock
  simp only [hx]

/-- SEC_DEBUG_UNLOCK of an attempt that unlocks. -/
theorem runSecDebugUnlock_unlocks {f : Core → Core}
    (h : debugUnlock (some (c.params.take 8)) (bytesOf (c.params.drop 8)) s.core = (true, f s.core)) :
    opSecDebugUnlock.run c n s = .done stDone [] (onCore f s) := by
  simp only [opSecDebugUnlock, h, if_true]
  rfl

/-- SEC_DEBUG_UNLOCK of one that does not. -/
theorem runSecDebugUnlock_fails {f : Core → Core}
    (h : debugUnlock (some (c.params.take 8)) (bytesOf (c.params.drop 8)) s.core = (false, f s.core)) :
    opSecDebugUnlock.run c n s = .done stSignature [] (onCore f s) := by
  simp only [opSecDebugUnlock, h, Bool.false_eq_true, if_false]
  rfl

end

/-! ### The commands together -/

/-- Settles O57: each command by the branch of its immediate part that its conditions select. -/
theorem securityCommands : Obligations.SecurityCommands := by
  unfold Obligations.SecurityCommands
  refine ⟨fun c s h => ?_, fun c s h hb => ?_, fun c s st h hb => ?_, fun c s h => ⟨fun h0 => ?_, fun h1 => ?_⟩, fun c s h => ?_,
    fun c s l k1 h hd => ?_, fun c s x h hx hl hv => ?_, fun c s x h hx hv => ?_, fun c s h hx => ?_, fun c s h => ?_⟩
  · exact congrArg Host.Outcome.next (takeCmd_done _ _ _ _ _ _ h rfl)
  · exact congrArg Host.Outcome.next (takeCmd_done _ _ _ _ _ _ h (runSecImageCommit_passes hb))
  · exact congrArg Host.Outcome.next (takeCmd_done _ _ _ _ _ _ h (runSecImageCommit_fails hb))
  · exact congrArg Host.Outcome.next (takeCmd_done _ _ _ _ _ _ h (runSecRollbackAdvance_steward h0))
  · exact congrArg Host.Outcome.next (takeCmd_done _ _ _ _ _ _ h (runSecRollbackAdvance_fabric h1))
  · exact congrArg Host.Outcome.next (takeCmd_done _ _ _ _ _ _ h rfl)
  · exact congrArg Host.Outcome.next (takeCmd_done _ _ _ _ _ _ h (runSecDebugChallenge hd))
  · exact congrArg Host.Outcome.next (takeCmd_done _ _ _ _ _ _ h (runSecDebugUnlock_unlocks (debugUnlock_verifies hx hl hv)))
  · exact congrArg Host.Outcome.next (takeCmd_done _ _ _ _ _ _ h (runSecDebugUnlock_fails (debugUnlock_fails hx hv)))
  · exact congrArg Host.Outcome.next (takeCmd_done _ _ _ _ _ _ h (runSecDebugUnlock_fails (debugUnlock_none hx)))
  · exact congrArg Host.Outcome.next (takeCmd_done _ _ _ _ _ _ h rfl)

end Sys2Proof.Machine
end
